-- ==== Sys2Proof/Word.lean ====
section
/-! DEFINITION. Words and bytes of the CZX-1224 (R7, R8) and their plainest conversions. -/

namespace Sys2Proof

/-- A 32-bit register word. -/
abbrev Word := BitVec 32

/-- A byte. -/
abbrev Byte := BitVec 8

end Sys2Proof
end

