-- ==== Sys2Proof/Syntax.lean ====
section
/-! DEFINITION. The commands and events of the CZX-1224, one constructor per row of the opcode
table, and the types of their operands. An operand `dt` is the time, in DTIME counts of 2.5 ns, that
has passed since the command before it. -/

namespace Sys2Proof

/-- A Lock (mailbox chamber) number, R45. -/
abbrev Lk := Fin 16
/-- A bridge: 0 is A, 1 is B (R1). -/
abbrev Br := Fin 2
/-- A lane index, bridge × 6 + phase × 2 + side (R10). -/
abbrev LaneIx := Fin 12
/-- A position port. -/
abbrev PortIx := Fin 4
/-- A converter instance of R253. -/
abbrev ConvIx := Fin 15
/-- A bus master ID: Pilot cores 0 to 3, the Lockkeeper pair 4, the debug port 5 (R27). -/
abbrev Master := Fin 6

/-- The two STO channels (R306). -/
inductive StoCh where
  | a | b
  deriving DecidableEq, Repr

/-- The main supplies of the control die (R358). -/
inductive MainSupply where
  | vio | vdda | vddm | vddc
  deriving DecidableEq, Repr

/-- The clock domains with a `CLK_OK` bit (R360). -/
inductive ClkDom where
  | xtal | pllCore | pllSys | pllLink | pllPer | pllEth
  deriving DecidableEq, Repr

/-- The two Towpath ports. -/
inductive TowPort where
  | up | dn
  deriving DecidableEq, Repr

/-- Reaction classes (R93, R299). -/
inductive RClass where
  | none | report | degrade | legOff | bridgeSafe | allSafe | resetWarm | hold
  deriving DecidableEq, Repr

/-- Fault locations (R92). -/
inductive Loc where
  | lane (k : LaneIx) | bridge (b : Br) | device
  deriving DecidableEq, Repr

/-- One fault source line at a sample of the FCR: its code, its location, the class that a
presented-class source presents (R301), and whether the line is asserted or has ended. -/
structure FaultSrc where
  code : Nat
  loc : Loc
  cls : RClass
  on : Bool
  deriving DecidableEq, Repr

/-- CAN frame formats (R381). -/
inductive CanFmt where
  | classical | fd | xl
  deriving DecidableEq, Repr

/-- A CAN frame as its bits on the bus give it. -/
structure CanFrame where
  fmt : CanFmt
  ext : Bool
  id : Nat
  rtr : Bool
  brs : Bool
  esi : Bool
  sec : Bool
  sdt : Byte
  vcid : Byte
  af : Word
  data : List Byte
  deriving DecidableEq, Repr

/-- How a CAN transmission ends (R388, R390). -/
inductive CanTxEnd where
  | ok | lostArbitration | error (bit : Nat)
  deriving DecidableEq, Repr

/-- What the boot meets at a reset release: whether the crystal is in frequency (R367), the two
self-tests (R431), the Lockkeeper images (R333) and the hash of each Pilot bank (R336). -/
structure BootEnv where
  xtalOk : Bool
  lbistOk : Bool
  mbistOk : Bool
  patchOk : Bool
  bankAOk : Bool
  bankBOk : Bool
  deriving DecidableEq, Repr

/-- The readings of one 1 ms housekeeping round: the eight control-die sensors and the diode in
0.1 °C, the code of each lane's module temperature input, and of each conversion of the internal channels its
instance, the code of the reference and the code of the zero (R246, R248, R375). -/
structure HkRound where
  die : List Int
  diode : Int
  tmod : List Int
  checks : List (Fin 15 × Int × Int)
  deriving DecidableEq, Repr

/-- What the hash and cipher engines report of a loaded image (R330, checks 3, 4, 6 and 7), and the
body after decryption in place. -/
structure FwVerdict where
  sigOk : Bool
  hashOk : Bool
  tagOk : Bool
  writeOk : Bool
  plain : List Byte
  deriving DecidableEq, Repr

/-- The fault flags of a position port by bit number of `PORT_STATUS.FLAGS` (R143). -/
abbrev PosFlag := Fin 16

/-- A conversion or window as it leaves its converter (R235, R236): its sequence entry, the codes of its conversions,
and whether the CRC of the sample frame that brings it to the control die holds (R31). -/
structure ConvRes where
  entry : Fin 16
  codes : List Int
  crcOk : Bool
  deriving DecidableEq, Repr

/-- A downlink frame: header byte, payload bits [55:0] and CRC-8 (R258). -/
structure DownFrame where
  hdr : Byte
  payload : BitVec 56
  crc : Byte
  deriving DecidableEq, Repr

/-- The switch-node condition that a lane sees when an edge falls due (R215): the node is at its own
rail, or is no longer slewing; and the module current it integrates, in A. -/
structure EdgeEnv where
  nodeAtRail : Bool
  slewing : Bool
  atPartner : Bool
  amps : Int
  deriving DecidableEq, Repr

/-- The switching time that a lane measures after an edge (R267), in 78.125 ps steps; none without
a full swing within 1 µs. -/
structure EdgeMeas where
  off : Bool
  time : Option Nat
  deriving DecidableEq, Repr

/-- The readings behind a lane's status frame (R258, R306): supplies and DC-link input in mV, die temperatures in
0.1 °C, and whether the gate enable reads back as present through each STO channel. -/
structure LaneReading where
  vddl : Int
  veel : Int
  temp0 : Int
  temp1 : Int
  vdc : Int
  gateEnabledA : Bool
  gateEnabledB : Bool
  deriving DecidableEq, Repr

/-- What a short-circuit method sees at a lane (R269): di/dt in A/µs, the time for which it has held in 0.1 ns, and
the integrating estimate in A. -/
structure ShortReading where
  didt : Int
  held : Nat
  amps : Int
  deriving DecidableEq, Repr

/-- What the desaturation check sees at a lane (R269): the voltage across its conducting switch in mV, and for how
long in 0.1 ns. -/
structure DesatReading where
  lane : LaneIx
  mv : Int
  held : Nat
  deriving DecidableEq, Repr

/-- The level read back at a chopper's output, and for how long in ns (R287). -/
structure ChopReading where
  lane : LaneIx
  level : Bool
  ns : Nat
  deriving DecidableEq, Repr

/-- The codes of channel 2 of a bridge's low-side lanes, phases U, V and W (R244). -/
structure VdcReading where
  br : Br
  u : Int
  v : Int
  w : Int
  deriving DecidableEq, Repr

/-- The levels of the _P wire and of the _N wire of an input of a position port (R135). -/
structure WirePair where
  p : Bool
  n : Bool
  deriving DecidableEq, Repr

/-- The two samples of an input in one excitation period of a resolver (R132). -/
structure TwoSamples where
  first : Int
  second : Int
  deriving DecidableEq, Repr

/-- What the test pulses of the initial position detection have found (R157): an angle, the saliency ratio in
1/1,000, and whether the polarity is resolved. -/
structure IpdReading where
  th : Word
  saliency : Nat
  polarity : Bool
  deriving DecidableEq, Repr

/-- What ends an autonomous discharge (R295). -/
inductive AutoDisEnd where
  | below50V | selfSupply | frame
  deriving DecidableEq, Repr

/-- An Ethernet frame at a MAC: its bytes (tag and check sequence included), and what the
MACsec engine found (R399, R400). -/
structure EthFrame where
  bytes : List Byte
  secTag : Bool
  secValid : Bool
  deriving DecidableEq, Repr

/-- The upstream neighbour at a Towpath training (R402): present with its device number and time
mark, the round trip in counts, and whether both bridges of every device in the chain are Idle. -/
structure TowPeer where
  present : Bool
  number : Nat
  mark : Nat
  roundTrip : Nat
  chainIdle : Bool
  deriving DecidableEq, Repr

/-- A SENT frame (R410): the length of its synchronisation pulse and of each nibble in 1/64 tick,
the nibbles, and whether the CRC matches the recommended form. -/
structure SentFrame where
  syncLen : Nat
  nibbleLens : List Nat
  nibbles : List Nat
  deriving DecidableEq, Repr

/-- Instructions of the test access port (R417). -/
inductive TapIr where
  | idcode | bypass | extest | sample | other (code : Nat)
  deriving DecidableEq, Repr

/-- The size of a bus access (R422). -/
inductive AccSize where
  | byte | half | word
  deriving DecidableEq, Repr

/-- The commands and events, in the order of the opcode table. -/
inductive Instr where
  | sysStatus (lk : Lk)   -- SYS_STATUS, R81
  | sysTime (lk : Lk)   -- SYS_TIME, R81
  | standbyEnter (lk : Lk)   -- STANDBY_ENTER, R81
  | driveStart (lk : Lk)   -- DRIVE_START, R83
  | driveStop (lk : Lk)   -- DRIVE_STOP, R83
  | torqueSet (lk : Lk)   -- TORQUE_SET, R84
  | speedSet (lk : Lk)   -- SPEED_SET, R84
  | currentSet (lk : Lk)   -- CURRENT_SET, R84
  | driveStatus (lk : Lk)   -- DRIVE_STATUS, R85
  | prechargeStart (lk : Lk)   -- PRECHARGE_START, R291
  | driveShutdown (lk : Lk)   -- DRIVE_SHUTDOWN, R291
  | dischargeStart (lk : Lk)   -- DISCHARGE_START, R293
  | posStatus (lk : Lk)   -- POS_STATUS, R86
  | posSourceSet (lk : Lk)   -- POS_SOURCE_SET, R86
  | posAlign (lk : Lk)   -- POS_ALIGN, R86
  | turnsSet (lk : Lk)   -- TURNS_SET, R86
  | paramGet (lk : Lk)   -- PARAM_GET, R88
  | paramSet (lk : Lk)   -- PARAM_SET, R89
  | paramStore (lk : Lk)   -- PARAM_STORE, R349
  | paramCheck (lk : Lk)   -- PARAM_CHECK, R90
  | storeStatus (lk : Lk)   -- STORE_STATUS, R88
  | paramDefaults (lk : Lk)   -- PARAM_DEFAULTS, R88
  | paramRevert (lk : Lk)   -- PARAM_REVERT, R88
  | safetyStatus (lk : Lk)   -- SAFETY_STATUS, R92
  | safetyConfirm (lk : Lk)   -- SAFETY_CONFIRM, R92
  | faultAck (lk : Lk)   -- FAULT_ACK, R94
  | laneClear (lk : Lk)   -- LANE_CLEAR, R92
  | safeStopReq (lk : Lk)   -- SAFE_STOP_REQ, R309
  | faultList (lk : Lk)   -- FAULT_LIST, R92
  | recList (lk : Lk)   -- REC_LIST, R95
  | recRead (lk : Lk)   -- REC_READ, R96
  | recTrigger (lk : Lk)   -- REC_TRIGGER, R355
  | recPin (lk : Lk)   -- REC_PIN, R356
  | cntRead (lk : Lk)   -- CNT_READ, R95
  | cntConfig (lk : Lk)   -- CNT_CONFIG, R95
  | fwBegin (lk : Lk)   -- FW_BEGIN, R331
  | fwData (lk : Lk)   -- FW_DATA, R97
  | fwVerify (lk : Lk)   -- FW_VERIFY, R330
  | fwStatus (lk : Lk)   -- FW_STATUS, R97
  | fwActivate (lk : Lk)   -- FW_ACTIVATE, R332
  | pilotRestart (lk : Lk)   -- PILOT_RESTART, R98
  | fwAbort (lk : Lk)   -- FW_ABORT, R331
  | deviceIdent (lk : Lk)   -- DEVICE_IDENT, R99
  | lcStatus (lk : Lk)   -- LC_STATUS, R99
  | authChallenge (lk : Lk)   -- AUTH_CHALLENGE, R101
  | lcAdvance (lk : Lk)   -- LC_ADVANCE, R337
  | debugOpen (lk : Lk)   -- DEBUG_OPEN, R340
  | deviceReset (lk : Lk)   -- DEVICE_RESET, R99
  | unknownCommand (lk : Lk)   -- UNKNOWN_COMMAND, R102
  | lkWrite (port : Fin 2) (lock : Byte) (off : BitVec 16) (count : BitVec 16) (data : List Byte) (crc : Byte)   -- LK_WRITE, R60
  | lkSubmit (port : Fin 2) (lock : Byte) (off : BitVec 16) (count : BitVec 16) (crc : Byte)   -- LK_SUBMIT, R52
  | lkRead (port : Fin 2) (lock : Byte) (off : BitVec 16) (count : BitVec 16) (crc : Byte)   -- LK_READ, R60
  | lkDrain (port : Fin 2) (lock : Byte) (off : BitVec 16) (count : BitVec 16) (crc : Byte)   -- LK_DRAIN, R60
  | lkGates (port : Fin 2) (lock : Byte) (off : BitVec 16) (count : BitVec 16) (crc : Byte)   -- LK_GATES, R60
  | stRead (port : Fin 2) (lock : Byte) (off : BitVec 16) (count : BitVec 16) (crc : Byte)   -- ST_READ, R413
  | canXlBarge (can : Fin 4) (fr : CanFrame)   -- CAN_XL_BARGE, R62
  | canFdSegment (dt : Nat) (can : Fin 4) (fr : CanFrame)   -- CAN_FD_SEGMENT, R63
  | udpBarge (mac : Fin 2) (src : Word) (sport : BitVec 16) (data : List Byte)   -- UDP_BARGE, R64
  | uartFrame (raw : List Byte) (framingError : Bool)   -- UART_FRAME, R65
  | towTunnelFrame (port : TowPort) (fr : List Byte)   -- TOW_TUNNEL_FRAME, R407
  | lockDone (m : Master) (v : Word)   -- LOCK_DONE, R52
  | lockTimeout (dt : Nat) (lk : Lk)   -- LOCK_TIMEOUT, R54
  | lockClaimTimeout (dt : Nat) (lk : Lk)   -- LOCK_CLAIM_TIMEOUT, R61
  | lockSegGapTimeout (dt : Nat) (can : Fin 4)   -- LOCK_SEG_GAP_TIMEOUT, R63
  | lockAutoDrain (lk : Lk)   -- LOCK_AUTO_DRAIN, R52
  | lockCtrlWrite (m : Master) (v : Word)   -- LOCK_CTRL_WRITE, R57
  | directSetpointFrame (dt : Nat) (can : Fin 4) (fr : CanFrame)   -- DIRECT_SETPOINT_FRAME, R68
  | setpointTimeout (dt : Nat) (b : Br)   -- SETPOINT_TIMEOUT, R69
  | catchDecision (dt : Nat) (b : Br)   -- CATCH_DECISION, R116
  | catchImSearchEnd (dt : Nat) (b : Br) (found : Option Int)   -- CATCH_IM_SEARCH_END, R117
  | initialPositionDetection (dt : Nat) (b : Br) (found : IpdReading)   -- INITIAL_POSITION_DETECTION, R157
  | driveStopRampDone (dt : Nat) (b : Br)   -- DRIVE_STOP_RAMP_DONE, R119
  | driveStopStandstill (dt : Nat) (b : Br)   -- DRIVE_STOP_STANDSTILL, R120
  | driveStopTimeout (dt : Nat) (b : Br)   -- DRIVE_STOP_TIMEOUT, R120
  | safeStopComplete (dt : Nat) (b : Br)   -- SAFE_STOP_COMPLETE, R309
  | degradedTimerExpiry (dt : Nat) (b : Br)   -- DEGRADED_TIMER_EXPIRY, R124
  | pilotHoldTimeout (dt : Nat) (b : Br)   -- PILOT_HOLD_TIMEOUT, R125
  | prechargeFeedback (dt : Nat) (b : Br)   -- PRECHARGE_FEEDBACK, R291
  | prechargeSettled (dt : Nat) (b : Br)   -- PRECHARGE_SETTLED, R291
  | prechargeTimeout (dt : Nat) (b : Br)   -- PRECHARGE_TIMEOUT, R291
  | prechargeComplete (dt : Nat) (b : Br)   -- PRECHARGE_COMPLETE, R104
  | dischargeContactorsOpen (dt : Nat) (b : Br)   -- DISCHARGE_CONTACTORS_OPEN, R293
  | dischargeComplete (dt : Nat) (b : Br)   -- DISCHARGE_COMPLETE, R293
  | dischargeTimeout (dt : Nat) (b : Br)   -- DISCHARGE_TIMEOUT, R293
  | autoDischargeStart (dt : Nat)   -- AUTO_DISCHARGE_START, R294
  | shutdownNegRelease (dt : Nat) (b : Br)   -- SHUTDOWN_NEG_RELEASE, R291
  | contactorFeedbackChange (dt : Nat) (k : Fin 6) (level : Bool)   -- CONTACTOR_FEEDBACK_CHANGE, R292
  | contactorMismatch (dt : Nat) (k : Fin 4)   -- CONTACTOR_MISMATCH, R292
  | stoInputChange (dt : Nat) (ch : StoCh) (low : Bool)   -- STO_INPUT_CHANGE, R306
  | stoDiscrepancy (dt : Nat)   -- STO_DISCREPANCY, R306
  | ss1Input (dt : Nat) (low : Bool)   -- SS1_INPUT, R309
  | faultAckPinEdge (dt : Nat)   -- FAULT_ACK_PIN_EDGE, R304
  | wakePin (dt : Nat)   -- WAKE_PIN, R374
  | rstNPin (dt : Nat) (ns : Nat)   -- RST_N_PIN, R363
  | powerOn (dt : Nat)   -- POWER_ON, R363
  | brownOut (dt : Nat) (sup : MainSupply) (ns : Nat)   -- BROWN_OUT, R359
  | resetRelease (dt : Nat) (env : BootEnv)   -- RESET_RELEASE, R367
  | blockRelease (dt : Nat) (d : ClkDom)   -- BLOCK_RELEASE, R366
  | blockClockTimeout (dt : Nat) (d : ClkDom)   -- BLOCK_CLOCK_TIMEOUT, R366
  | deviceWarmReset (m : Master) (v : Word)   -- DEVICE_WARM_RESET, R369
  | pilotHoldWrite (m : Master) (v : Word)   -- PILOT_HOLD_WRITE, R369
  | sysBlkRst (m : Master) (v : Word) (open_ : Bool)   -- SYS_BLK_RST, R372
  | sysStandbyEnter (m : Master) (v : Word) (wake : Bool)   -- SYS_STANDBY_ENTER, R373
  | clockLoss (dt : Nat) (d : ClkDom)   -- CLOCK_LOSS, R361
  | clockLossReset (dt : Nat)   -- CLOCK_LOSS_RESET, R361
  | oscFail (dt : Nat)   -- OSC_FAIL, R362
  | housekeepingRound (dt : Nat) (hk : HkRound)   -- HOUSEKEEPING_ROUND, R248
  | faultSourceAssert (dt : Nat) (srcs : List FaultSrc)   -- FAULT_SOURCE_ASSERT, R300
  | fcrWarmResetTimer (dt : Nat)   -- FCR_WARM_RESET_TIMER, R299
  | keeperBeat (dt : Nat) (m : Master) (v : Word)   -- KEEPER_BEAT, R318
  | keeperHbTimeout (dt : Nat)   -- KEEPER_HB_TIMEOUT, R318
  | keeperLockstep (dt : Nat)   -- KEEPER_LOCKSTEP, R318
  | fcrAckWrite (dt : Nat) (m : Master) (v : Word)   -- FCR_ACK_WRITE, R94
  | fcrInject (dt : Nat) (m : Master) (v : Word)   -- FCR_INJECT, R301
  | aliveToggle (dt : Nat)   -- ALIVE_TOGGLE, R319
  | wdgChallenge (dt : Nat) (c : Word)   -- WDG_CHALLENGE, R317
  | wdgAnswer (dt : Nat) (m : Master) (v : Word)   -- WDG_ANSWER, R317
  | wdgAnswerTimeout (dt : Nat)   -- WDG_ANSWER_TIMEOUT, R317
  | pilotLockstepError (dt : Nat)   -- PILOT_LOCKSTEP_ERROR, R317
  | pilotRelease (dt : Nat) (c : Word)   -- PILOT_RELEASE, R332
  | fwTrialPass (dt : Nat)   -- FW_TRIAL_PASS, R332
  | fwVerifyDone (dt : Nat) (v : FwVerdict)   -- FW_VERIFY_DONE, R330
  | paramStoreDone (dt : Nat) (ok : Bool)   -- PARAM_STORE_DONE, R349
  | vaultEraseDone (dt : Nat)   -- VAULT_ERASE_DONE, R340
  | nonceExpiry (dt : Nat)   -- NONCE_EXPIRY, R101
  | authLockoutEnd (dt : Nat)   -- AUTH_LOCKOUT_END, R101
  | guardReadback (dt : Nat)   -- GUARD_READBACK, R316
  | stageBoundary (dt : Nat) (b : Br)   -- STAGE_BOUNDARY, R166
  | planRefresh (dt : Nat) (b : Br)   -- PLAN_REFRESH, R275
  | stageCommit (dt : Nat) (b : Br)   -- STAGE_COMMIT, R169
  | stageCompute (dt : Nat) (b : Br)   -- STAGE_COMPUTE, R187
  | groupVerify (dt : Nat) (b : Br)   -- GROUP_VERIFY, R174
  | groupMissing (dt : Nat) (b : Br)   -- GROUP_MISSING, R176
  | fltIrefWrite (dt : Nat) (m : Master) (q : Bool) (v : Word)   -- FLT_IREF_WRITE, R182
  | fltEnableSet (dt : Nat) (m : Master) (v : Word)   -- FLT_ENABLE_SET, R192
  | fltEnableClear (dt : Nat) (m : Master) (v : Word)   -- FLT_ENABLE_CLEAR, R194
  | flightStopEnd (dt : Nat) (b : Br)   -- FLIGHT_STOP_END, R194
  | fltHoldWrite (dt : Nat) (m : Master) (v : Word)   -- FLT_HOLD_WRITE, R184
  | edgeSend (dt : Nat) (lane : LaneIx)   -- EDGE_SEND, R212
  | modFieldWrite (dt : Nat) (m : Master) (off : BitVec 12) (v : Word)   -- MOD_FIELD_WRITE, R202
  | modCommit (dt : Nat) (m : Master) (v : Word)   -- MOD_COMMIT, R222
  | modLoadPoint (dt : Nat) (b : Br)   -- MOD_LOAD_POINT, R222
  | modArmWrite (dt : Nat) (m : Master) (v : Word)   -- MOD_ARM_WRITE, R219
  | posEdge (dt : Nat) (p : PortIx) (a : WirePair) (bb : WirePair) (c : WirePair)   -- POS_EDGE, R148
  | posZeroTimeout (dt : Nat) (p : PortIx)   -- POS_ZERO_TIMEOUT, R148
  | posSamplePeriod (dt : Nat) (p : PortIx)   -- POS_SAMPLE_PERIOD, R141
  | posSample (dt : Nat) (p : PortIx) (word : Option Nat)   -- POS_SAMPLE, R141
  | posStale (dt : Nat) (p : PortIx)   -- POS_STALE, R141
  | posResolverSample (dt : Nat) (p : PortIx) (sn : TwoSamples) (cs : TwoSamples)   -- POS_RESOLVER_SAMPLE, R132
  | posSincosSample (dt : Nat) (p : PortIx) (sn : Int) (cs : Int)   -- POS_SINCOS_SAMPLE, R133
  | posIndexMark (dt : Nat) (p : PortIx)   -- POS_INDEX_MARK, R137
  | posFaultFilter (dt : Nat) (p : PortIx) (f : PosFlag) (on : Bool)   -- POS_FAULT_FILTER, R143
  | posRedundTimeout (dt : Nat) (b : Br)   -- POS_REDUND_TIMEOUT, R151
  | portCfgWrite (m : Master) (v : Word)   -- PORT_CFG_WRITE, R139
  | portTurnLoWrite (m : Master) (v : Word)   -- PORT_TURN_LO_WRITE, R147
  | portTurnHiWrite (m : Master) (v : Word)   -- PORT_TURN_HI_WRITE, R147
  | portAngleRead (m : Master)   -- PORT_ANGLE_READ, R147
  | aclkAngleRead (m : Master) (b : Br)   -- ACLK_ANGLE_READ, R147
  | convSequenceStart (dt : Nat) (i : ConvIx)   -- CONV_SEQUENCE_START, R234
  | convSample (dt : Nat) (i : ConvIx) (e : Fin 16)   -- CONV_SAMPLE, R234
  | convResult (dt : Nat) (i : ConvIx) (r : ConvRes)   -- CONV_RESULT, R235
  | vdcConversion (dt : Nat) (v : VdcReading)   -- VDC_CONVERSION, R244
  | monitorRound (dt : Nat) (b : Br) (iu : Int) (iv : Int) (iw : Int)   -- MONITOR_ROUND, R250
  | weirEvaluate (dt : Nat)   -- WEIR_EVALUATE, R289
  | chopperCheckExpiry (dt : Nat)   -- CHOPPER_CHECK_EXPIRY, R288
  | downlinkSlot (dt : Nat)   -- DOWNLINK_SLOT, R258
  | laneTimeMark (dt : Nat) (lane : LaneIx) (fr : DownFrame)   -- LANE_TIME_MARK, R34
  | laneTimeStep (dt : Nat) (lane : LaneIx) (fr : DownFrame)   -- LANE_TIME_STEP, R35
  | laneEdgeFrame (dt : Nat) (lane : LaneIx) (fr : DownFrame)   -- LANE_EDGE_FRAME, R263
  | laneRegWriteFrame (dt : Nat) (lane : LaneIx) (fr : DownFrame)   -- LANE_REG_WRITE_FRAME, R262
  | laneWriteRetry (dt : Nat) (lane : LaneIx)   -- LANE_WRITE_RETRY, R262
  | laneEdgeExecute (dt : Nat) (lane : LaneIx) (env : EdgeEnv)   -- LANE_EDGE_EXECUTE, R213
  | laneEdgeComplete (dt : Nat) (lane : LaneIx) (t : EdgeMeas)   -- LANE_EDGE_COMPLETE, R267
  | laneHeartbeatLoss (dt : Nat) (lane : LaneIx)   -- LANE_HEARTBEAT_LOSS, R260
  | laneTrained (dt : Nat) (lane : LaneIx) (rt : Nat)   -- LANE_TRAINED, R257
  | lanePowerUp (dt : Nat) (lane : LaneIx) (pass : Bool)   -- LANE_POWER_UP, R432
  | laneStatusFrame (dt : Nat) (lane : LaneIx) (rd : LaneReading) (crcOk : Bool)   -- LANE_STATUS_FRAME, R258
  | laneUplinkLoss (dt : Nat) (lane : LaneIx)   -- LANE_UPLINK_LOSS, R261
  | tripSymbol (dt : Nat) (lane : LaneIx)   -- TRIP_SYMBOL, R272
  | ov3Symbol (dt : Nat) (lane : LaneIx)   -- OV3_SYMBOL, R259
  | planNowSymbol (dt : Nat) (lane : LaneIx)   -- PLAN_NOW_SYMBOL, R259
  | ascNowSymbol (dt : Nat) (lane : LaneIx)   -- ASC_NOW_SYMBOL, R259
  | legLockSymbol (dt : Nat) (lane : LaneIx)   -- LEG_LOCK_SYMBOL, R272
  | legFreeSymbol (dt : Nat) (lane : LaneIx)   -- LEG_FREE_SYMBOL, R259
  | laneShortCircuit (dt : Nat) (lane : LaneIx) (r : ShortReading)   -- LANE_SHORT_CIRCUIT, R269
  | laneDesat (dt : Nat) (v : DesatReading)   -- LANE_DESAT, R269
  | laneVddlTrip (dt : Nat) (lane : LaneIx) (mv : Int)   -- LANE_VDDL_TRIP, R265
  | laneVeelTrip (dt : Nat) (lane : LaneIx) (mv : Int)   -- LANE_VEEL_TRIP, R265
  | laneVddlWarn (dt : Nat) (lane : LaneIx) (mv : Int)   -- LANE_VDDL_WARN, R265
  | laneSupplyLoss (dt : Nat) (lane : LaneIx) (mv : Int) (hvs : Int)   -- LANE_SUPPLY_LOSS, R265
  | laneOv3 (dt : Nat) (lane : LaneIx) (mv : Int)   -- LANE_OV3, R271
  | laneRetryWaitEnd (dt : Nat) (lane : LaneIx) (active : Bool)   -- LANE_RETRY_WAIT_END, R273
  | laneAscWaitTimeout (dt : Nat) (lane : LaneIx)   -- LANE_ASC_WAIT_TIMEOUT, R274
  | laneChopMismatch (dt : Nat) (v : ChopReading)   -- LANE_CHOP_MISMATCH, R287
  | laneCtrlArmWrite (dt : Nat) (m : Master) (v : Word)   -- LANE_CTRL_ARM_WRITE, R257
  | lanePlanWrite (dt : Nat) (m : Master) (v : Word)   -- LANE_PLAN_WRITE, R275
  | laneCmdRelease (dt : Nat) (m : Master) (v : Word)   -- LANE_CMD_RELEASE, R276
  | laneCmdClear (dt : Nat) (m : Master) (v : Word)   -- LANE_CMD_CLEAR, R273
  | laneCapArm (dt : Nat) (m : Master) (v : Word)   -- LANE_CAP_ARM, R278
  | laneCapFire (dt : Nat) (m : Master) (v : Word)   -- LANE_CAP_FIRE, R278
  | laneCapStop (dt : Nat) (lane : LaneIx)   -- LANE_CAP_STOP, R278
  | laneCapCopied (dt : Nat) (lane : LaneIx)   -- LANE_CAP_COPIED, R279
  | laneCapDataRead (m : Master)   -- LANE_CAP_DATA_READ, R279
  | laneAutoDischarge (dt : Nat) (lane : LaneIx) (mv : Int)   -- LANE_AUTO_DISCHARGE, R295
  | laneAutoDischargeEnd (dt : Nat) (lane : LaneIx) (cause : AutoDisEnd)   -- LANE_AUTO_DISCHARGE_END, R295
  | nvmcDataWrite (dt : Nat) (m : Master) (v : Word)   -- NVMC_DATA_WRITE, R346
  | nvmcWordDone (dt : Nat) (powerLost : Bool)   -- NVMC_WORD_DONE, R345
  | nvmcInvalidate (dt : Nat) (m : Master) (v : Word)   -- NVMC_INVALIDATE, R349
  | nvmcGo (dt : Nat) (m : Master) (v : Word)   -- NVMC_GO, R349
  | recCollectionEnd (dt : Nat)   -- REC_COLLECTION_END, R355
  | recIdleRecord (dt : Nat) (b : Br)   -- REC_IDLE_RECORD, R353
  | canRxFrame (dt : Nat) (can : Fin 4) (ago : Nat) (fr : CanFrame)   -- CAN_RX_FRAME, R385
  | mbReq (dt : Nat) (m : Master) (v : Word)   -- MB_REQ, R387
  | mbCancel (dt : Nat) (m : Master) (v : Word)   -- MB_CANCEL, R389
  | mbRelease (dt : Nat) (m : Master) (v : Word)   -- MB_RELEASE, R385
  | canTxSelect (dt : Nat) (can : Fin 4)   -- CAN_TX_SELECT, R387
  | canTxEnd (dt : Nat) (can : Fin 4) (e : CanTxEnd)   -- CAN_TX_END, R388
  | canBusOff (dt : Nat) (can : Fin 4)   -- CAN_BUS_OFF, R391
  | canRecoverWrite (dt : Nat) (m : Master) (v : Word)   -- CAN_RECOVER_WRITE, R391
  | canRecoveryDone (dt : Nat) (can : Fin 4)   -- CAN_RECOVERY_DONE, R391
  | canInitWrite (dt : Nat) (m : Master) (v : Word)   -- CAN_INIT_WRITE, R392
  | canIntegrated (dt : Nat) (can : Fin 4)   -- CAN_INTEGRATED, R392
  | ethFrameRx (dt : Nat) (mac : Fin 2) (fr : EthFrame)   -- ETH_FRAME_RX, R399
  | gptpSync (dt : Nat) (mac : Fin 2) (ns : Nat) (ratio : Rat)   -- GPTP_SYNC, R401
  | timeHoldoverEnd (dt : Nat)   -- TIME_HOLDOVER_END, R401
  | macsecKeyInstall (dt : Nat) (mac : Fin 2)   -- MACSEC_KEY_INSTALL, R344
  | towTraining (dt : Nat) (port : TowPort) (up : TowPeer)   -- TOW_TRAINING, R402
  | towTimeMark (dt : Nat) (fr : List Byte)   -- TOW_TIME_MARK, R404
  | towAngleRef (dt : Nat) (port : TowPort) (fr : List Byte)   -- TOW_ANGLE_REF, R405
  | towTorqueShare (dt : Nat) (port : TowPort) (fr : List Byte)   -- TOW_TORQUE_SHARE, R406
  | towShareTimeout (dt : Nat) (b : Br)   -- TOW_SHARE_TIMEOUT, R406
  | towFaultSymbol (dt : Nat) (port : TowPort)   -- TOW_FAULT_SYMBOL, R408
  | towUpLost (dt : Nat)   -- TOW_UP_LOST, R404
  | sentFrame (dt : Nat) (k : Fin 4) (fr : SentFrame)   -- SENT_FRAME, R410
  | tapInstruction (ir : TapIr)   -- TAP_INSTRUCTION, R417
  | crcStart (m : Master) (v : Word)   -- CRC_START, R421
  | crcData (m : Master) (v : Word) (size : AccSize)   -- CRC_DATA, R422
  | crcValWrite (m : Master) (hi : Bool) (v : Word)   -- CRC_VAL_WRITE, R424
  | crcValRead (m : Master) (res : Bool)   -- CRC_VAL_READ, R424
  | cntClear (m : Master) (v : Word)   -- CNT_CLEAR, R429
  | cntCfgWrite (m : Master) (v : Word)   -- CNT_CFG_WRITE, R429
  | evcSnap (m : Master) (v : Word)   -- EVC_SNAP, R430
  | cntValRead (m : Master) (snap : Bool)   -- CNT_VAL_READ, R430
  | registerWrite (dt : Nat) (m : Master) (addr : Word) (v : Word)   -- REGISTER_WRITE, R16
  | posAlignDone (dt : Nat) (b : Br) (offset : Word)   -- POS_ALIGN_DONE, R86
  | directPeriodBoundary (dt : Nat) (b : Br)   -- DIRECT_PERIOD_BOUNDARY, R221
  | ethLinkChange (dt : Nat) (mac : Fin 2) (up : Bool)   -- ETH_LINK_CHANGE, R409
  | towRootTimeMark (dt : Nat)   -- TOW_ROOT_TIME_MARK, R404
  | towAngleRefSend (dt : Nat)   -- TOW_ANGLE_REF_SEND, R405
  | auxSpiTransferDone (dt : Nat) (k : Fin 4) (rx : List Byte)   -- AUX_SPI_TRANSFER_DONE, R415
  | nvmWriteInhibit (dt : Nat) (vddm : Nat) (vddc : Nat)   -- NVM_WRITE_INHIBIT, R358
  | busReadError (dt : Nat) (m : Master) (addr : Word)   -- BUS_READ_ERROR, R38
  deriving DecidableEq, Repr

end Sys2Proof
end

