-- ==== Sys2Proof/Config.lean ====
section
/-! DEFINITION. What the spec leaves open, as constants without a body: no proof can see a value of
them, so what is proved holds whatever they are. `free…` are applied to `State.free`, which every
taking of a free value advances. -/

namespace Sys2Proof.Config

/-- A free natural number. -/
opaque freeNat : Nat → Nat
/-- A free integer. -/
opaque freeInt : Nat → Int
/-- A free choice. -/
opaque freeBool : Nat → Bool
/-- A free word. -/
opaque freeWord : Nat → Word
/-- A free byte string (the internal random source of R101 and R342). -/
opaque freeBytes : Nat → List Byte

/-- Where a rule gives a quotient without its rounding: whether numerator over denominator is
rounded up. -/
opaque roundsUp : Int → Int → Bool

/-- A map value on an axis whose minimum is not below its maximum, for which R186 states none. -/
opaque mapOpen : Nat → Rat → Rat → Rat

/-- The circle functions of an angle in turns, as the datapaths hold them (R187, R311). These and the functions
below act only within the brackets of Machine/Circle.lean. -/
opaque cosTurn : Rat → Rat
opaque sinTurn : Rat → Rat
/-- The angle, in turns, of a vector by its d and q parts (R187, R209). -/
opaque argTurn : Rat → Rat → Rat
/-- Square root (R134, R183, R187). -/
opaque sqrt : Rat → Rat
/-- e raised to a number (R149, R188). -/
opaque exp : Rat → Rat
/-- Natural logarithm (R246). -/
opaque ln : Rat → Rat
/-- The circle constant (R149, R188, R203). -/
opaque pi : Rat
/-- The observer's estimates of the angle and of the flux amplitude in nWb (R156), by the count of free values. -/
opaque observer : Nat → Word × Rat
/-- The speed controller of the running Pilot image (R84): the torque it requests, in 0.01 N·m, for
a setpoint, a speed and the count of its calls. -/
opaque speedLoop : Int → Int → Nat → Int
/-- To what fraction, at most 1, it reduces a torque request as the speed nears the speed limit of `TORQUE_SET`:
limit, speed, count of its calls (R84). -/
opaque speedTaper : Int → Int → Nat → Rat

/-- ECDSA on P-256 with SHA-256 (R101, R327): public key, message, signature. -/
opaque ecdsaOk : List Byte → List Byte → List Byte → Bool
/-- The Tolvoma public key in the Lockkeeper ROM. -/
opaque tolvomaKey : List Byte
/-- The serial number of the part (R99). -/
opaque serial : BitVec 64
/-- The start value of the CRC-8 of a lane link frame, which R31 does not give. -/
opaque linkCrc : Nat
/-- The step, in counts, that phases a carrier of a half period to an angle reference with an offset in 2^-16
carrier periods (R405): reference instant, half period, offset, start of the next stage. -/
opaque carrierPhase : Nat → Nat → Nat → Nat → Int
/-- The payload of an angle reference frame, whose layout R405 does not give: angle, speed, acceleration and start
of the trajectory, and its turn count; and what such a payload says. -/
opaque angleRef : Rat → Rat → Rat → Nat → Int → List Byte
opaque angleRefOf : List Byte → Rat × Rat × Rat × Nat × Int
/-- After how many counts without a synchronisation message `SYS_TIME` reports holdover (R401). -/
opaque syncGap : Nat
/-- The MAC address of a MAC, which no rule gives: 48 bits, the first byte on the wire lowest. -/
opaque macBits : Nat → BitVec 48
def macAddr (i : Nat) : List Byte := (List.range 6).map fun k => (macBits i).extractLsb' (8 * k) 8
/-- Whether a response on CAN FD switches its bit rate, which R63 leaves open. -/
opaque respBrs : Bool
/-- The start value of the CRC-8 of an auxiliary SPI response, which R415 does not give. -/
opaque auxCrc : Nat
/-- The Lockkeeper ROM image (R37), by byte address. -/
opaque rom : Nat → Byte

end Sys2Proof.Config
end

