-- ==== Sys2Proof/Machine/Fields.lean ====
section
/-! DEFINITION. The register map: every field of every register table of the spec (chapters 02, 05
to 09, 11, 13 to 15 and 17), as a handle of bus address and bit places, and the register table that
the write rules R12 to R18 walk. Field names are REGISTER_FIELD with the manual's own words. -/

namespace Sys2Proof.Machine

/-- A field handle: the bus address of its register and its bit places (`[hi:lo]`). -/
structure Fld where
  addr : Nat
  hi : Nat
  lo : Nat
  deriving DecidableEq, Repr

/-- The same field of the register `k` words further on (register arrays). -/
def Fld.at (f : Fld) (k : Nat) : Fld := { f with addr := f.addr + 4 * k }

/-- The whole register that holds the field. -/
def Fld.whole (f : Fld) : Fld := { f with hi := 31, lo := 0 }

/-- Access codes of R12. -/
inductive Acc where
  | ro | rw | wo | w1c | w1s | rwg | rwp
  deriving DecidableEq, Repr

/-- Which copy of a register an access reaches (R17, R19, R70): one for the block, one per bus
master, or the instance that the master's select register names. -/
inductive Win where
  | blk | perMaster | lock | lane | modBridge | fltBridge | conv | port | can | mb | crc | cnt
  deriving DecidableEq, Repr

/-- One field of a register as its table gives it; `vmin` and `vmax` are its legal range (R16). -/
structure FieldDef where
  hi : Nat
  lo : Nat
  acc : Acc
  reset : Nat
  vmin : Nat
  vmax : Nat
  deriving DecidableEq, Repr

/-- One register, or an array of `count` registers `stride` bytes apart. -/
structure RegDef where
  addr : Nat
  count : Nat
  stride : Nat
  win : Win
  fields : List FieldDef
  deriving DecidableEq, Repr

namespace F

def LOCK_ID_CHAMBER_COUNT : Fld := ⟨0x40010000, 15, 8⟩
def LOCK_ID_IF_REV : Fld := ⟨0x40010000, 7, 0⟩
def LOCK_CUR_CUR : Fld := ⟨0x40010004, 3, 0⟩
def LOCK_GATES_STATE : Fld := ⟨0x40010008, 31, 0⟩
def LOCK_PEND_PEND_P : Fld := ⟨0x4001000C, 31, 16⟩
def LOCK_PEND_PEND_K : Fld := ⟨0x4001000C, 15, 0⟩
def LOCK_DONE_LOCK : Fld := ⟨0x40010010, 3, 0⟩
def LOCK_CTRL_TIMEOUT_MS : Fld := ⟨0x40010014, 31, 16⟩
def LOCK_CTRL_ENABLE : Fld := ⟨0x40010014, 0, 0⟩
def LOCK_ERR_TIMEOUT : Fld := ⟨0x40010018, 2, 2⟩
def LOCK_ERR_GATE_ERR : Fld := ⟨0x40010018, 1, 1⟩
def LOCK_ERR_RANGE : Fld := ⟨0x40010018, 0, 0⟩
def PORT_SEL_PORT : Fld := ⟨0x40060000, 1, 0⟩
def POS_ERR_RANGE : Fld := ⟨0x40060004, 0, 0⟩
def POS_CONV_ILV : Fld := ⟨0x40060008, 8, 8⟩
def POS_CONV_PAIR1_PORT : Fld := ⟨0x40060008, 7, 4⟩
def POS_CONV_PAIR0_PORT : Fld := ⟨0x40060008, 3, 0⟩
def ACLK_CTRL_REDUND : Fld := ⟨0x40060040, 11, 8⟩
def ACLK_CTRL_PRIMARY : Fld := ⟨0x40060040, 7, 4⟩
def ACLK_CTRL_HFI : Fld := ⟨0x40060040, 3, 3⟩
def ACLK_CTRL_DIR_SENSE : Fld := ⟨0x40060040, 2, 2⟩
def ACLK_CTRL_ENABLE : Fld := ⟨0x40060040, 0, 0⟩
def ACLK_STATUS_SOURCE : Fld := ⟨0x40060044, 15, 12⟩
def ACLK_STATUS_DOMAIN : Fld := ⟨0x40060044, 11, 11⟩
def ACLK_STATUS_QUALITY : Fld := ⟨0x40060044, 10, 8⟩
def ACLK_STATUS_FALLBACK : Fld := ⟨0x40060044, 7, 7⟩
def ACLK_STATUS_OBS_OK : Fld := ⟨0x40060044, 6, 6⟩
def ACLK_STATUS_OBS_REDUND : Fld := ⟨0x40060044, 5, 5⟩
def ACLK_STATUS_SWITCHED : Fld := ⟨0x40060044, 0, 0⟩
def ACLK_ANGLE_ANGLE : Fld := ⟨0x40060048, 31, 0⟩
def ACLK_TURN_LO_TURN_LO : Fld := ⟨0x4006004C, 31, 0⟩
def ACLK_TURN_HI_TURN_HI : Fld := ⟨0x40060050, 15, 0⟩
def ACLK_SPEED_SPEED : Fld := ⟨0x40060054, 31, 0⟩
def ACLK_OMEGA_OMEGA : Fld := ⟨0x40060058, 31, 0⟩
def PORT_CFG_LINK : Fld := ⟨0x40060100, 23, 20⟩
def PORT_CFG_SENSOR_PP : Fld := ⟨0x40060100, 19, 16⟩
def PORT_CFG_BRIDGE : Fld := ⟨0x40060100, 12, 12⟩
def PORT_CFG_INVERT : Fld := ⟨0x40060100, 8, 8⟩
def PORT_CFG_MODE : Fld := ⟨0x40060100, 6, 4⟩
def PORT_CFG_ENABLE : Fld := ⟨0x40060100, 0, 0⟩
def PORT_LINES_LINES : Fld := ⟨0x40060104, 16, 0⟩
def PORT_OFFSET_OFFSET : Fld := ⟨0x40060108, 31, 0⟩
def PORT_FRAME_PERIOD : Fld := ⟨0x4006010C, 27, 16⟩
def PORT_FRAME_SCLK : Fld := ⟨0x4006010C, 15, 6⟩
def PORT_FRAME_GRAY : Fld := ⟨0x4006010C, 5, 5⟩
def PORT_FRAME_BITS : Fld := ⟨0x4006010C, 4, 0⟩
def PORT_STATUS_QUALITY : Fld := ⟨0x40060110, 26, 24⟩
def PORT_STATUS_FLAGS : Fld := ⟨0x40060110, 15, 0⟩
def PORT_ANGLE_ANGLE : Fld := ⟨0x40060114, 31, 0⟩
def PORT_TURN_LO_TURN_LO : Fld := ⟨0x40060118, 31, 0⟩
def PORT_TURN_HI_TURN_HI : Fld := ⟨0x4006011C, 15, 0⟩
def PORT_SPEED_SPEED : Fld := ⟨0x40060120, 31, 0⟩
def PORT_AMP_AMP : Fld := ⟨0x40060124, 16, 0⟩
def PORT_EDGE_STAMP : Fld := ⟨0x40060128, 31, 0⟩
def PORT_TURN_LIMIT_LIMIT : Fld := ⟨0x4006012C, 30, 0⟩
def PORT_FILT_FAULT_FILT : Fld := ⟨0x40060130, 13, 8⟩
def PORT_FILT_SPEED_AVG : Fld := ⟨0x40060130, 4, 0⟩
def PORT_LIMITS_ZERO_TIMEOUT : Fld := ⟨0x40060134, 25, 16⟩
def PORT_LIMITS_AMP_MAX : Fld := ⟨0x40060134, 15, 8⟩
def PORT_LIMITS_AMP_MIN : Fld := ⟨0x40060134, 7, 0⟩
def PORT_EXC_AMP_NOM : Fld := ⟨0x40060138, 31, 20⟩
def PORT_EXC_EXC_EN : Fld := ⟨0x40060138, 16, 16⟩
def PORT_EXC_FREQ : Fld := ⟨0x40060138, 15, 8⟩
def PORT_EXC_PHASE : Fld := ⟨0x40060138, 7, 0⟩
def PORT_DELAY_DELAY : Fld := ⟨0x4006013C, 15, 0⟩
def FLT_BRIDGE_SEL_BRIDGE : Fld := ⟨0x40040000, 0, 0⟩
def FLT_ERR_RANGE : Fld := ⟨0x40040004, 0, 0⟩
def FLT_VIEW_SPEC : Fld := ⟨0x40040008, 0, 0⟩
def FLT_SLOT_SLOT : Fld := ⟨0x4004000C, 3, 0⟩
def FLT_AXIS_AXIS : Fld := ⟨0x40040040, 31, 0⟩
def FLT_CTRL_DEPTH : Fld := ⟨0x40040100, 11, 8⟩
def FLT_CTRL_FORCE_SHALLOW : Fld := ⟨0x40040100, 2, 2⟩
def FLT_CTRL_HOLD : Fld := ⟨0x40040100, 1, 1⟩
def FLT_CTRL_ENABLE : Fld := ⟨0x40040100, 0, 0⟩
def FLT_STATUS_CUR_SLOT : Fld := ⟨0x40040104, 15, 12⟩
def FLT_STATUS_SHALLOW : Fld := ⟨0x40040104, 11, 11⟩
def FLT_STATUS_HOLD_ACTIVE : Fld := ⟨0x40040104, 10, 10⟩
def FLT_STATUS_RUNNING : Fld := ⟨0x40040104, 9, 9⟩
def FLT_STATUS_VLIM : Fld := ⟨0x40040104, 7, 7⟩
def FLT_STATUS_CLAMP : Fld := ⟨0x40040104, 6, 6⟩
def FLT_STATUS_MAP_CLAMP : Fld := ⟨0x40040104, 5, 5⟩
def FLT_STATUS_LATE : Fld := ⟨0x40040104, 4, 4⟩
def FLT_STATUS_GROUP_MISS : Fld := ⟨0x40040104, 3, 3⟩
def FLT_STATUS_SQUASH : Fld := ⟨0x40040104, 2, 2⟩
def FLT_STATUS_RETIRED : Fld := ⟨0x40040104, 1, 1⟩
def FLT_STATUS_SHALLOW_CHG : Fld := ⟨0x40040104, 0, 0⟩
def FLT_STAGE_STAGE : Fld := ⟨0x40040108, 31, 0⟩
def FLT_LEAD_LEAD : Fld := ⟨0x4004010C, 9, 0⟩
def FLT_BAND_I_BAND : Fld := ⟨0x40040110, 19, 0⟩
def FLT_BAND_A_BAND : Fld := ⟨0x40040114, 13, 0⟩
def FLT_STORM_QUIET : Fld := ⟨0x40040118, 31, 16⟩
def FLT_STORM_WINDOW : Fld := ⟨0x40040118, 15, 8⟩
def FLT_STORM_LIMIT : Fld := ⟨0x40040118, 7, 0⟩
def FLT_IREF_D_IREF : Fld := ⟨0x4004011C, 31, 0⟩
def FLT_IREF_Q_IREF : Fld := ⟨0x40040120, 31, 0⟩
def FLT_ENV_MOT_LIMIT : Fld := ⟨0x40040124, 30, 0⟩
def FLT_ENV_GEN_LIMIT : Fld := ⟨0x40040128, 30, 0⟩
def FLT_IMAX_IMAX : Fld := ⟨0x4004012C, 30, 0⟩
def FLT_WEIR_GEN_LIMIT : Fld := ⟨0x40040130, 30, 0⟩
def FLT_TORQUE_VALUE : Fld := ⟨0x40040134, 31, 0⟩
def FLT_ID_VALUE : Fld := ⟨0x40040138, 31, 0⟩
def FLT_IQ_VALUE : Fld := ⟨0x4004013C, 31, 0⟩
def FLT_DOB_D_DOB : Fld := ⟨0x40040140, 31, 0⟩
def FLT_DOB_Q_DOB : Fld := ⟨0x40040144, 31, 0⟩
def FLT_DOB_CFG_ENABLE : Fld := ⟨0x40040148, 16, 16⟩
def FLT_DOB_CFG_BW : Fld := ⟨0x40040148, 12, 0⟩
def FLT_RS_RS : Fld := ⟨0x4004014C, 19, 0⟩
def FLT_CNT_MISPRED_COUNT : Fld := ⟨0x40040150, 31, 0⟩
def FLT_CNT_SETPT_COUNT : Fld := ⟨0x40040154, 31, 0⟩
def FLT_CNT_LATE_COUNT : Fld := ⟨0x40040158, 31, 0⟩
def FLT_HOLD_TIME_TIME : Fld := ⟨0x4004015C, 15, 0⟩
def FLT_SLOT_INFO_SPEC_VIEW : Fld := ⟨0x40040180, 31, 31⟩
def FLT_SLOT_INFO_DURATION : Fld := ⟨0x40040180, 23, 0⟩
def FLT_SLOT_STATE_STAGE_HI : Fld := ⟨0x40040184, 31, 4⟩
def FLT_SLOT_STATE_STATUS : Fld := ⟨0x40040184, 1, 0⟩
def FLT_SLOT_START_VALUE : Fld := ⟨0x40040188, 31, 0⟩
def FLT_SLOT_VD_VALUE : Fld := ⟨0x4004018C, 31, 0⟩
def FLT_SLOT_VQ_VALUE : Fld := ⟨0x40040190, 31, 0⟩
def FLT_SLOT_IQ_PRED_VALUE : Fld := ⟨0x40040194, 31, 0⟩
def MOD_BRIDGE_SEL_BRIDGE : Fld := ⟨0x40030000, 0, 0⟩
def MOD_ERR_RANGE : Fld := ⟨0x40030004, 0, 0⟩
def MOD_PINS_PLS : Fld := ⟨0x40030008, 13, 8⟩
def MOD_PINS_EN : Fld := ⟨0x40030008, 5, 0⟩
def MOD_CTRL_SWAP : Fld := ⟨0x40030100, 14, 12⟩
def MOD_CTRL_INVERT : Fld := ⟨0x40030100, 10, 8⟩
def MOD_CTRL_PLS_EN : Fld := ⟨0x40030100, 3, 3⟩
def MOD_CTRL_LOAD_MID : Fld := ⟨0x40030100, 2, 2⟩
def MOD_CTRL_ARM : Fld := ⟨0x40030100, 1, 1⟩
def MOD_CTRL_MODE : Fld := ⟨0x40030100, 0, 0⟩
def MOD_STATUS_STRAT : Fld := ⟨0x40030104, 31, 28⟩
def MOD_STATUS_OPP_Q : Fld := ⟨0x40030104, 27, 24⟩
def MOD_STATUS_PENDING : Fld := ⟨0x40030104, 16, 16⟩
def MOD_STATUS_OPP_DEFER : Fld := ⟨0x40030104, 7, 7⟩
def MOD_STATUS_BST_FORCED : Fld := ⟨0x40030104, 6, 6⟩
def MOD_STATUS_BST_REFRESH : Fld := ⟨0x40030104, 5, 5⟩
def MOD_STATUS_PULSE_DROP : Fld := ⟨0x40030104, 4, 4⟩
def MOD_STATUS_OVERWRITE : Fld := ⟨0x40030104, 3, 3⟩
def MOD_STATUS_CLAMP : Fld := ⟨0x40030104, 2, 2⟩
def MOD_CARRIER_HALF : Fld := ⟨0x40030108, 16, 0⟩
def MOD_DEAD_DEAD_MAX : Fld := ⟨0x4003010C, 31, 16⟩
def MOD_DEAD_DEAD_MIN : Fld := ⟨0x4003010C, 15, 0⟩
def MOD_PULSE_MIN_PULSE : Fld := ⟨0x40030110, 10, 0⟩
def MOD_BST_ON_MAX : Fld := ⟨0x40030114, 31, 16⟩
def MOD_BST_REFRESH : Fld := ⟨0x40030114, 11, 0⟩
def MOD_DPWM_KIND : Fld := ⟨0x40030118, 25, 24⟩
def MOD_DPWM_OFF : Fld := ⟨0x40030118, 21, 12⟩
def MOD_DPWM_ON : Fld := ⟨0x40030118, 9, 0⟩
def MOD_OVM_SIX_EN : Fld := ⟨0x4003011C, 17, 17⟩
def MOD_OVM_OVM_EN : Fld := ⟨0x4003011C, 16, 16⟩
def MOD_OVM_SIX_ON : Fld := ⟨0x4003011C, 9, 0⟩
def MOD_SYNC_OFF : Fld := ⟨0x40030120, 27, 16⟩
def MOD_SYNC_ON : Fld := ⟨0x40030120, 11, 0⟩
def MOD_OPP_Q_MASK : Fld := ⟨0x40030124, 31, 24⟩
def MOD_OPP_FSW_MAX : Fld := ⟨0x40030124, 16, 0⟩
def MOD_PERIOD_STG_PERIOD : Fld := ⟨0x40030140, 17, 0⟩
def MOD_PERIOD_ACT_PERIOD : Fld := ⟨0x40030154, 17, 0⟩
def MOD_DUTY_STG_COUNT : Fld := ⟨0x40030144, 22, 5⟩
def MOD_DUTY_STG_FINE : Fld := ⟨0x40030144, 4, 0⟩
def MOD_DUTY_ACT_COUNT : Fld := ⟨0x40030158, 22, 5⟩
def MOD_DUTY_ACT_FINE : Fld := ⟨0x40030158, 4, 0⟩
def MOD_COMMIT_COMMIT : Fld := ⟨0x40030150, 0, 0⟩
def MOD_PERIOD_CNT_COUNT : Fld := ⟨0x40030164, 31, 0⟩
def MOD_DT_HIGH : Fld := ⟨0x40030170, 31, 16⟩
def MOD_DT_LOW : Fld := ⟨0x40030170, 15, 0⟩
def CONV_SEL_INST : Fld := ⟨0x40050000, 3, 0⟩
def CONV_ERR_RANGE : Fld := ⟨0x40050004, 0, 0⟩
def CONV_DIAG_FAIL : Fld := ⟨0x40050008, 14, 0⟩
def CONV_GRP_I_I : Fld := ⟨0x40050010, 31, 0⟩
def CONV_GRP_FLAGS_STAGE_LO : Fld := ⟨0x4005001C, 31, 16⟩
def CONV_GRP_FLAGS_SINGLE : Fld := ⟨0x4005001C, 10, 10⟩
def CONV_GRP_FLAGS_SAT : Fld := ⟨0x4005001C, 8, 6⟩
def CONV_GRP_FLAGS_RECON : Fld := ⟨0x4005001C, 2, 0⟩
def CONV_VDC_BR_VDC : Fld := ⟨0x40050020, 31, 0⟩
def CONV_CFG_SEQ_LAST : Fld := ⟨0x40050100, 11, 8⟩
def CONV_CFG_ENABLE : Fld := ⟨0x40050100, 0, 0⟩
def CONV_STATUS_IDLE : Fld := ⟨0x40050104, 7, 7⟩
def CONV_STATUS_BUSY : Fld := ⟨0x40050104, 6, 6⟩
def CONV_STATUS_OPEN : Fld := ⟨0x40050104, 3, 3⟩
def CONV_STATUS_SAT : Fld := ⟨0x40050104, 2, 2⟩
def CONV_STATUS_OVERLAP : Fld := ⟨0x40050104, 1, 1⟩
def CONV_STATUS_DIAG : Fld := ⟨0x40050104, 0, 0⟩
def CONV_OFFSET_OFFSET : Fld := ⟨0x40050108, 15, 0⟩
def CONV_TEMP_TEMP : Fld := ⟨0x4005010C, 15, 0⟩
def CONV_VDC_VDC : Fld := ⟨0x40050110, 31, 0⟩
def CONV_SEQ_ENTRY : Fld := ⟨0x40050140, 31, 0⟩
def CONV_RES_VALID : Fld := ⟨0x40050180, 31, 31⟩
def CONV_RES_SAT : Fld := ⟨0x40050180, 30, 30⟩
def CONV_RES_OPEN : Fld := ⟨0x40050180, 29, 29⟩
def CONV_RES_NSAMP : Fld := ⟨0x40050180, 24, 16⟩
def CONV_RES_VALUE : Fld := ⟨0x40050180, 15, 0⟩
def LANE_SEL_LANE : Fld := ⟨0x40020000, 3, 0⟩
def LANE_ERR_NOLINK : Fld := ⟨0x40020004, 1, 1⟩
def LANE_ERR_RANGE : Fld := ⟨0x40020004, 0, 0⟩
def LANE_SUMMARY_FAULTED : Fld := ⟨0x40020008, 27, 16⟩
def LANE_SUMMARY_ARMED : Fld := ⟨0x40020008, 11, 0⟩
def LANE_PAIR_KIND : Fld := ⟨0x4002000C, 17, 16⟩
def LANE_PAIR_SECOND : Fld := ⟨0x4002000C, 11, 8⟩
def LANE_PAIR_FIRST : Fld := ⟨0x4002000C, 3, 0⟩
def LANE_CFG_LEARN : Fld := ⟨0x40020100, 4, 4⟩
def LANE_CFG_CLAMP_EN : Fld := ⟨0x40020100, 3, 3⟩
def LANE_CFG_BOOSTER : Fld := ⟨0x40020100, 2, 2⟩
def LANE_CFG_BOOTSTRAP : Fld := ⟨0x40020100, 1, 1⟩
def LANE_CFG_SIDE : Fld := ⟨0x40020100, 0, 0⟩
def LANE_STATUS_STATE : Fld := ⟨0x40020104, 31, 28⟩
def LANE_STATUS_PLAN_AGE : Fld := ⟨0x40020104, 27, 16⟩
def LANE_STATUS_TRAINED : Fld := ⟨0x40020104, 10, 10⟩
def LANE_STATUS_HB_LOST : Fld := ⟨0x40020104, 9, 9⟩
def LANE_STATUS_OV3 : Fld := ⟨0x40020104, 8, 8⟩
def LANE_STATUS_VDDL_WARN : Fld := ⟨0x40020104, 7, 7⟩
def LANE_STATUS_LATE_EDGE : Fld := ⟨0x40020104, 6, 6⟩
def LANE_STATUS_EDGE_ORDER : Fld := ⟨0x40020104, 5, 5⟩
def LANE_STATUS_QUEUE_OVERRUN : Fld := ⟨0x40020104, 4, 4⟩
def LANE_STATUS_TIME_SLIP : Fld := ⟨0x40020104, 3, 3⟩
def LANE_STATUS_TIME_WARN : Fld := ⟨0x40020104, 2, 2⟩
def LANE_STATUS_OV2 : Fld := ⟨0x40020104, 1, 1⟩
def LANE_CTRL_ARM : Fld := ⟨0x40020108, 0, 0⟩
def LANE_CMD_CLEAR : Fld := ⟨0x4002010C, 1, 1⟩
def LANE_CMD_RELEASE : Fld := ⟨0x4002010C, 0, 0⟩
def LANE_PLAN_AUX_MODE : Fld := ⟨0x40020110, 5, 4⟩
def LANE_PLAN_PLAN : Fld := ⟨0x40020110, 1, 0⟩
def LANE_TRIP_LATCHED : Fld := ⟨0x40020114, 31, 31⟩
def LANE_TRIP_TRIES_COUNT : Fld := ⟨0x40020114, 26, 24⟩
def LANE_TRIP_PAIR : Fld := ⟨0x40020114, 7, 7⟩
def LANE_TRIP_SHOOT : Fld := ⟨0x40020114, 6, 6⟩
def LANE_TRIP_PARTNER : Fld := ⟨0x40020114, 5, 5⟩
def LANE_TRIP_UV_VEEL : Fld := ⟨0x40020114, 4, 4⟩
def LANE_TRIP_UV_VDDL : Fld := ⟨0x40020114, 3, 3⟩
def LANE_TRIP_DESAT : Fld := ⟨0x40020114, 2, 2⟩
def LANE_TRIP_INTEG : Fld := ⟨0x40020114, 1, 1⟩
def LANE_TRIP_DIDT : Fld := ⟨0x40020114, 0, 0⟩
def LANE_DIDT_TRIP : Fld := ⟨0x40020118, 31, 16⟩
def LANE_DIDT_LS : Fld := ⟨0x40020118, 15, 8⟩
def LANE_DIDT_MASK : Fld := ⟨0x40020118, 4, 0⟩
def LANE_DIDT_FILT_FILTER : Fld := ⟨0x4002011C, 6, 0⟩
def LANE_INTEG_TRIP : Fld := ⟨0x40020120, 13, 0⟩
def LANE_DESAT_BLANK : Fld := ⟨0x40020124, 31, 16⟩
def LANE_DESAT_VOLT : Fld := ⟨0x40020124, 15, 0⟩
def LANE_OV3_VDC_OV3 : Fld := ⟨0x40020128, 20, 0⟩
def LANE_PROT_VEEL_TRIP : Fld := ⟨0x4002012C, 31, 16⟩
def LANE_PROT_STO_ASC : Fld := ⟨0x4002012C, 8, 8⟩
def LANE_PROT_SOFT_STEP : Fld := ⟨0x4002012C, 5, 0⟩
def LANE_RETRY_WAIT : Fld := ⟨0x40020130, 25, 16⟩
def LANE_RETRY_MAX : Fld := ⟨0x40020130, 2, 0⟩
def LANE_GATE_T_OFF : Fld := ⟨0x40020134, 31, 23⟩
def LANE_GATE_T_ON : Fld := ⟨0x40020134, 22, 14⟩
def LANE_GATE_BAND : Fld := ⟨0x40020134, 13, 7⟩
def LANE_GATE_STEP_MAX : Fld := ⟨0x40020134, 5, 0⟩
def LANE_GST_IDX_INDEX : Fld := ⟨0x40020138, 6, 0⟩
def LANE_GST_DATA_BIN_A : Fld := ⟨0x4002013C, 15, 8⟩
def LANE_GST_DATA_STEP : Fld := ⟨0x4002013C, 5, 0⟩
def LANE_MEAS_T_OFF : Fld := ⟨0x40020140, 31, 16⟩
def LANE_MEAS_T_ON : Fld := ⟨0x40020140, 15, 0⟩
def LANE_SUPPLY_VEEL : Fld := ⟨0x40020144, 31, 16⟩
def LANE_SUPPLY_VDDL : Fld := ⟨0x40020144, 15, 0⟩
def LANE_DIE_TEMP_TEMP1 : Fld := ⟨0x40020148, 31, 16⟩
def LANE_DIE_TEMP_TEMP0 : Fld := ⟨0x40020148, 15, 0⟩
def LANE_QUEUE_HIGH_COUNT : Fld := ⟨0x4002014C, 12, 8⟩
def LANE_QUEUE_COUNT : Fld := ⟨0x4002014C, 4, 0⟩
def LANE_CAP_CTRL_ARM : Fld := ⟨0x40020150, 31, 31⟩
def LANE_CAP_CTRL_FIRE : Fld := ⟨0x40020150, 30, 30⟩
def LANE_CAP_CTRL_PRE : Fld := ⟨0x40020150, 20, 16⟩
def LANE_CAP_CTRL_MATCH : Fld := ⟨0x40020150, 15, 8⟩
def LANE_CAP_CTRL_TRIG : Fld := ⟨0x40020150, 7, 5⟩
def LANE_CAP_CTRL_SRC : Fld := ⟨0x40020150, 4, 4⟩
def LANE_CAP_CTRL_CHAN : Fld := ⟨0x40020150, 2, 0⟩
def LANE_CAP_STATUS_COPIED : Fld := ⟨0x40020154, 2, 2⟩
def LANE_CAP_STATUS_STOPPED : Fld := ⟨0x40020154, 1, 1⟩
def LANE_CAP_STATUS_RECORDING : Fld := ⟨0x40020154, 0, 0⟩
def LANE_CAP_STAMP_STAMP : Fld := ⟨0x40020158, 31, 0⟩
def LANE_CAP_ADDR_ADDR : Fld := ⟨0x4002015C, 13, 0⟩
def LANE_CAP_DATA_WORD : Fld := ⟨0x40020160, 15, 0⟩
def LANE_ADV_ADV : Fld := ⟨0x40020164, 7, 0⟩
def LANE_OV2_VDC_OV2 : Fld := ⟨0x40020168, 20, 0⟩
def FCR_ID_REV : Fld := ⟨0x400A0000, 7, 0⟩
def FCR_CTRL_KEEPER_RETRY : Fld := ⟨0x400A0004, 8, 8⟩
def FCR_CTRL_POLICY : Fld := ⟨0x400A0004, 4, 4⟩
def FCR_CTRL_STO_ASC : Fld := ⟨0x400A0004, 1, 1⟩
def FCR_CTRL_ALIVE_EN : Fld := ⟨0x400A0004, 0, 0⟩
def FCR_STATUS_HOLD : Fld := ⟨0x400A0008, 31, 31⟩
def FCR_STATUS_KEEPER_FAIL : Fld := ⟨0x400A0008, 30, 30⟩
def FCR_STATUS_ALIVE_RUN : Fld := ⟨0x400A0008, 29, 29⟩
def FCR_STATUS_CLASS_DEV : Fld := ⟨0x400A0008, 26, 24⟩
def FCR_STATUS_CLASS_B : Fld := ⟨0x400A0008, 22, 20⟩
def FCR_STATUS_CLASS_A : Fld := ⟨0x400A0008, 18, 16⟩
def FCR_STATUS_STO_DISC : Fld := ⟨0x400A0008, 5, 5⟩
def FCR_STATUS_ACK_PIN : Fld := ⟨0x400A0008, 4, 4⟩
def FCR_STATUS_SS1 : Fld := ⟨0x400A0008, 3, 3⟩
def FCR_STATUS_STO_B : Fld := ⟨0x400A0008, 2, 2⟩
def FCR_STATUS_STO_A : Fld := ⟨0x400A0008, 1, 1⟩
def FCR_KEEPER_FAIL_COUNT : Fld := ⟨0x400A000C, 23, 16⟩
def FCR_KEEPER_WINDOW : Fld := ⟨0x400A000C, 8, 8⟩
def FCR_KEEPER_BEAT : Fld := ⟨0x400A000C, 7, 0⟩
def FCR_ACK_BLOCK_CODE : Fld := ⟨0x400A0010, 31, 24⟩
def FCR_ACK_REFUSED : Fld := ⟨0x400A0010, 16, 16⟩
def FCR_ACK_LAST_TOGGLE : Fld := ⟨0x400A0010, 8, 8⟩
def FCR_ACK_TOGGLE : Fld := ⟨0x400A0010, 1, 1⟩
def FCR_ACK_ACK : Fld := ⟨0x400A0010, 0, 0⟩
def FCR_CODE_IDX_CODE : Fld := ⟨0x400A0014, 7, 0⟩
def FCR_CLASS_CLASS : Fld := ⟨0x400A0018, 2, 0⟩
def FCR_LATCH_CODES : Fld := ⟨0x400A0020, 31, 0⟩
def FCR_ACTIVE_CODES : Fld := ⟨0x400A0040, 31, 0⟩
def FCR_FIRST_LOC : Fld := ⟨0x400A0060, 23, 16⟩
def FCR_FIRST_CLASS : Fld := ⟨0x400A0060, 10, 8⟩
def FCR_FIRST_CODE : Fld := ⟨0x400A0060, 7, 0⟩
def FCR_FIRST_TIME_STAMP : Fld := ⟨0x400A0064, 31, 0⟩
def FCR_INJECT_LOC : Fld := ⟨0x400A0068, 15, 8⟩
def FCR_INJECT_CODE : Fld := ⟨0x400A0068, 7, 0⟩
def FCR_ERR_RANGE : Fld := ⟨0x400A006C, 0, 0⟩
def NVMC_ID_SIZE_MB : Fld := ⟨0x400B0000, 15, 8⟩
def NVMC_ID_REV : Fld := ⟨0x400B0000, 7, 0⟩
def NVMC_STATUS_PIN_COUNT : Fld := ⟨0x400B0004, 22, 16⟩
def NVMC_STATUS_STORE_STATE : Fld := ⟨0x400B0004, 13, 12⟩
def NVMC_STATUS_VALID_SLOT : Fld := ⟨0x400B0004, 11, 11⟩
def NVMC_STATUS_REC_WRITING : Fld := ⟨0x400B0004, 10, 10⟩
def NVMC_STATUS_REC_CAPTURE : Fld := ⟨0x400B0004, 9, 9⟩
def NVMC_STATUS_INHIBIT : Fld := ⟨0x400B0004, 8, 8⟩
def NVMC_STATUS_BUSY : Fld := ⟨0x400B0004, 0, 0⟩
def NVMC_ERR_ECC2 : Fld := ⟨0x400B0008, 3, 3⟩
def NVMC_ERR_WFAIL : Fld := ⟨0x400B0008, 2, 2⟩
def NVMC_ERR_PROT : Fld := ⟨0x400B0008, 1, 1⟩
def NVMC_ERR_RANGE : Fld := ⟨0x400B0008, 0, 0⟩
def NVMC_ADDR_WORD : Fld := ⟨0x400B000C, 25, 2⟩
def NVMC_DATA_DATA : Fld := ⟨0x400B0010, 31, 0⟩
def NVMC_WREN_CUST : Fld := ⟨0x400B0014, 5, 5⟩
def NVMC_WREN_TABLE : Fld := ⟨0x400B0014, 4, 4⟩
def NVMC_WREN_PARAM : Fld := ⟨0x400B0014, 3, 3⟩
def NVMC_WREN_PATCH : Fld := ⟨0x400B0014, 2, 2⟩
def NVMC_WREN_BANK : Fld := ⟨0x400B0014, 1, 0⟩
def NVMC_COMMIT_SLOT : Fld := ⟨0x400B0018, 8, 8⟩
def NVMC_COMMIT_INVALIDATE : Fld := ⟨0x400B0018, 1, 1⟩
def NVMC_COMMIT_GO : Fld := ⟨0x400B0018, 0, 0⟩
def NVMC_GEN_GEN : Fld := ⟨0x400B001C, 31, 0⟩
def NVMC_GEN_NEXT_GEN : Fld := ⟨0x400B0020, 31, 0⟩
def NVMC_REC_PIN_MAX : Fld := ⟨0x400B0024, 30, 24⟩
def NVMC_REC_PRE : Fld := ⟨0x400B0024, 21, 12⟩
def NVMC_REC_AUTO_PIN : Fld := ⟨0x400B0024, 10, 8⟩
def NVMC_REC_CLASS : Fld := ⟨0x400B0024, 6, 4⟩
def NVMC_REC_ENABLE : Fld := ⟨0x400B0024, 0, 0⟩
def NVMC_REC_STATUS_NEWEST : Fld := ⟨0x400B0028, 24, 16⟩
def NVMC_REC_STATUS_VALID_COUNT : Fld := ⟨0x400B0028, 8, 0⟩
def NVMC_ECC_ECC2_COUNT : Fld := ⟨0x400B002C, 31, 16⟩
def NVMC_ECC_ECC1_COUNT : Fld := ⟨0x400B002C, 15, 0⟩
def SYS_ID_PART : Fld := ⟨0x40000000, 31, 16⟩
def SYS_ID_STEP : Fld := ⟨0x40000000, 15, 8⟩
def SYS_ERR_RANGE : Fld := ⟨0x40000004, 0, 0⟩
def SYS_RST_CAUSE_STATE : Fld := ⟨0x40000008, 7, 7⟩
def SYS_RST_CAUSE_CLOCK : Fld := ⟨0x40000008, 6, 6⟩
def SYS_RST_CAUSE_KEEPER : Fld := ⟨0x40000008, 5, 5⟩
def SYS_RST_CAUSE_WARM : Fld := ⟨0x40000008, 4, 4⟩
def SYS_RST_CAUSE_PIN : Fld := ⟨0x40000008, 3, 3⟩
def SYS_RST_CAUSE_WAKE : Fld := ⟨0x40000008, 2, 2⟩
def SYS_RST_CAUSE_BROWNOUT : Fld := ⟨0x40000008, 1, 1⟩
def SYS_RST_CAUSE_POR : Fld := ⟨0x40000008, 0, 0⟩
def SYS_RST_CTRL_SCOPE : Fld := ⟨0x4000000C, 8, 8⟩
def SYS_RST_CTRL_PILOT_HOLD : Fld := ⟨0x4000000C, 1, 1⟩
def SYS_RST_CTRL_WARM : Fld := ⟨0x4000000C, 0, 0⟩
def SYS_BLK_RST_REQ : Fld := ⟨0x40000010, 31, 31⟩
def SYS_BLK_RST_BLOCK : Fld := ⟨0x40000010, 7, 0⟩
def SYS_BLK_STATUS_LAST : Fld := ⟨0x40000014, 31, 24⟩
def SYS_BLK_STATUS_RST_REFUSED : Fld := ⟨0x40000014, 2, 2⟩
def SYS_BLK_STATUS_DONE : Fld := ⟨0x40000014, 1, 1⟩
def SYS_BLK_STATUS_BUSY : Fld := ⟨0x40000014, 0, 0⟩
def SYS_CLK_STATUS_LOST : Fld := ⟨0x40000018, 21, 16⟩
def SYS_CLK_STATUS_OSC_FAIL : Fld := ⟨0x40000018, 8, 8⟩
def SYS_CLK_STATUS_CLK_OK : Fld := ⟨0x40000018, 5, 0⟩
def SYS_PWR_STATUS_INHIBIT : Fld := ⟨0x4000001C, 8, 8⟩
def SYS_PWR_STATUS_IN_RANGE : Fld := ⟨0x4000001C, 4, 0⟩
def SYS_STANDBY_ENTER : Fld := ⟨0x40000020, 0, 0⟩
def SYS_THERM_CFG_DERATE_MIN : Fld := ⟨0x40000024, 31, 25⟩
def SYS_THERM_CFG_DERATE : Fld := ⟨0x40000024, 21, 11⟩
def SYS_THERM_CFG_WARN : Fld := ⟨0x40000024, 10, 0⟩
def SYS_THERM_STATUS_TJ : Fld := ⟨0x40000028, 31, 16⟩
def SYS_THERM_STATUS_FACTOR : Fld := ⟨0x40000028, 15, 8⟩
def SYS_THERM_STATUS_XCHK : Fld := ⟨0x40000028, 4, 4⟩
def SYS_THERM_STATUS_SHUT : Fld := ⟨0x40000028, 3, 3⟩
def SYS_THERM_STATUS_DERATE : Fld := ⟨0x40000028, 2, 2⟩
def SYS_THERM_STATUS_WARN : Fld := ⟨0x40000028, 1, 1⟩
def SYS_THERM_STATUS_CHANGED : Fld := ⟨0x40000028, 0, 0⟩
def SYS_TEMP_ODD : Fld := ⟨0x40000030, 31, 16⟩
def SYS_TEMP_EVEN : Fld := ⟨0x40000030, 15, 0⟩
def SYS_WDG_CHAL_VALUE : Fld := ⟨0x40000040, 31, 0⟩
def SYS_WDG_ANS_VALUE : Fld := ⟨0x40000044, 31, 0⟩
def SYS_WDG_STATUS_ANSWERED : Fld := ⟨0x40000048, 1, 1⟩
def SYS_WDG_STATUS_EARLY : Fld := ⟨0x40000048, 0, 0⟩
def SYS_IRQ_STATUS_LEVEL : Fld := ⟨0x40000050, 31, 0⟩
def SYS_IRQ_ROUTE_K_ROUTE : Fld := ⟨0x40000054, 31, 0⟩
def SYS_IRQ_EN_P_EN : Fld := ⟨0x40000058, 31, 0⟩
def SYS_IRQ_SOFT_FLAG : Fld := ⟨0x40000068, 0, 0⟩
def SYS_WEIR_START_MV : Fld := ⟨0x40000080, 20, 0⟩
def SYS_WEIR_FULL_MV : Fld := ⟨0x40000084, 20, 0⟩
def SYS_WEIR_CHOP_ON_MV : Fld := ⟨0x40000088, 20, 0⟩
def SYS_WEIR_CHOP_OFF_MV : Fld := ⟨0x4000008C, 20, 0⟩
def SYS_WEIR_OV2_MV : Fld := ⟨0x40000090, 20, 0⟩
def SYS_WEIR_CHOP0_CHECK : Fld := ⟨0x40000094, 31, 16⟩
def SYS_WEIR_CHOP0_MIN : Fld := ⟨0x40000094, 9, 0⟩
def SYS_WEIR_CHOP1_LANE : Fld := ⟨0x40000098, 31, 28⟩
def SYS_WEIR_CHOP1_DROP : Fld := ⟨0x40000098, 16, 0⟩
def SYS_WEIR_STATUS_CHOP_FAULTY : Fld := ⟨0x4000009C, 1, 1⟩
def SYS_WEIR_STATUS_CHOP_ON : Fld := ⟨0x4000009C, 0, 0⟩
def SYS_BKP_DATA : Fld := ⟨0x40000100, 31, 0⟩
def CAN_SEL_CAN : Fld := ⟨0x40070000, 1, 0⟩
def MB_SEL_MB : Fld := ⟨0x40070004, 5, 0⟩
def CAN_ERR_RANGE : Fld := ⟨0x40070008, 0, 0⟩
def CAN_CTRL_RECOVER : Fld := ⟨0x40070100, 9, 9⟩
def CAN_CTRL_BUSOFF_AUTO : Fld := ⟨0x40070100, 8, 8⟩
def CAN_CTRL_XL_EN : Fld := ⟨0x40070100, 5, 5⟩
def CAN_CTRL_FD_EN : Fld := ⟨0x40070100, 4, 4⟩
def CAN_CTRL_MODE : Fld := ⟨0x40070100, 2, 1⟩
def CAN_CTRL_INIT : Fld := ⟨0x40070100, 0, 0⟩
def CAN_STATUS_CONF : Fld := ⟨0x40070104, 5, 4⟩
def CAN_STATUS_IDLE : Fld := ⟨0x40070104, 3, 3⟩
def CAN_STATUS_TXING : Fld := ⟨0x40070104, 2, 2⟩
def CAN_STATUS_RXING : Fld := ⟨0x40070104, 1, 1⟩
def CAN_STATUS_SYNC : Fld := ⟨0x40070104, 0, 0⟩
def CAN_NBT_SJW : Fld := ⟨0x40070108, 31, 25⟩
def CAN_NBT_TSEG2 : Fld := ⟨0x40070108, 24, 18⟩
def CAN_NBT_TSEG1 : Fld := ⟨0x40070108, 17, 10⟩
def CAN_NBT_BRP : Fld := ⟨0x40070108, 4, 0⟩
def CAN_DBT_SJW : Fld := ⟨0x4007010C, 31, 28⟩
def CAN_DBT_TSEG2 : Fld := ⟨0x4007010C, 27, 24⟩
def CAN_DBT_TSEG1 : Fld := ⟨0x4007010C, 20, 16⟩
def CAN_DBT_BRP : Fld := ⟨0x4007010C, 4, 0⟩
def CAN_XBT_SJW : Fld := ⟨0x40070110, 31, 28⟩
def CAN_XBT_TSEG2 : Fld := ⟨0x40070110, 27, 24⟩
def CAN_XBT_TSEG1 : Fld := ⟨0x40070110, 20, 16⟩
def CAN_XBT_BRP : Fld := ⟨0x40070110, 4, 0⟩
def CAN_TDC_EN : Fld := ⟨0x40070114, 16, 16⟩
def CAN_TDC_MEAS : Fld := ⟨0x40070114, 14, 8⟩
def CAN_TDC_OFFSET : Fld := ⟨0x40070114, 6, 0⟩
def CAN_ECR_REC : Fld := ⟨0x40070118, 24, 16⟩
def CAN_ECR_TEC : Fld := ⟨0x40070118, 8, 0⟩
def CAN_IRQ_ABORTED : Fld := ⟨0x4007011C, 7, 7⟩
def CAN_IRQ_RX_LONG : Fld := ⟨0x4007011C, 6, 6⟩
def CAN_IRQ_OVERRUN : Fld := ⟨0x4007011C, 5, 5⟩
def CAN_IRQ_BUS_OFF : Fld := ⟨0x4007011C, 4, 4⟩
def CAN_IRQ_CONF_CHG : Fld := ⟨0x4007011C, 3, 3⟩
def CAN_IRQ_CANCELLED : Fld := ⟨0x4007011C, 2, 2⟩
def CAN_IRQ_TX_DONE : Fld := ⟨0x4007011C, 1, 1⟩
def CAN_IRQ_RX : Fld := ⟨0x4007011C, 0, 0⟩
def CAN_IRQ_EN_ABORTED : Fld := ⟨0x40070120, 7, 7⟩
def CAN_IRQ_EN_RX_LONG : Fld := ⟨0x40070120, 6, 6⟩
def CAN_IRQ_EN_OVERRUN : Fld := ⟨0x40070120, 5, 5⟩
def CAN_IRQ_EN_BUS_OFF : Fld := ⟨0x40070120, 4, 4⟩
def CAN_IRQ_EN_CONF_CHG : Fld := ⟨0x40070120, 3, 3⟩
def CAN_IRQ_EN_CANCELLED : Fld := ⟨0x40070120, 2, 2⟩
def CAN_IRQ_EN_TX_DONE : Fld := ⟨0x40070120, 1, 1⟩
def CAN_IRQ_EN_RX : Fld := ⟨0x40070120, 0, 0⟩
def CAN_TXPEND_LO_MAP : Fld := ⟨0x40070124, 31, 0⟩
def CAN_TXPEND_HI_MAP : Fld := ⟨0x40070128, 31, 0⟩
def CAN_RXFULL_LO_MAP : Fld := ⟨0x4007012C, 31, 0⟩
def CAN_RXFULL_HI_MAP : Fld := ⟨0x40070130, 31, 0⟩
def MB_CFG_ONESHOT : Fld := ⟨0x40070200, 3, 3⟩
def MB_CFG_DIR : Fld := ⟨0x40070200, 1, 0⟩
def MB_ID_ID : Fld := ⟨0x40070204, 28, 0⟩
def MB_MASK_MASK : Fld := ⟨0x40070208, 28, 0⟩
def MB_FMT_ANY : Fld := ⟨0x4007020C, 19, 19⟩
def MB_FMT_SEC : Fld := ⟨0x4007020C, 18, 18⟩
def MB_FMT_RTR : Fld := ⟨0x4007020C, 17, 17⟩
def MB_FMT_ESI : Fld := ⟨0x4007020C, 16, 16⟩
def MB_FMT_BRS : Fld := ⟨0x4007020C, 15, 15⟩
def MB_FMT_IDE : Fld := ⟨0x4007020C, 14, 14⟩
def MB_FMT_FMT : Fld := ⟨0x4007020C, 13, 12⟩
def MB_FMT_LEN : Fld := ⟨0x4007020C, 8, 0⟩
def MB_XL_SDT : Fld := ⟨0x40070210, 15, 8⟩
def MB_XL_VCID : Fld := ⟨0x40070210, 7, 0⟩
def MB_AF_AF : Fld := ⟨0x40070214, 31, 0⟩
def MB_STAMP_STAMP : Fld := ⟨0x40070218, 31, 0⟩
def MB_CMD_RELEASE : Fld := ⟨0x4007021C, 2, 2⟩
def MB_CMD_CANCEL : Fld := ⟨0x4007021C, 1, 1⟩
def MB_CMD_REQ : Fld := ⟨0x4007021C, 0, 0⟩
def MB_STATUS_OVERRUN : Fld := ⟨0x40070220, 5, 5⟩
def MB_STATUS_SHADOW : Fld := ⟨0x40070220, 4, 4⟩
def MB_STATUS_CANCEL_LATE : Fld := ⟨0x40070220, 3, 3⟩
def MB_STATUS_STATE : Fld := ⟨0x40070220, 2, 0⟩
def MB_DATA_DATA : Fld := ⟨0x40070300, 31, 0⟩
def CRC_SEL_UNIT : Fld := ⟨0x40080000, 1, 0⟩
def CRC_ERR_RANGE : Fld := ⟨0x40080004, 0, 0⟩
def CRC_DONE_DONE : Fld := ⟨0x40080008, 3, 0⟩
def CRC_CFG_XOROUT : Fld := ⟨0x40080100, 6, 6⟩
def CRC_CFG_INIT_ONES : Fld := ⟨0x40080100, 5, 5⟩
def CRC_CFG_REFLECT : Fld := ⟨0x40080100, 4, 4⟩
def CRC_CFG_POLY : Fld := ⟨0x40080100, 2, 0⟩
def CRC_CTX_CTX : Fld := ⟨0x40080104, 31, 0⟩
def CRC_START_START : Fld := ⟨0x40080108, 0, 0⟩
def CRC_COUNT_EN : Fld := ⟨0x4008010C, 31, 31⟩
def CRC_COUNT_COUNT : Fld := ⟨0x4008010C, 23, 0⟩
def CRC_DATA_DATA : Fld := ⟨0x40080110, 31, 0⟩
def CRC_VAL_LO_VALUE : Fld := ⟨0x40080114, 31, 0⟩
def CRC_VAL_HI_VALUE : Fld := ⟨0x40080118, 31, 0⟩
def CRC_RES_LO_VALUE : Fld := ⟨0x4008011C, 31, 0⟩
def CRC_RES_HI_VALUE : Fld := ⟨0x40080120, 31, 0⟩
def CNT_SEL_CNT : Fld := ⟨0x40090000, 4, 0⟩
def EVC_ERR_RANGE : Fld := ⟨0x40090004, 0, 0⟩
def EVC_SNAP_SNAPPED : Fld := ⟨0x40090008, 1, 1⟩
def EVC_SNAP_SNAP : Fld := ⟨0x40090008, 0, 0⟩
def EVC_FROZEN_FROZEN : Fld := ⟨0x4009000C, 31, 0⟩
def CNT_CFG_FREEZE : Fld := ⟨0x40090100, 8, 8⟩
def CNT_CFG_SRC : Fld := ⟨0x40090100, 7, 0⟩
def CNT_CMD_CLEAR : Fld := ⟨0x40090104, 0, 0⟩
def CNT_VAL_LO_VALUE : Fld := ⟨0x40090108, 31, 0⟩
def CNT_SNAP_LO_VALUE : Fld := ⟨0x40090110, 31, 0⟩
def CNT_VAL_HI_SAT : Fld := ⟨0x4009010C, 17, 17⟩
def CNT_VAL_HI_FROZEN : Fld := ⟨0x4009010C, 16, 16⟩
def CNT_VAL_HI_VALUE : Fld := ⟨0x4009010C, 15, 0⟩
def CNT_SNAP_HI_SAT : Fld := ⟨0x40090114, 17, 17⟩
def CNT_SNAP_HI_FROZEN : Fld := ⟨0x40090114, 16, 16⟩
def CNT_SNAP_HI_VALUE : Fld := ⟨0x40090114, 15, 0⟩

end F

/-- The registers of the SYS window. -/
def regsSys : List RegDef :=
  [
    ⟨0x40000000, 1, 0, .blk, [⟨31, 16, .ro, 4644, 0, 65535⟩, ⟨15, 8, .ro, 176, 0, 255⟩]⟩,
    ⟨0x40000004, 1, 0, .blk, [⟨0, 0, .w1c, 0, 0, 1⟩]⟩,
    ⟨0x40000008, 1, 0, .blk, [⟨7, 7, .w1c, 0, 0, 1⟩, ⟨6, 6, .w1c, 0, 0, 1⟩, ⟨5, 5, .w1c, 0, 0, 1⟩, ⟨4, 4, .w1c, 0, 0, 1⟩, ⟨3, 3, .w1c, 0, 0, 1⟩, ⟨2, 2, .w1c, 0, 0, 1⟩, ⟨1, 1, .w1c, 0, 0, 1⟩, ⟨0, 0, .w1c, 1, 0, 1⟩]⟩,
    ⟨0x4000000C, 1, 0, .blk, [⟨8, 8, .rwg, 0, 0, 1⟩, ⟨1, 1, .rwg, 1, 0, 1⟩, ⟨0, 0, .rwg, 0, 0, 1⟩]⟩,
    ⟨0x40000010, 1, 0, .blk, [⟨31, 31, .wo, 0, 0, 1⟩, ⟨7, 0, .rw, 0, 0, 27⟩]⟩,
    ⟨0x40000014, 1, 0, .blk, [⟨31, 24, .ro, 0, 0, 255⟩, ⟨2, 2, .w1c, 0, 0, 1⟩, ⟨1, 1, .w1c, 0, 0, 1⟩, ⟨0, 0, .ro, 0, 0, 1⟩]⟩,
    ⟨0x40000018, 1, 0, .blk, [⟨21, 16, .w1c, 0, 0, 63⟩, ⟨8, 8, .ro, 0, 0, 1⟩, ⟨5, 0, .ro, 0, 0, 63⟩]⟩,
    ⟨0x4000001C, 1, 0, .blk, [⟨8, 8, .ro, 0, 0, 1⟩, ⟨4, 0, .ro, 31, 0, 31⟩]⟩,
    ⟨0x40000020, 1, 0, .blk, [⟨0, 0, .rwg, 0, 0, 1⟩]⟩,
    ⟨0x40000024, 1, 0, .blk, [⟨31, 25, .rwg, 50, 0, 127⟩, ⟨21, 11, .rwg, 1600, 0, 2047⟩, ⟨10, 0, .rwg, 1500, 0, 2047⟩]⟩,
    ⟨0x40000028, 1, 0, .blk, [⟨31, 16, .ro, 0, 0, 65535⟩, ⟨15, 8, .ro, 100, 0, 255⟩, ⟨4, 4, .w1c, 0, 0, 1⟩, ⟨3, 3, .ro, 0, 0, 1⟩, ⟨2, 2, .ro, 0, 0, 1⟩, ⟨1, 1, .ro, 0, 0, 1⟩, ⟨0, 0, .w1c, 0, 0, 1⟩]⟩,
    ⟨0x40000030, 4, 4, .blk, [⟨31, 16, .ro, 0, 0, 65535⟩, ⟨15, 0, .ro, 0, 0, 65535⟩]⟩
  ]  ++
  [
    ⟨0x40000040, 1, 0, .blk, [⟨31, 0, .rwg, 0, 0, 4294967295⟩]⟩,
    ⟨0x40000044, 1, 0, .blk, [⟨31, 0, .rw, 0, 0, 4294967295⟩]⟩,
    ⟨0x40000048, 1, 0, .blk, [⟨1, 1, .ro, 0, 0, 1⟩, ⟨0, 0, .ro, 0, 0, 1⟩]⟩,
    ⟨0x40000050, 1, 0, .blk, [⟨31, 0, .ro, 0, 0, 4294967295⟩]⟩,
    ⟨0x40000054, 1, 0, .blk, [⟨31, 0, .rwg, 3867414209, 0, 4294967295⟩]⟩,
    ⟨0x40000058, 4, 4, .blk, [⟨31, 0, .rw, 0, 0, 4294967295⟩]⟩,
    ⟨0x40000068, 1, 0, .blk, [⟨0, 0, .rw, 0, 0, 1⟩]⟩,
    ⟨0x40000080, 1, 0, .blk, [⟨20, 0, .rwg, 850000, 0, 2097151⟩]⟩,
    ⟨0x40000084, 1, 0, .blk, [⟨20, 0, .rwg, 900000, 0, 2097151⟩]⟩,
    ⟨0x40000088, 1, 0, .blk, [⟨20, 0, .rwg, 880000, 0, 2097151⟩]⟩,
    ⟨0x4000008C, 1, 0, .blk, [⟨20, 0, .rwg, 860000, 0, 2097151⟩]⟩,
    ⟨0x40000090, 1, 0, .blk, [⟨20, 0, .rwg, 950000, 0, 2097151⟩]⟩
  ]  ++
  [
    ⟨0x40000094, 1, 0, .blk, [⟨31, 16, .rwg, 200, 0, 65535⟩, ⟨9, 0, .rwg, 20, 0, 1023⟩]⟩,
    ⟨0x40000098, 1, 0, .blk, [⟨31, 28, .rwg, 15, 0, 15⟩, ⟨16, 0, .rwg, 5000, 0, 131071⟩]⟩,
    ⟨0x4000009C, 1, 0, .blk, [⟨1, 1, .ro, 0, 0, 1⟩, ⟨0, 0, .ro, 0, 0, 1⟩]⟩,
    ⟨0x40000100, 16, 4, .blk, [⟨31, 0, .rw, 0, 0, 4294967295⟩]⟩
  ]

/-- The registers of the LOCK window. -/
def regsLock : List RegDef :=
  [
    ⟨0x40010000, 1, 0, .blk, [⟨15, 8, .ro, 16, 0, 255⟩, ⟨7, 0, .ro, 3, 0, 255⟩]⟩,
    ⟨0x40010004, 1, 0, .perMaster, [⟨3, 0, .rw, 0, 0, 15⟩]⟩,
    ⟨0x40010008, 1, 0, .blk, [⟨31, 0, .ro, 0, 0, 4294967295⟩]⟩,
    ⟨0x4001000C, 1, 0, .blk, [⟨31, 16, .ro, 0, 0, 65535⟩, ⟨15, 0, .ro, 0, 0, 65535⟩]⟩,
    ⟨0x40010010, 1, 0, .blk, [⟨3, 0, .wo, 0, 0, 15⟩]⟩,
    ⟨0x40010014, 1, 0, .blk, [⟨31, 16, .rwg, 20, 1, 1000⟩, ⟨0, 0, .rwg, 0, 0, 1⟩]⟩,
    ⟨0x40010018, 1, 0, .blk, [⟨2, 2, .w1c, 0, 0, 1⟩, ⟨1, 1, .w1c, 0, 0, 1⟩, ⟨0, 0, .w1c, 0, 0, 1⟩]⟩
  ]

/-- The registers of the LANE window. -/
def regsLane : List RegDef :=
  [
    ⟨0x40020000, 1, 0, .perMaster, [⟨3, 0, .rw, 0, 0, 11⟩]⟩,
    ⟨0x40020004, 1, 0, .blk, [⟨1, 1, .w1c, 0, 0, 1⟩, ⟨0, 0, .w1c, 0, 0, 1⟩]⟩,
    ⟨0x40020008, 1, 0, .blk, [⟨27, 16, .ro, 0, 0, 4095⟩, ⟨11, 0, .ro, 0, 0, 4095⟩]⟩,
    ⟨0x4002000C, 1, 0, .blk, [⟨17, 16, .ro, 0, 0, 3⟩, ⟨11, 8, .ro, 0, 0, 15⟩, ⟨3, 0, .ro, 0, 0, 15⟩]⟩,
    ⟨0x40020100, 1, 0, .lane, [⟨4, 4, .rw, 1, 0, 1⟩, ⟨3, 3, .rwp, 1, 0, 1⟩, ⟨2, 2, .rwp, 0, 0, 1⟩, ⟨1, 1, .rwp, 0, 0, 1⟩, ⟨0, 0, .ro, 0, 0, 1⟩]⟩,
    ⟨0x40020104, 1, 0, .lane, [⟨31, 28, .ro, 0, 0, 15⟩, ⟨27, 16, .ro, 0, 0, 4095⟩, ⟨10, 10, .ro, 0, 0, 1⟩, ⟨9, 9, .w1c, 0, 0, 1⟩, ⟨8, 8, .w1c, 0, 0, 1⟩, ⟨7, 7, .w1c, 0, 0, 1⟩, ⟨6, 6, .w1c, 0, 0, 1⟩, ⟨5, 5, .w1c, 0, 0, 1⟩, ⟨4, 4, .w1c, 0, 0, 1⟩, ⟨3, 3, .w1c, 0, 0, 1⟩, ⟨2, 2, .w1c, 0, 0, 1⟩, ⟨1, 1, .ro, 0, 0, 1⟩]⟩,
    ⟨0x40020108, 1, 0, .lane, [⟨0, 0, .rwg, 0, 0, 1⟩]⟩,
    ⟨0x4002010C, 1, 0, .lane, [⟨1, 1, .rwg, 0, 0, 1⟩, ⟨0, 0, .rwg, 0, 0, 1⟩]⟩,
    ⟨0x40020110, 1, 0, .lane, [⟨5, 4, .rwg, 0, 0, 2⟩, ⟨1, 0, .rwg, 0, 0, 3⟩]⟩,
    ⟨0x40020114, 1, 0, .lane, [⟨31, 31, .ro, 0, 0, 1⟩, ⟨26, 24, .ro, 0, 0, 7⟩, ⟨7, 7, .ro, 0, 0, 1⟩, ⟨6, 6, .ro, 0, 0, 1⟩, ⟨5, 5, .ro, 0, 0, 1⟩, ⟨4, 4, .ro, 0, 0, 1⟩, ⟨3, 3, .ro, 0, 0, 1⟩, ⟨2, 2, .ro, 0, 0, 1⟩, ⟨1, 1, .ro, 0, 0, 1⟩, ⟨0, 0, .ro, 0, 0, 1⟩]⟩,
    ⟨0x40020118, 1, 0, .lane, [⟨31, 16, .rwg, 1000, 0, 65535⟩, ⟨15, 8, .rwg, 30, 0, 255⟩, ⟨4, 0, .rwg, 8, 0, 20⟩]⟩,
    ⟨0x4002011C, 1, 0, .lane, [⟨6, 0, .rwg, 0, 0, 80⟩]⟩
  ]  ++
  [
    ⟨0x40020120, 1, 0, .lane, [⟨13, 0, .rwg, 2000, 0, 16383⟩]⟩,
    ⟨0x40020124, 1, 0, .lane, [⟨31, 16, .rwg, 1000, 0, 65535⟩, ⟨15, 0, .rwg, 7000, 0, 65535⟩]⟩,
    ⟨0x40020128, 1, 0, .lane, [⟨20, 0, .rwg, 1000000, 0, 1450000⟩]⟩,
    ⟨0x4002012C, 1, 0, .lane, [⟨31, 16, .rwg, 0, 0, 65535⟩, ⟨8, 8, .rwg, 0, 0, 1⟩, ⟨5, 0, .rwg, 8, 1, 32⟩]⟩,
    ⟨0x40020130, 1, 0, .lane, [⟨25, 16, .rwg, 100, 0, 1023⟩, ⟨2, 0, .rwg, 1, 0, 7⟩]⟩,
    ⟨0x40020134, 1, 0, .lane, [⟨31, 23, .rw, 50, 0, 511⟩, ⟨22, 14, .rw, 40, 0, 511⟩, ⟨13, 7, .rw, 5, 0, 127⟩, ⟨5, 0, .rw, 63, 0, 63⟩]⟩,
    ⟨0x40020138, 1, 0, .lane, [⟨6, 0, .rw, 0, 0, 127⟩]⟩,
    ⟨0x4002013C, 1, 0, .lane, [⟨15, 8, .rwp, 50, 0, 255⟩, ⟨5, 0, .rwp, 32, 0, 63⟩]⟩,
    ⟨0x40020140, 1, 0, .lane, [⟨31, 16, .ro, 0, 0, 65535⟩, ⟨15, 0, .ro, 0, 0, 65535⟩]⟩,
    ⟨0x40020144, 1, 0, .lane, [⟨31, 16, .ro, 0, 0, 65535⟩, ⟨15, 0, .ro, 0, 0, 65535⟩]⟩,
    ⟨0x40020148, 1, 0, .lane, [⟨31, 16, .ro, 0, 0, 65535⟩, ⟨15, 0, .ro, 0, 0, 65535⟩]⟩,
    ⟨0x4002014C, 1, 0, .lane, [⟨12, 8, .w1c, 0, 0, 31⟩, ⟨4, 0, .ro, 0, 0, 31⟩]⟩
  ]  ++
  [
    ⟨0x40020150, 1, 0, .lane, [⟨31, 31, .rw, 0, 0, 1⟩, ⟨30, 30, .wo, 0, 0, 1⟩, ⟨20, 16, .rw, 16, 0, 31⟩, ⟨15, 8, .rw, 0, 0, 255⟩, ⟨7, 5, .rw, 1, 0, 5⟩, ⟨4, 4, .rw, 0, 0, 1⟩, ⟨2, 0, .rw, 0, 0, 7⟩]⟩,
    ⟨0x40020154, 1, 0, .lane, [⟨2, 2, .ro, 0, 0, 1⟩, ⟨1, 1, .ro, 0, 0, 1⟩, ⟨0, 0, .ro, 0, 0, 1⟩]⟩,
    ⟨0x40020158, 1, 0, .lane, [⟨31, 0, .ro, 0, 0, 4294967295⟩]⟩,
    ⟨0x4002015C, 1, 0, .lane, [⟨13, 0, .rw, 0, 0, 16383⟩]⟩,
    ⟨0x40020160, 1, 0, .lane, [⟨15, 0, .ro, 0, 0, 65535⟩]⟩,
    ⟨0x40020164, 1, 0, .lane, [⟨7, 0, .ro, 0, 0, 255⟩]⟩,
    ⟨0x40020168, 1, 0, .lane, [⟨20, 0, .rwg, 950000, 0, 2097151⟩]⟩
  ]

/-- The registers of the MOD window. -/
def regsMod : List RegDef :=
  [
    ⟨0x40030000, 1, 0, .perMaster, [⟨0, 0, .rw, 0, 0, 1⟩]⟩,
    ⟨0x40030004, 1, 0, .blk, [⟨0, 0, .w1c, 0, 0, 1⟩]⟩,
    ⟨0x40030008, 1, 0, .blk, [⟨13, 8, .ro, 0, 0, 63⟩, ⟨5, 0, .ro, 0, 0, 63⟩]⟩,
    ⟨0x40030100, 1, 0, .modBridge, [⟨14, 12, .rwp, 0, 0, 7⟩, ⟨10, 8, .rwp, 0, 0, 7⟩, ⟨3, 3, .rw, 0, 0, 1⟩, ⟨2, 2, .rwp, 0, 0, 1⟩, ⟨1, 1, .rwg, 0, 0, 1⟩, ⟨0, 0, .rwp, 0, 0, 1⟩]⟩,
    ⟨0x40030104, 1, 0, .modBridge, [⟨31, 28, .ro, 0, 0, 15⟩, ⟨27, 24, .ro, 0, 0, 15⟩, ⟨16, 16, .ro, 0, 0, 1⟩, ⟨7, 7, .w1c, 0, 0, 1⟩, ⟨6, 6, .w1c, 0, 0, 1⟩, ⟨5, 5, .w1c, 0, 0, 1⟩, ⟨4, 4, .w1c, 0, 0, 1⟩, ⟨3, 3, .w1c, 0, 0, 1⟩, ⟨2, 2, .w1c, 0, 0, 1⟩]⟩,
    ⟨0x40030108, 1, 0, .modBridge, [⟨16, 0, .rwp, 20000, 2000, 100000⟩]⟩,
    ⟨0x4003010C, 1, 0, .modBridge, [⟨31, 16, .rwp, 400, 10, 2000⟩, ⟨15, 0, .rwp, 100, 10, 2000⟩]⟩,
    ⟨0x40030110, 1, 0, .modBridge, [⟨10, 0, .rwp, 80, 0, 2000⟩]⟩,
    ⟨0x40030114, 1, 0, .modBridge, [⟨31, 16, .rwp, 2000, 100, 10000⟩, ⟨11, 0, .rwp, 800, 200, 4000⟩]⟩,
    ⟨0x40030118, 1, 0, .modBridge, [⟨25, 24, .rwp, 0, 0, 3⟩, ⟨21, 12, .rw, 550, 0, 1023⟩, ⟨9, 0, .rw, 600, 0, 1023⟩]⟩,
    ⟨0x4003011C, 1, 0, .modBridge, [⟨17, 17, .rwp, 0, 0, 1⟩, ⟨16, 16, .rwp, 1, 0, 1⟩, ⟨9, 0, .rw, 990, 950, 1000⟩]⟩,
    ⟨0x40030120, 1, 0, .modBridge, [⟨27, 16, .rw, 0, 0, 3000⟩, ⟨11, 0, .rw, 0, 0, 3000⟩]⟩
  ]  ++
  [
    ⟨0x40030124, 1, 0, .modBridge, [⟨31, 24, .rwp, 0, 0, 255⟩, ⟨16, 0, .rw, 10000, 1000, 100000⟩]⟩,
    ⟨0x40030140, 1, 0, .modBridge, [⟨17, 0, .rw, 20000, 4000, 200000⟩]⟩,
    ⟨0x40030154, 1, 0, .modBridge, [⟨17, 0, .ro, 20000, 0, 262143⟩]⟩,
    ⟨0x40030144, 3, 4, .modBridge, [⟨22, 5, .rw, 0, 0, 200000⟩, ⟨4, 0, .rw, 0, 0, 31⟩]⟩,
    ⟨0x40030158, 3, 4, .modBridge, [⟨22, 5, .ro, 0, 0, 262143⟩, ⟨4, 0, .ro, 0, 0, 31⟩]⟩,
    ⟨0x40030150, 1, 0, .modBridge, [⟨0, 0, .wo, 0, 0, 1⟩]⟩,
    ⟨0x40030164, 1, 0, .modBridge, [⟨31, 0, .ro, 0, 0, 4294967295⟩]⟩,
    ⟨0x40030170, 3, 4, .modBridge, [⟨31, 16, .ro, 0, 0, 65535⟩, ⟨15, 0, .ro, 0, 0, 65535⟩]⟩
  ]

/-- The registers of the FLT window. -/
def regsFlt : List RegDef :=
  [
    ⟨0x40040000, 1, 0, .perMaster, [⟨0, 0, .rw, 0, 0, 1⟩]⟩,
    ⟨0x40040004, 1, 0, .blk, [⟨0, 0, .w1c, 0, 0, 1⟩]⟩,
    ⟨0x40040008, 1, 0, .perMaster, [⟨0, 0, .rw, 0, 0, 1⟩]⟩,
    ⟨0x4004000C, 1, 0, .perMaster, [⟨3, 0, .rw, 0, 0, 15⟩]⟩,
    ⟨0x40040040, 14, 4, .blk, [⟨31, 0, .rwp, 0, 0, 4294967295⟩]⟩,
    ⟨0x40040100, 1, 0, .fltBridge, [⟨11, 8, .rw, 8, 1, 8⟩, ⟨2, 2, .rw, 0, 0, 1⟩, ⟨1, 1, .rwg, 0, 0, 1⟩, ⟨0, 0, .rwg, 0, 0, 1⟩]⟩,
    ⟨0x40040104, 1, 0, .fltBridge, [⟨15, 12, .ro, 0, 0, 15⟩, ⟨11, 11, .ro, 0, 0, 1⟩, ⟨10, 10, .ro, 0, 0, 1⟩, ⟨9, 9, .ro, 0, 0, 1⟩, ⟨7, 7, .w1c, 0, 0, 1⟩, ⟨6, 6, .w1c, 0, 0, 1⟩, ⟨5, 5, .w1c, 0, 0, 1⟩, ⟨4, 4, .w1c, 0, 0, 1⟩, ⟨3, 3, .w1c, 0, 0, 1⟩, ⟨2, 2, .w1c, 0, 0, 1⟩, ⟨1, 1, .w1c, 0, 0, 1⟩, ⟨0, 0, .w1c, 0, 0, 1⟩]⟩,
    ⟨0x40040108, 1, 0, .fltBridge, [⟨31, 0, .ro, 0, 0, 4294967295⟩]⟩,
    ⟨0x4004010C, 1, 0, .fltBridge, [⟨9, 0, .rw, 600, 400, 1000⟩]⟩,
    ⟨0x40040110, 1, 0, .fltBridge, [⟨19, 0, .rw, 10000, 100, 500000⟩]⟩,
    ⟨0x40040114, 1, 0, .fltBridge, [⟨13, 0, .rw, 364, 1, 8192⟩]⟩,
    ⟨0x40040118, 1, 0, .fltBridge, [⟨31, 16, .rw, 256, 16, 65535⟩, ⟨15, 8, .rw, 32, 8, 255⟩, ⟨7, 0, .rw, 6, 1, 32⟩]⟩
  ]  ++
  [
    ⟨0x4004011C, 1, 0, .fltBridge, [⟨31, 0, .rw, 0, 0, 4294967295⟩]⟩,
    ⟨0x40040120, 1, 0, .fltBridge, [⟨31, 0, .rw, 0, 0, 4294967295⟩]⟩,
    ⟨0x40040124, 1, 0, .fltBridge, [⟨30, 0, .rwg, 0, 0, 2147483647⟩]⟩,
    ⟨0x40040128, 1, 0, .fltBridge, [⟨30, 0, .rwg, 0, 0, 2147483647⟩]⟩,
    ⟨0x4004012C, 1, 0, .fltBridge, [⟨30, 0, .rwg, 0, 0, 2147483647⟩]⟩,
    ⟨0x40040130, 1, 0, .fltBridge, [⟨30, 0, .ro, 2147483647, 0, 2147483647⟩]⟩,
    ⟨0x40040134, 1, 0, .fltBridge, [⟨31, 0, .ro, 0, 0, 4294967295⟩]⟩,
    ⟨0x40040138, 1, 0, .fltBridge, [⟨31, 0, .ro, 0, 0, 4294967295⟩]⟩,
    ⟨0x4004013C, 1, 0, .fltBridge, [⟨31, 0, .ro, 0, 0, 4294967295⟩]⟩,
    ⟨0x40040140, 1, 0, .fltBridge, [⟨31, 0, .ro, 0, 0, 4294967295⟩]⟩,
    ⟨0x40040144, 1, 0, .fltBridge, [⟨31, 0, .ro, 0, 0, 4294967295⟩]⟩,
    ⟨0x40040148, 1, 0, .fltBridge, [⟨16, 16, .rw, 1, 0, 1⟩, ⟨12, 0, .rw, 500, 10, 5000⟩]⟩
  ]  ++
  [
    ⟨0x4004014C, 1, 0, .fltBridge, [⟨19, 0, .rwp, 10000, 10, 1000000⟩]⟩,
    ⟨0x40040150, 1, 0, .fltBridge, [⟨31, 0, .ro, 0, 0, 4294967295⟩]⟩,
    ⟨0x40040154, 1, 0, .fltBridge, [⟨31, 0, .ro, 0, 0, 4294967295⟩]⟩,
    ⟨0x40040158, 1, 0, .fltBridge, [⟨31, 0, .ro, 0, 0, 4294967295⟩]⟩,
    ⟨0x4004015C, 1, 0, .fltBridge, [⟨15, 0, .ro, 0, 0, 65535⟩]⟩,
    ⟨0x40040180, 1, 0, .fltBridge, [⟨31, 31, .ro, 0, 0, 1⟩, ⟨23, 0, .ro, 0, 0, 16777215⟩]⟩,
    ⟨0x40040184, 1, 0, .fltBridge, [⟨31, 4, .ro, 0, 0, 268435455⟩, ⟨1, 0, .ro, 3, 0, 3⟩]⟩,
    ⟨0x40040188, 1, 0, .fltBridge, [⟨31, 0, .ro, 0, 0, 4294967295⟩]⟩,
    ⟨0x4004018C, 1, 0, .fltBridge, [⟨31, 0, .ro, 0, 0, 4294967295⟩]⟩,
    ⟨0x40040190, 1, 0, .fltBridge, [⟨31, 0, .ro, 0, 0, 4294967295⟩]⟩,
    ⟨0x40040194, 1, 0, .fltBridge, [⟨31, 0, .ro, 0, 0, 4294967295⟩]⟩
  ]

/-- The registers of the CONV window. -/
def regsConv : List RegDef :=
  [
    ⟨0x40050000, 1, 0, .perMaster, [⟨3, 0, .rw, 0, 0, 14⟩]⟩,
    ⟨0x40050004, 1, 0, .blk, [⟨0, 0, .w1c, 0, 0, 1⟩]⟩,
    ⟨0x40050008, 1, 0, .blk, [⟨14, 0, .w1c, 0, 0, 32767⟩]⟩,
    ⟨0x40050010, 11, 4, .blk, [⟨31, 0, .ro, 0, 0, 4294967295⟩]⟩,
    ⟨0x4005001C, 2, 32, .blk, [⟨31, 16, .ro, 0, 0, 65535⟩, ⟨10, 10, .ro, 0, 0, 1⟩, ⟨8, 6, .ro, 0, 0, 7⟩, ⟨2, 0, .ro, 0, 0, 7⟩]⟩,
    ⟨0x40050020, 2, 32, .blk, [⟨31, 0, .ro, 0, 0, 4294967295⟩]⟩,
    ⟨0x40050100, 1, 0, .conv, [⟨11, 8, .rwp, 0, 0, 15⟩, ⟨0, 0, .rw, 0, 0, 1⟩]⟩,
    ⟨0x40050104, 1, 0, .conv, [⟨7, 7, .ro, 1, 0, 1⟩, ⟨6, 6, .ro, 0, 0, 1⟩, ⟨3, 3, .w1c, 0, 0, 1⟩, ⟨2, 2, .w1c, 0, 0, 1⟩, ⟨1, 1, .w1c, 0, 0, 1⟩, ⟨0, 0, .w1c, 0, 0, 1⟩]⟩,
    ⟨0x40050108, 1, 0, .conv, [⟨15, 0, .ro, 0, 0, 65535⟩]⟩,
    ⟨0x4005010C, 1, 0, .conv, [⟨15, 0, .ro, 0, 0, 65535⟩]⟩,
    ⟨0x40050110, 1, 0, .conv, [⟨31, 0, .ro, 0, 0, 4294967295⟩]⟩,
    ⟨0x40050140, 16, 4, .conv, [⟨31, 0, .rwp, 4096, 0, 4294967295⟩]⟩
  ]  ++
  [
    ⟨0x40050180, 16, 4, .conv, [⟨31, 31, .ro, 0, 0, 1⟩, ⟨30, 30, .ro, 0, 0, 1⟩, ⟨29, 29, .ro, 0, 0, 1⟩, ⟨24, 16, .ro, 0, 0, 511⟩, ⟨15, 0, .ro, 0, 0, 65535⟩]⟩
  ]

/-- The registers of the POS window. -/
def regsPos : List RegDef :=
  [
    ⟨0x40060000, 1, 0, .perMaster, [⟨1, 0, .rw, 0, 0, 3⟩]⟩,
    ⟨0x40060004, 1, 0, .blk, [⟨0, 0, .w1c, 0, 0, 1⟩]⟩,
    ⟨0x40060008, 1, 0, .blk, [⟨8, 8, .rwp, 0, 0, 1⟩, ⟨7, 4, .rwp, 15, 0, 15⟩, ⟨3, 0, .rwp, 15, 0, 15⟩]⟩,
    ⟨0x40060040, 2, 64, .blk, [⟨11, 8, .rwp, 15, 0, 15⟩, ⟨7, 4, .rwp, 0, 0, 4⟩, ⟨3, 3, .rwp, 0, 0, 1⟩, ⟨2, 2, .rwp, 0, 0, 1⟩, ⟨0, 0, .rw, 0, 0, 1⟩]⟩,
    ⟨0x40060044, 2, 64, .blk, [⟨15, 12, .ro, 15, 0, 15⟩, ⟨11, 11, .ro, 1, 0, 1⟩, ⟨10, 8, .ro, 2, 0, 7⟩, ⟨7, 7, .ro, 0, 0, 1⟩, ⟨6, 6, .ro, 0, 0, 1⟩, ⟨5, 5, .w1c, 0, 0, 1⟩, ⟨0, 0, .w1c, 0, 0, 1⟩]⟩,
    ⟨0x40060048, 2, 64, .blk, [⟨31, 0, .ro, 0, 0, 4294967295⟩]⟩,
    ⟨0x4006004C, 2, 64, .blk, [⟨31, 0, .ro, 0, 0, 4294967295⟩]⟩,
    ⟨0x40060050, 2, 64, .blk, [⟨15, 0, .ro, 0, 0, 65535⟩]⟩,
    ⟨0x40060054, 2, 64, .blk, [⟨31, 0, .ro, 0, 0, 4294967295⟩]⟩,
    ⟨0x40060058, 2, 64, .blk, [⟨31, 0, .ro, 0, 0, 4294967295⟩]⟩,
    ⟨0x40060100, 1, 0, .port, [⟨23, 20, .rwp, 0, 0, 5⟩, ⟨19, 16, .rwp, 1, 1, 12⟩, ⟨12, 12, .rwp, 0, 0, 1⟩, ⟨8, 8, .rwp, 0, 0, 1⟩, ⟨6, 4, .rwp, 0, 0, 6⟩, ⟨0, 0, .rw, 0, 0, 1⟩]⟩,
    ⟨0x40060104, 1, 0, .port, [⟨16, 0, .rwp, 1024, 1, 65536⟩]⟩
  ]  ++
  [
    ⟨0x40060108, 1, 0, .port, [⟨31, 0, .rw, 0, 0, 4294967295⟩]⟩,
    ⟨0x4006010C, 1, 0, .port, [⟨27, 16, .rwp, 500, 20, 4095⟩, ⟨15, 6, .rwp, 100, 10, 1000⟩, ⟨5, 5, .rwp, 0, 0, 1⟩, ⟨4, 0, .rwp, 16, 8, 31⟩]⟩,
    ⟨0x40060110, 1, 0, .port, [⟨26, 24, .ro, 2, 0, 7⟩, ⟨15, 0, .w1c, 2048, 0, 65535⟩]⟩,
    ⟨0x40060114, 1, 0, .port, [⟨31, 0, .ro, 0, 0, 4294967295⟩]⟩,
    ⟨0x40060118, 1, 0, .port, [⟨31, 0, .rw, 0, 0, 4294967295⟩]⟩,
    ⟨0x4006011C, 1, 0, .port, [⟨15, 0, .rw, 0, 0, 65535⟩]⟩,
    ⟨0x40060120, 1, 0, .port, [⟨31, 0, .ro, 0, 0, 4294967295⟩]⟩,
    ⟨0x40060124, 1, 0, .port, [⟨16, 0, .ro, 0, 0, 131071⟩]⟩,
    ⟨0x40060128, 1, 0, .port, [⟨31, 0, .ro, 0, 0, 4294967295⟩]⟩,
    ⟨0x4006012C, 1, 0, .port, [⟨30, 0, .rwp, 0, 0, 2147483647⟩]⟩,
    ⟨0x40060130, 1, 0, .port, [⟨13, 8, .rwp, 10, 1, 50⟩, ⟨4, 0, .rwp, 4, 1, 16⟩]⟩,
    ⟨0x40060134, 1, 0, .port, [⟨25, 16, .rwp, 100, 1, 1000⟩, ⟨15, 8, .rwp, 150, 100, 200⟩, ⟨7, 0, .rwp, 50, 10, 100⟩]⟩
  ]  ++
  [
    ⟨0x40060138, 1, 0, .port, [⟨31, 20, .rwp, 1000, 100, 2000⟩, ⟨16, 16, .rwp, 0, 0, 1⟩, ⟨15, 8, .rwp, 100, 20, 200⟩, ⟨7, 0, .rwp, 0, 0, 255⟩]⟩,
    ⟨0x4006013C, 1, 0, .port, [⟨15, 0, .rwp, 0, 0, 65535⟩]⟩
  ]

/-- The registers of the CAN window. -/
def regsCan : List RegDef :=
  [
    ⟨0x40070000, 1, 0, .perMaster, [⟨1, 0, .rw, 0, 0, 3⟩]⟩,
    ⟨0x40070004, 1, 0, .perMaster, [⟨5, 0, .rw, 0, 0, 63⟩]⟩,
    ⟨0x40070008, 1, 0, .blk, [⟨0, 0, .w1c, 0, 0, 1⟩]⟩,
    ⟨0x40070100, 1, 0, .can, [⟨9, 9, .wo, 0, 0, 1⟩, ⟨8, 8, .rwp, 1, 0, 1⟩, ⟨5, 5, .rwp, 0, 0, 1⟩, ⟨4, 4, .rwp, 0, 0, 1⟩, ⟨2, 1, .rwp, 0, 0, 3⟩, ⟨0, 0, .rw, 1, 0, 1⟩]⟩,
    ⟨0x40070104, 1, 0, .can, [⟨5, 4, .ro, 0, 0, 3⟩, ⟨3, 3, .ro, 1, 0, 1⟩, ⟨2, 2, .ro, 0, 0, 1⟩, ⟨1, 1, .ro, 0, 0, 1⟩, ⟨0, 0, .ro, 0, 0, 1⟩]⟩,
    ⟨0x40070108, 1, 0, .can, [⟨31, 25, .rwp, 31, 0, 127⟩, ⟨24, 18, .rwp, 31, 0, 127⟩, ⟨17, 10, .rwp, 126, 1, 255⟩, ⟨4, 0, .rwp, 0, 0, 31⟩]⟩,
    ⟨0x4007010C, 1, 0, .can, [⟨31, 28, .rwp, 9, 0, 15⟩, ⟨27, 24, .rwp, 9, 0, 15⟩, ⟨20, 16, .rwp, 28, 0, 31⟩, ⟨4, 0, .rwp, 0, 0, 31⟩]⟩,
    ⟨0x40070110, 1, 0, .can, [⟨31, 28, .rwp, 3, 0, 15⟩, ⟨27, 24, .rwp, 3, 0, 15⟩, ⟨20, 16, .rwp, 10, 0, 31⟩, ⟨4, 0, .rwp, 0, 0, 31⟩]⟩,
    ⟨0x40070114, 1, 0, .can, [⟨16, 16, .rwp, 1, 0, 1⟩, ⟨14, 8, .ro, 0, 0, 127⟩, ⟨6, 0, .rwp, 30, 0, 127⟩]⟩,
    ⟨0x40070118, 1, 0, .can, [⟨24, 16, .ro, 0, 0, 511⟩, ⟨8, 0, .ro, 0, 0, 511⟩]⟩,
    ⟨0x4007011C, 1, 0, .can, [⟨7, 7, .w1c, 0, 0, 1⟩, ⟨6, 6, .w1c, 0, 0, 1⟩, ⟨5, 5, .w1c, 0, 0, 1⟩, ⟨4, 4, .w1c, 0, 0, 1⟩, ⟨3, 3, .w1c, 0, 0, 1⟩, ⟨2, 2, .w1c, 0, 0, 1⟩, ⟨1, 1, .w1c, 0, 0, 1⟩, ⟨0, 0, .w1c, 0, 0, 1⟩]⟩,
    ⟨0x40070120, 1, 0, .can, [⟨7, 7, .rw, 0, 0, 1⟩, ⟨6, 6, .rw, 0, 0, 1⟩, ⟨5, 5, .rw, 0, 0, 1⟩, ⟨4, 4, .rw, 0, 0, 1⟩, ⟨3, 3, .rw, 0, 0, 1⟩, ⟨2, 2, .rw, 0, 0, 1⟩, ⟨1, 1, .rw, 0, 0, 1⟩, ⟨0, 0, .rw, 0, 0, 1⟩]⟩
  ]  ++
  [
    ⟨0x40070124, 1, 0, .can, [⟨31, 0, .ro, 0, 0, 4294967295⟩]⟩,
    ⟨0x40070128, 1, 0, .can, [⟨31, 0, .ro, 0, 0, 4294967295⟩]⟩,
    ⟨0x4007012C, 1, 0, .can, [⟨31, 0, .ro, 0, 0, 4294967295⟩]⟩,
    ⟨0x40070130, 1, 0, .can, [⟨31, 0, .ro, 0, 0, 4294967295⟩]⟩,
    ⟨0x40070200, 1, 0, .mb, [⟨3, 3, .rw, 0, 0, 1⟩, ⟨1, 0, .rwp, 0, 0, 2⟩]⟩,
    ⟨0x40070204, 1, 0, .mb, [⟨28, 0, .rw, 0, 0, 536870911⟩]⟩,
    ⟨0x40070208, 1, 0, .mb, [⟨28, 0, .rw, 0, 0, 536870911⟩]⟩,
    ⟨0x4007020C, 1, 0, .mb, [⟨19, 19, .rw, 0, 0, 1⟩, ⟨18, 18, .rw, 0, 0, 1⟩, ⟨17, 17, .rw, 0, 0, 1⟩, ⟨16, 16, .ro, 0, 0, 1⟩, ⟨15, 15, .rw, 0, 0, 1⟩, ⟨14, 14, .rw, 0, 0, 1⟩, ⟨13, 12, .rw, 0, 0, 2⟩, ⟨8, 0, .rw, 0, 0, 511⟩]⟩,
    ⟨0x40070210, 1, 0, .mb, [⟨15, 8, .rw, 0, 0, 255⟩, ⟨7, 0, .rw, 0, 0, 255⟩]⟩,
    ⟨0x40070214, 1, 0, .mb, [⟨31, 0, .rw, 0, 0, 4294967295⟩]⟩,
    ⟨0x40070218, 1, 0, .mb, [⟨31, 0, .ro, 0, 0, 4294967295⟩]⟩,
    ⟨0x4007021C, 1, 0, .mb, [⟨2, 2, .wo, 0, 0, 1⟩, ⟨1, 1, .wo, 0, 0, 1⟩, ⟨0, 0, .wo, 0, 0, 1⟩]⟩
  ]  ++
  [
    ⟨0x40070220, 1, 0, .mb, [⟨5, 5, .w1c, 0, 0, 1⟩, ⟨4, 4, .ro, 0, 0, 1⟩, ⟨3, 3, .ro, 0, 0, 1⟩, ⟨2, 0, .ro, 0, 0, 7⟩]⟩,
    ⟨0x40070300, 64, 4, .mb, [⟨31, 0, .rw, 0, 0, 4294967295⟩]⟩
  ]

/-- The registers of the CRC window. -/
def regsCrc : List RegDef :=
  [
    ⟨0x40080000, 1, 0, .perMaster, [⟨1, 0, .rw, 0, 0, 3⟩]⟩,
    ⟨0x40080004, 1, 0, .blk, [⟨0, 0, .w1c, 0, 0, 1⟩]⟩,
    ⟨0x40080008, 1, 0, .blk, [⟨3, 0, .w1c, 0, 0, 15⟩]⟩,
    ⟨0x40080100, 1, 0, .crc, [⟨6, 6, .rw, 1, 0, 1⟩, ⟨5, 5, .rw, 1, 0, 1⟩, ⟨4, 4, .rw, 1, 0, 1⟩, ⟨2, 0, .rw, 3, 0, 7⟩]⟩,
    ⟨0x40080104, 1, 0, .crc, [⟨31, 0, .rw, 0, 0, 4294967295⟩]⟩,
    ⟨0x40080108, 1, 0, .crc, [⟨0, 0, .wo, 0, 0, 1⟩]⟩,
    ⟨0x4008010C, 1, 0, .crc, [⟨31, 31, .rw, 0, 0, 1⟩, ⟨23, 0, .rw, 0, 0, 16777215⟩]⟩,
    ⟨0x40080110, 1, 0, .crc, [⟨31, 0, .wo, 0, 0, 4294967295⟩]⟩,
    ⟨0x40080114, 1, 0, .crc, [⟨31, 0, .rw, 0, 0, 4294967295⟩]⟩,
    ⟨0x40080118, 1, 0, .crc, [⟨31, 0, .rw, 0, 0, 4294967295⟩]⟩,
    ⟨0x4008011C, 1, 0, .crc, [⟨31, 0, .ro, 0, 0, 4294967295⟩]⟩,
    ⟨0x40080120, 1, 0, .crc, [⟨31, 0, .ro, 0, 0, 4294967295⟩]⟩
  ]

/-- The registers of the EVC window. -/
def regsEvc : List RegDef :=
  [
    ⟨0x40090000, 1, 0, .perMaster, [⟨4, 0, .rw, 0, 0, 31⟩]⟩,
    ⟨0x40090004, 1, 0, .blk, [⟨0, 0, .w1c, 0, 0, 1⟩]⟩,
    ⟨0x40090008, 1, 0, .blk, [⟨1, 1, .w1c, 0, 0, 1⟩, ⟨0, 0, .wo, 0, 0, 1⟩]⟩,
    ⟨0x4009000C, 1, 0, .blk, [⟨31, 0, .w1c, 0, 0, 4294967295⟩]⟩,
    ⟨0x40090100, 1, 0, .cnt, [⟨8, 8, .rw, 0, 0, 1⟩, ⟨7, 0, .rw, 0, 0, 255⟩]⟩,
    ⟨0x40090104, 1, 0, .cnt, [⟨0, 0, .wo, 0, 0, 1⟩]⟩,
    ⟨0x40090108, 1, 0, .cnt, [⟨31, 0, .ro, 0, 0, 4294967295⟩]⟩,
    ⟨0x40090110, 1, 0, .cnt, [⟨31, 0, .ro, 0, 0, 4294967295⟩]⟩,
    ⟨0x4009010C, 1, 0, .cnt, [⟨17, 17, .ro, 0, 0, 1⟩, ⟨16, 16, .ro, 0, 0, 1⟩, ⟨15, 0, .ro, 0, 0, 65535⟩]⟩,
    ⟨0x40090114, 1, 0, .cnt, [⟨17, 17, .ro, 0, 0, 1⟩, ⟨16, 16, .ro, 0, 0, 1⟩, ⟨15, 0, .ro, 0, 0, 65535⟩]⟩
  ]

/-- The registers of the FCR window. -/
def regsFcr : List RegDef :=
  [
    ⟨0x400A0000, 1, 0, .blk, [⟨7, 0, .ro, 1, 0, 255⟩]⟩,
    ⟨0x400A0004, 1, 0, .blk, [⟨8, 8, .rwg, 0, 0, 1⟩, ⟨4, 4, .rwg, 0, 0, 1⟩, ⟨1, 1, .rwg, 0, 0, 1⟩, ⟨0, 0, .rwg, 0, 0, 1⟩]⟩,
    ⟨0x400A0008, 1, 0, .blk, [⟨31, 31, .ro, 0, 0, 1⟩, ⟨30, 30, .ro, 0, 0, 1⟩, ⟨29, 29, .ro, 0, 0, 1⟩, ⟨26, 24, .ro, 0, 0, 7⟩, ⟨22, 20, .ro, 0, 0, 7⟩, ⟨18, 16, .ro, 0, 0, 7⟩, ⟨5, 5, .ro, 0, 0, 1⟩, ⟨4, 4, .ro, 0, 0, 1⟩, ⟨3, 3, .ro, 0, 0, 1⟩, ⟨2, 2, .ro, 0, 0, 1⟩, ⟨1, 1, .ro, 0, 0, 1⟩]⟩,
    ⟨0x400A000C, 1, 0, .blk, [⟨23, 16, .ro, 0, 0, 255⟩, ⟨8, 8, .ro, 0, 0, 1⟩, ⟨7, 0, .rwg, 0, 0, 255⟩]⟩,
    ⟨0x400A0010, 1, 0, .blk, [⟨31, 24, .ro, 0, 0, 255⟩, ⟨16, 16, .ro, 0, 0, 1⟩, ⟨8, 8, .ro, 0, 0, 1⟩, ⟨1, 1, .rwg, 0, 0, 1⟩, ⟨0, 0, .rwg, 0, 0, 1⟩]⟩,
    ⟨0x400A0014, 1, 0, .perMaster, [⟨7, 0, .rw, 0, 0, 255⟩]⟩,
    ⟨0x400A0018, 1, 0, .blk, [⟨2, 0, .ro, 0, 0, 7⟩]⟩,
    ⟨0x400A0020, 8, 4, .blk, [⟨31, 0, .ro, 0, 0, 4294967295⟩]⟩,
    ⟨0x400A0040, 8, 4, .blk, [⟨31, 0, .ro, 0, 0, 4294967295⟩]⟩,
    ⟨0x400A0060, 1, 0, .blk, [⟨23, 16, .ro, 0, 0, 255⟩, ⟨10, 8, .ro, 0, 0, 7⟩, ⟨7, 0, .ro, 0, 0, 255⟩]⟩,
    ⟨0x400A0064, 1, 0, .blk, [⟨31, 0, .ro, 0, 0, 4294967295⟩]⟩,
    ⟨0x400A0068, 1, 0, .blk, [⟨15, 8, .rwg, 0, 0, 255⟩, ⟨7, 0, .rwg, 0, 0, 255⟩]⟩
  ]  ++
  [
    ⟨0x400A006C, 1, 0, .blk, [⟨0, 0, .w1c, 0, 0, 1⟩]⟩
  ]

/-- The registers of the NVMC window. -/
def regsNvmc : List RegDef :=
  [
    ⟨0x400B0000, 1, 0, .blk, [⟨15, 8, .ro, 64, 0, 255⟩, ⟨7, 0, .ro, 1, 0, 255⟩]⟩,
    ⟨0x400B0004, 1, 0, .blk, [⟨22, 16, .ro, 0, 0, 127⟩, ⟨13, 12, .ro, 0, 0, 3⟩, ⟨11, 11, .ro, 0, 0, 1⟩, ⟨10, 10, .ro, 0, 0, 1⟩, ⟨9, 9, .ro, 0, 0, 1⟩, ⟨8, 8, .ro, 0, 0, 1⟩, ⟨0, 0, .ro, 0, 0, 1⟩]⟩,
    ⟨0x400B0008, 1, 0, .blk, [⟨3, 3, .w1c, 0, 0, 1⟩, ⟨2, 2, .w1c, 0, 0, 1⟩, ⟨1, 1, .w1c, 0, 0, 1⟩, ⟨0, 0, .w1c, 0, 0, 1⟩]⟩,
    ⟨0x400B000C, 1, 0, .perMaster, [⟨25, 2, .rw, 0, 0, 16777215⟩]⟩,
    ⟨0x400B0010, 1, 0, .blk, [⟨31, 0, .wo, 0, 0, 4294967295⟩]⟩,
    ⟨0x400B0014, 1, 0, .blk, [⟨5, 5, .rwg, 1, 0, 1⟩, ⟨4, 4, .rwg, 0, 0, 1⟩, ⟨3, 3, .rwg, 0, 0, 1⟩, ⟨2, 2, .rwg, 0, 0, 1⟩, ⟨1, 0, .rwg, 0, 0, 3⟩]⟩,
    ⟨0x400B0018, 1, 0, .blk, [⟨8, 8, .rwg, 0, 0, 1⟩, ⟨1, 1, .rwg, 0, 0, 1⟩, ⟨0, 0, .rwg, 0, 0, 1⟩]⟩,
    ⟨0x400B001C, 1, 0, .blk, [⟨31, 0, .ro, 0, 0, 4294967295⟩]⟩,
    ⟨0x400B0020, 1, 0, .blk, [⟨31, 0, .rwg, 0, 0, 4294967295⟩]⟩,
    ⟨0x400B0024, 1, 0, .blk, [⟨30, 24, .rw, 16, 0, 64⟩, ⟨21, 12, .rw, 510, 0, 1020⟩, ⟨10, 8, .rw, 4, 0, 7⟩, ⟨6, 4, .rw, 2, 0, 7⟩, ⟨0, 0, .rw, 1, 0, 1⟩]⟩,
    ⟨0x400B0028, 1, 0, .blk, [⟨24, 16, .ro, 0, 0, 511⟩, ⟨8, 0, .ro, 0, 0, 511⟩]⟩,
    ⟨0x400B002C, 1, 0, .blk, [⟨31, 16, .ro, 0, 0, 65535⟩, ⟨15, 0, .ro, 0, 0, 65535⟩]⟩
  ]

/-- Every register the spec lays out, by block. -/
def regTable : List RegDef :=
  regsSys ++ regsLock ++ regsLane ++ regsMod ++ regsFlt ++ regsConv ++ regsPos ++ regsCan ++
    regsCrc ++ regsEvc ++ regsFcr ++ regsNvmc

/-- The reset word that a register's table gives. -/
def RegDef.resetWord (r : RegDef) : Nat :=
  r.fields.foldl (fun n f => n + f.reset * 2 ^ f.lo) 0

/-- The registers whose reset word is not zero, with that word, by rising bus address. -/
def resetWords : List (Nat × Nat) :=
  [
    (0x40000000, 0x1224B000),
    (0x40000008, 0x00000001),
    (0x4000000C, 0x00000002),
    (0x4000001C, 0x0000001F),
    (0x40000024, 0x643205DC),
    (0x40000028, 0x00006400),
    (0x40000054, 0xE6840EC1),
    (0x40000080, 0x000CF850),
    (0x40000084, 0x000DBBA0),
    (0x40000088, 0x000D6D80),
    (0x4000008C, 0x000D1F60),
    (0x40000090, 0x000E7EF0),
    (0x40000094, 0x00C80014),
    (0x40000098, 0xF0001388),
    (0x40010000, 0x00001003),
    (0x40010014, 0x00140000)
  ]  ++
  [
    (0x40020100, 0x00000018),
    (0x40020118, 0x03E81E08),
    (0x40020120, 0x000007D0),
    (0x40020124, 0x03E81B58),
    (0x40020128, 0x000F4240),
    (0x4002012C, 0x00000008),
    (0x40020130, 0x00640001),
    (0x40020134, 0x190A02BF),
    (0x4002013C, 0x00003220),
    (0x40020150, 0x00100020),
    (0x40020168, 0x000E7EF0),
    (0x40030108, 0x00004E20),
    (0x4003010C, 0x01900064),
    (0x40030110, 0x00000050),
    (0x40030114, 0x07D00320),
    (0x40030118, 0x00226258)
  ]  ++
  [
    (0x4003011C, 0x000103DE),
    (0x40030124, 0x00002710),
    (0x40030140, 0x00004E20),
    (0x40030154, 0x00004E20),
    (0x40040100, 0x00000800),
    (0x4004010C, 0x00000258),
    (0x40040110, 0x00002710),
    (0x40040114, 0x0000016C),
    (0x40040118, 0x01002006),
    (0x40040130, 0x7FFFFFFF),
    (0x40040148, 0x000101F4),
    (0x4004014C, 0x00002710),
    (0x40040184, 0x00000003),
    (0x40050104, 0x00000080),
    (0x40050140, 0x00001000),
    (0x40050144, 0x00001000)
  ]  ++
  [
    (0x40050148, 0x00001000),
    (0x4005014C, 0x00001000),
    (0x40050150, 0x00001000),
    (0x40050154, 0x00001000),
    (0x40050158, 0x00001000),
    (0x4005015C, 0x00001000),
    (0x40050160, 0x00001000),
    (0x40050164, 0x00001000),
    (0x40050168, 0x00001000),
    (0x4005016C, 0x00001000),
    (0x40050170, 0x00001000),
    (0x40050174, 0x00001000),
    (0x40050178, 0x00001000),
    (0x4005017C, 0x00001000),
    (0x40060008, 0x000000FF),
    (0x40060040, 0x00000F00)
  ]  ++
  [
    (0x40060044, 0x0000FA00),
    (0x40060080, 0x00000F00),
    (0x40060084, 0x0000FA00),
    (0x40060100, 0x00010000),
    (0x40060104, 0x00000400),
    (0x4006010C, 0x01F41910),
    (0x40060110, 0x02000800),
    (0x40060130, 0x00000A04),
    (0x40060134, 0x00649632),
    (0x40060138, 0x3E806400),
    (0x40070100, 0x00000101),
    (0x40070104, 0x00000008),
    (0x40070108, 0x3E7DF800),
    (0x4007010C, 0x991C0000),
    (0x40070110, 0x330A0000),
    (0x40070114, 0x0001001E)
  ]  ++
  [
    (0x40080100, 0x00000073),
    (0x400A0000, 0x00000001),
    (0x400B0000, 0x00004001),
    (0x400B0014, 0x00000020),
    (0x400B0024, 0x101FE421)
  ]

end Sys2Proof.Machine
end

