-- ==== Sys2Proof/Machine/Params.lean ====
section
/-! DEFINITION. The parameters of the device: every row of the parameter tables R72, R126, R164, R165,
R196, R197, R227, R254, R281, R296, R297, R323, R324, R357, R379, R397 and R418, and their IDs by
name. Times whose range has steps of 2.5 ns stand in 0.1 ns, as they travel (R454). -/

namespace Sys2Proof.Machine

/-- One parameter row: its first ID, how many instances it has and how far apart, its range as it
travels, the step of the range, values admitted beside the range, its default and its class. -/
structure ParamDef where
  id : Nat
  count : Nat
  stride : Nat
  vmin : Int
  vmax : Int
  step : Nat
  dflt : Int
  safety : Bool
  extra : List Int
  deriving DecidableEq, Repr

/-! Parameter IDs by name; `k` is the instance (port, bridge, machine, output, controller, MAC or
input). -/
namespace P

def lock_timeout : Nat := 0x0A01
def lock_udp_port : Nat := 0x0A02
def lock_can_map : Nat := 0x0A03
def lock_can_req_id : Nat := 0x0A04
def lock_can_rsp_id : Nat := 0x0A05
def lock_seg_gap : Nat := 0x0A06
def lock_claim_timeout : Nat := 0x0A07
def lock_sp_enable : Nat := 0x0A08
def lock_sp_can_id : Nat := 0x0A09
def lock_sp_data_id : Nat := 0x0A0A
def lock_sp_timeout : Nat := 0x0A0B
def drive_config : Nat := 0x0201
def drive_set_shift : Nat := 0x0202
def drive_catch_min : Nat := 0x0203
def drive_catch_max : Nat := 0x0204
def drive_catch_emf_min : Nat := 0x0205
def drive_catch_env : Nat := 0x0206
def drive_catch_tol : Nat := 0x0207
def drive_catch_speed_tol : Nat := 0x0208
def drive_im_search_flux : Nat := 0x0209
def drive_im_search_time : Nat := 0x020A
def drive_stop_ramp : Nat := 0x020B
def drive_decel : Nat := 0x020C
def drive_zero_speed : Nat := 0x020D
def drive_zero_hold : Nat := 0x020E
def drive_stop_max : Nat := 0x020F
def drive_reverse_allow : Nat := 0x0210
def drive_sixph_limit : Nat := 0x0211
def pos_mode (k : Nat) : Nat := 0x0300 + 0x20 * k
def pos_bridge (k : Nat) : Nat := 0x0301 + 0x20 * k
def pos_lines (k : Nat) : Nat := 0x0302 + 0x20 * k
def pos_sensor_pp (k : Nat) : Nat := 0x0303 + 0x20 * k
def pos_invert (k : Nat) : Nat := 0x0304 + 0x20 * k
def pos_offset (k : Nat) : Nat := 0x0305 + 0x20 * k
def pos_exc_freq (k : Nat) : Nat := 0x0306 + 0x20 * k
def pos_exc_phase (k : Nat) : Nat := 0x0307 + 0x20 * k
def pos_amp_min (k : Nat) : Nat := 0x0308 + 0x20 * k
def pos_amp_max (k : Nat) : Nat := 0x0309 + 0x20 * k
def pos_zero_timeout (k : Nat) : Nat := 0x030A + 0x20 * k
def pos_speed_avg (k : Nat) : Nat := 0x030B + 0x20 * k
def pos_fault_filter (k : Nat) : Nat := 0x030C + 0x20 * k
def pos_delay_comp (k : Nat) : Nat := 0x030D + 0x20 * k
def pos_link (k : Nat) : Nat := 0x030E + 0x20 * k
def pos_bits (k : Nat) : Nat := 0x030F + 0x20 * k
def pos_gray (k : Nat) : Nat := 0x0310 + 0x20 * k
def pos_sclk (k : Nat) : Nat := 0x0311 + 0x20 * k
def pos_period (k : Nat) : Nat := 0x0312 + 0x20 * k
def pos_turn_limit (k : Nat) : Nat := 0x0313 + 0x20 * k
def pos_amp_nom (k : Nat) : Nat := 0x0314 + 0x20 * k
def pos_primary (k : Nat) : Nat := 0x0380 + 0x10 * k
def pos_redundant (k : Nat) : Nat := 0x0381 + 0x10 * k
def pos_dir_sense (k : Nat) : Nat := 0x0382 + 0x10 * k
def pos_pole_pairs (k : Nat) : Nat := 0x0383 + 0x10 * k
def pos_track_bw (k : Nat) : Nat := 0x0384 + 0x10 * k
def pos_redund_tol (k : Nat) : Nat := 0x0385 + 0x10 * k
def pos_redund_time (k : Nat) : Nat := 0x0386 + 0x10 * k
def pos_handover_low (k : Nat) : Nat := 0x0387 + 0x10 * k
def pos_handover_high (k : Nat) : Nat := 0x0388 + 0x10 * k
def pos_obs_min_speed (k : Nat) : Nat := 0x0389 + 0x10 * k
def pos_obs_hfi (k : Nat) : Nat := 0x038A + 0x10 * k
def pos_accel_max (k : Nat) : Nat := 0x038B + 0x10 * k
def flight_depth (k : Nat) : Nat := 0x0401 + 0x20 * k
def flight_commit_lead (k : Nat) : Nat := 0x0402 + 0x20 * k
def flight_verify_i (k : Nat) : Nat := 0x0403 + 0x20 * k
def flight_verify_angle (k : Nat) : Nat := 0x0404 + 0x20 * k
def flight_squash_limit (k : Nat) : Nat := 0x0405 + 0x20 * k
def flight_squash_window (k : Nat) : Nat := 0x0406 + 0x20 * k
def flight_quiet_stages (k : Nat) : Nat := 0x0407 + 0x20 * k
def flight_dob_bw (k : Nat) : Nat := 0x0408 + 0x20 * k
def flight_dob_enable (k : Nat) : Nat := 0x0409 + 0x20 * k
def flight_map_id_min (k : Nat) : Nat := 0x0440 + 0x20 * k
def flight_map_id_max (k : Nat) : Nat := 0x0441 + 0x20 * k
def flight_map_iq_max (k : Nat) : Nat := 0x0442 + 0x20 * k
def flight_map_psid_min (k : Nat) : Nat := 0x0443 + 0x20 * k
def flight_map_psid_max (k : Nat) : Nat := 0x0444 + 0x20 * k
def flight_map_psiq_max (k : Nat) : Nat := 0x0445 + 0x20 * k
def flight_rs (k : Nat) : Nat := 0x0446 + 0x20 * k
def flight_ref_t_max (k : Nat) : Nat := 0x0447 + 0x20 * k
def flight_ref_psi_min (k : Nat) : Nat := 0x0448 + 0x20 * k
def flight_ref_psi_max (k : Nat) : Nat := 0x0449 + 0x20 * k
def flight_machine (k : Nat) : Nat := 0x044A + 0x20 * k
def mod_f_carrier (k : Nat) : Nat := 0x0501 + 0x20 * k
def mod_dead_min (k : Nat) : Nat := 0x0502 + 0x20 * k
def mod_dead_max (k : Nat) : Nat := 0x0503 + 0x20 * k
def mod_min_pulse (k : Nat) : Nat := 0x0504 + 0x20 * k
def mod_dpwm (k : Nat) : Nat := 0x0505 + 0x20 * k
def mod_dpwm_on (k : Nat) : Nat := 0x0506 + 0x20 * k
def mod_dpwm_off (k : Nat) : Nat := 0x0507 + 0x20 * k
def mod_ovm_enable (k : Nat) : Nat := 0x0508 + 0x20 * k
def mod_sixstep_enable (k : Nat) : Nat := 0x0509 + 0x20 * k
def mod_sixstep_on (k : Nat) : Nat := 0x050A + 0x20 * k
def mod_sync_on (k : Nat) : Nat := 0x050B + 0x20 * k
def mod_sync_off (k : Nat) : Nat := 0x050C + 0x20 * k
def mod_opp_q_mask (k : Nat) : Nat := 0x050D + 0x20 * k
def mod_opp_fsw_max (k : Nat) : Nat := 0x050E + 0x20 * k
def mod_bst_on_max (k : Nat) : Nat := 0x050F + 0x20 * k
def mod_bst_refresh (k : Nat) : Nat := 0x0510 + 0x20 * k
def mod_pair_swap (k : Nat) : Nat := 0x0511 + 0x20 * k
def mod_invert (k : Nat) : Nat := 0x0512 + 0x20 * k
def mod_pls_enable (k : Nat) : Nat := 0x0513 + 0x20 * k
def mod_load_mid (k : Nat) : Nat := 0x0514 + 0x20 * k
def mod_direct (k : Nat) : Nat := 0x0515 + 0x20 * k
def sense_shunt (k : Nat) : Nat := 0x0601 + 0x20 * k
def sense_shunt_gain (k : Nat) : Nat := 0x0602 + 0x20 * k
def sense_settle (k : Nat) : Nat := 0x0603 + 0x20 * k
def sense_guard (k : Nat) : Nat := 0x0604 + 0x20 * k
def sense_win_min (k : Nat) : Nat := 0x0605 + 0x20 * k
def sense_offset_max (k : Nat) : Nat := 0x0606 + 0x20 * k
def sense_vdc_ratio (k : Nat) : Nat := 0x0607 + 0x20 * k
def sense_sw_ratio (k : Nat) : Nat := 0x0608 + 0x20 * k
def sense_vdc_tol (k : Nat) : Nat := 0x0609 + 0x20 * k
def sense_bemf_rate (k : Nat) : Nat := 0x060A + 0x20 * k
def sense_tmod_type (k : Nat) : Nat := 0x060B + 0x20 * k
def sense_ntc_r25 (k : Nat) : Nat := 0x060C + 0x20 * k
def sense_ntc_beta (k : Nat) : Nat := 0x060D + 0x20 * k
def sense_diode_mv25 (k : Nat) : Nat := 0x060E + 0x20 * k
def sense_diode_tc (k : Nat) : Nat := 0x060F + 0x20 * k
def sense_tmod_warn (k : Nat) : Nat := 0x0610 + 0x20 * k
def sense_tmod_derate (k : Nat) : Nat := 0x0611 + 0x20 * k
def sense_tmod_trip (k : Nat) : Nat := 0x0612 + 0x20 * k
def sense_mon_zero (k : Nat) : Nat := 0x0680 + 0x10 * k
def sense_mon_gain (k : Nat) : Nat := 0x0681 + 0x10 * k
def sense_mon_period (k : Nat) : Nat := 0x0682 + 0x10 * k
def sense_plaus_abs (k : Nat) : Nat := 0x0683 + 0x10 * k
def sense_plaus_rel (k : Nat) : Nat := 0x0684 + 0x10 * k
def sense_plaus_time (k : Nat) : Nat := 0x0685 + 0x10 * k
def sense_mon_sum_tol (k : Nat) : Nat := 0x0686 + 0x10 * k
def lane_supply_h (k : Nat) : Nat := 0x0700 + 0x20 * k
def lane_booster (k : Nat) : Nat := 0x0701 + 0x20 * k
def lane_clamp_enable (k : Nat) : Nat := 0x0702 + 0x20 * k
def lane_clamp_v (k : Nat) : Nat := 0x0703 + 0x20 * k
def lane_t_on_target (k : Nat) : Nat := 0x0704 + 0x20 * k
def lane_t_off_target (k : Nat) : Nat := 0x0705 + 0x20 * k
def lane_learn_band (k : Nat) : Nat := 0x0706 + 0x20 * k
def lane_learn (k : Nat) : Nat := 0x0707 + 0x20 * k
def lane_step_max (k : Nat) : Nat := 0x0708 + 0x20 * k
def lane_bin_a (k : Nat) : Nat := 0x0709 + 0x20 * k
def lane_ls (k : Nat) : Nat := 0x070A + 0x20 * k
def lane_didt_trip (k : Nat) : Nat := 0x070B + 0x20 * k
def lane_didt_filter (k : Nat) : Nat := 0x070C + 0x20 * k
def lane_edge_mask (k : Nat) : Nat := 0x070D + 0x20 * k
def lane_int_trip (k : Nat) : Nat := 0x070E + 0x20 * k
def lane_desat_v (k : Nat) : Nat := 0x070F + 0x20 * k
def lane_desat_blank (k : Nat) : Nat := 0x0710 + 0x20 * k
def lane_soft_step (k : Nat) : Nat := 0x0711 + 0x20 * k
def lane_vdc_ov3 (k : Nat) : Nat := 0x0712 + 0x20 * k
def lane_veel_trip (k : Nat) : Nat := 0x0713 + 0x20 * k
def lane_retry_wait (k : Nat) : Nat := 0x0714 + 0x20 * k
def lane_retry_max (k : Nat) : Nat := 0x0715 + 0x20 * k
def lane_pair_window (k : Nat) : Nat := 0x0716 + 0x20 * k
def lane_pair_state (k : Nat) : Nat := 0x0717 + 0x20 * k
def weir_v_start : Nat := 0x0801
def weir_v_full : Nat := 0x0802
def weir_v_chop_on : Nat := 0x0803
def weir_v_chop_off : Nat := 0x0804
def weir_chop_lane : Nat := 0x0805
def weir_chop_min : Nat := 0x0806
def weir_chop_check : Nat := 0x0807
def weir_chop_drop : Nat := 0x0808
def weir_v_ov2 : Nat := 0x0809
def dcl_pre_min : Nat := 0x0810
def dcl_pre_max : Nat := 0x0811
def dcl_pre_time : Nat := 0x0812
def dcl_pre_settle : Nat := 0x0813
def dcl_fb_time : Nat := 0x0814
def dcl_dis_method : Nat := 0x0815
def dcl_dis_lane : Nat := 0x0816
def dcl_dis_current : Nat := 0x0817
def dcl_safe_v : Nat := 0x0818
def dcl_dis_time : Nat := 0x0819
def dcl_auto_enable : Nat := 0x081A
def dcl_ctr_role (k : Nat) : Nat := 0x0820 + 0x08 * k
def dcl_fb_a (k : Nat) : Nat := 0x0821 + 0x08 * k
def dcl_fb_b (k : Nat) : Nat := 0x0822 + 0x08 * k
def dcl_fb_invert (k : Nat) : Nat := 0x0823 + 0x08 * k
def safety_fault_policy : Nat := 0x0901
def safety_deg_torque : Nat := 0x0902
def safety_deg_time : Nat := 0x0903
def safety_sto_filter : Nat := 0x0904
def safety_sto_disc : Nat := 0x0905
def safety_sto_asc : Nat := 0x0906
def safety_ss1_filter : Nat := 0x0907
def safety_ack_filter : Nat := 0x0908
def safety_ss1_zero : Nat := 0x0909
def safety_wdg_period : Nat := 0x090A
def safety_pilot_restart_max : Nat := 0x090B
def sys_keeper_retry : Nat := 0x0110
def safety_env_mot (k : Nat) : Nat := 0x0940 + 0x20 * k
def safety_env_gen (k : Nat) : Nat := 0x0941 + 0x20 * k
def safety_imax (k : Nat) : Nat := 0x0942 + 0x20 * k
def safety_asc_on (k : Nat) : Nat := 0x0943 + 0x20 * k
def safety_asc_off (k : Nat) : Nat := 0x0944 + 0x20 * k
def safety_asc_side (k : Nat) : Nat := 0x0945 + 0x20 * k
def safety_tm_psi (k : Nat) : Nat := 0x0946 + 0x20 * k
def safety_tm_ld (k : Nat) : Nat := 0x0947 + 0x20 * k
def safety_tm_lq (k : Nat) : Nat := 0x0948 + 0x20 * k
def safety_tm_tol_abs (k : Nat) : Nat := 0x0949 + 0x20 * k
def safety_tm_tol_rel (k : Nat) : Nat := 0x094A + 0x20 * k
def safety_tm_time (k : Nat) : Nat := 0x094B + 0x20 * k
def safety_ss1_decel (k : Nat) : Nat := 0x094C + 0x20 * k
def safety_ss1_decel_min (k : Nat) : Nat := 0x094D + 0x20 * k
def safety_ss1_speed_tol (k : Nat) : Nat := 0x094E + 0x20 * k
def safety_ss1_time_max (k : Nat) : Nat := 0x094F + 0x20 * k
def rec_enable : Nat := 0x0B01
def rec_class : Nat := 0x0B02
def rec_pre : Nat := 0x0B03
def rec_pin_max : Nat := 0x0B04
def rec_auto_pin : Nat := 0x0B05
def sys_reset_scope : Nat := 0x0C01
def sys_tj_warn : Nat := 0x0C02
def sys_tj_derate : Nat := 0x0C03
def sys_tj_derate_min : Nat := 0x0C04
def can_enable (k : Nat) : Nat := 0x0A20 + 0x10 * k
def can_format (k : Nat) : Nat := 0x0A21 + 0x10 * k
def can_nom_rate (k : Nat) : Nat := 0x0A22 + 0x10 * k
def can_nom_sp (k : Nat) : Nat := 0x0A23 + 0x10 * k
def can_data_rate (k : Nat) : Nat := 0x0A24 + 0x10 * k
def can_data_sp (k : Nat) : Nat := 0x0A25 + 0x10 * k
def can_xl_rate (k : Nat) : Nat := 0x0A26 + 0x10 * k
def can_xl_sp (k : Nat) : Nat := 0x0A27 + 0x10 * k
def can_tdc_enable (k : Nat) : Nat := 0x0A28 + 0x10 * k
def can_busoff_auto (k : Nat) : Nat := 0x0A29 + 0x10 * k
def can_mode (k : Nat) : Nat := 0x0A2A + 0x10 * k
def eth_enable (k : Nat) : Nat := 0x0A60 + 0x10 * k
def eth_ip (k : Nat) : Nat := 0x0A61 + 0x10 * k
def eth_netmask (k : Nat) : Nat := 0x0A62 + 0x10 * k
def eth_vlan (k : Nat) : Nat := 0x0A63 + 0x10 * k
def eth_pcp (k : Nat) : Nat := 0x0A64 + 0x10 * k
def eth_macsec (k : Nat) : Nat := 0x0A65 + 0x10 * k
def eth_replay_win (k : Nat) : Nat := 0x0A66 + 0x10 * k
def eth_gptp : Nat := 0x0A80
def eth_holdover : Nat := 0x0A81
def tow_enable : Nat := 0x0A82
def tow_angle_src : Nat := 0x0A83
def tow_carrier_lock : Nat := 0x0A84
def tow_carrier_shift : Nat := 0x0A85
def tow_share_enable : Nat := 0x0A86
def tow_share_src : Nat := 0x0A87
def tow_share : Nat := 0x0A88
def tow_share_timeout : Nat := 0x0A89
def tow_bcast_class : Nat := 0x0A8A
def tow_remote_class : Nat := 0x0A8B
def sent_tick (k : Nat) : Nat := 0x0A90 + 0x01 * k
def uart_baud : Nat := 0x0AA0

end P

/-- Parameter rows, part 1. -/
def paramRows1 : List ParamDef := [
  ⟨0x0110, 1, 0x00, 0, 1, 1, 1, true, []⟩,  -- sys.keeper_retry
  ⟨0x0201, 1, 0x00, 0, 3, 1, 1, false, []⟩,  -- drive.config
  ⟨0x0202, 1, 0x00, 0, 1, 1, 1, false, []⟩,  -- drive.set_shift
  ⟨0x0203, 1, 0x00, 1, 20, 1, 2, false, []⟩,  -- drive.catch_min
  ⟨0x0204, 1, 0x00, 10, 200, 1, 50, false, []⟩,  -- drive.catch_max
  ⟨0x0205, 1, 0x00, 100, 50000, 1, 2000, false, []⟩,  -- drive.catch_emf_min
  ⟨0x0206, 1, 0x00, 50, 100, 1, 95, false, []⟩,  -- drive.catch_env
  ⟨0x0207, 1, 0x00, 0, 8192, 1, 1820, false, []⟩,  -- drive.catch_tol
  ⟨0x0208, 1, 0x00, 1, 50, 1, 10, false, []⟩,  -- drive.catch_speed_tol
  ⟨0x0209, 1, 0x00, 2, 50, 1, 10, false, []⟩,  -- drive.im_search_flux
  ⟨0x020A, 1, 0x00, 50, 2000, 1, 500, false, []⟩,  -- drive.im_search_time
  ⟨0x020B, 1, 0x00, 1, 100000, 1, 2000, false, []⟩,  -- drive.stop_ramp
  ⟨0x020C, 1, 0x00, 1, 100000, 1, 200, false, []⟩,  -- drive.decel
  ⟨0x020D, 1, 0x00, 0, 1000, 1, 50, false, []⟩,  -- drive.zero_speed
  ⟨0x020E, 1, 0x00, 1, 1000, 1, 50, false, []⟩,  -- drive.zero_hold
  ⟨0x020F, 1, 0x00, 100, 60000, 1, 5000, false, []⟩,  -- drive.stop_max
  ⟨0x0210, 1, 0x00, 0, 1, 1, 1, false, []⟩,  -- drive.reverse_allow
  ⟨0x0211, 1, 0x00, 10, 50, 1, 50, false, []⟩,  -- drive.sixph_limit
  ⟨0x0300, 4, 0x20, 0, 7, 1, 7, false, []⟩,  -- pos.mode
  ⟨0x0301, 4, 0x20, 0, 1, 1, 0, false, []⟩,  -- pos.bridge
  ⟨0x0302, 4, 0x20, 1, 65536, 1, 1024, false, []⟩,  -- pos.lines
  ⟨0x0303, 4, 0x20, 1, 12, 1, 1, false, []⟩,  -- pos.sensor_pp
  ⟨0x0304, 4, 0x20, 0, 1, 1, 0, false, []⟩,  -- pos.invert
  ⟨0x0305, 4, 0x20, 0, 4294967295, 1, 0, false, []⟩  -- pos.offset
  ]

/-- Parameter rows, part 2. -/
def paramRows2 : List ParamDef := [
  ⟨0x0306, 4, 0x20, 2000, 20000, 100, 10000, false, []⟩,  -- pos.exc_freq
  ⟨0x0307, 4, 0x20, 0, 255, 1, 0, false, []⟩,  -- pos.exc_phase
  ⟨0x0308, 4, 0x20, 10, 100, 1, 50, false, []⟩,  -- pos.amp_min
  ⟨0x0309, 4, 0x20, 100, 200, 1, 150, false, []⟩,  -- pos.amp_max
  ⟨0x030A, 4, 0x20, 1, 1000, 1, 100, false, []⟩,  -- pos.zero_timeout
  ⟨0x030B, 4, 0x20, 1, 16, 1, 4, false, []⟩,  -- pos.speed_avg
  ⟨0x030C, 4, 0x20, 1, 50, 1, 10, false, []⟩,  -- pos.fault_filter
  ⟨0x030D, 4, 0x20, 0, 65535, 1, 0, false, []⟩,  -- pos.delay_comp
  ⟨0x030E, 4, 0x20, 0, 5, 1, 0, false, []⟩,  -- pos.link
  ⟨0x030F, 4, 0x20, 8, 31, 1, 16, false, []⟩,  -- pos.bits
  ⟨0x0310, 4, 0x20, 0, 1, 1, 0, false, []⟩,  -- pos.gray
  ⟨0x0311, 4, 0x20, 10, 1000, 1, 100, false, []⟩,  -- pos.sclk
  ⟨0x0312, 4, 0x20, 20, 4095, 1, 500, false, []⟩,  -- pos.period
  ⟨0x0313, 4, 0x20, 0, 2147483647, 1, 0, false, []⟩,  -- pos.turn_limit
  ⟨0x0314, 4, 0x20, 100, 2000, 1, 1000, false, []⟩,  -- pos.amp_nom
  ⟨0x0380, 2, 0x10, 0, 4, 1, 0, false, []⟩,  -- pos.primary
  ⟨0x0381, 2, 0x10, 0, 4, 1, 15, false, [15]⟩,  -- pos.redundant
  ⟨0x0382, 2, 0x10, 0, 1, 1, 0, false, []⟩,  -- pos.dir_sense
  ⟨0x0383, 2, 0x10, 1, 12, 1, 4, false, []⟩,  -- pos.pole_pairs
  ⟨0x0384, 2, 0x10, 100, 20000, 1, 2000, false, []⟩,  -- pos.track_bw
  ⟨0x0385, 2, 0x10, 0, 16384, 1, 1820, false, []⟩,  -- pos.redund_tol
  ⟨0x0386, 2, 0x10, 1, 50, 1, 20, false, []⟩,  -- pos.redund_time
  ⟨0x0387, 2, 0x10, 0, 100000, 1, 1000, false, []⟩,  -- pos.handover_low
  ⟨0x0388, 2, 0x10, 1, 200000, 1, 2000, false, []⟩  -- pos.handover_high
  ]

/-- Parameter rows, part 3. -/
def paramRows3 : List ParamDef := [
  ⟨0x0389, 2, 0x10, 0, 100000, 1, 3000, false, []⟩,  -- pos.obs_min_speed
  ⟨0x038A, 2, 0x10, 0, 1, 1, 0, false, []⟩,  -- pos.obs_hfi
  ⟨0x038B, 2, 0x10, 1, 10000, 1, 1000, false, []⟩,  -- pos.accel_max
  ⟨0x0401, 2, 0x20, 1, 8, 1, 8, false, []⟩,  -- flight.depth
  ⟨0x0402, 2, 0x20, 10000, 25000, 25, 15000, false, []⟩,  -- flight.commit_lead
  ⟨0x0403, 2, 0x20, 100, 500000, 1, 10000, false, []⟩,  -- flight.verify_i
  ⟨0x0404, 2, 0x20, 1, 8192, 1, 364, false, []⟩,  -- flight.verify_angle
  ⟨0x0405, 2, 0x20, 1, 32, 1, 6, false, []⟩,  -- flight.squash_limit
  ⟨0x0406, 2, 0x20, 8, 255, 1, 32, false, []⟩,  -- flight.squash_window
  ⟨0x0407, 2, 0x20, 16, 65535, 1, 256, false, []⟩,  -- flight.quiet_stages
  ⟨0x0408, 2, 0x20, 10, 5000, 1, 500, false, []⟩,  -- flight.dob_bw
  ⟨0x0409, 2, 0x20, 0, 1, 1, 1, false, []⟩,  -- flight.dob_enable
  ⟨0x0440, 2, 0x20, (-2000000), 0, 1, (-1000000), false, []⟩,  -- flight.map_id_min
  ⟨0x0441, 2, 0x20, (-1000000), 2000000, 1, 100000, false, []⟩,  -- flight.map_id_max
  ⟨0x0442, 2, 0x20, 1000, 2000000, 1, 1000000, false, []⟩,  -- flight.map_iq_max
  ⟨0x0443, 2, 0x20, (-2000000000), 0, 1, (-200000000), false, []⟩,  -- flight.map_psid_min
  ⟨0x0444, 2, 0x20, 1, 2000000000, 1, 200000000, false, []⟩,  -- flight.map_psid_max
  ⟨0x0445, 2, 0x20, 1, 2000000000, 1, 200000000, false, []⟩,  -- flight.map_psiq_max
  ⟨0x0446, 2, 0x20, 10, 1000000, 1, 10000, false, []⟩,  -- flight.rs
  ⟨0x0447, 2, 0x20, 100, 2000000, 1, 50000, false, []⟩,  -- flight.ref_t_max
  ⟨0x0448, 2, 0x20, 1, 2000000000, 1, 10000000, false, []⟩,  -- flight.ref_psi_min
  ⟨0x0449, 2, 0x20, 2, 2000000000, 1, 200000000, false, []⟩,  -- flight.ref_psi_max
  ⟨0x044A, 2, 0x20, 0, 2, 1, 0, true, []⟩,  -- flight.machine
  ⟨0x0501, 2, 0x20, 2000, 100000, 1, 10000, false, []⟩  -- mod.f_carrier
  ]

/-- Parameter rows, part 4. -/
def paramRows4 : List ParamDef := [
  ⟨0x0502, 2, 0x20, 250, 50000, 25, 2500, false, []⟩,  -- mod.dead_min
  ⟨0x0503, 2, 0x20, 250, 50000, 25, 10000, false, []⟩,  -- mod.dead_max
  ⟨0x0504, 2, 0x20, 0, 50000, 25, 2000, false, []⟩,  -- mod.min_pulse
  ⟨0x0505, 2, 0x20, 0, 3, 1, 0, false, []⟩,  -- mod.dpwm
  ⟨0x0506, 2, 0x20, 1, 1000, 1, 600, false, []⟩,  -- mod.dpwm_on
  ⟨0x0507, 2, 0x20, 0, 999, 1, 550, false, []⟩,  -- mod.dpwm_off
  ⟨0x0508, 2, 0x20, 0, 1, 1, 1, false, []⟩,  -- mod.ovm_enable
  ⟨0x0509, 2, 0x20, 0, 1, 1, 0, false, []⟩,  -- mod.sixstep_enable
  ⟨0x050A, 2, 0x20, 950, 1000, 1, 990, false, []⟩,  -- mod.sixstep_on
  ⟨0x050B, 2, 0x20, 0, 3000, 1, 0, false, []⟩,  -- mod.sync_on
  ⟨0x050C, 2, 0x20, 0, 3000, 1, 0, false, []⟩,  -- mod.sync_off
  ⟨0x050D, 2, 0x20, 0, 255, 1, 0, false, []⟩,  -- mod.opp_q_mask
  ⟨0x050E, 2, 0x20, 1000, 100000, 1, 10000, false, []⟩,  -- mod.opp_fsw_max
  ⟨0x050F, 2, 0x20, 100, 10000, 1, 2000, false, []⟩,  -- mod.bst_on_max
  ⟨0x0510, 2, 0x20, 5000, 100000, 25, 20000, false, []⟩,  -- mod.bst_refresh
  ⟨0x0511, 2, 0x20, 0, 7, 1, 0, false, []⟩,  -- mod.pair_swap
  ⟨0x0512, 2, 0x20, 0, 7, 1, 0, false, []⟩,  -- mod.invert
  ⟨0x0513, 2, 0x20, 0, 1, 1, 0, false, []⟩,  -- mod.pls_enable
  ⟨0x0514, 2, 0x20, 0, 1, 1, 0, false, []⟩,  -- mod.load_mid
  ⟨0x0515, 2, 0x20, 0, 1, 1, 0, false, []⟩,  -- mod.direct
  ⟨0x0601, 2, 0x20, 50, 500, 1, 100, false, []⟩,  -- sense.shunt
  ⟨0x0602, 2, 0x20, 0, 4, 1, 2, false, []⟩,  -- sense.shunt_gain
  ⟨0x0603, 2, 0x20, 0, 20000, 25, 3000, false, []⟩,  -- sense.settle
  ⟨0x0604, 2, 0x20, 0, 10000, 25, 1000, false, []⟩  -- sense.guard
  ]

/-- Parameter rows, part 5. -/
def paramRows5 : List ParamDef := [
  ⟨0x0605, 2, 0x20, 2000, 50000, 25, 5000, false, []⟩,  -- sense.win_min
  ⟨0x0606, 2, 0x20, 0, 50000, 1, 5000, false, []⟩,  -- sense.offset_max
  ⟨0x0607, 2, 0x20, 50000, 100000, 1, 60000, false, []⟩,  -- sense.vdc_ratio
  ⟨0x0608, 2, 0x20, 50000, 100000, 1, 60000, false, []⟩,  -- sense.sw_ratio
  ⟨0x0609, 2, 0x20, 1000, 100000, 1, 10000, false, []⟩,  -- sense.vdc_tol
  ⟨0x060A, 2, 0x20, 100, 2000, 1, 1000, false, []⟩,  -- sense.bemf_rate
  ⟨0x060B, 2, 0x20, 0, 1, 1, 0, false, []⟩,  -- sense.tmod_type
  ⟨0x060C, 2, 0x20, 100, 100000, 1, 5000, false, []⟩,  -- sense.ntc_r25
  ⟨0x060D, 2, 0x20, 1000, 10000, 1, 3375, false, []⟩,  -- sense.ntc_beta
  ⟨0x060E, 2, 0x20, 300, 900, 1, 650, false, []⟩,  -- sense.diode_mv25
  ⟨0x060F, 2, 0x20, (-3000), (-500), 1, (-2000), false, []⟩,  -- sense.diode_tc
  ⟨0x0610, 2, 0x20, 0, 2000, 1, 1350, false, []⟩,  -- sense.tmod_warn
  ⟨0x0611, 2, 0x20, 0, 2000, 1, 1450, false, []⟩,  -- sense.tmod_derate
  ⟨0x0612, 2, 0x20, 0, 2000, 1, 1650, false, []⟩,  -- sense.tmod_trip
  ⟨0x0680, 2, 0x10, 0, 3000, 1, 1500, true, []⟩,  -- sense.mon_zero
  ⟨0x0681, 2, 0x10, 100, 100000, 1, 1500, true, []⟩,  -- sense.mon_gain
  ⟨0x0682, 2, 0x10, 5, 1000, 1, 20, true, []⟩,  -- sense.mon_period
  ⟨0x0683, 2, 0x10, 1000, 200000, 1, 30000, true, []⟩,  -- sense.plaus_abs
  ⟨0x0684, 2, 0x10, 1, 50, 1, 10, true, []⟩,  -- sense.plaus_rel
  ⟨0x0685, 2, 0x10, 10, 10000, 1, 500, true, []⟩,  -- sense.plaus_time
  ⟨0x0686, 2, 0x10, 1000, 200000, 1, 50000, true, []⟩,  -- sense.mon_sum_tol
  ⟨0x0700, 2, 0x20, 0, 7, 1, 0, false, []⟩,  -- lane.supply_h
  ⟨0x0701, 2, 0x20, 0, 1, 1, 0, false, []⟩,  -- lane.booster
  ⟨0x0702, 2, 0x20, 0, 1, 1, 1, false, []⟩  -- lane.clamp_enable
  ]

/-- Parameter rows, part 6. -/
def paramRows6 : List ParamDef := [
  ⟨0x0703, 2, 0x20, 500, 5000, 1, 2000, false, []⟩,  -- lane.clamp_v
  ⟨0x0704, 2, 0x20, 5, 500, 1, 40, false, []⟩,  -- lane.t_on_target
  ⟨0x0705, 2, 0x20, 5, 500, 1, 50, false, []⟩,  -- lane.t_off_target
  ⟨0x0706, 2, 0x20, 1, 100, 1, 5, false, []⟩,  -- lane.learn_band
  ⟨0x0707, 2, 0x20, 0, 1, 1, 1, false, []⟩,  -- lane.learn
  ⟨0x0708, 2, 0x20, 1, 63, 1, 63, false, []⟩,  -- lane.step_max
  ⟨0x0709, 2, 0x20, 1, 200, 1, 50, false, []⟩,  -- lane.bin_a
  ⟨0x070A, 2, 0x20, 5, 200, 1, 30, true, []⟩,  -- lane.ls
  ⟨0x070B, 2, 0x20, 100, 20000, 1, 1000, true, []⟩,  -- lane.didt_trip
  ⟨0x070C, 2, 0x20, 100, 2100, 25, 100, true, []⟩,  -- lane.didt_filter
  ⟨0x070D, 2, 0x20, 300, 800, 25, 500, true, []⟩,  -- lane.edge_mask
  ⟨0x070E, 2, 0x20, 10, 10000, 1, 2000, true, []⟩,  -- lane.int_trip
  ⟨0x070F, 2, 0x20, 2000, 12000, 1, 7000, true, []⟩,  -- lane.desat_v
  ⟨0x0710, 2, 0x20, 200, 5000, 1, 1000, true, []⟩,  -- lane.desat_blank
  ⟨0x0711, 2, 0x20, 1, 32, 1, 8, true, []⟩,  -- lane.soft_step
  ⟨0x0712, 2, 0x20, 100000, 1450000, 1, 1000000, true, []⟩,  -- lane.vdc_ov3
  ⟨0x0713, 2, 0x20, (-7000), 0, 1, 0, true, []⟩,  -- lane.veel_trip
  ⟨0x0714, 2, 0x20, 1, 1000, 1, 100, true, []⟩,  -- lane.retry_wait
  ⟨0x0715, 2, 0x20, 0, 7, 1, 1, true, []⟩,  -- lane.retry_max
  ⟨0x0716, 2, 0x20, 1, 100, 1, 10, true, []⟩,  -- lane.pair_window
  ⟨0x0717, 2, 0x20, 0, 1, 1, 0, true, []⟩,  -- lane.pair_state
  ⟨0x0801, 1, 0x00, 100000, 1450000, 1, 850000, false, []⟩,  -- weir.v_start
  ⟨0x0802, 1, 0x00, 100000, 1450000, 1, 900000, false, []⟩,  -- weir.v_full
  ⟨0x0803, 1, 0x00, 100000, 1450000, 1, 880000, false, []⟩  -- weir.v_chop_on
  ]

/-- Parameter rows, part 7. -/
def paramRows7 : List ParamDef := [
  ⟨0x0804, 1, 0x00, 100000, 1450000, 1, 860000, false, []⟩,  -- weir.v_chop_off
  ⟨0x0805, 1, 0x00, 1, 0, 1, 15, false, [1, 3, 5, 7, 9, 11, 15]⟩,  -- weir.chop_lane
  ⟨0x0806, 1, 0x00, 1, 1000, 1, 20, false, []⟩,  -- weir.chop_min
  ⟨0x0807, 1, 0x00, 50, 5000, 1, 200, true, []⟩,  -- weir.chop_check
  ⟨0x0808, 1, 0x00, 1000, 100000, 1, 5000, true, []⟩,  -- weir.chop_drop
  ⟨0x0809, 1, 0x00, 100000, 1450000, 1, 950000, true, []⟩,  -- weir.v_ov2
  ⟨0x0810, 1, 0x00, 10000, 1450000, 1, 400000, false, []⟩,  -- dcl.pre_min
  ⟨0x0811, 1, 0x00, 10000, 1450000, 1, 900000, false, []⟩,  -- dcl.pre_max
  ⟨0x0812, 1, 0x00, 50, 10000, 1, 1000, false, []⟩,  -- dcl.pre_time
  ⟨0x0813, 1, 0x00, 100, 100000, 1, 2000, false, []⟩,  -- dcl.pre_settle
  ⟨0x0814, 1, 0x00, 5, 40, 1, 30, true, []⟩,  -- dcl.fb_time
  ⟨0x0815, 1, 0x00, 0, 3, 1, 0, false, []⟩,  -- dcl.dis_method
  ⟨0x0816, 1, 0x00, 1, 0, 1, 15, false, [1, 3, 5, 7, 9, 11, 15]⟩,  -- dcl.dis_lane
  ⟨0x0817, 1, 0x00, 1000, 500000, 1, 50000, false, []⟩,  -- dcl.dis_current
  ⟨0x0818, 1, 0x00, 10000, 120000, 1, 60000, true, []⟩,  -- dcl.safe_v
  ⟨0x0819, 1, 0x00, 100, 10000, 1, 2000, true, []⟩,  -- dcl.dis_time
  ⟨0x081A, 1, 0x00, 0, 1, 1, 0, true, []⟩,  -- dcl.auto_enable
  ⟨0x0820, 4, 0x08, 0, 4, 1, 0, true, []⟩,  -- dcl.ctr_role
  ⟨0x0821, 4, 0x08, 0, 5, 1, 15, true, [15]⟩,  -- dcl.fb_a
  ⟨0x0822, 4, 0x08, 0, 5, 1, 15, true, [15]⟩,  -- dcl.fb_b
  ⟨0x0823, 4, 0x08, 0, 3, 1, 0, true, []⟩,  -- dcl.fb_invert
  ⟨0x0901, 1, 0x00, 0, 1, 1, 0, true, []⟩,  -- safety.fault_policy
  ⟨0x0902, 1, 0x00, 10, 100, 1, 50, true, []⟩,  -- safety.deg_torque
  ⟨0x0903, 1, 0x00, 1, 3600, 1, 300, true, []⟩  -- safety.deg_time
  ]

/-- Parameter rows, part 8. -/
def paramRows8 : List ParamDef := [
  ⟨0x0904, 1, 0x00, 500, 3000, 100, 1000, true, []⟩,  -- safety.sto_filter
  ⟨0x0905, 1, 0x00, 1, 100, 1, 10, true, []⟩,  -- safety.sto_disc
  ⟨0x0906, 1, 0x00, 0, 1, 1, 0, true, []⟩,  -- safety.sto_asc
  ⟨0x0907, 1, 0x00, 10, 500, 1, 100, true, []⟩,  -- safety.ss1_filter
  ⟨0x0908, 1, 0x00, 100, 10000, 1, 1000, true, []⟩,  -- safety.ack_filter
  ⟨0x0909, 1, 0x00, 0, 1000, 1, 50, true, []⟩,  -- safety.ss1_zero
  ⟨0x090A, 1, 0x00, 1, 100, 1, 10, true, []⟩,  -- safety.wdg_period
  ⟨0x090B, 1, 0x00, 0, 7, 1, 3, true, []⟩,  -- safety.pilot_restart_max
  ⟨0x0940, 2, 0x20, 0, 2000000, 1, 0, true, []⟩,  -- safety.env_mot
  ⟨0x0941, 2, 0x20, 0, 2000000, 1, 0, true, []⟩,  -- safety.env_gen
  ⟨0x0942, 2, 0x20, 0, 2000000, 1, 0, true, []⟩,  -- safety.imax
  ⟨0x0943, 2, 0x20, 1, 300000, 1, 30000, true, []⟩,  -- safety.asc_on
  ⟨0x0944, 2, 0x20, 0, 299999, 1, 25000, true, []⟩,  -- safety.asc_off
  ⟨0x0945, 2, 0x20, 0, 1, 1, 0, true, []⟩,  -- safety.asc_side
  ⟨0x0946, 2, 0x20, 0, 2000000000, 1, 0, true, []⟩,  -- safety.tm_psi
  ⟨0x0947, 2, 0x20, 0, 100000000, 1, 0, true, []⟩,  -- safety.tm_ld
  ⟨0x0948, 2, 0x20, 0, 100000000, 1, 0, true, []⟩,  -- safety.tm_lq
  ⟨0x0949, 2, 0x20, 100, 100000, 1, 2000, true, []⟩,  -- safety.tm_tol_abs
  ⟨0x094A, 2, 0x20, 1, 50, 1, 10, true, []⟩,  -- safety.tm_tol_rel
  ⟨0x094B, 2, 0x20, 100, 1500, 1, 500, true, []⟩,  -- safety.tm_time
  ⟨0x094C, 2, 0x20, 1, 100000, 1, 200, true, []⟩,  -- safety.ss1_decel
  ⟨0x094D, 2, 0x20, 1, 100000, 1, 100, true, []⟩,  -- safety.ss1_decel_min
  ⟨0x094E, 2, 0x20, 0, 100000, 1, 1000, true, []⟩,  -- safety.ss1_speed_tol
  ⟨0x094F, 2, 0x20, 100, 60000, 1, 10000, true, []⟩  -- safety.ss1_time_max
  ]

/-- Parameter rows, part 9. -/
def paramRows9 : List ParamDef := [
  ⟨0x0A01, 1, 0x00, 1, 1000, 1, 20, false, []⟩,  -- lock.timeout
  ⟨0x0A02, 1, 0x00, 1024, 65535, 1, 50300, false, []⟩,  -- lock.udp_port
  ⟨0x0A03, 1, 0x00, 0, 15, 1, 1, false, []⟩,  -- lock.can_map
  ⟨0x0A04, 1, 0x00, 0, 2032, 1, 1536, false, []⟩,  -- lock.can_req_id
  ⟨0x0A05, 1, 0x00, 0, 2032, 1, 1552, false, []⟩,  -- lock.can_rsp_id
  ⟨0x0A06, 1, 0x00, 1, 100, 1, 10, false, []⟩,  -- lock.seg_gap
  ⟨0x0A07, 1, 0x00, 10, 1000, 1, 100, false, []⟩,  -- lock.claim_timeout
  ⟨0x0A08, 1, 0x00, 0, 1, 1, 0, false, []⟩,  -- lock.sp_enable
  ⟨0x0A09, 1, 0x00, 0, 2047, 1, 256, false, []⟩,  -- lock.sp_can_id
  ⟨0x0A0A, 1, 0x00, 0, 65535, 1, 3073, false, []⟩,  -- lock.sp_data_id
  ⟨0x0A0B, 1, 0x00, 5, 500, 1, 50, false, []⟩,  -- lock.sp_timeout
  ⟨0x0A20, 4, 0x10, 0, 1, 1, 1, false, []⟩,  -- can.enable
  ⟨0x0A21, 4, 0x10, 0, 2, 1, 1, false, []⟩,  -- can.format
  ⟨0x0A22, 4, 0x10, 50, 1000, 1, 500, false, []⟩,  -- can.nom_rate
  ⟨0x0A23, 4, 0x10, 500, 900, 1, 800, false, []⟩,  -- can.nom_sp
  ⟨0x0A24, 4, 0x10, 1000, 8000, 1, 2000, false, []⟩,  -- can.data_rate
  ⟨0x0A25, 4, 0x10, 500, 900, 1, 750, false, []⟩,  -- can.data_sp
  ⟨0x0A26, 4, 0x10, 1000, 8000, 1, 5000, false, []⟩,  -- can.xl_rate
  ⟨0x0A27, 4, 0x10, 500, 900, 1, 750, false, []⟩,  -- can.xl_sp
  ⟨0x0A28, 4, 0x10, 0, 1, 1, 1, false, []⟩,  -- can.tdc_enable
  ⟨0x0A29, 4, 0x10, 0, 1, 1, 1, false, []⟩,  -- can.busoff_auto
  ⟨0x0A2A, 4, 0x10, 0, 3, 1, 0, false, []⟩,  -- can.mode
  ⟨0x0A60, 2, 0x10, 0, 1, 1, 0, false, []⟩,  -- eth.enable
  ⟨0x0A61, 2, 0x10, 1, 3758096382, 1, 3232235876, false, []⟩  -- eth.ip
  ]

/-- Parameter rows, part 10. -/
def paramRows10 : List ParamDef := [
  ⟨0x0A62, 2, 0x10, 2147483648, 4294967292, 1, 4294967040, false, []⟩,  -- eth.netmask
  ⟨0x0A63, 2, 0x10, 0, 4094, 1, 0, false, []⟩,  -- eth.vlan
  ⟨0x0A64, 2, 0x10, 0, 7, 1, 5, false, []⟩,  -- eth.pcp
  ⟨0x0A65, 2, 0x10, 0, 2, 1, 0, false, []⟩,  -- eth.macsec
  ⟨0x0A66, 2, 0x10, 0, 1024, 1, 0, false, []⟩,  -- eth.replay_win
  ⟨0x0A80, 1, 0x00, 0, 2, 1, 2, false, []⟩,  -- eth.gptp
  ⟨0x0A81, 1, 0x00, 10, 10000, 1, 1000, false, []⟩,  -- eth.holdover
  ⟨0x0A82, 1, 0x00, 0, 1, 1, 0, false, []⟩,  -- tow.enable
  ⟨0x0A83, 1, 0x00, 0, 1023, 1, 0, false, []⟩,  -- tow.angle_src
  ⟨0x0A84, 1, 0x00, 0, 3, 1, 0, false, []⟩,  -- tow.carrier_lock
  ⟨0x0A85, 1, 0x00, 0, 65535, 1, 0, false, []⟩,  -- tow.carrier_shift
  ⟨0x0A86, 1, 0x00, 0, 1, 1, 0, false, []⟩,  -- tow.share_enable
  ⟨0x0A87, 1, 0x00, 0, 1023, 1, 0, false, []⟩,  -- tow.share_src
  ⟨0x0A88, 1, 0x00, 0, 1000, 1, 1000, false, []⟩,  -- tow.share
  ⟨0x0A89, 1, 0x00, 5, 500, 1, 50, false, []⟩,  -- tow.share_timeout
  ⟨0x0A8A, 1, 0x00, 2, 7, 1, 4, true, []⟩,  -- tow.bcast_class
  ⟨0x0A8B, 1, 0x00, 1, 5, 1, 4, true, []⟩,  -- tow.remote_class
  ⟨0x0A90, 4, 0x01, 15, 900, 1, 30, false, []⟩,  -- sent.tick
  ⟨0x0AA0, 1, 0x00, 115200, 3000000, 1, 921600, false, []⟩,  -- uart.baud
  ⟨0x0B01, 1, 0x00, 0, 1, 1, 1, false, []⟩,  -- rec.enable
  ⟨0x0B02, 1, 0x00, 1, 7, 1, 2, false, []⟩,  -- rec.class
  ⟨0x0B03, 1, 0x00, 0, 1020, 1, 510, false, []⟩,  -- rec.pre
  ⟨0x0B04, 1, 0x00, 0, 64, 1, 16, false, []⟩,  -- rec.pin_max
  ⟨0x0B05, 1, 0x00, 0, 7, 1, 4, false, []⟩  -- rec.auto_pin
  ]

/-- Parameter rows, part 11. -/
def paramRows11 : List ParamDef := [
  ⟨0x0C01, 1, 0x00, 0, 1, 1, 0, true, []⟩,  -- sys.reset_scope
  ⟨0x0C02, 1, 0x00, 1000, 1700, 1, 1500, false, []⟩,  -- sys.tj_warn
  ⟨0x0C03, 1, 0x00, 1000, 1740, 1, 1600, false, []⟩,  -- sys.tj_derate
  ⟨0x0C04, 1, 0x00, 0, 100, 1, 50, false, []⟩  -- sys.tj_derate_min
  ]

/-- Every parameter row, by rising first ID. -/
def paramRows : List ParamDef :=
  paramRows1 ++ paramRows2 ++ paramRows3 ++ paramRows4 ++ paramRows5 ++ paramRows6 ++ paramRows7 ++ paramRows8 ++ paramRows9 ++ paramRows10 ++ paramRows11

/-- The row and the instance that an ID names. -/
def paramFind (id : Nat) : Option (ParamDef × Nat) :=
  go paramRows
where
  go : List ParamDef → Option (ParamDef × Nat)
    | [] => none
    | r :: rs =>
      if r.id ≤ id ∧ id < r.id + r.count * (max r.stride 1) ∧ (id - r.id) % (max r.stride 1) = 0 then
        some (r, (id - r.id) / max r.stride 1)
      else go rs

/-- A value as the parameter's type takes it: a signed parameter is sign-extended (R87). -/
def ParamDef.toInt (r : ParamDef) (v : Word) : Int := if r.vmin < 0 then v.toInt else v.toNat

/-- A value lies in its parameter's range and on its grid (R89, R454). -/
def ParamDef.inRange (r : ParamDef) (v : Word) : Bool :=
  let x := r.toInt v
  decide (r.vmin ≤ x ∧ x ≤ r.vmax ∧ x % r.step = 0) || r.extra.contains x

/-- The value that an unlisted parameter has: its default; 0 for an ID that names none. -/
def paramDefault (id : Nat) : Word :=
  match paramFind id with
  | some (r, _) => BitVec.ofInt 32 r.dflt
  | none => 0

/-- Puts an ID into a rising list. -/
def insertId (x : Nat) : List Nat → List Nat
  | [] => [x]
  | y :: ys => if x ≤ y then x :: y :: ys else y :: insertId x ys

/-- The IDs of the rows given, in ascending order. -/
def idsOf (rs : List ParamDef) : List Nat :=
  (rs.flatMap fun r => (List.range r.count).map fun k => r.id + r.stride * k).foldr insertId []

/-- Every defined ID in ascending order (R315, R348). -/
def paramIds : List Nat := idsOf paramRows

/-- The IDs of the `SAFETY` parameters in ascending order (R315). -/
def safetyIds : List Nat := idsOf (paramRows.filter (·.safety))

end Sys2Proof.Machine
end

