-- ==== Sys2Proof/Machine/Sparse.lean ====
section
/-! DEFINITION. Sparse maps with natural keys in ONE canonical form: keys strictly rising, and no
entry equal to what an unlisted key reads as. Memory, the register file, the parameter sets and the
table images are kept this way, so equal contents are equal data. -/

namespace Sys2Proof.Machine

/-- The value at a key; an unlisted key reads as the default `d` gives it. -/
def sget {α : Type} (d : Nat → α) : List (Nat × α) → Nat → α
  | [], k => d k
  | (k', v) :: m, k => if k = k' then v else sget d m k

/-- Removes a key from a rising list. -/
def sdel {α : Type} : List (Nat × α) → Nat → List (Nat × α)
  | [], _ => []
  | (k', v) :: m, k =>
    if k = k' then m else if k < k' then (k', v) :: m else (k', v) :: sdel m k

/-- Inserts or replaces a key in a rising list. -/
def sput {α : Type} : List (Nat × α) → Nat → α → List (Nat × α)
  | [], k, v => [(k, v)]
  | (k', v') :: m, k, v =>
    if k = k' then (k, v) :: m
    else if k < k' then (k, v) :: (k', v') :: m
    else (k', v') :: sput m k v

/-- Writes a key; writing what an unlisted key reads as removes the entry. -/
def sset {α : Type} [DecidableEq α] (d : Nat → α) (m : List (Nat × α)) (k : Nat) (v : α) :
    List (Nat × α) :=
  if v = d k then sdel m k else sput m k v

/-- Every key of the list is above `b`. -/
def sabove {α : Type} (b : Nat) : List (Nat × α) → Bool
  | [] => true
  | (k, _) :: m => decide (b < k) && sabove b m

/-- The canonical form. -/
def swf {α : Type} [DecidableEq α] (d : Nat → α) : List (Nat × α) → Bool
  | [] => true
  | (k, v) :: m => decide (v ≠ d k) && sabove k m && swf d m

end Sys2Proof.Machine
end

