-- ==== Sys2Proof/Machine/State.lean ====
section
/-! DEFINITION. The state of the block as plain data: the register file and the memories as sparse
canonical maps, and the state that the spec gives the machine beside its registers (chambers,
queues, slots, lists, sequences, timers). A register field has ONE home, the register file, keyed by
instance and bus address; what no register shows is typed here. -/

namespace Sys2Proof.Machine

/-- Why a step stops with a fault. The commands of this block have no fault outcome of their own: a
condition that the spec calls a fault is an effect on `Fcr`. -/
inductive Fault where
  /-- A command whose operands no wire of the hardware can carry (`Instr.wf` is false): a frame with
  more bytes than its length field can name, a reading list of the wrong length. Raised by `step`'s
  meanings that take frames. Safe: the hardware never meets such a command. -/
  | illFormed
  deriving DecidableEq, Repr

/-- Why a step is refused. -/
inductive Refusal where
  /-- A bus write into the windows of ETH, TOW, SENT, SPI and UART, whose registers the spec does not lay out
  (R37 gives their bases and selects only); raised by the bus rows. Safe. -/
  | linkWindow
  /-- The command has no meaning in this model yet; raised by `exec` alone. Safe. -/
  | notModelled (mnemonic : String)
  deriving DecidableEq, Repr

/-! ## Drive states -/

/-- The drive states of R103. -/
inductive DState where
  | standby | boot | safeHold | precharge | ready | catching | run | degraded | safeStop | fault
  | discharge
  deriving DecidableEq, Repr

/-- The control modes of `DRIVE_START` (R83). -/
inductive CtlMode where
  | torque | speed | current
  deriving DecidableEq, Repr

/-- A transition that a command causes (R104 rows 5, 7, 8, 10, the start of a stop, and of the Lockkeeper class
row 16 by `SAFE_STOP_REQ` and rows 14, 20 and 21 by `FAULT_ACK`). -/
inductive DriveCmd where
  | start (m : CtlMode) | stop (decelerate : Bool) | precharge | shutdown
  | discharge (windings : Bool)
  | safeStop | ack
  deriving DecidableEq, Repr

/-- The command is of the Lockkeeper class. -/
def DriveCmd.keeper : DriveCmd → Bool
  | .safeStop | .ack => true
  | _ => false

/-- The steps of the precharge sequence (R291). -/
inductive PreStep where
  | idle | negRequested | preRequested | posRequested | conditions
  deriving DecidableEq, Repr

/-- A discharge of a bridge (R293): its method, when it was entered, whether the contactors are open
so that the method acts, whether the winding current is being injected, and whether the rotor angle is
known for it (R192). -/
structure Discharge where
  windings : Bool
  since : Nat
  acting : Bool
  injecting : Bool
  located : Bool
  deriving DecidableEq, Repr

/-- A zero crossing of a line-to-line voltage: pair (0 UV, 1 VW, 2 WU), rising, instant. -/
structure Crossing where
  pair : Nat
  rising : Bool
  at_ : Nat
  deriving DecidableEq, Repr

/-- What the catch measurement has gathered since the window start (R115): the latest switch-node
results of the three phases in mV, the peak of |u_LL|, and the crossings, newest first; and of each
line-to-line voltage its value at the latest conversion, its sign beyond the hysteresis (0 not yet) and the
instant it last passed through zero (R245). -/
structure CatchRec where
  since : Nat
  u : Option Int
  v : Option Int
  w : Option Int
  ePeak : Int
  crossings : List Crossing
  last : List Int
  at_ : Nat
  sgn : List Int
  zero : List Nat
  deriving DecidableEq, Repr

/-- One bridge's drive state machine and what belongs to it. Torques in 0.01 N·m, speeds in 0.1 rpm,
currents in mA, times in DTIME counts of the model's clock. -/
structure Bridge where
  st : DState
  mode : Option CtlMode
  /-- The commanded transitions that wait, oldest first, each with whether the response of its command is complete
  (R106). -/
  cmds : List (DriveCmd × Bool)
  /-- A row 16 cause waits for the stage boundary. -/
  safeStopDue : Bool
  /-- A row 13 cause waits for the stage boundary. -/
  degradeDue : Bool
  /-- A stop in progress: its kind (true decelerates) and its start (R119, R120). -/
  stopping : Option (Bool × Nat)
  /-- The speed at which a stop of kind 1 began (R120). -/
  stopFrom : Int
  /-- The torque that the running image requested in its latest stage, and the one at which a stop's ramp began
  (R119, R120). -/
  torqueRef : Int
  stopTorque : Int
  /-- Since when the speed has stayed below `drive.zero_speed` (R120). -/
  slowSince : Option Nat
  /-- Since when an entry into `CATCH` waits for the shunt offsets (R243). -/
  startAt : Option Nat
  /-- The direction of motion last seen at or above `drive.zero_speed` (R121); 0 none. -/
  dir : Int
  torqueReq : Int
  prevReq : Int
  reqAt : Nat
  speedLimit : Int
  speedSet : Int
  torqueLimit : Int
  dSet : Int
  qSet : Int
  /-- The limit flags of the latest retired stage (R84). -/
  limits : Nat
  /-- The direct-setpoint reference counter (R68). -/
  spRef : Option Nat
  /-- The torque-share reference counter (R406). -/
  shareRef : Option Nat
  /-- Since when no applicable direct setpoint frame, and no applicable torque share, has come (R69, R406). -/
  spAt : Nat
  shareAt : Nat
  /-- The degraded timer, in counts left (R123). -/
  degLeft : Nat
  /-- The next entry into `DEGRADED` loads the timer (R123). -/
  degFresh : Bool
  ssSince : Nat
  ssSpeed : Int
  /-- The plan the speed-band rule holds: 0 `FREEWHEEL`, 1 `ASC_LOW`, 2 `ASC_HIGH` (R305). -/
  plan : Nat
  /-- The plan that replaces the headers' plan until release (R455). -/
  planOver : Option Nat
  pre : PreStep
  preSince : Nat
  /-- Since when the link has risen by less than `dcl.pre_settle` per ms (R291 step 3). -/
  settleSince : Option Nat
  /-- The latest link value, and when it came. -/
  settleV : Int
  settleAt : Nat
  /-- The contactor requests of this bridge: main negative, precharge, main positive (R291). -/
  reqNeg : Bool
  reqPre : Bool
  reqPos : Bool
  /-- When `DRIVE_SHUTDOWN` withdrew the main positive request. -/
  shutAt : Option Nat
  dis : Option Discharge
  /-- This set of a six-phase pair is in its safe state (R113). -/
  setSafe : Bool
  catchRec : CatchRec
  /-- The initial position detection runs (R157). -/
  ipd : Bool
  /-- Since when the frequency search of an induction machine runs (R117). -/
  imSearch : Option Nat
  /-- The stator flux of an induction machine in percent of its rated flux, from the search until it has risen to
  100 (R117). -/
  imFlux : Option Nat
  /-- The alignment started by `POS_ALIGN`, with its current (R86). -/
  align : Option Int
  /-- Since when the torque monitor, the current plausibility and the monitor sum are violated. -/
  tmSince : Option Nat
  plausSince : List (Option Nat)
  sumSince : Option Nat
  /-- The monitor currents of the latest round, in mA (R250). -/
  mon : List Int
  deriving DecidableEq, Repr

/-! ## Locks -/

/-- The states of a Lock (R51). -/
inductive Gate where
  | empty | check | service | reply
  deriving DecidableEq, Repr

/-- Where a Barge came from and where its response goes (R59). -/
inductive Transport where
  | spi (port : Fin 2)
  | canXl (can : Fin 4)
  | canFd (can : Fin 4)
  | udp (mac : Fin 2) (ip : Word) (port : BitVec 16)
  | uart
  | tow (port : TowPort) (device : Nat)
  deriving DecidableEq, Repr

/-- One Lock: its gates, its chamber (sparse bytes, unlisted 0), the transport that claimed it, the first bytes
and the class of its Barge as it was submitted, when it entered `SERVICE` (R77), its sequence record and its
reply store (R55). -/
structure Lock where
  gate : Gate
  buf : List (Nat × Byte)
  /-- The extent of the bytes delivered (R53 check 2). -/
  got : Nat
  owner : Option Transport
  claimedAt : Nat
  /-- The first 16 bytes of the request, which a response copies (R45). -/
  req : List Byte
  keeper : Bool
  svcAt : Nat
  served : Bool
  last : Option (Nat × Bool)
  reply : Option (List Byte)
  deriving DecidableEq, Repr

/-- A Lock as it stood when it was answered `TIMEOUT`, with the DTIME of that clock, `LOCK_ERR.TIMEOUT` before it
and the commanded transitions of the bridges: a `LOCK_DONE` in the same clock still completes it (R54). -/
structure LockTie where
  lk : Lk
  at_ : Nat
  lock : Lock
  err : Bool
  cmds : List (List (DriveCmd × Bool))
  deriving DecidableEq, Repr

/-- A partial CAN FD Barge under reassembly (R63). -/
structure SegPart where
  lk : Lk
  index : Nat
  seq : Byte
  bytes : List Byte
  at_ : Nat
  deriving DecidableEq, Repr

/-- One host SPI port: the 16-bit frame status and the bytes its last frame returned (R411, R412). -/
structure SpiPort where
  status : BitVec 16
  out : List Byte
  deriving DecidableEq, Repr

/-! ## Fault collection and safety inputs -/

/-- A latched fault with its own class (R302). -/
structure Latch where
  code : Nat
  loc : Loc
  cls : RClass
  deriving DecidableEq, Repr

/-- An entry of the fault list (R92, R302). -/
structure FaultEntry where
  code : Nat
  loc : Loc
  cls : RClass
  latched : Bool
  stamp : Word
  deriving DecidableEq, Repr

/-- The FCR beside its registers: the latches by location, the conditions active, the fault list
(oldest first), whether `FCR_FIRST` awaits the next fault, the heartbeat and failure times, the
armed warm-reset timer (R299, R318), and the master and address of the latest access that failed to decode
(R38). -/
structure Fcr where
  latched : List Latch
  active : List (Nat × Loc)
  list : List FaultEntry
  firstOpen : Bool
  beatAt : Nat
  failAt : Option Nat
  warmAt : Option Nat
  decode : Option (Master × Nat)
  deriving DecidableEq, Repr

/-- The STO start-up test (R108) and the discrepancy timing (R306). -/
structure StoTest where
  lowSince : Option Nat
  lowDone : Bool
  firstHighAt : Option Nat
  readbackBad : Bool
  /-- The lanes whose frames have shown gate enable removed through both channels since both inputs went low. -/
  seen : List LaneIx
  diffSince : Option Nat
  sameSince : Nat
  deriving DecidableEq, Repr

/-- The levels of pins that no register shows: `WAKE` and `ALIVE`. -/
structure Pins where
  wake : Bool
  alive : Bool
  deriving DecidableEq, Repr

/-! ## DC link -/

/-- The contactor outputs and feedback inputs of the device and the chopper control (R285 to R294):
the request of each output and when it last changed, the filtered level of each feedback input, the
chopper's enable, last switching instant, engagement instant and link value at engagement, and the
mismatch report that waits for the next evaluation. -/
structure DcLink where
  req : Vector Bool 4
  reqAt : Vector Nat 4
  fb : Vector Bool 6
  chopOn : Bool
  chopAt : Nat
  vEng : Int
  engAt : Nat
  mismatch : Bool
  /-- The main positive feedback opened without its request having been withdrawn (R294). -/
  openedAlone : Bool
  deriving DecidableEq, Repr

/-! ## Pilot supervision -/

/-- The watchdog challenge outstanding, whether the next correct answer is the first after a
release, the restarts of the last 60 s, the hold, and the trial (R317, R332). -/
structure Pilot where
  chal : Option (Word × Nat)
  first : Bool
  restarts : List Nat
  /-- A restart is in progress: the cluster has been reset and has not resumed. -/
  restarting : Bool
  /-- The cluster stays in reset until the next device reset (R317, R336). -/
  heldForGood : Bool
  holdAt : Option Nat
  trialAt : Option Nat
  runBank : Option Br
  deriving DecidableEq, Repr

/-! ## Parameters and the store -/

/-- A store in progress (R349): the slot written, the generation, the captured active set, the
captured gate strength block and the safety check value of the header. -/
structure StoreJob where
  slot : Fin 2
  gen : Nat
  set : List (Nat × Word)
  gst : List (Nat × Nat)
  check : Word
  deriving DecidableEq, Repr

/-- The parameter sets: the active set (unlisted IDs hold their defaults), the set as it stood when the
device booted (R398, R419), values accepted that wait for a stage boundary with the bridge they wait
for, the confirmation, the confirmed safety check value, and the store job. -/
structure Params where
  act : List (Nat × Word)
  boot : List (Nat × Word)
  staged : List (Br × Nat × Word)
  confirmed : Bool
  confCheck : Word
  job : Option StoreJob
  deriving DecidableEq, Repr

/-! ## Trust -/

/-- The states of a Pilot bank's record (R331). -/
inductive BankSt where
  | empty | loading | verified | trial | active | previous
  deriving DecidableEq, Repr

/-- A Pilot bank: its record, its image version, and its origin (key index 0 is Tolvoma). -/
structure Bank where
  st : BankSt
  version : Word
  customer : Bool
  deriving DecidableEq, Repr

/-- The firmware update session (R97, R331). -/
inductive FwPhase where
  | none | loading | verifying | verified | failed | activating
  deriving DecidableEq, Repr

/-- The session: phase, target (patch or bank), the bank written, declared size, bytes received, the
failure reason, the kind and version read from the header. -/
structure FwSession where
  phase : FwPhase
  patch : Bool
  bank : Br
  size : Nat
  received : Nat
  reason : Nat
  kind : Nat
  version : Word
  deriving DecidableEq, Repr

/-- Life-cycle states (R100). -/
inductive Life where
  | manufacture | provisioned | opened | sealed | returned | scrapped
  deriving DecidableEq, Repr

/-- Firmware trust, life cycle and secrets (R326 to R344). Vault slots are byte strings by slot
number, unlisted empty; `revoked` lists the revoked image-key slots. -/
structure Trust where
  life : Life
  dbgOpen : Bool
  scanOpen : Bool
  vault : List (Nat × List Byte)
  revoked : List Nat
  /-- The vault state of `LC_STATUS`: 0 empty, 1 provisioned, 2 erased. -/
  vaultSt : Nat
  /-- An erase is pending: whole vault or customer secrets, and the scope it opens (R340). -/
  erase : Option (Bool × Bool)
  nonce : Option (List Byte × Nat)
  authFails : List Nat
  lockedOut : Option Nat
  bankA : Bank
  bankB : Bank
  patchActive : Bool
  patchLevel : BitVec 16
  /-- The patch version last activated. -/
  patchVersion : Word
  fw : FwSession
  deriving DecidableEq, Repr

/-! ## Recorder and NVM -/

/-- A snapshot under collection (R353, R354). -/
structure Collect where
  trigger : Nat
  later : Nat
  truncated : Bool
  stamp : BitVec 64
  fault : Option (Nat × Loc × RClass)
  stA : Nat
  stB : Nat
  before : Nat
  after : Nat
  quota : Nat
  counts : List Nat
  first : Word
  slot : Nat
  deriving DecidableEq, Repr

/-- The recorder and the NVM write in progress: the ring buffer of 64-byte stage records, newest
first; the collection; the newest snapshot; the pinned slots; and the word being programmed with its
previous value. -/
structure Recorder where
  ring : List (List Byte)
  coll : Option Collect
  newest : Option Nat
  pins : List Nat
  word : Option (Nat × Word × Word)
  deriving DecidableEq, Repr

/-! ## Resets, clocks, power, thermal -/

/-- Reset sources (R363). -/
inductive RstKind where
  | powerOn | brownOut | wake | pin | warm
  deriving DecidableEq, Repr

/-- Resets, clocks and temperatures beside the SYS registers: the reset that is asserted, standby,
the wake latch, which clock domains' blocks have been released, OSC, the end of boot, the self-test
byte of R413, the warm reset that a clock loss has armed, the counts of consecutive rounds for the
cross-checks and for 175 °C, the pairs that use the higher reading, and the thermal factors in
1/1,000. -/
structure SysCtl where
  rst : Option RstKind
  standby : Bool
  standbyDue : Bool
  /-- When the response of `STANDBY_ENTER` was complete (R81). -/
  standbyAt : Option Nat
  resetDue : Bool
  wakeLatch : Bool
  up : Vector Bool 6
  oscOk : Bool
  bootEnd : Nat
  selfTest : Nat
  clockRst : Option Nat
  xchkRounds : List Nat
  xchkBad : List Nat
  hotRounds : Nat
  modFactor : Vector Nat 2
  dieFactor : Nat
  tmods : List (Option Int)
  deriving DecidableEq, Repr

/-! ## Flight, modulation, position, converters, lanes, links, CAN, services -/

/-- The status of a stage (R168). -/
inductive StageSt where
  | free | speculative | committed | retired | squashed
  deriving DecidableEq, Repr

/-- An edge with its time, fine time and command bits (R212). -/
structure Edge where
  time : Nat
  fine : Nat
  on : Bool
  aux : Bool
  dead : Bool
  deriving DecidableEq, Repr

/-- An angle trajectory (R149): angle in turns e at `t0`, speed and acceleration per DTIME count. -/
structure Traj where
  th : Rat
  om : Rat
  al : Rat
  t0 : Nat
  deriving DecidableEq, Repr

/-- A checkpoint: the predicted state at the start of a stage. Fluxes in nWb, currents in mA,
voltages in mV. -/
structure Chk where
  traj : Traj
  psiD : Rat
  psiQ : Rat
  idA : Rat
  iqA : Rat
  dobD : Rat
  dobQ : Rat
  refD : Int
  refQ : Int
  deriving DecidableEq, Repr

/-- A leg at the end of a stage or period: its level (true: high side), the fine time of its last transition,
the continuous on-time of its high side in counts, whether the interval that began last was removed (R207),
whether its conducting lane has been turned on (R214), and whether it is low by a refresh pulse alone (R216). -/
structure Leg where
  level : Bool
  at_ : Int
  on : Nat
  skip : Bool
  gate : Bool
  pulse : Bool
  deriving DecidableEq, Repr

/-- What the computation of a stage marks in the status registers when it commits, with the number of intervals
removed and of transitions deferred (R187, R183, R186, R207, R211, R216). -/
structure Marks where
  vlim : Bool
  clamp : Bool
  mapClamp : Bool
  pulseDrop : Nat
  oppDefer : Nat
  bstRefresh : Bool
  bstForced : Bool
  deriving DecidableEq, Repr

/-- A sample event of a stage or period (R230, R231, R234): its converter sequence by `TARGET`, the entry (none: the
whole sequence), its DTIME, the conversions of a window, and the stage or period number. -/
structure SampleEv where
  target : Nat
  entry : Option (Fin 16)
  at_ : Nat
  n : Nat
  num : Nat
  deriving DecidableEq, Repr

/-- An event of the Angle Event Table (R161): its kind, target and argument, and its DTIME in counts. -/
structure TableEv where
  kind : Nat
  target : Nat
  arg : Nat
  at_ : Nat
  deriving DecidableEq, Repr

/-- One of the 16 slots of a Flight engine: the stage it holds, its status and interval, whether it is a carry
stage (R171), of the synchronous family, begins at a carrier valley, carries gate edges; the family of the
stage that follows; its checkpoint, voltage and end state; the predicted group currents and the group's
reference instant, the phase currents predicted at the centres of their spans (R239); strategy and pulse number;
its edges, the low-side conversion spans, its sample events and the end levels of its legs; its marks, the limit
flags of its reference (R84), the legs refreshed, whether its end was found by an event conversion that failed
(R160), and where its entries begin in the ring of the Angle Event Table (R163). -/
structure Slot where
  st : StageSt
  num : Nat
  start : Nat
  dur : Nat
  carry : Bool
  sync : Bool
  valley : Bool
  toSync : Bool
  gates : Bool
  chk : Chk
  vd : Rat
  vq : Rat
  endChk : Chk
  idPred : Rat
  iqPred : Rat
  refAt : Nat
  phPred : List Rat
  strat : Nat
  q : Nat
  edges : List (LaneIx × Edge)
  windows : List (Option (Nat × Nat))
  samples : List SampleEv
  legs : List Leg
  marks : Marks
  limits : Nat
  refreshed : List Bool
  convBad : Bool
  ring : Nat
  deriving DecidableEq, Repr

/-- A committed edge that waits to be sent: its lane, the stage or period number it belongs to, and whether
its frame carries the capture flag (R212). -/
structure Held where
  lane : LaneIx
  edge : Edge
  num : Nat
  mark : Bool
  deriving DecidableEq, Repr

/-- A sample group under assembly (R238): its stage or period number, the phase currents with their saturation
flags. -/
structure Group where
  num : Nat
  i : List (Option Int)
  lost : List Bool
  deriving DecidableEq, Repr

/-- The Flight parameters in force (R200): they follow the registers at a stage boundary. -/
structure FlightCfg where
  lead : Nat
  bandI : Nat
  bandA : Nat
  dobOn : Bool
  dobBw : Nat
  limit : Nat
  window : Nat
  quiet : Nat
  deriving DecidableEq, Repr

/-- A Flight engine beside its registers (R166 to R195). -/
structure Flight where
  slots : Vector Slot 16
  /-- The present stage number; the next stage to compute; how many stages are computed ahead. -/
  cur : Nat
  next : Nat
  /-- The engine has begun its first stage. -/
  begun : Bool
  predictOnly : Bool
  /-- `ENABLE` is cleared and the last committed stage still runs (R194). -/
  ending : Bool
  shallow : Bool
  /-- The stage numbers of the latest mispredictions, newest first. -/
  mispred : List Nat
  /-- The stage from which the quiet count runs. -/
  quietFrom : Nat
  missRun : Nat
  carryRun : Nat
  /-- The number after that of the latest stage whose group has been verified (R169). -/
  verified : Nat
  /-- The sample groups under assembly, and the sample events of committed stages that have not begun (R231). -/
  groups : List Group
  due : List SampleEv
  /-- The phases that the latest retired group carries, measured or reconstructed (R240). -/
  carried : List Bool
  /-- The references sampled for the stages computed now. -/
  refD : Int
  refQ : Int
  holdAt : Option Nat
  /-- Register values that take effect at the next stage boundary (R200, R202). -/
  depth : Nat
  cfg : FlightCfg
  /-- A step by which the next carrier stage is phased to the angle reference (R405). -/
  phase : Int
  deriving DecidableEq, Repr

/-- A modulation unit beside its registers (R201 to R225): the bootstrap refresh forced by a warning, the
commit buffer with period, duties in fine steps and DTIME of its commit, the start and the halves of the
present direct-mode period in fine steps, whether the edges of its second half wait for a load point at
mid-period, the legs at the end of the latest interval, the commanded high-side edges by leg that the pulse
outputs show, the committed edges that wait to be sent, and the lanes whose first edge of the present period is
sent (R212). -/
structure ModU where
  bstForced : List Bool
  buf : Option (Nat × List Nat × Nat)
  perStart : Nat
  firstHalf : Nat
  secondHalf : Nat
  midDue : Bool
  legs : List Leg
  moves : List (Nat × Int × Bool)
  plan : List Held
  marked : List LaneIx
  deriving DecidableEq, Repr

/-- A position port beside its registers (R128 to R148). `q` and `spd` are the quality and speed of the
procedure of R148 before R144 overrides them; `cond` holds the conditions present, by flag bit;
`refCount` is the count that the first reference mark loaded; `lastVal` the latest sampled position and
`startAt` the stamp of the transfer under way. `nlev` are the levels of the _N wires, `levels` those of the _P wires
(R135); `excAt` is when the excitation sine began and `excN` how many sample pairs the port has taken since (R132);
`trk` is the port's own tracked angle (R148). -/
structure Port where
  count : Nat
  levels : Nat
  q : Nat
  spd : Int
  lastDir : Int
  lastT : Nat
  intervals : List Nat
  cond : BitVec 16
  turn : Int
  turnLo : Word
  refCount : Option Nat
  lastVal : Option Nat
  startAt : Nat
  lastSampleAt : Nat
  busy : Bool
  nlev : Nat
  excAt : Option Nat
  excN : Nat
  trk : Traj
  trkOn : Bool
  deriving DecidableEq, Repr

/-- An Angle Clock beside its registers (R149 to R159). `fresh`: the next value is taken unfiltered.
`begun`: a first value was taken. `turn` is the turn count at the trajectory's turn 0. `obs` is the
observer's angle while it runs, with its convergence; `obsCond`: it disagrees with its partner source. -/
structure AClk where
  traj : Traj
  turn : Int
  fresh : Bool
  begun : Bool
  /-- The angle the Angle Clock last took, and the redundant source's latest. -/
  primAngle : Option (Word × Nat)
  /-- The latest values of the source in use, newest first (R142). -/
  hist : List (Word × Nat)
  redAngle : Option (Word × Nat)
  diffSince : Option Nat
  obs : Option (Word × Bool)
  obsCond : Bool
  /-- The observer adds its high-frequency voltage injection (R156). -/
  inject : Bool
  /-- A return to the primary waits for the stage boundary (R155). -/
  returnDue : Bool
  deriving DecidableEq, Repr

/-- A conversion under way (R230, R234 to R237): its entry, whether it is a window or single sample, the DTIME of
its sample instant, its conversions, and the stage or period it belongs to. -/
structure Job where
  entry : Fin 16
  prio : Bool
  at_ : Nat
  n : Nat
  num : Option Nat
  deriving DecidableEq, Repr

/-- A converter instance beside its registers (R229 to R249): the conversions under way on its converters, entries
that wait for one, the DTIMEs of the sample instants of the results by entry, the offset filter and how many
conversions it has taken, the diagnosis and the DC-link exclusion. -/
structure Conv where
  busy : List Job
  stamps : List (Nat × Nat)
  queue : List (Fin 16)
  offset : Rat
  offsetN : Nat
  badRounds : Nat
  vdc : Option Int
  far : Nat
  near : Nat
  excluded : Bool
  deriving DecidableEq, Repr

/-- The lane states of R256. -/
inductive LaneSt where
  | unlinked | plan | armed | forced | tripped | latched
  deriving DecidableEq, Repr

/-- The methods of a trip decision (R269, R265), by bit of `LANE_TRIP`. -/
inductive TripCause where
  | didt | integ | desat | vddl | veel
  deriving DecidableEq, Repr

/-- The state of a lane's capture (R278). -/
inductive CapSt where
  | idle | recording | post | stopped | copied
  deriving DecidableEq, Repr

/-- One lane die beside its own register copy (R256 to R279, R295). Times are DTIME counts of the
model's clock; `skew` is the local DTIME minus the master's in fine steps. -/
structure Lane where
  st : LaneSt
  plan : Nat
  planGiven : Bool
  planAt : Nat
  /-- Forced by `ASC_NOW` or OV3: keeps `ASC_LOW` until released. -/
  ascForced : Bool
  trained : Bool
  hbLost : Bool
  lastFrameAt : Nat
  skew : Int
  /-- Half the round trip measured at training, in fine steps (R34). -/
  half : Int
  slip : Bool
  queue : List Edge
  gate : Bool
  gateAt : Nat
  /-- The strength step at which the gate output drives (R266, R272). -/
  strength : Nat
  /-- The strength table entries that the latest turn-on and turn-off used (R267). -/
  gstOn : Nat
  gstOff : Nat
  /-- `GCLAMP` connects the gate to `VEEL` (R268). -/
  clamp : Bool
  aux : Bool
  /-- The chopper or discharge command that the latest downlink frame brought (R285, R293). -/
  auxCmd : Bool
  auxBlocked : Bool
  autoDis : Bool
  mismatch : Bool
  legLock : Bool
  stoA : Bool
  stoB : Bool
  tries : List Nat
  retryAt : Nat
  /-- DTIME of the latest trip decision (R272). -/
  tripAt : Nat
  /-- The logic runs from the high-voltage self-supply (R445). -/
  hvs : Bool
  cause : Option TripCause
  /-- The gate strength table (R266), entries other than step 32. -/
  gst : List (Nat × Nat)
  /-- The integrating estimate held, in A. -/
  est : Int
  vddl : Int
  veel : Int
  ov2 : Bool
  ov3 : Bool
  selfTestBad : Bool
  toggle : Option Bool
  cap : CapSt
  /-- Words recorded after the trigger. -/
  post : Nat
  capAt : Nat
  ring : List (BitVec 16)
  ascWait : Bool
  ascAt : Nat
  deadUsed : List Nat
  /-- The dead time that the lane has applied since its latest status frame, in 78.125 ps; 0 none (R215). -/
  deadApplied : Nat
  deriving DecidableEq, Repr

/-- The urgent symbols on their way to a lane (R259). -/
inductive Urgent where
  | planNow | ascNow | legLock | legFree
  deriving DecidableEq, Repr

/-- The control die's end of a lane link: training, the slots since the last time mark, the register
writes waiting (word offset and data), the toggle of the write under way and when it was sent, the
edges waiting to be sent with their stage number and capture mark, the plan-given mark, the step mark, the
urgent symbols in flight, the frame last sent and when the last uplink frame came. -/
structure Link where
  trained : Bool
  sinceMark : Nat
  writes : List (Nat × Word)
  toggle : Bool
  sentAt : Option Nat
  edges : List (Edge × Nat × Bool)
  planGiven : Bool
  step : Bool
  urgent : List Urgent
  sent : Option DownFrame
  upAt : Nat
  stopped : Bool
  /-- The relay has decided that the lane latches with its partner; its next frame or symbol says so (R272). -/
  latch : Bool
  /-- The stored strength table has been written back since the device reset (R352). -/
  gstDone : Bool
  deriving DecidableEq, Repr

/-- What the relay remembers of trips (R272): lane and DTIME, newest first. -/
abbrev Trips := List (LaneIx × Nat)

/-- Bus states of a CAN controller (R391, R392). -/
inductive CanBus where
  | off | integrating | on | busOff | recovering
  deriving DecidableEq, Repr

/-- A CAN controller beside its registers: bus state, the buffer being transmitted (64: the internal Lock
transmit buffer) with the stamp of its start-of-frame, the shadows of full receive buffers with their stamps,
the partial Barge, and the segment of the response that the internal buffer sends next. -/
structure Can where
  bus : CanBus
  tx : Option Nat
  sof : Word
  shadows : List (Nat × CanFrame × Word)
  part : Option SegPart
  seg : Nat
  deriving DecidableEq, Repr

/-- A check-value unit beside its registers (R420 to R425): the running value, the staged low word
of a CRC-64 load, and the settings latched at the last start. -/
structure CrcU where
  value : BitVec 64
  stage : Word
  poly : Nat
  deriving DecidableEq, Repr

/-- An event counter beside `CNT_CFG` and `EVC_FROZEN` (R426 to R430): its count, its snapshot, and whether it
stands frozen (R428); `EVC_FROZEN` records that it froze. -/
structure Counter where
  value : Nat
  sat : Bool
  snap : Nat
  snapSat : Bool
  frozen : Bool
  deriving DecidableEq, Repr

/-- What each bus master's own read copies hold (R147, R424, R430). -/
structure ReadCopy where
  portTurn : Int
  aclkTurn : Vector Int 2
  crcHi : Word
  cntHi : Word
  deriving DecidableEq, Repr

/-- The last bus access served: data and bus error (R38). -/
structure BusOut where
  data : Word
  error : Bool
  deriving DecidableEq, Repr

/-- A SENT input (R410): last synchronisation pulse, data nibbles of the last good frame, serial-message bits,
its interrupt, and whether the last frame was faulty. -/
structure Sent where
  sync : Option Nat
  fast : List Nat
  serial : List Nat
  irq : Bool
  bad : Bool
  deriving DecidableEq, Repr

/-- An auxiliary SPI master (R415). -/
structure AuxSpi where
  busy : Bool
  rx : List Byte
  crcBad : Bool
  /-- The position of the CRC-8 byte, when the check is configured. -/
  crcPos : Option Nat
  deriving DecidableEq, Repr

/-- Ethernet, vehicle time, Towpath, SENT, auxiliary SPI, UART and test port (R399 to R417). Times
of vehicle time in ns. -/
structure Net where
  ethUp : Vector Bool 2
  macsecKey : Vector Bool 2
  ethTx : List (Fin 2 × List Byte)
  rxStamp : Vector Word 2
  /-- 0 none, 1 synchronised or in holdover (R401); `vehNs` is vehicle time at the DTIME `vehAt`. -/
  sync : Nat
  vehNs : Nat
  vehAt : Nat
  vehRatio : Rat
  towUp : Bool
  towDn : Bool
  towNum : Option Nat
  towRtt : Nat
  /-- The part of DTIME below a count, in fine steps, by which the Towpath slews it (R404). -/
  towFine : Nat
  towRef : Option Traj
  towTurn : Int
  remoteAt : Option Nat
  towTx : List (TowPort × List Byte)
  /-- The counter of the next torque-share frame sent (R67). -/
  shareCnt : Nat
  towSym : List TowPort
  /-- Responses that wait for their transport, with the Lock that each comes from. -/
  respTx : List (Transport × Lk × List Byte)
  sent : Vector Sent 4
  aspi : Vector AuxSpi 4
  tapIr : TapIr
  /-- The `RANGE` bits of ETH, TOW, SENT and SPI, whose registers no rule lays out (R18). -/
  linkRange : Vector Bool 4
  deriving DecidableEq, Repr

/-- The whole state. -/
structure State where
  /-- Commands waiting, first in, first out. -/
  pending : List Instr
  /-- The model's own clock in counts of 2.5 ns since power-on; it never steps. -/
  now : Nat
  /-- DTIME (R32). -/
  dtime : BitVec 64
  /-- Register file: key instance × 2^32 + bus address, unlisted at its reset word. -/
  regs : List (Nat × Word)
  /-- The addressed memories of R37, unlisted bytes 0. -/
  mem : List Host.Cell
  params : Params
  locks : Vector Lock 16
  /-- The Lock answered `TIMEOUT` last (R54). -/
  lockTie : Option LockTie
  spi : Vector SpiPort 2
  bridges : Vector Bridge 2
  flights : Vector Flight 2
  mods : Vector ModU 2
  ports : Vector Port 4
  aclks : Vector AClk 2
  convs : Vector Conv 15
  lanes : Vector Lane 12
  links : Vector Link 12
  trips : Trips
  fcr : Fcr
  sto : StoTest
  dcl : DcLink
  pilot : Pilot
  trust : Trust
  recd : Recorder
  sys : SysCtl
  cans : Vector Can 4
  crcs : Vector CrcU 4
  cnts : Vector Counter 32
  copies : Vector ReadCopy 6
  net : Net
  pins : Pins
  bus : BusOut
  /-- The model's own counter of free values taken (DESIGN CHOICE, log entry 1). -/
  free : Nat
  deriving DecidableEq, Repr

/-! ## The state right after reset

Where a comment says so the spec gives no reset value; the values taken are named in log entry 2. -/

/-- The reset word of a register: the tables' reset fields; `LANE_CFG.SIDE` follows the lane
index. The key is instance × 2^32 + bus address. -/
def regReset (key : Nat) : Word :=
  let a := key % 4294967296
  let w := (resetWords.lookup a).getD 0
  if a = F.LANE_CFG_SIDE.addr then BitVec.ofNat 32 (w + key / 4294967296 % 2)
  else BitVec.ofNat 32 w

/-- What an unlisted memory address reads as (log entry 3). -/
def memDflt : Nat → Byte := fun _ => 0

def CatchRec.reset : CatchRec := ⟨0, none, none, none, 0, [], [0, 0, 0], 0, [0, 0, 0], [0, 0, 0]⟩

/-- A bridge at reset: `BOOT` by R104 row 1. -/
def Bridge.reset : Bridge where
  st := .boot
  mode := none
  cmds := []
  safeStopDue := false
  degradeDue := false
  stopping := none
  stopFrom := 0
  torqueRef := 0
  stopTorque := 0
  slowSince := none
  startAt := none
  dir := 0
  torqueReq := 0
  prevReq := 0
  reqAt := 0
  speedLimit := 0
  speedSet := 0
  torqueLimit := 0
  dSet := 0
  qSet := 0
  limits := 0
  spRef := none
  shareRef := none
  spAt := 0
  shareAt := 0
  degLeft := 0
  degFresh := true
  ssSince := 0
  ssSpeed := 0
  plan := 0
  planOver := none
  pre := .idle
  preSince := 0
  settleSince := none
  settleV := 0
  settleAt := 0
  reqNeg := false
  reqPre := false
  reqPos := false
  shutAt := none
  dis := none
  setSafe := false
  catchRec := CatchRec.reset
  ipd := false
  imSearch := none
  imFlux := none
  align := none
  tmSince := none
  plausSince := [none, none, none]
  sumSince := none
  mon := [0, 0, 0]

def Lock.reset : Lock := ⟨.empty, [], 0, none, 0, [], false, 0, false, none, none⟩

def Fcr.reset : Fcr := ⟨[], [], [], true, 0, none, none, none⟩

def StoTest.reset : StoTest := ⟨none, false, none, false, [], none, 0⟩

/-- Contactor outputs inactive, feedbacks and chopper off. -/
def DcLink.reset : DcLink where
  req := Vector.replicate 4 false
  reqAt := Vector.replicate 4 0
  fb := Vector.replicate 6 false
  chopOn := false
  chopAt := 0
  vEng := 0
  engAt := 0
  mismatch := false
  openedAlone := false

def Pilot.reset : Pilot := ⟨none, true, [], false, false, none, none, none⟩

def Params.reset : Params := ⟨[], [], [], false, 0, none⟩

def FwSession.reset : FwSession := ⟨.none, false, 0, 0, 0, 0, 0, 0⟩

/-- The trust state as delivered: life-cycle cells unprogrammed, vault policy at its reset value 1
(R342), Pilot release 3.4 in bank A (R5). -/
def Trust.reset : Trust where
  life := .manufacture
  dbgOpen := false
  scanOpen := false
  vault := [(10, [1, 0, 0, 0])]
  revoked := []
  vaultSt := 0
  erase := none
  nonce := none
  authFails := []
  lockedOut := none
  bankA := ⟨.active, 0x03040000, false⟩
  bankB := ⟨.empty, 0, false⟩
  patchActive := false
  patchLevel := 0
  patchVersion := 0
  fw := FwSession.reset

def Recorder.reset : Recorder := ⟨[], none, none, [], none⟩

/-- The power-on reset is asserted and awaits its release (R367). -/
def SysCtl.reset : SysCtl where
  rst := some .powerOn
  standby := false
  standbyDue := false
  standbyAt := none
  resetDue := false
  wakeLatch := false
  up := Vector.replicate 6 false
  oscOk := true
  bootEnd := 0
  selfTest := 0xFF
  clockRst := none
  xchkRounds := []
  xchkBad := []
  hotRounds := 0
  modFactor := Vector.replicate 2 1000
  dieFactor := 1000
  tmods := List.replicate 12 none

def Traj.reset : Traj := ⟨0, 0, 0, 0⟩
def Chk.reset : Chk := ⟨Traj.reset, 0, 0, 0, 0, 0, 0, 0, 0⟩
def Leg.reset : Leg := ⟨false, 0, 0, false, false, false⟩

def Marks.reset : Marks := ⟨false, false, false, 0, 0, false, false⟩

def Slot.reset : Slot where
  st := .free
  num := 0
  start := 0
  dur := 0
  carry := false
  sync := false
  valley := false
  toSync := false
  gates := false
  chk := Chk.reset
  vd := 0
  vq := 0
  endChk := Chk.reset
  idPred := 0
  iqPred := 0
  refAt := 0
  phPred := [0, 0, 0]
  strat := 0
  q := 0
  edges := []
  windows := [none, none, none]
  samples := []
  legs := [Leg.reset, Leg.reset, Leg.reset]
  marks := Marks.reset
  limits := 0
  refreshed := [false, false, false]
  convBad := false
  ring := 0

/-- A group of which nothing has come. -/
def Group.fresh (num : Nat) : Group := ⟨num, [none, none, none], [false, false, false]⟩

/-- The defaults of R196. -/
def FlightCfg.reset : FlightCfg := ⟨600, 10000, 364, true, 500, 6, 32, 256⟩

def Flight.reset : Flight where
  slots := Vector.replicate 16 Slot.reset
  cur := 0
  next := 0
  begun := false
  predictOnly := false
  ending := false
  shallow := false
  mispred := []
  quietFrom := 0
  missRun := 0
  carryRun := 0
  verified := 0
  groups := []
  due := []
  carried := [true, true, true]
  refD := 0
  refQ := 0
  holdAt := none
  depth := 8
  cfg := FlightCfg.reset
  phase := 0

def ModU.reset : ModU where
  bstForced := [false, false, false]
  buf := none
  perStart := 0
  firstHalf := 320000
  secondHalf := 320000
  midDue := false
  legs := [Leg.reset, Leg.reset, Leg.reset]
  moves := []
  plan := []
  marked := []

def Port.reset : Port := ⟨0, 0, 2, 0, 0, 0, [], 0, 0, 0, none, none, 0, 0, false, 7, none, 0, Traj.reset, false⟩
def AClk.reset : AClk := ⟨Traj.reset, 0, true, false, none, [], none, none, none, false, false, false⟩
def Conv.reset : Conv := ⟨[], [], [], 0, 0, 0, none, 0, 0, false⟩

/-- A lane that is not supplied: `UNLINKED` with plan `FREEWHEEL` (R257). -/
def Lane.reset : Lane where
  st := .unlinked
  plan := 0
  planGiven := false
  planAt := 0
  ascForced := false
  trained := false
  hbLost := false
  lastFrameAt := 0
  skew := 0
  half := 0
  slip := false
  queue := []
  gate := false
  gateAt := 0
  strength := 0
  gstOn := 0
  gstOff := 0
  clamp := false
  aux := false
  auxCmd := false
  auxBlocked := false
  autoDis := false
  mismatch := false
  legLock := false
  stoA := false
  stoB := false
  tries := []
  retryAt := 0
  tripAt := 0
  hvs := false
  cause := none
  gst := []
  est := 0
  vddl := 0
  veel := 0
  ov2 := false
  ov3 := false
  selfTestBad := false
  toggle := none
  cap := .idle
  post := 0
  capAt := 0
  ring := []
  ascWait := false
  ascAt := 0
  deadUsed := []
  deadApplied := 0

def Link.reset : Link :=
  ⟨false, 0, [], false, none, [], false, false, [], none, 0, false, false, false⟩

def Can.reset : Can := ⟨.off, none, 0, [], none, 0⟩
def CrcU.reset : CrcU := ⟨0, 0, 3⟩
def Counter.reset : Counter := ⟨0, false, 0, false, false⟩
def ReadCopy.reset : ReadCopy := ⟨0, Vector.replicate 2 0, 0, 0⟩
def Sent.reset : Sent := ⟨none, [], [], false, false⟩
def AuxSpi.reset : AuxSpi := ⟨false, [], false, none⟩

def Net.reset : Net where
  ethUp := Vector.replicate 2 false
  macsecKey := Vector.replicate 2 false
  ethTx := []
  rxStamp := Vector.replicate 2 0
  sync := 0
  vehNs := 0
  vehAt := 0
  vehRatio := 1
  towUp := false
  towDn := false
  towNum := none
  towRtt := 0
  towFine := 0
  towRef := none
  towTurn := 0
  remoteAt := none
  towTx := []
  shareCnt := 0
  towSym := []
  respTx := []
  sent := Vector.replicate 4 Sent.reset
  aspi := Vector.replicate 4 AuxSpi.reset
  tapIr := .idcode
  linkRange := Vector.replicate 4 false

/-- The machine right after reset: the power-on reset asserted, every register at its reset word,
memories at 0 (R369), no command waiting. -/
def State.reset : State where
  pending := []
  now := 0
  dtime := 0
  regs := []
  mem := []
  params := Params.reset
  locks := Vector.replicate 16 Lock.reset
  lockTie := none
  spi := Vector.replicate 2 ⟨0, []⟩
  bridges := Vector.replicate 2 Bridge.reset
  flights := Vector.replicate 2 Flight.reset
  mods := Vector.replicate 2 ModU.reset
  ports := Vector.replicate 4 Port.reset
  aclks := Vector.replicate 2 AClk.reset
  convs := Vector.replicate 15 Conv.reset
  lanes := Vector.replicate 12 Lane.reset
  links := Vector.replicate 12 Link.reset
  trips := []
  fcr := Fcr.reset
  sto := StoTest.reset
  dcl := DcLink.reset
  pilot := Pilot.reset
  trust := Trust.reset
  recd := Recorder.reset
  sys := SysCtl.reset
  cans := Vector.replicate 4 Can.reset
  crcs := Vector.replicate 4 CrcU.reset
  cnts := Vector.replicate 32 Counter.reset
  copies := Vector.replicate 6 ReadCopy.reset
  net := Net.reset
  pins := ⟨false, false⟩
  bus := ⟨0, false⟩
  free := 0

end Sys2Proof.Machine
end

