-- ==== Sys2Proof/Machine/Ops.lean ====
section
/-! DEFINITION. The named operations that the meanings share: the register file, memory, parameters,
counters and interrupts, instances, DTIME, and the sets of drive states. -/

namespace Sys2Proof.Machine

/-! ## The outcome type -/

/-- What a meaning answers. -/
abbrev Out := Host.Outcome State Fault Refusal

/-! ## Numbers -/

/-- A quotient whose rounding the rule does not give: floor or, by a free choice, the next integer
up when the quotient is not whole. -/
def divFree (a b : Int) : Int :=
  if a % b = 0 then a / b else if Config.roundsUp a b then a / b + 1 else a / b

/-- The nearest integer to a/b, halves up ("rounded to the nearest", R129, R148). -/
def divNear (a b : Int) : Int := (2 * a + b) / (2 * b)

/-- A rational as an integer register value whose rounding no rule gives. -/
def ratFree (q : Rat) : Int := divFree q.num q.den

/-- The nearest integer to a rational, halves up. -/
def ratNear (q : Rat) : Int := divNear q.num q.den

/-- Clamps an integer to a range. -/
def clampI (lo hi x : Int) : Int := if x < lo then lo else if hi < x then hi else x

/-- A number as a little-endian byte string of length n (R7). -/
def leBytes : Nat → Nat → List Byte
  | 0, _ => []
  | n + 1, v => BitVec.ofNat 8 v :: leBytes n (v / 256)

/-- The number that a little-endian byte string spells (R7). -/
def leVal : List Byte → Nat
  | [] => 0
  | b :: bs => b.toNat + 256 * leVal bs

/-- A signed value as a little-endian byte string of length n. -/
def leBytesI (n : Nat) (v : Int) : List Byte := leBytes n (v % (2 ^ (8 * n) : Int)).toNat

/-- The signed reading of a little-endian byte string. -/
def leValI (bs : List Byte) : Int :=
  let v := leVal bs
  if 2 ^ (8 * bs.length - 1) ≤ v then (v : Int) - 2 ^ (8 * bs.length) else v

/-- Bytes `off` to `off + n − 1` of a byte string. -/
def slice (bs : List Byte) (off n : Nat) : List Byte := (bs.drop off).take n

/-- The byte at a place; past the end 0. -/
def byteAt (bs : List Byte) (i : Nat) : Nat := (bs.getD i 0).toNat

/-! ## Register file -/

/-- The key of instance `i` of the register at a bus address. -/
def regKey (i a : Nat) : Nat := i * 4294967296 + a

/-- The word of instance `i` of the register that holds the field. -/
def State.word (s : State) (f : Fld) (i : Nat) : Word := sget regReset s.regs (regKey i f.addr)

/-- Writes the whole register that holds the field. -/
def State.setWord (s : State) (f : Fld) (i : Nat) (w : Word) : State :=
  { s with regs := sset regReset s.regs (regKey i f.addr) w }

/-- A field taken out of a word. -/
def Fld.get (f : Fld) (w : Word) : Nat := w.toNat / 2 ^ f.lo % 2 ^ (f.hi + 1 - f.lo)

/-- A field put into a word; the value is taken modulo the field's width. -/
def Fld.put (f : Fld) (w : Word) (v : Nat) : Word :=
  BitVec.ofNat 32 (w.toNat / 2 ^ (f.hi + 1) * 2 ^ (f.hi + 1) +
    v % 2 ^ (f.hi + 1 - f.lo) * 2 ^ f.lo + w.toNat % 2 ^ f.lo)

/-- Reads a field of instance `i`. -/
def State.rd (s : State) (f : Fld) (i : Nat := 0) : Nat := f.get (s.word f i)

/-- Reads a field of instance `i` as a two's complement number. -/
def State.rdI (s : State) (f : Fld) (i : Nat := 0) : Int :=
  let v := s.rd f i
  if 2 ^ (f.hi - f.lo) ≤ v then (v : Int) - 2 ^ (f.hi + 1 - f.lo) else v

/-- Reads a field of instance `i` as a flag. -/
def State.bit (s : State) (f : Fld) (i : Nat := 0) : Bool := s.rd f i != 0

/-- Writes a field of instance `i`. -/
def State.wr (s : State) (f : Fld) (i : Nat) (v : Nat) : State := s.setWord f i (f.put (s.word f i) v)

/-- Writes a field of instance `i` from a signed number. -/
def State.wrI (s : State) (f : Fld) (i : Nat) (v : Int) : State :=
  s.wr f i (v % (2 ^ (f.hi + 1 - f.lo) : Int)).toNat

/-- Sets or clears a field of instance `i`. -/
def State.flag (s : State) (f : Fld) (i : Nat) (b : Bool) : State := s.wr f i (if b then 1 else 0)

/-- Returns instance `i` of the register that holds the field to its reset word. -/
def State.regToReset (s : State) (f : Fld) (i : Nat) : State :=
  s.setWord f i (regReset (regKey i f.addr))

/-! ## Memory -/

/-- The byte at an address. -/
def State.memB (s : State) (a : Nat) : Byte := sget memDflt s.mem a

/-- Writes one byte. -/
def State.setMemB (s : State) (a : Nat) (b : Byte) : State := { s with mem := sset memDflt s.mem a b }

/-- The bytes of an interval of memory. -/
def State.memBytes (s : State) (a n : Nat) : List Byte := (List.range n).map fun k => s.memB (a + k)

/-- The little-endian word at an address. -/
def State.memW (s : State) (a : Nat) : Word := BitVec.ofNat 32 (leVal (s.memBytes a 4))

/-- Writes bytes at rising addresses. -/
def State.setMemBytes (s : State) (a : Nat) : List Byte → State
  | [] => s
  | b :: bs => (s.setMemB a b).setMemBytes (a + 1) bs

/-- Writes a little-endian word. -/
def State.setMemW (s : State) (a : Nat) (w : Word) : State := s.setMemBytes a (leBytes 4 w.toNat)

/-- Removes every listed byte of an interval: it reads 0 after. -/
def State.clearMem (s : State) (a n : Nat) : State :=
  { s with mem := s.mem.filter fun c => decide (c.1 < a) || decide (a + n ≤ c.1) }

/-! ## Instances -/

/-- Replaces one entry of a vector through a function. -/
def vupd {α : Type} {n : Nat} (v : Vector α n) (i : Fin n) (f : α → α) : Vector α n := v.set i (f v[i])

def State.upB (s : State) (b : Br) (f : Bridge → Bridge) : State :=
  { s with bridges := vupd s.bridges b f }
def State.upFl (s : State) (b : Br) (f : Flight → Flight) : State :=
  { s with flights := vupd s.flights b f }
def State.upMod (s : State) (b : Br) (f : ModU → ModU) : State := { s with mods := vupd s.mods b f }
def State.upPort (s : State) (p : PortIx) (f : Port → Port) : State :=
  { s with ports := vupd s.ports p f }
def State.upAclk (s : State) (b : Br) (f : AClk → AClk) : State := { s with aclks := vupd s.aclks b f }
def State.upConv (s : State) (i : ConvIx) (f : Conv → Conv) : State :=
  { s with convs := vupd s.convs i f }
def State.upLane (s : State) (k : LaneIx) (f : Lane → Lane) : State :=
  { s with lanes := vupd s.lanes k f }
def State.upLink (s : State) (k : LaneIx) (f : Link → Link) : State :=
  { s with links := vupd s.links k f }
def State.upLock (s : State) (l : Lk) (f : Lock → Lock) : State := { s with locks := vupd s.locks l f }
def State.upCan (s : State) (c : Fin 4) (f : Can → Can) : State := { s with cans := vupd s.cans c f }
def State.upCrc (s : State) (u : Fin 4) (f : CrcU → CrcU) : State := { s with crcs := vupd s.crcs u f }
def State.upCopy (s : State) (m : Master) (f : ReadCopy → ReadCopy) : State :=
  { s with copies := vupd s.copies m f }

/-- Applies an operation for each member of a list, in order. -/
def State.each {α : Type} (s : State) (l : List α) (f : State → α → State) : State := l.foldl f s

/-- Applies an operation when a condition holds. -/
def State.when (s : State) (c : Bool) (f : State → State) : State := if c then f s else s

/-- The lane of a bridge, phase (0 U, 1 V, 2 W) and side (0 high, 1 low) (R10). -/
def laneIx (b : Br) (phase : Fin 3) (side : Fin 2) : LaneIx :=
  ⟨b.val * 6 + phase.val * 2 + side.val, by omega⟩

/-- The bridge of a lane (R10). -/
def laneBr (k : LaneIx) : Br := ⟨k.val / 6, by omega⟩

/-- The phase of a lane (R10). -/
def lanePhase (k : LaneIx) : Fin 3 := ⟨k.val % 6 / 2, by omega⟩

/-- A low-side lane (R10). -/
def laneLow (k : LaneIx) : Bool := k.val % 2 == 1

/-- The partner lane of the same leg. -/
def lanePartner (k : LaneIx) : LaneIx := ⟨k.val / 2 * 2 + (1 - k.val % 2), by omega⟩

/-- The six lanes of a bridge, in index order. -/
def lanesOf (b : Br) : List LaneIx :=
  [laneIx b 0 0, laneIx b 0 1, laneIx b 1 0, laneIx b 1 1, laneIx b 2 0, laneIx b 2 1]

/-- The three low-side lanes of a bridge. -/
def lowLanes (b : Br) : List LaneIx := [laneIx b 0 1, laneIx b 1 1, laneIx b 2 1]

/-- Every lane. -/
def allLanes : List LaneIx := List.finRange 12

/-- The other bridge. -/
def mate (b : Br) : Br := if b = 0 then 1 else 0

/-- The Lockkeeper's master ID (R27). -/
def keeper : Master := 4
/-- The debug port's master ID (R27). -/
def debugPort : Master := 5

/-- A Pilot core. -/
def isPilot (m : Master) : Bool := decide (m.val < 4)

/-! ## Parameters -/

/-- The value of an active parameter as its type takes it (R87). -/
def State.par (s : State) (id : Nat) : Int :=
  let v := sget paramDefault s.params.act id
  match paramFind id with
  | some (r, _) => r.toInt v
  | none => v.toNat

/-- The value of an active parameter that is never negative. -/
def State.parN (s : State) (id : Nat) : Nat := (sget paramDefault s.params.act id).toNat

/-- Puts a value into the active set. -/
def State.setPar (s : State) (id : Nat) (v : Word) : State :=
  { s with params := { s.params with act := sset paramDefault s.params.act id v } }

/-! ## Configuration and drive-state sets -/

/-- `drive.config` (R111). -/
def State.config (s : State) : Nat := s.parN P.drive_config

/-- The bridges are locked together (R111). -/
def State.lockedPair (s : State) : Bool := s.config == 2 || s.config == 3

/-- The bridge is configured (R111). -/
def State.configured (s : State) (b : Br) : Bool := b == 0 || s.config != 1

/-- The configured bridges. -/
def State.bridgesUsed (s : State) : List Br := if s.config = 1 then [0] else [0, 1]

/-- The bridges that a bridge stands for: itself, or the locked pair (R111). -/
def State.group (s : State) (b : Br) : List Br := if s.lockedPair then [0, 1] else [b]

/-- The bridge whose values apply to a locked pair (R196, R227, R324). -/
def State.lead (s : State) (b : Br) : Br := if s.lockedPair then 0 else b

/-- The machine that a bridge uses (R185). -/
def State.machine (s : State) (b : Br) : Nat := if s.lockedPair then 0 else b.val

/-- The drive state of a bridge. -/
def State.dst (s : State) (b : Br) : DState := s.bridges[b].st

/-- State codes (R47). -/
def DState.code : DState → Nat
  | .standby => 0x00
  | .boot => 0x01
  | .safeHold => 0x02
  | .precharge => 0x03
  | .ready => 0x04
  | .catching => 0x05
  | .run => 0x06
  | .degraded => 0x07
  | .safeStop => 0x08
  | .fault => 0x09
  | .discharge => 0x0A

/-- The Idle set (R80). -/
def DState.isIdle : DState → Bool
  | .standby | .ready | .fault => true
  | _ => false

/-- The Active set (R80). -/
def DState.isActive : DState → Bool
  | .catching | .run | .degraded => true
  | _ => false

/-- `RUN` or `DEGRADED`. -/
def DState.isDriving : DState → Bool
  | .run | .degraded => true
  | _ => false

/-- The code that the state bytes of a response show (R47, R111). -/
def State.stCode (s : State) (b : Br) : Nat :=
  if s.configured b then (s.dst b).code else 0xFF

/-- A bridge counts as Idle; an unconfigured bridge always does. -/
def State.idle (s : State) (b : Br) : Bool := !s.configured b || (s.dst b).isIdle

/-- Both bridges are Idle. -/
def State.bothIdle (s : State) : Bool := s.idle 0 && s.idle 1

/-- Both bridges are in `STANDBY`. -/
def State.bothStandby (s : State) : Bool :=
  s.dst 0 == .standby && (!s.configured 1 || s.dst 1 == .standby)

/-! ## Time -/

/-- Counts of 2.5 ns in a microsecond and in a millisecond (R8). -/
def usCounts : Nat := 400
def msCounts : Nat := 400000

/-- The bus of the control die is out of reset and DTIME counts. -/
def State.running (s : State) : Bool := s.sys.rst.isNone && !s.sys.standby

/-- Time passes: the model's clock, DTIME unless a power-on or `RST_N` reset holds it (R32), and the
degraded timers, which count down only in `DEGRADED` (R123). -/
def State.tick (s : State) (dt : Nat) : State :=
  let hold : Bool := match s.sys.rst with
    | none => s.sys.standby
    | some .warm => false
    | some _ => true
  let dec (b : Bridge) : Bridge :=
    if b.st = .degraded then { b with degLeft := b.degLeft - dt } else b
  { s with
    now := s.now + dt
    dtime := if hold then s.dtime else s.dtime + BitVec.ofNat 64 dt
    bridges := (s.bridges.set 0 (dec s.bridges[0])).set 1 (dec s.bridges[1]) }

/-- DTIME as a number. -/
def State.dt (s : State) : Nat := s.dtime.toNat

/-- DTIME [31:0], the usual stamp. -/
def State.stamp (s : State) : Word := s.dtime.setWidth 32

/-! ## Free values -/

/-- Advances the count of free values taken. -/
def State.spend (s : State) : State := { s with free := s.free + 1 }

/-! ## Event counters (R426 to R428) -/

/-- A counter counts the source and is not frozen. -/
def State.counts (s : State) (k : Fin 32) (code : Nat) : Bool :=
  code != 0 && s.rd F.CNT_CFG_SRC k == code && !s.cnts[k].frozen

/-- One counter adds n, saturating at 2^48 − 1 (R427). -/
def Counter.add (c : Counter) (n : Nat) : Counter :=
  if 281474976710655 < c.value + n then { c with value := 281474976710655, sat := true }
  else { c with value := c.value + n }

/-- n occurrences of an event source. -/
def State.evtN (s : State) (code n : Nat) : State :=
  { s with cnts := Vector.ofFn fun k => if s.counts k code then s.cnts[k].add n else s.cnts[k] }

/-- One occurrence of an event source. -/
def State.evt (s : State) (code : Nat) : State := s.evtN code 1

/-! Event source codes (R426). -/
namespace E

def LOCK_REJECT : Nat := 0x01
def LOCK_SEG_DROP : Nat := 0x02
def SP_DROP : Nat := 0x03
def CMD_PREEMPT : Nat := 0x04
def ECC_CORR : Nat := 0x05
def NVM_ECC2 : Nat := 0x06
def TABLE_WRITE_BLOCKED : Nat := 0x07
def FAULT_DROP : Nat := 0x08
def TOW_CRC : Nat := 0x09
def STAGE_RETIRED (b : Br) : Nat := 0x20 + b.val
def SQUASH_MISPRED (b : Br) : Nat := 0x22 + b.val
def SQUASH_SETPOINT (b : Br) : Nat := 0x24 + b.val
def SQUASH_HANDOVER (b : Br) : Nat := 0x26 + b.val
def SQUASH_STOP (b : Br) : Nat := 0x28 + b.val
def POS_SWITCH (b : Br) : Nat := 0x2A + b.val
def SHALLOW_ENTER (b : Br) : Nat := 0x2C + b.val
def FLIGHT_LATE (b : Br) : Nat := 0x2E + b.val
def FLIGHT_GROUP_MISS (b : Br) : Nat := 0x30 + b.val
def MAP_CLAMP (b : Br) : Nat := 0x32 + b.val
def MOD_PULSE_DROP (b : Br) : Nat := 0x34 + b.val
def OPP_DEFER (b : Br) : Nat := 0x36 + b.val
def CUR_RECON (b : Br) : Nat := 0x38 + b.val
def POS_TURN_SAT (p : PortIx) : Nat := 0x3C + p.val
def CONV_OVERLAP (i : ConvIx) : Nat := 0x40 + i.val
def CONV_SAT (i : ConvIx) : Nat := 0x50 + i.val
def LANE_FORCED (k : LaneIx) : Nat := 0x70 + k.val
def LINK_CRC (k : LaneIx) : Nat := 0x80 + k.val
def LANE_LATE (k : LaneIx) : Nat := 0x90 + k.val
def LANE_TRIP (k : LaneIx) : Nat := 0xA0 + k.val
def LANE_RETRY (k : LaneIx) : Nat := 0xB0 + k.val
def LANE_LATCH (k : LaneIx) : Nat := 0xC0 + k.val
def LANE_UV_WARN (k : LaneIx) : Nat := 0xD0 + k.val
def CAN_PEX (c : Fin 4) : Nat := 0xE0 + c.val
def CAN_RX_LONG (c : Fin 4) : Nat := 0xE4 + c.val
def CAN_OVERRUN (c : Fin 4) : Nat := 0xE8 + c.val
def CAN_PASSIVE (c : Fin 4) : Nat := 0xEC + c.val
def CAN_BUSOFF (c : Fin 4) : Nat := 0xF0 + c.val
def CAN_LOCK_FMT (c : Fin 4) : Nat := 0xF4 + c.val
def ETH_DROP (m : Fin 2) : Nat := 0xF8 + m.val
def ETH_MACSEC_DROP (m : Fin 2) : Nat := 0xFA + m.val

end E

/-- The defined source codes, 181 in all (R426), and 0 to stop. -/
def srcDefined (c : Nat) : Bool :=
  decide (c ≤ 0x09) || decide (0x20 ≤ c ∧ c ≤ 0x39) || decide (0x3C ≤ c ∧ c ≤ 0x3F) ||
  decide (0x40 ≤ c ∧ c ≤ 0x4E) || decide (0x50 ≤ c ∧ c ≤ 0x5E) ||
  (decide (0x70 ≤ c ∧ c ≤ 0xDF) && decide (c % 16 < 12)) ||
  decide (0xE0 ≤ c ∧ c ≤ 0xF7) || decide (0xF8 ≤ c ∧ c ≤ 0xFB)

/-! ## Interrupts (R41 to R44) -/

/-- Raises interrupt source n. -/
def State.irq (s : State) (n : Nat) : State :=
  s.setWord F.SYS_IRQ_STATUS_LEVEL 0 (s.word F.SYS_IRQ_STATUS_LEVEL 0 ||| BitVec.ofNat 32 (2 ^ n))

/-- Drives interrupt source n by a level. -/
def State.irqLevel (s : State) (n : Nat) (b : Bool) : State :=
  if b then s.irq n
  else s.setWord F.SYS_IRQ_STATUS_LEVEL 0
    (s.word F.SYS_IRQ_STATUS_LEVEL 0 &&& ~~~ BitVec.ofNat 32 (2 ^ n))

/-- An access of a master leaves source n at a level; a Pilot core does not clear a source that is delivered to
the Lockkeeper, which clears it by its own write of the flag (R42). -/
def State.irqBy (s : State) (m : Master) (n : Nat) (b : Bool) : State :=
  if !b && isPilot m && (s.word F.SYS_IRQ_ROUTE_K_ROUTE 0).getLsbD n then s else s.irqLevel n b

/-- The sources delivered to a master (R42, R43): to the Lockkeeper those routed to K, to a Pilot core those that
its own mask enables; none to the debug port. -/
def State.irqTo (s : State) (m : Master) : Word :=
  let level := s.word F.SYS_IRQ_STATUS_LEVEL 0
  if isPilot m then level &&& s.word (F.SYS_IRQ_EN_P_EN.at m.val) 0
  else if m = keeper then level &&& s.word F.SYS_IRQ_ROUTE_K_ROUTE 0
  else 0

/-- The sources that may go to the Lockkeeper: the targets K of R41. -/
def irqMaskK : Word := 0xE6840EC1
/-- The sources that may go to a Pilot core: the targets P of R41 (R378). -/
def irqMaskP : Word := 0xD9FFF9FE

/-! ## CRC -/

/-- One bit step of a left-shifting CRC register of width w. -/
def crcStepL (w poly : Nat) (r : Nat) : Nat :=
  if r / 2 ^ (w - 1) % 2 = 1 then (r * 2 % 2 ^ w) ^^^ poly else r * 2 % 2 ^ w

/-- One bit step of a right-shifting CRC register; `rpoly` is the reflected polynomial. -/
def crcStepR (rpoly : Nat) (r : Nat) : Nat := if r % 2 = 1 then (r / 2) ^^^ rpoly else r / 2

/-- n-fold application. -/
def iterN {α : Type} (f : α → α) : Nat → α → α
  | 0, x => x
  | n + 1, x => iterN f n (f x)

/-- Folds one byte most significant bit first. -/
def crcByteL (w poly : Nat) (r : Nat) (b : Byte) : Nat :=
  iterN (crcStepL w poly) 8 (r ^^^ (b.toNat * 2 ^ (w - 8)))

/-- Folds one byte least significant bit first. -/
def crcByteR (rpoly : Nat) (r : Nat) (b : Byte) : Nat := iterN (crcStepR rpoly) 8 (r ^^^ b.toNat)

/-- CRC-32C over bytes from a start value, without the final XOR (R46). -/
def crc32cFold (start : Nat) (bs : List Byte) : Nat := bs.foldl (crcByteR 0x82F63B78) start

/-- CRC-32C with a start value and the final XOR of all ones. -/
def crc32c (start : Nat) (bs : List Byte) : Nat := crc32cFold start bs ^^^ 0xFFFFFFFF

/-- CRC-8 with polynomial 0x1D (R31, R411) and a start value. -/
def crc8 (start : Nat) (bs : List Byte) : Nat := bs.foldl (crcByteL 8 0x1D) start

/-! ## Slots of stages, and sequence entries (R166, R233) -/

/-- The slot of a stage number (R166). -/
def slotIx (n : Nat) : Fin 16 := ⟨n % 16, by omega⟩

/-- The entries of an instance's sequence (R233). -/
def entWin (w : Word) : Bool := w.getLsbD 31
def entOwc (w : Word) : Nat := w.toNat / 2 ^ 29 % 4
def entGain (w : Word) : Nat := w.toNat / 2 ^ 24 % 8
def entConv (w : Word) : Nat := w.toNat / 2 ^ 20 % 4
def entStime (w : Word) : Nat := w.toNat / 2 ^ 10 % 1024
def entChan (w : Word) : Nat := w.toNat % 16

/-- The counts from one conversion of a lane's entry to the next: sample time and 16 clocks of 200 MHz, half of it
when its converters interleave (R229, R236). -/
def convPeriod (w : Word) : Nat := if entConv w = 2 then entStime w + 16 else 2 * (entStime w + 16)

/-- An entry of an instance's sequence. -/
def State.convEntry (s : State) (i : ConvIx) (e : Fin 16) : Word := s.word (F.CONV_SEQ_ENTRY.at e.val) i.val

/-- The entries in use: 0 to `SEQ_LAST`. -/
def State.convUsed (s : State) (i : ConvIx) : List (Fin 16) :=
  (List.finRange 16).filter fun e => decide (e.val ≤ s.rd F.CONV_CFG_SEQ_LAST i.val)

/-- The converter instance of a lane. -/
def laneConv (k : LaneIx) : ConvIx := ⟨k.val, by omega⟩

/-- The low-side lane of a leg. -/
def lowLane (b : Br) (ph : Fin 3) : LaneIx := laneIx b ph 1

end Sys2Proof.Machine
end

