-- ==== Sys2Proof/Machine/ParRegs.lean ====
section
/-! DEFINITION. Parameters and the registers that hold them: what a parameter that takes effect writes
(the register tables name the parameter of each field), the lane registers that the Lockkeeper writes
through a lane's link (R262, R282), and the guarded DC-link thresholds (R284). -/

namespace Sys2Proof.Machine

/-- A flag as a number. -/
def b2n (b : Bool) : Nat := if b then 1 else 0

/-- 200,000,000 / f, rounded: the half carrier period of `mod.f_carrier` (`MOD_CARRIER.HALF`). -/
def halfOf (f : Int) : Int := if f = 0 then 20000 else divNear 200000000 f

/-- The registers that parameter `r` of instance `k` with value `v` is written to at once, as
(field, instance, value). Bridge parameters of a locked pair are bridge A's for both (R196, R227). -/
def parWrites (locked : Bool) (r k : Nat) (v : Int) : List (Fld × Nat × Int) :=
  let br (f : Fld) (x : Int) : List (Fld × Nat × Int) :=
    if locked then (if k = 0 then [(f, 0, x), (f, 1, x)] else []) else [(f, k, x)]
  match r with
  | 0x0A01 => [(F.LOCK_CTRL_TIMEOUT_MS, 0, v)]
  | 0x0300 => if v = 7 then [(F.PORT_CFG_ENABLE, k, 0)]
      else [(F.PORT_CFG_MODE, k, v), (F.PORT_CFG_ENABLE, k, 1)]
  | 0x0301 => [(F.PORT_CFG_BRIDGE, k, v)]
  | 0x0302 => [(F.PORT_LINES_LINES, k, v)]
  | 0x0303 => [(F.PORT_CFG_SENSOR_PP, k, v)]
  | 0x0304 => [(F.PORT_CFG_INVERT, k, v)]
  | 0x0305 => [(F.PORT_OFFSET_OFFSET, k, v)]
  | 0x0306 => [(F.PORT_EXC_FREQ, k, v / 100)]
  | 0x0307 => [(F.PORT_EXC_PHASE, k, v)]
  | 0x0308 => [(F.PORT_LIMITS_AMP_MIN, k, v)]
  | 0x0309 => [(F.PORT_LIMITS_AMP_MAX, k, v)]
  | 0x030A => [(F.PORT_LIMITS_ZERO_TIMEOUT, k, v)]
  | 0x030B => [(F.PORT_FILT_SPEED_AVG, k, v)]
  | 0x030C => [(F.PORT_FILT_FAULT_FILT, k, v)]
  | 0x030D => [(F.PORT_DELAY_DELAY, k, v)]
  | 0x030E => [(F.PORT_CFG_LINK, k, v)]
  | 0x030F => [(F.PORT_FRAME_BITS, k, v)]
  | 0x0310 => [(F.PORT_FRAME_GRAY, k, v)]
  | 0x0311 => [(F.PORT_FRAME_SCLK, k, v)]
  | 0x0312 => [(F.PORT_FRAME_PERIOD, k, v)]
  | 0x0313 => [(F.PORT_TURN_LIMIT_LIMIT, k, v)]
  | 0x0314 => [(F.PORT_EXC_AMP_NOM, k, v)]
  | 0x0380 => [(F.ACLK_CTRL_PRIMARY.at (16 * k), 0, v)]
  | 0x0381 => [(F.ACLK_CTRL_REDUND.at (16 * k), 0, v)]
  | 0x0382 => [(F.ACLK_CTRL_DIR_SENSE.at (16 * k), 0, v)]
  | 0x038A => [(F.ACLK_CTRL_HFI.at (16 * k), 0, v)]
  | 0x0401 => br F.FLT_CTRL_DEPTH v
  | 0x0402 => br F.FLT_LEAD_LEAD (v / 25)
  | 0x0403 => br F.FLT_BAND_I_BAND v
  | 0x0404 => br F.FLT_BAND_A_BAND v
  | 0x0405 => br F.FLT_STORM_LIMIT v
  | 0x0406 => br F.FLT_STORM_WINDOW v
  | 0x0407 => br F.FLT_STORM_QUIET v
  | 0x0408 => br F.FLT_DOB_CFG_BW v
  | 0x0409 => br F.FLT_DOB_CFG_ENABLE v
  | 0x0440 => [(F.FLT_AXIS_AXIS.at (8 * k), 0, v)]
  | 0x0441 => [(F.FLT_AXIS_AXIS.at (8 * k + 1), 0, v)]
  | 0x0442 => [(F.FLT_AXIS_AXIS.at (8 * k + 2), 0, v)]
  | 0x0443 => [(F.FLT_AXIS_AXIS.at (8 * k + 3), 0, v)]
  | 0x0444 => [(F.FLT_AXIS_AXIS.at (8 * k + 4), 0, v)]
  | 0x0445 => [(F.FLT_AXIS_AXIS.at (8 * k + 5), 0, v)]
  | 0x0446 => if !locked then [(F.FLT_RS_RS, k, v)]
      else if k = 0 then [(F.FLT_RS_RS, 0, v), (F.FLT_RS_RS, 1, v)] else []
  | 0x0501 => br F.MOD_CARRIER_HALF (halfOf v)
  | 0x0502 => br F.MOD_DEAD_DEAD_MIN (v / 25)
  | 0x0503 => br F.MOD_DEAD_DEAD_MAX (v / 25)
  | 0x0504 => br F.MOD_PULSE_MIN_PULSE (v / 25)
  | 0x0505 => br F.MOD_DPWM_KIND v
  | 0x0506 => br F.MOD_DPWM_ON v
  | 0x0507 => br F.MOD_DPWM_OFF v
  | 0x0508 => br F.MOD_OVM_OVM_EN v
  | 0x0509 => br F.MOD_OVM_SIX_EN v
  | 0x050A => br F.MOD_OVM_SIX_ON v
  | 0x050B => br F.MOD_SYNC_ON v
  | 0x050C => br F.MOD_SYNC_OFF v
  | 0x050D => br F.MOD_OPP_Q_MASK v
  | 0x050E => br F.MOD_OPP_FSW_MAX v
  | 0x050F => br F.MOD_BST_ON_MAX v
  | 0x0510 => br F.MOD_BST_REFRESH (v / 25)
  | 0x0511 => br F.MOD_CTRL_SWAP v
  | 0x0512 => br F.MOD_CTRL_INVERT v
  | 0x0513 => br F.MOD_CTRL_PLS_EN v
  | 0x0514 => br F.MOD_CTRL_LOAD_MID v
  | 0x0515 => br F.MOD_CTRL_MODE v
  | 0x0110 => [(F.FCR_CTRL_KEEPER_RETRY, 0, v)]
  | 0x0901 => [(F.FCR_CTRL_POLICY, 0, v)]
  | 0x0906 => [(F.FCR_CTRL_STO_ASC, 0, v)]
  | 0x0B01 => [(F.NVMC_REC_ENABLE, 0, v)]
  | 0x0B02 => [(F.NVMC_REC_CLASS, 0, v)]
  | 0x0B03 => [(F.NVMC_REC_PRE, 0, v)]
  | 0x0B04 => [(F.NVMC_REC_PIN_MAX, 0, v)]
  | 0x0B05 => [(F.NVMC_REC_AUTO_PIN, 0, v)]
  | 0x0C01 => [(F.SYS_RST_CTRL_SCOPE, 0, v)]
  | 0x0C02 => [(F.SYS_THERM_CFG_WARN, 0, v)]
  | 0x0C03 => [(F.SYS_THERM_CFG_DERATE, 0, v)]
  | 0x0C04 => [(F.SYS_THERM_CFG_DERATE_MIN, 0, v)]
  | _ => []

/-- Writes a list of register fields. -/
def State.wrList (s : State) (l : List (Fld × Nat × Int)) : State :=
  s.each l fun s x => s.wrI x.1 x.2.1 x.2.2

/-! ## Lane registers through the link (R262) -/

/-- The register-file instance of the lane die's own copy of a LANE register. -/
def laneOwn (k : LaneIx) : Nat := 16 + k.val

/-- The word offset that a register-write frame carries (R258). -/
def laneOff (f : Fld) : Nat := (f.addr - 0x40020100) / 4

/-- The word that a lane register will hold once the writes waiting have been applied: the latest one
waiting, else the shadow copy. -/
def State.laneNext (s : State) (k : LaneIx) (f : Fld) : Word :=
  match s.links[k].writes.reverse.find? fun w => w.1 == laneOff f with
  | some w => w.2
  | none => s.word f k

/-- A write of a whole LANE register: it waits for a register-write frame; a lane in `UNLINKED` takes
none, and `NOLINK` is set (R262). -/
def State.laneSend (s : State) (k : LaneIx) (f : Fld) (w : Word) : State :=
  if s.lanes[k].st = .unlinked then s.flag F.LANE_ERR_NOLINK 0 true
  else s.upLink k fun l => { l with writes := l.writes ++ [(laneOff f, w)] }

/-- The Lockkeeper writes one field of a lane register. -/
def State.lanePut (s : State) (k : LaneIx) (f : Fld) (v : Int) : State :=
  s.laneSend k f (f.put (s.laneNext k f) (v % (2 ^ (f.hi + 1 - f.lo) : Int)).toNat)

/-- The Lockkeeper writes one field of a lane register unless it holds the value already. -/
def State.laneSet (s : State) (k : LaneIx) (f : Fld) (v : Nat) : State :=
  if f.get (s.laneNext k f) = v then s else s.lanePut k f v

/-- The guarded fields of a lane that hold `SAFETY` parameters, with their values (R281, R308, R290).
-/
def State.laneSafety (s : State) (k : LaneIx) : List (Fld × Int) :=
  let b := (laneBr k).val
  [(F.LANE_DIDT_TRIP, s.par (P.lane_didt_trip b)), (F.LANE_DIDT_LS, s.par (P.lane_ls b)),
   (F.LANE_DIDT_MASK, (s.par (P.lane_edge_mask b) - 300) / 25),
   (F.LANE_DIDT_FILT_FILTER, (s.par (P.lane_didt_filter b) - 100) / 25),
   (F.LANE_INTEG_TRIP, s.par (P.lane_int_trip b)),
   (F.LANE_DESAT_BLANK, s.par (P.lane_desat_blank b)), (F.LANE_DESAT_VOLT, s.par (P.lane_desat_v b)),
   (F.LANE_OV3_VDC_OV3, s.par (P.lane_vdc_ov3 b)), (F.LANE_PROT_VEEL_TRIP, s.par (P.lane_veel_trip b)),
   (F.LANE_PROT_SOFT_STEP, s.par (P.lane_soft_step b)),
   (F.LANE_PROT_STO_ASC, s.par P.safety_sto_asc),
   (F.LANE_RETRY_WAIT, s.par (P.lane_retry_wait b)), (F.LANE_RETRY_MAX, s.par (P.lane_retry_max b)),
   (F.LANE_OV2_VDC_OV2, s.par P.weir_v_ov2)]

/-- The permitted advance of the adaptive dead time, in units of 10 ns (R214). -/
def State.deadAdvance (s : State) (b : Br) : Nat :=
  (s.rd F.MOD_DEAD_DEAD_MAX b - s.rd F.MOD_DEAD_DEAD_MIN b) / 4

/-- The permitted advance stands in `LANE_ADV.ADV` of every lane of the bridge (R214). -/
def State.sendAdvance (s : State) (b : Br) : State :=
  s.each (lanesOf b) fun s k => s.laneSet k F.LANE_ADV_ADV (s.deadAdvance b)

/-- `MOD_CTRL.MODE` of a bridge has become 1: its periods are counted from here (R221). -/
def State.directBegin (s : State) (b : Br) : State :=
  let p := 16 * s.rd F.MOD_PERIOD_ACT_PERIOD b
  (s.wr F.MOD_PERIOD_CNT_COUNT b 0).upMod b fun m => { m with
    perStart := 32 * s.dt, firstHalf := p, secondHalf := p, midDue := false, legs := ModU.reset.legs, plan := [] }

/-- The lane's fields that hold `NORMAL` parameters (R281), and the advance of R214. -/
def State.laneNormal (s : State) (k : LaneIx) : List (Fld × Int) :=
  let b := (laneBr k).val
  [(F.LANE_CFG_LEARN, s.par (P.lane_learn b)), (F.LANE_CFG_CLAMP_EN, s.par (P.lane_clamp_enable b)),
   (F.LANE_CFG_BOOSTER, s.par (P.lane_booster b)),
   (F.LANE_CFG_BOOTSTRAP, if laneLow k then 0
     else b2n ((s.parN (P.lane_supply_h b)).testBit (lanePhase k).val)),
   (F.LANE_GATE_T_OFF, s.par (P.lane_t_off_target b)), (F.LANE_GATE_T_ON, s.par (P.lane_t_on_target b)),
   (F.LANE_GATE_BAND, s.par (P.lane_learn_band b)), (F.LANE_GATE_STEP_MAX, s.par (P.lane_step_max b)),
   (F.LANE_GST_DATA_BIN_A, s.par (P.lane_bin_a b)), (F.LANE_ADV_ADV, s.deadAdvance (laneBr k))]

/-- The auxiliary mode of a lane: 1 the chopper lane, 2 the discharge lane, else 0 (R285, R293). -/
def State.auxMode (s : State) (k : LaneIx) : Nat :=
  if s.parN P.weir_chop_lane = k.val then 1 else if s.parN P.dcl_dis_lane = k.val then 2 else 0

/-- The Lockkeeper writes the lane parameters of a bridge (R282, R290). -/
def State.laneConfig (s : State) (b : Br) : State :=
  s.each (lanesOf b) fun s k =>
    (s.laneSafety k ++ s.laneNormal k).foldl (fun s x => s.lanePut k x.1 x.2) s

/-- The Lockkeeper gives a lane its auxiliary mode where it differs. -/
def State.laneAux (s : State) (k : LaneIx) : State :=
  if s.rd F.LANE_PLAN_AUX_MODE k = s.auxMode k then s
  else (s.lanePut k F.LANE_PLAN_AUX_MODE (s.auxMode k)).wr F.LANE_PLAN_AUX_MODE k (s.auxMode k)

/-- The DC-link guarded fields of SYS with the values of their parameters (R284). -/
def State.weirFields (s : State) : List (Fld × Nat × Int) :=
  [(F.SYS_WEIR_START_MV, 0, s.par P.weir_v_start), (F.SYS_WEIR_FULL_MV, 0, s.par P.weir_v_full),
   (F.SYS_WEIR_CHOP_ON_MV, 0, s.par P.weir_v_chop_on),
   (F.SYS_WEIR_CHOP_OFF_MV, 0, s.par P.weir_v_chop_off), (F.SYS_WEIR_OV2_MV, 0, s.par P.weir_v_ov2),
   (F.SYS_WEIR_CHOP0_CHECK, 0, s.par P.weir_chop_check), (F.SYS_WEIR_CHOP0_MIN, 0, s.par P.weir_chop_min),
   (F.SYS_WEIR_CHOP1_LANE, 0, s.par P.weir_chop_lane), (F.SYS_WEIR_CHOP1_DROP, 0, s.par P.weir_chop_drop)]

/-- The guarded fields of the control die that hold `SAFETY` parameters (R316). -/
def State.guardFields (s : State) : List (Fld × Nat × Int) :=
  [(F.FCR_CTRL_KEEPER_RETRY, 0, s.par P.sys_keeper_retry),
   (F.FCR_CTRL_POLICY, 0, s.par P.safety_fault_policy), (F.FCR_CTRL_STO_ASC, 0, s.par P.safety_sto_asc),
   (F.SYS_RST_CTRL_SCOPE, 0, s.par P.sys_reset_scope),
   (F.SYS_WEIR_OV2_MV, 0, s.par P.weir_v_ov2), (F.SYS_WEIR_CHOP0_CHECK, 0, s.par P.weir_chop_check),
   (F.SYS_WEIR_CHOP1_DROP, 0, s.par P.weir_chop_drop)]

/-- A parameter takes effect on its registers; a change of `safety.sto_asc` reaches every lane (R308), one of
the dead times the advance of the lanes (R214); direct modulation that begins counts its periods anew. -/
def State.parReg (s : State) (id : Nat) : State :=
  match paramFind id with
  | none => s
  | some (r, k) =>
    let mode (b : Br) : Bool := s.bit F.MOD_CTRL_MODE b
    let s := s.wrList (parWrites s.lockedPair r.id k (s.par id))
    if r.id = P.safety_sto_asc then
      s.each allLanes fun s l => s.laneSet l F.LANE_PROT_STO_ASC (s.parN P.safety_sto_asc)
    else if r.id = 0x0502 ∨ r.id = 0x0503 then s.each [0, 1] State.sendAdvance
    else if r.id = 0x0515 then
      s.each [0, 1] fun s b => s.when (!mode b && s.bit F.MOD_CTRL_MODE b) fun s => s.directBegin b
    else s

end Sys2Proof.Machine
end

