-- ==== Sys2Proof/Machine/React.lean ====
section
/-! DEFINITION. Faults and drive-state changes as shared operations: the fault codes and classes
(R301), the fault list and the reactions (R299 to R303, R408, R428), squashes and the start and stop
of a Flight engine (R177, R192 to R195), contactor requests (R291), the torque envelope (R314), the
recorder trigger (R354), and the one entry into a drive state with everything the Lockkeeper does at
it (R103, R104). -/

namespace Sys2Proof.Machine

/-! ## Fault codes, locations and classes -/

/-! Fault codes (R301, R252, R277, R409). -/
namespace FC

def KEEPER_LOCKSTEP : Nat := 0x01
def KEEPER_HB : Nat := 0x02
def PILOT_WDG : Nat := 0x03
def PILOT_RESTARTS : Nat := 0x04
def PILOT_HOLD : Nat := 0x05
def BUS_DECODE : Nat := 0x06
def GUARD_WRITE : Nat := 0x07
def STATE_ECC : Nat := 0x08
def CLOCK : Nat := 0x09
def THERM_WARN : Nat := 0x0A
def THERM_SHUT : Nat := 0x0B
def CFG_CHECK : Nat := 0x0C
def GUARD_CFG : Nat := 0x0D
def PARAM_CHECK : Nat := 0x0E
def SETPOINT_TIMEOUT : Nat := 0x0F
def STO_TEST : Nat := 0x10
def STO_DISC : Nat := 0x11
def SS1_DECEL : Nat := 0x12
def TORQUE_MON : Nat := 0x13
def CATCH_FAIL : Nat := 0x14
def CATCH_POS : Nat := 0x15
def CATCH_OVER : Nat := 0x16
def STOP_TIMEOUT : Nat := 0x17
def POS_WIRE : Nat := 0x20
def POS_AMP : Nat := 0x21
def POS_SEQ : Nat := 0x22
def POS_FRAME : Nat := 0x23
def POS_STALE : Nat := 0x24
def POS_JUMP : Nat := 0x25
def POS_REDUND : Nat := 0x26
def FLIGHT_LATE : Nat := 0x30
def FLIGHT_ECC : Nat := 0x31
def FLIGHT_SAMPLE : Nat := 0x32
def CUR_OFFSET : Nat := 0x33
def VDC_PLAUS : Nat := 0x34
def VDC_LOST : Nat := 0x35
def TMOD_WARN : Nat := 0x36
def TMOD_TRIP : Nat := 0x37
def SENSE_OPEN : Nat := 0x38
def CONV_DIAG : Nat := 0x39
def CUR_PLAUS : Nat := 0x3A
def MON_SUM : Nat := 0x3B
def LANE_SC : Nat := 0x40
def LANE_DESAT : Nat := 0x41
def LANE_UV : Nat := 0x42
def LANE_UV_WARN : Nat := 0x43
def LANE_SHOOT : Nat := 0x44
def LANE_PAIR : Nat := 0x45
def LANE_HB : Nat := 0x46
def LANE_LINK : Nat := 0x47
def LANE_QUEUE : Nat := 0x48
def LANE_TIME : Nat := 0x49
def LANE_LATE : Nat := 0x4A
def LANE_ASC : Nat := 0x4B
def VDC_OV3 : Nat := 0x50
def VDC_OV2 : Nat := 0x51
def CHOP : Nat := 0x52
def PRECHARGE : Nat := 0x53
def CONTACTOR : Nat := 0x54
def DISCHARGE : Nat := 0x55
def CAN_BUSOFF : Nat := 0x60
def ETH_LINK : Nat := 0x61
def ETH_MACSEC : Nat := 0x62
def TIME_SYNC : Nat := 0x63
def TOW_LINK : Nat := 0x64
def TOW_TIME : Nat := 0x65
def TOW_REMOTE : Nat := 0x66
def TOW_SHARE : Nat := 0x67
def SENT_FRAME : Nat := 0x68

end FC

/-- The class codes of R93. -/
def clsCode : RClass → Nat
  | .none => 0
  | .report => 1
  | .degrade => 2
  | .legOff => 3
  | .bridgeSafe => 4
  | .allSafe => 5
  | .resetWarm => 6
  | .hold => 7

/-- The class of a code of R93. -/
def clsOf : Nat → RClass
  | 1 => .report
  | 2 => .degrade
  | 3 => .legOff
  | 4 => .bridgeSafe
  | 5 => .allSafe
  | 6 => .resetWarm
  | 7 => .hold
  | _ => .none

/-- The location codes of R92. -/
def locCode : Loc → Nat
  | .lane k => k.val
  | .bridge b => 0x10 + b.val
  | .device => 0xFF

/-- The location of a code of R92. -/
def locOf (c : Nat) : Option Loc :=
  if h : c < 12 then some (.lane ⟨c, h⟩)
  else if c = 0x10 then some (.bridge 0)
  else if c = 0x11 then some (.bridge 1)
  else if c = 0xFF then some .device
  else none

/-- A code whose class the raising block presents (R301): its Class column names a rule, a parameter
or a setting. `FLT_LANE_*` and the link faults with a class of their own are fixed (DEDUCED, log entry
5). -/
def isPresented (c : Nat) : Bool :=
  c == 0x08 || decide (0x20 ≤ c ∧ c ≤ 0x26) || decide (0x33 ≤ c ∧ c ≤ 0x3B) ||
  decide (0x40 ≤ c ∧ c ≤ 0x4B) || c == 0x66

/-- The fixed class of a code; `none` for unused and presented-class codes (R301, `FCR_CLASS`). -/
def fixedClass (c : Nat) : RClass :=
  if isPresented c then .none
  else if [0x03, 0x06, 0x07, 0x0A, 0x0C, 0x0E, 0x0F, 0x17].contains c then .report
  else if decide (0x60 ≤ c ∧ c ≤ 0x68) then .report
  else if c = 0x52 then .degrade
  else if [0x01, 0x02, 0x09].contains c then .allSafe
  else if c = 0x0B then .hold
  else if [0x04, 0x05, 0x0D].contains c || decide (0x10 ≤ c ∧ c ≤ 0x16) ||
      decide (0x30 ≤ c ∧ c ≤ 0x32) || [0x50, 0x51, 0x53, 0x54, 0x55].contains c then .bridgeSafe
  else .none

/-- The class of a lane fault (R277). -/
def laneClass (c : Nat) : RClass :=
  if [FC.LANE_SC, FC.LANE_DESAT, FC.LANE_UV].contains c then .legOff
  else if [FC.LANE_UV_WARN, FC.LANE_LATE].contains c then .report
  else .bridgeSafe

/-- A code that some fault uses. -/
def usedCode (c : Nat) : Bool := isPresented c || fixedClass c != .none

/-- Policy `EDGE_ACK` is set (R303). -/
def State.edgeAck (s : State) : Bool := s.parN P.safety_fault_policy == 1

/-- The class as which a fault is executed (R303). -/
def State.execClass (s : State) (c : RClass) : RClass :=
  if s.edgeAck && (c == .degrade || c == .legOff) then .bridgeSafe else c

/-- The bridges that a bridge-level reaction at a location acts on (R299). -/
def State.bridgesAt (s : State) : Loc → List Br
  | .lane k => [laneBr k]
  | .bridge b => [b]
  | .device => s.bridgesUsed

/-! ## Urgent symbols -/

/-- Sends an urgent symbol to a lane; a symbol on its way is not sent a second time. -/
def State.urgent (s : State) (k : LaneIx) (u : Urgent) : State :=
  s.upLink k fun l => if l.urgent.contains u then l else { l with urgent := l.urgent ++ [u] }

/-- `PLAN_NOW` to the six lanes of a bridge (R299). -/
def State.planNow (s : State) (b : Br) : State := s.each (lanesOf b) fun s k => s.urgent k .planNow

/-- `ASC_NOW` to the six lanes of a bridge (R271). -/
def State.ascNow (s : State) (b : Br) : State := s.each (lanesOf b) fun s k => s.urgent k .ascNow

/-- `PLAN_NOW` with another plan than the headers': the header plan is replaced until the lanes are
released (R455). -/
def State.planNowWith (s : State) (b : Br) (plan : Nat) : State :=
  (s.planNow b).upB b fun x => { x with planOver := some plan }

/-- The Lockkeeper writes the plan of a bridge's lanes to `LANE_PLAN`; the headers carry it and mark
it as given (R305). In `CATCH` the lanes hold their gates off while the back-EMF is measured (R103). -/
def State.setPlan (s : State) (b : Br) (plan : Nat) : State :=
  let p := if s.dst b = .catching then 0 else plan
  (s.each (lanesOf b) fun s k =>
    (s.wr F.LANE_PLAN_PLAN k p).upLink k fun l => { l with planGiven := true }).upB b
      fun x => { x with plan := plan }

/-! ## Speed of a bridge -/

/-- The Angle Clock speed in 0.1 rpm. -/
def State.speed (s : State) (b : Br) : Int := s.rdI (F.ACLK_SPEED_SPEED.at (16 * b.val))
/-- The speed quality code (R85). -/
def State.speedQ (s : State) (b : Br) : Nat := s.rd (F.ACLK_STATUS_QUALITY.at (16 * b.val))
/-- The source in use; 0xF none. -/
def State.source (s : State) (b : Br) : Nat := s.rd (F.ACLK_STATUS_SOURCE.at (16 * b.val))
/-- The speed magnitude. -/
def State.speedMag (s : State) (b : Br) : Nat := (s.speed b).natAbs

/-- The speed-band plan (R305). -/
def State.bandPlan (s : State) (b : Br) : Nat :=
  let v := s.speedMag b
  let l := (s.lead b).val
  if s.speedQ b = 4 ∨ s.source b = 0xF then s.bridges[b].plan
  else if s.parN (P.safety_asc_on l) ≤ v then s.parN (P.safety_asc_side l) + 1
  else if v ≤ s.parN (P.safety_asc_off l) then 0
  else s.bridges[b].plan

/-- The bridge DC-link value in mV (R244). -/
def State.vdcOf (s : State) (b : Br) : Int := s.rdI (F.CONV_VDC_BR_VDC.at (8 * b.val))

/-- The link voltage: the higher of the configured bridges' values (R283). -/
def State.vLink (s : State) : Int :=
  if s.config = 1 then s.vdcOf 0 else max (s.vdcOf 0) (s.vdcOf 1)

/-! ## Torque envelope (R314) -/

/-- The degraded factor in percent. -/
def State.degFactor (s : State) (b : Br) : Nat :=
  if s.dst b = .degraded then
    if s.config = 2 ∧ (s.bridges[(0 : Br)].setSafe ∨ s.bridges[(1 : Br)].setSafe) then
      min (s.parN P.drive_sixph_limit) (s.parN P.safety_deg_torque)
    else s.parN P.safety_deg_torque
  else 100

/-- The thermal factor in 1/1,000: the smaller of the module factor and the die factor (R376). -/
def State.thermFactor (s : State) (b : Br) : Nat := min s.sys.modFactor[b] s.sys.dieFactor

/-- The Lockkeeper writes `FLT_ENV_MOT`, `FLT_ENV_GEN` and `FLT_IMAX` of a bridge. -/
def State.envelope (s : State) (b : Br) : State :=
  let l := (s.lead b).val
  let d : Int := s.degFactor b
  let s1 := s.wrI F.FLT_ENV_MOT_LIMIT b.val (divFree (s.par (P.safety_env_mot l) * d) 100)
  let s2 := s1.wrI F.FLT_ENV_GEN_LIMIT b.val (divFree (s.par (P.safety_env_gen l) * d) 100)
  s2.wrI F.FLT_IMAX_IMAX b.val (divFree (s.par (P.safety_imax l) * d * s.thermFactor b) 100000)

/-! ## The Flight engine -/

/-- Instant (a) of R169: for the n-th edge of each lane, its time less the lead and n/2 slots; a stage
without edges takes its start less the lead. `seen` are the lanes of the edges passed. -/
def instantEdges (lead : Int) : List (LaneIx × Edge) → List LaneIx → Option Int → Option Int
  | [], _, acc => acc
  | (k, e) :: es, seen, acc =>
    let t : Int := e.time - lead - (seen.count k / 2) * 200
    instantEdges lead es (k :: seen) (some (match acc with | none => t | some a => min a t))

/-- Instant (a) of a slot's stage (R169), in DTIME counts. -/
def Slot.instantA (lead : Nat) (sl : Slot) : Int :=
  (instantEdges lead sl.edges [] none).getD (sl.start - lead)

/-- Instant (a) of a stage in force: in a locked pair the earlier one of its two engines (R169, R195). -/
def State.commitAt (s : State) (b : Br) (sl : Slot) : Int :=
  let lead := s.flights[b].cfg.lead
  ((s.group b).flatMap fun c => s.flights[c].slots.toList.filter fun x => x.num == sl.num && x.st != .free).foldl
    (fun a x => min a (x.instantA lead)) (sl.instantA lead)

/-- A squash of the `SPECULATIVE` stages from number `n` on (R177): with `spare`, a stage whose
instant (a) lies less than 2.1 µs ahead stays. `mis` counts a misprediction whether or not a stage is
discarded (R175), every other cause only when one is. -/
def State.squash (s : State) (b : Br) (n : Nat) (spare mis setpt : Bool) (ev : Nat) : State :=
  let fl := s.flights[b]
  let hit (sl : Slot) : Bool := sl.st == .speculative && decide (n ≤ sl.num) &&
    !(spare && decide (s.commitAt b sl < s.dt + 840))
  let any := fl.slots.toList.any hit
  if any || mis then
    let first := (fl.slots.toList.filter hit).foldl (fun a sl => min a sl.num) fl.next
    let s1 := s.upFl b fun f => { f with
      slots := Vector.ofFn fun i => if hit fl.slots[i] then { fl.slots[i] with st := .squashed }
        else fl.slots[i]
      next := first }
    let s2 := if any then ((s1.evt ev).flag F.FLT_STATUS_SQUASH b true).irq (4 + b.val) else s1.evt ev
    let s3 := if mis then s2.wr F.FLT_CNT_MISPRED_COUNT b (s.rd F.FLT_CNT_MISPRED_COUNT b + 1) else s2
    if setpt then s3.wr F.FLT_CNT_SETPT_COUNT b (s.rd F.FLT_CNT_SETPT_COUNT b + 1) else s3
  else s

/-- The stages of a bridge that are committed and whose interval has not ended. -/
def State.hasCommitted (s : State) (b : Br) : Bool :=
  s.flights[b].slots.toList.any fun sl =>
    (sl.st == .committed || sl.st == .retired) && decide (s.dt < sl.start + sl.dur)

/-- The values that wait for a stage boundary of a bridge take effect, for its Flight has stopped (R89). -/
def State.stagedFlush (s : State) (b : Br) : State :=
  let due := s.params.staged.filter fun e => e.1 == b
  let s := { s with params := { s.params with staged := s.params.staged.filter fun e => !(e.1 == b) } }
  s.each due fun s e => (s.setPar e.2.1 e.2.2).parReg e.2.1

/-- The Flight of a bridge has stopped. -/
def State.flightStopped (s : State) (b : Br) : State :=
  ((s.upFl b fun f => { f with ending := false, begun := false, groups := [], due := [] }).flag F.FLT_STATUS_RUNNING b false).stagedFlush b

/-- `FLT_CTRL.ENABLE` is cleared: speculation is squashed, and the engine stops at the end of the last
committed stage (R194). -/
def State.flightClear (s : State) (b : Br) : State :=
  if s.bit F.FLT_CTRL_ENABLE b then
    let s := (s.flag F.FLT_CTRL_ENABLE b false).squash b 0 false false false (E.SQUASH_STOP b)
    if s.hasCommitted b then s.upFl b fun f => { f with ending := true } else s.flightStopped b
  else s

/-- The start of the first stage: the first DTIME multiple of 2 × `HALF` at least 20 µs ahead (R166).
-/
def State.firstStart (s : State) (b : Br) : Nat :=
  let p := 2 * s.rd F.MOD_CARRIER_HALF b
  (s.dt + 8000 + p - 1) / p * p

/-- The Flight parameters that the registers hold; those of bridge A for a pair (R196, R200). -/
def State.flightCfg (s : State) (b : Br) : FlightCfg :=
  let l := s.lead b
  { lead := s.rd F.FLT_LEAD_LEAD l
    bandI := s.rd F.FLT_BAND_I_BAND l
    bandA := s.rd F.FLT_BAND_A_BAND l
    dobOn := s.bit F.FLT_DOB_CFG_ENABLE l
    dobBw := s.rd F.FLT_DOB_CFG_BW l
    limit := s.rd F.FLT_STORM_LIMIT l
    window := s.rd F.FLT_STORM_WINDOW l
    quiet := s.rd F.FLT_STORM_QUIET l }

/-- The start of a bridge's half of the Angle Event Table (R39). -/
def tableHalf (b : Br) : Nat := 0x28032000 + 0x4000 * b.val

/-- The scheduler takes its half of the Angle Event Table: what was written there is gone (R161). -/
def State.clearTable (s : State) (b : Br) : State :=
  s.clearMem (tableHalf b) 0x4000

/-- `FLT_CTRL.ENABLE` is set (R192, R166); ignored with `FLT_ERR.RANGE` in direct modulation mode
(R193). The stage number starts from 0; slot 0 holds the start of the first stage. -/
def State.flightStart (s : State) (b : Br) (predict : Bool) : State :=
  if s.bit F.MOD_CTRL_MODE b then s.flag F.FLT_ERR_RANGE 0 true
  else if s.bit F.FLT_CTRL_ENABLE b then s
  else
    let t0 := s.firstStart b
    let fl := { Flight.reset with
      slots := Flight.reset.slots.set 0 { Slot.reset with start := t0 }
      predictOnly := predict
      depth := s.rd F.FLT_CTRL_DEPTH (s.lead b)
      cfg := s.flightCfg b
      shallow := s.flights[b].shallow }
    (((s.clearTable b).flag F.FLT_CTRL_ENABLE b true).flag F.FLT_STATUS_RUNNING b true).upFl b fun _ => fl

/-- The Flight of a bridge runs. -/
def State.flightRuns (s : State) (b : Br) : Bool := s.bit F.FLT_STATUS_RUNNING b

/-- Switching starts: the engine leaves prediction only, and squashes its speculation as a start of
switching (R192). -/
def State.switchStart (s : State) (b : Br) : State :=
  (s.upFl b fun f => { f with predictOnly := false }).squash b 0 true false true (E.SQUASH_SETPOINT b)

/-! ## Contactors (R291, R293) -/

/-- Some configured bridge discharges the link. -/
def State.discharging (s : State) : Bool := s.bridgesUsed.any fun b => s.dst b == .discharge

/-- The request that a role carries: a contactor is requested while any configured bridge requests it,
and none while the link is being discharged. -/
def State.wantRole (s : State) (role : Nat) : Bool :=
  !s.discharging && s.bridgesUsed.any fun b =>
    let x := s.bridges[b]
    if role = 1 then x.reqPos else if role = 2 then x.reqNeg else if role = 3 then x.reqPre
    else if role = 4 then x.reqPos else false

/-- Drives the four outputs from the bridges' requests. -/
def State.contactors (s : State) : State :=
  let want (k : Fin 4) : Bool := s.wantRole (s.parN (P.dcl_ctr_role k.val))
  { s with dcl := { s.dcl with
    reqAt := Vector.ofFn fun k => if want k = s.dcl.req[k] then s.dcl.reqAt[k] else s.now
    req := Vector.ofFn want } }

/-- A bridge withdraws its contactor requests. -/
def State.withdraw (s : State) (b : Br) : State :=
  (s.upB b fun x => { x with reqNeg := false, reqPre := false, reqPos := false, shutAt := none }).contactors

/-- All requests are withdrawn at once. -/
def State.withdrawAll (s : State) : State := (s.withdraw 0).withdraw 1

/-- The feedback of input j in its sense of R297: true is closed. -/
def State.fbClosed (s : State) (k : Fin 4) (second : Bool) : Option Bool :=
  let src := s.parN (if second then P.dcl_fb_b k.val else P.dcl_fb_a k.val)
  let inv := (s.parN (P.dcl_fb_invert k.val)).testBit (b2n second)
  if h : src < 6 then some (s.dcl.fb[src] != inv) else none

/-- Every configured feedback of the outputs of a role shows the level given. -/
def State.roleShows (s : State) (role : Nat) (closed : Bool) : Bool :=
  (List.finRange 4).all fun k =>
    s.parN (P.dcl_ctr_role k.val) != role ||
      ((s.fbClosed k false).getD closed == closed && (s.fbClosed k true).getD closed == closed)

/-- An output of a role is configured. -/
def State.hasRole (s : State) (role : Nat) : Bool :=
  (List.finRange 4).any fun k => s.parN (P.dcl_ctr_role k.val) == role

/-- Some configured feedback differs from its output's request (R292). -/
def State.fbDiffers (s : State) : Bool :=
  (List.finRange 4).any fun k =>
    s.parN (P.dcl_ctr_role k.val) != 0 &&
      ((s.fbClosed k false).getD s.dcl.req[k] != s.dcl.req[k] ||
       (s.fbClosed k true).getD s.dcl.req[k] != s.dcl.req[k])

/-! ## The recorder trigger (R354) -/

/-- The slot that the next snapshot takes: after the newest in ascending order, wrapping after 383,
skipping pinned slots (R355). -/
def recNext (newest : Option Nat) (pins : List Nat) : Nat :=
  let first := match newest with
    | none => 0
    | some n => (n + 1) % 384
  go 384 first
where
  go : Nat → Nat → Nat
    | 0, i => i
    | n + 1, i => if pins.contains i then go n ((i + 1) % 384) else i

/-- Copies all counters into their snapshots (R430). -/
def State.evcSnapshot (s : State) : State :=
  let s := { s with cnts := Vector.ofFn fun k =>
    { s.cnts[k] with snap := s.cnts[k].value, snapSat := s.cnts[k].sat } }
  (s.flag F.EVC_SNAP_SNAPPED 0 true).irq 24

/-- A trigger of the recorder (R354); none takes effect while `rec.enable` is 0. -/
def State.recTrigger (s : State) (code : Nat) (fault : Option (Nat × Loc × RClass)) : State :=
  if s.bit F.NVMC_REC_ENABLE then
    match s.recd.coll with
    | some c =>
      { s with recd := { s.recd with coll := some { c with later := min (c.later + 1) 255 } } }
    | none =>
      let c : Collect := {
        trigger := code
        later := 0
        truncated := false
        stamp := s.dtime
        fault := fault
        stA := s.stCode 0
        stB := s.stCode 1
        before := min (s.rd F.NVMC_REC_PRE) s.recd.ring.length
        after := 0
        quota := 1020 - s.rd F.NVMC_REC_PRE
        counts := s.cnts.toList.map (·.value)
        first := s.word F.FCR_FIRST_CODE 0
        slot := recNext s.recd.newest s.recd.pins }
      ({ s with recd := { s.recd with coll := some c } }.flag F.NVMC_STATUS_REC_CAPTURE 0 true).evcSnapshot
  else s

/-! ## Entry into a drive state -/

/-- The commanded transitions that wait are overtaken by one of higher rank (R106): each counts once, for a locked
pair as for a bridge. -/
def State.preempt (s : State) (b : Br) : State :=
  let n := s.bridges[b].cmds.length
  s.each (List.range n) (fun s _ => s.evt E.CMD_PREEMPT) |>.each (s.group b) fun s c =>
    s.upB c fun x => { x with cmds := [] }

/-- `LANE_CTRL.ARM` of a bridge's lanes as the Lockkeeper writes it (R257). -/
def State.laneArm (s : State) (b : Br) (on : Bool) : State :=
  s.each (lanesOf b) fun s k => s.laneSet k F.LANE_CTRL_ARM (b2n on)

/-- The states in which the Lockkeeper keeps the lanes armed (R257). -/
def DState.arms : DState → Bool
  | .run | .degraded | .safeStop => true
  | _ => false

/-- The bridge record at the entry into a state: what ends with the state left, and what starts. The torque limit
before the first `SPEED_SET` and the speed limit before the first `TORQUE_SET` start at 0, where R84 gives none
(DESIGN CHOICE, log entry 146). -/
def Bridge.enter (x : Bridge) (st : DState) (now speed degTime : Nat) (im : Option Nat) : Bridge :=
  let drive := st.isDriving
  let was := x.st.isDriving
  let keep := drive && was
  { x with
    st := st
    mode := if drive || st == .catching || st == .safeStop then x.mode else none
    safeStopDue := x.safeStopDue && st.isActive
    degradeDue := false
    startAt := none
    stopping := if keep then x.stopping else none
    slowSince := if keep then x.slowSince else none
    torqueRef := if keep then x.torqueRef else 0
    torqueReq := if keep then x.torqueReq else 0
    prevReq := if keep then x.prevReq else 0
    reqAt := if keep then x.reqAt else now
    speedLimit := if keep then x.speedLimit else 0
    speedSet := if keep then x.speedSet else 0
    torqueLimit := if keep then x.torqueLimit else 0
    dSet := if keep then x.dSet else 0
    qSet := if keep then x.qSet else 0
    limits := if keep then x.limits else 0
    spRef := if keep then x.spRef else none
    shareRef := if keep then x.shareRef else none
    spAt := if keep then x.spAt else now
    shareAt := if keep then x.shareAt else now
    degLeft := if st == .degraded && x.degFresh then degTime else x.degLeft
    degFresh := if st == .degraded then false
      else x.degFresh || st == .ready || st == .standby || st == .fault
    ssSince := if st == .safeStop then now else x.ssSince
    ssSpeed := if st == .safeStop then speed else x.ssSpeed
    pre := if st == .precharge then x.pre else .idle
    shutAt := none
    dis := if st == .discharge then x.dis else none
    setSafe := x.setSafe && (keep || st == .safeStop)
    catchRec := if st == .catching then { CatchRec.reset with since := now } else x.catchRec
    ipd := false
    imSearch := if st == .catching && im.isSome then some now else none
    imFlux := if st == .catching then im else if keep then x.imFlux else none
    align := if st == .ready then x.align else none
    tmSince := none }

/-- The observer stops (R156). -/
def State.obsOff (s : State) (b : Br) : State :=
  let o := 16 * b.val
  let hfi := s.bit (F.ACLK_CTRL_HFI.at o)
  let s := (s.upAclk b fun a => { a with obs := none, inject := false }).flag (F.ACLK_STATUS_OBS_OK.at o) 0 hfi
  if s.source b = 4 ∧ hfi = false then s.wr (F.ACLK_STATUS_QUALITY.at o) 0 4 else s

/-- One bridge enters a drive state, with the Lockkeeper's actions at it: the Flight engine (R192), the
direct-mode `ARM` (R219), the lanes' `ARM` (R257), the lane and Weir fields at `READY` (R282, R284,
R290), the contactor requests (R291), the Locks (R103) and the envelope (R314). -/
def State.enterOne (s : State) (b : Br) (st : DState) : State :=
  let direct := s.bit F.MOD_CTRL_MODE b
  let im : Option Nat :=
    if s.parN (P.flight_machine (s.machine b)) == 2 && !direct then some (s.parN P.drive_im_search_flux) else none
  let measures := st == .catching || s.dst b == .catching
  let s := s.upB b fun x =>
    x.enter st s.now (s.speedMag b) (s.parN P.safety_deg_time * 400000000) im
  let s := match st with
    | .catching => if direct then s else s.flightStart b true
    | .run | .degraded | .safeStop => s
    | .discharge =>
      match s.bridges[b].dis with
      | some d => if d.windings then s.flightStart b true else s.flightClear b
      | none => s.flightClear b
    | _ => s.flightClear b
  let s := if direct && st.isDriving then s.flag F.MOD_CTRL_ARM b true
    else if st.isDriving || st == .safeStop || st == .catching then s
    else s.flag F.MOD_CTRL_ARM b false
  let s := s.laneArm b st.arms
  let s := if st.isDriving || st == .safeStop then s else s.obsOff b
  let s := if measures then s.setPlan b s.bridges[b].plan else s
  let s := match st with
    | .ready => ((s.laneConfig b).wrList s.weirFields).each (lanesOf b) fun s k => s.laneAux k
    | .standby => s.withdraw b
    | .safeHold => (s.withdrawAll).flag F.LOCK_CTRL_ENABLE 0 false
    | .discharge => s.withdrawAll
    | _ => s
  s.envelope b

/-- A bridge, or the locked pair that it belongs to, enters a drive state (R111). -/
def State.enter (s : State) (b : Br) (st : DState) : State :=
  s.each (s.group b) fun s c => s.enterOne c st

/-- The states that R104 row 19 leaves: `PRECHARGE` to `DISCHARGE`. -/
def DState.canFault : DState → Bool
  | .precharge | .ready | .catching | .run | .degraded | .safeStop | .discharge => true
  | _ => false

/-- R104 row 19 for one bridge or its locked pair. In `FAULT` it only overtakes the commands that wait. -/
def State.toFault (s : State) (b : Br) : State :=
  if s.configured b && (s.dst b).canFault then (s.preempt b).enter b .fault
  else if s.dst b = .fault then s.preempt b
  else s

/-! ## Reactions (R299, R303, R113, R114) -/

/-- `BRIDGE_SAFE` on one bridge. In a locked pair R114 and R113 apply. -/
def State.bridgeSafe (s : State) (b : Br) : State :=
  if s.config = 3 then ((s.planNow 0).planNow 1).toFault 0
  else if s.config = 2 then
    let s := s.planNow b
    if !s.edgeAck && (s.dst b).isDriving && !s.bridges[mate b].setSafe then
      let s := s.upB b fun x => { x with setSafe := true }
      if s.dst b = .run then (s.preempt b).enter b .degraded else (s.envelope 0).envelope 1
    else (s.planNow (mate b)).toFault b
  else (s.planNow b).toFault b

/-- The reaction of an executed class at a location. -/
def State.react (s : State) (loc : Loc) (cls : RClass) : State :=
  match cls with
  | .none | .report | .legOff => s
  | .degrade =>
    s.each ((s.bridgesAt loc).flatMap s.group) fun s b =>
      if s.dst b = .run then s.upB b fun x => { x with degradeDue := true } else s
  | .bridgeSafe =>
    match loc with
    | .device =>
      let s := s.each s.bridgesUsed State.planNow
      s.each s.bridgesUsed State.toFault
    | .lane k => s.bridgeSafe (laneBr k)
    | .bridge b => s.bridgeSafe b
  | .allSafe => (((s.planNow 0).planNow 1).toFault 0).toFault 1
  | .resetWarm =>
    let s := (((s.planNow 0).planNow 1).toFault 0).toFault 1
    { s with fcr := { s.fcr with warmAt := match s.fcr.warmAt with
      | some t => some t
      | none => some s.now } }
  | .hold =>
    let s := ((s.planNow 0).planNow 1).flag F.FCR_STATUS_HOLD 0 true
    let s := (s.preempt 0).preempt 1
    let s := if s.dst 0 = .safeHold then s else s.enterOne 0 .safeHold
    if s.dst 1 = .safeHold then s else s.enterOne 1 .safeHold

/-! ## Raising a fault -/

/-- The list after a further entry (R302); none when all 64 are latched. -/
def listAdd (l : List FaultEntry) (e : FaultEntry) : Option (List FaultEntry) :=
  if l.length < 64 then some (l ++ [e])
  else if l.all (·.latched) then none
  else some (dropFirst l ++ [e])
where
  dropFirst : List FaultEntry → List FaultEntry
    | [] => []
    | x :: xs => if x.latched then x :: dropFirst xs else xs

/-- `IRQ_EVC` follows its two flags. -/
def State.evcLevel (s : State) : State :=
  s.irqLevel 24 (s.bit F.EVC_SNAP_SNAPPED || s.word F.EVC_FROZEN_FROZEN 0 != 0)

/-- A counter freezes now: it asks for it and counts still. -/
def State.freezes (s : State) (k : Fin 32) : Bool := s.bit F.CNT_CFG_FREEZE k.val && !s.cnts[k].frozen

/-- Freezes the counters that ask for it, and records each in `EVC_FROZEN` (R428). -/
def State.freezeCounters (s : State) : State :=
  let new := (List.finRange 32).foldl (fun w (k : Fin 32) =>
    if s.freezes k then w ||| BitVec.ofNat 32 (2 ^ k.val) else w) (0 : Word)
  if new = 0 then s
  else
    ({ s with cnts := Vector.ofFn fun k => { s.cnts[k] with frozen := s.cnts[k].frozen || s.freezes k } }.setWord
      F.EVC_FROZEN_FROZEN 0 (s.word F.EVC_FROZEN_FROZEN 0 ||| new)).irq 24

/-- Marks the condition of a fault active or ended. -/
def State.condition (s : State) (code : Nat) (loc : Loc) (on : Bool) : State :=
  let rest := s.fcr.active.filter fun x => !(x.1 == code && x.2 == loc)
  { s with fcr := { s.fcr with active := if on then rest ++ [(code, loc)] else rest } }

/-- The condition of a fault is active. -/
def State.condActive (s : State) (code : Nat) (loc : Loc) : Bool := s.fcr.active.contains (code, loc)

/-- The fault list and the latch take a fault (R302): a class above `REPORT` latches, and a fault that is latched
already at its location with its class gets no second entry (DEDUCED, log entry 6). -/
def State.raiseRecord (s : State) (code : Nat) (loc : Loc) (cls : RClass) : State :=
  let above := decide (1 < clsCode cls)
  let old := s.fcr.latched.contains ⟨code, loc, cls⟩
  let s := if above && old then s
    else match listAdd s.fcr.list ⟨code, loc, cls, above, s.stamp⟩ with
      | some l => { s with fcr := { s.fcr with list := l } }
      | none => s.evt E.FAULT_DROP
  if above && !old then { s with fcr := { s.fcr with latched := s.fcr.latched ++ [⟨code, loc, cls⟩] } } else s

/-- `FCR_FIRST` takes the first fault above `REPORT` since it was opened (R300), and the counters freeze (R428). -/
def State.raiseFirst (s : State) (code : Nat) (loc : Loc) (cls : RClass) : State :=
  if 1 < clsCode cls ∧ s.fcr.firstOpen = true then
    let s := ((s.wr F.FCR_FIRST_LOC 0 (locCode loc)).wr F.FCR_FIRST_CLASS 0 (clsCode cls)).wr F.FCR_FIRST_CODE 0 code
    let s := s.setWord F.FCR_FIRST_TIME_STAMP 0 s.stamp
    { s with fcr := { s.fcr with firstOpen := false } }
  else s

/-- What a fault tells others: the interrupts (R299), the recorder (R354) and the Towpath (R408). -/
def State.raiseTell (s : State) (code : Nat) (loc : Loc) (cls : RClass) : State :=
  let s := s.irq 27
  let s := if 1 < clsCode cls then s.irq 26 else s
  let rc := s.rd F.NVMC_REC_CLASS
  let s := if rc ≤ clsCode cls ∧ rc ≠ 0 then s.recTrigger 1 (some (code, loc, cls)) else s
  if s.parN P.tow_bcast_class ≤ clsCode (s.execClass cls) ∧ (s.net.towUp ∨ s.net.towDn) then
    { s with net := { s.net with towSym := [.up, .dn] } }
  else s

/-- Raises a fault with its class: list, latch, first fault, counter freeze, interrupts, recorder and
Towpath broadcast, and the reaction of the executed class (R299 to R303, R354, R408, R428). A fault of
class none is no fault; only a fault that was not latched freezes the counters anew. -/
def State.raise (s : State) (code : Nat) (loc : Loc) (cls : RClass) : State :=
  if cls = .none then s
  else
    let fresh := decide (1 < clsCode cls) && !s.fcr.latched.contains ⟨code, loc, cls⟩
    let s := (s.raiseRecord code loc cls).raiseFirst code loc cls
    let s := if fresh then s.freezeCounters else s
    let s := s.raiseTell code loc cls
    s.react loc (s.execClass cls)

/-- Raises a fault of a fixed class. -/
def State.raiseF (s : State) (code : Nat) (loc : Loc) : State := s.raise code loc (fixedClass code)

/-- Raises a fault whose condition stays active. -/
def State.raiseOn (s : State) (code : Nat) (loc : Loc) (cls : RClass) : State :=
  (s.condition code loc true).raise code loc cls

/-- A lane fault latches after its retries: R104 row 19 at the lane's bridge (R273, R277). -/
def State.laneLatchedFault (s : State) (k : LaneIx) : State := s.bridgeSafe (laneBr k)

/-! ## Acknowledge (R94) -/

/-- A latched fault blocks an acknowledge: its condition is active or its class is `HOLD`. -/
def State.blocks (s : State) (l : Latch) : Bool :=
  l.cls == .hold || s.condActive l.code l.loc

/-- The lowest blocking code. -/
def State.blockCode (s : State) : Option Nat :=
  (s.fcr.latched.filter s.blocks).foldl (fun a l => some (match a with
    | none => l.code
    | some c => min c l.code)) none

/-- No `DEGRADE` fault or any other latched fault stands. -/
def State.noLatched (s : State) : Bool := s.fcr.latched.isEmpty

/-- A latched fault of class `DEGRADE` acts on the bridge. -/
def State.degradeLatched (s : State) (b : Br) : Bool :=
  s.fcr.latched.any fun l => l.cls == .degrade && ((s.bridgesAt l.loc).flatMap s.group).contains b

/-- The FCR unlatches every fault, keeps the entries as records, opens `FCR_FIRST` and lets the frozen
counters resume (R302, R428). -/
def State.unlatchAll (s : State) : State :=
  let list := s.fcr.list.map fun e => { e with latched := false }
  let f := { s.fcr with latched := [], list := list, firstOpen := true }
  { s with fcr := f, cnts := s.cnts.map fun c => { c with frozen := false } }

/-- The main positive contactor shows closed, and the link lies in the precharge band (R104 rows 20 and
21). -/
def State.linkReady (s : State) : Bool :=
  s.hasRole 1 && s.roleShows 1 true && decide (s.par P.dcl_pre_min ≤ s.vLink ∧ s.vLink ≤ s.par P.dcl_pre_max)

/-- The transition of a bridge by an accepted acknowledge: rows 14, 20 and 21 of R104. -/
def State.ackState (s : State) (b : Br) : State :=
  if s.dst b = .degraded then (if s.noLatched then s.enter b .run else s)
  else if s.dst b = .fault then s.enter b (if s.linkReady then .ready else .standby)
  else s

end Sys2Proof.Machine
end

