-- ==== Sys2Proof/Machine/Operands.lean ====
section
/-! DEFINITION. The operand forms: Barges in their chambers with their typed payload fields (R45, R74,
R75, R76), the answer of a command, the service order (R77), and the frames of the transports. -/

namespace Sys2Proof.Machine

/-! Status codes (R48). -/
namespace ST

def OK : Nat := 0x00
def BUSY : Nat := 0x01
def UNKNOWN : Nat := 0x02
def LENGTH : Nat := 0x03
def RANGE : Nat := 0x04
def STATE : Nat := 0x05
def AUTH : Nat := 0x06
def CHECK : Nat := 0x07
def SEQUENCE : Nat := 0x08
def UNCONFIRMED : Nat := 0x09
def STORE_FAIL : Nat := 0x0A
def TIMEOUT : Nat := 0x0B
def REFUSED : Nat := 0x0C

end ST

/-! ## Typed fields of a byte string (little-endian, R7) -/

def u8 (p : List Byte) (o : Nat) : Nat := byteAt p o
def u16 (p : List Byte) (o : Nat) : Nat := leVal (slice p o 2)
def u32 (p : List Byte) (o : Nat) : Nat := leVal (slice p o 4)
def i32 (p : List Byte) (o : Nat) : Int := leValI (slice p o 4)
def i48 (p : List Byte) (o : Nat) : Int := leValI (slice p o 6)

/-- Every byte of an interval is 0: the reserved bytes of a payload (R74). -/
def zeros (p : List Byte) (o n : Nat) : Bool := (slice p o n).all fun b => b == 0

/-- One byte. -/
def w8 (v : Nat) : List Byte := leBytes 1 v
def w16 (v : Nat) : List Byte := leBytes 2 v
def w32 (v : Nat) : List Byte := leBytes 4 v
def w48 (v : Nat) : List Byte := leBytes 6 v
def w64 (v : Nat) : List Byte := leBytes 8 v
def wi16 (v : Int) : List Byte := leBytesI 2 v
def wi32 (v : Int) : List Byte := leBytesI 4 v
def wi48 (v : Int) : List Byte := leBytesI 6 v

/-! ## The chamber -/

/-- A byte of the chamber. -/
def Lock.byte (l : Lock) (i : Nat) : Nat := (sget (fun _ => (0 : Byte)) l.buf i).toNat

/-- An interval of the chamber. -/
def Lock.bytes (l : Lock) (o n : Nat) : List Byte :=
  (List.range n).map fun i => sget (fun _ => (0 : Byte)) l.buf (o + i)

/-- Writes bytes into the chamber of 256. -/
def Lock.put (l : Lock) (o : Nat) : List Byte → Lock
  | [] => l
  | b :: bs =>
    let l := if o < 256 then { l with buf := sset (fun _ => (0 : Byte)) l.buf o b } else l
    l.put (o + 1) bs

def Lock.code (l : Lock) : Nat := leVal (l.bytes 0 2)
def Lock.seq (l : Lock) : Nat := leVal (l.bytes 2 2)
def Lock.plen (l : Lock) : Nat := l.byte 4
def Lock.toggle (l : Lock) : Bool := l.byte 6 % 2 == 1
def Lock.payload (l : Lock) : List Byte := l.bytes 16 l.plen

/-- The start value of the check value (R46). -/
def bargeStart (lk : Lk) (seq : Nat) : Nat := 0xFFFFFFFF ^^^ (lk.val * 65536 + seq)

/-- A code of Lockkeeper class (R56). -/
def keeperCode (c : Nat) : Bool :=
  decide (0x0900 ≤ c ∧ c ≤ 0x09FF) || decide (0x0B00 ≤ c ∧ c ≤ 0x0B0F) ||
  decide (0x0D00 ≤ c ∧ c ≤ 0x0DFF) || decide (0x0E00 ≤ c ∧ c ≤ 0x0EFF)

/-- The codes of the command set (R81 to R99). -/
def commandCodes : List Nat :=
  [0x0101, 0x0102, 0x0103, 0x0201, 0x0202, 0x0203, 0x0204, 0x0205, 0x0206, 0x0207, 0x0208, 0x0209,
   0x0301, 0x0302, 0x0303, 0x0304] ++
  [0x0901, 0x0902, 0x0903, 0x0904, 0x0905, 0x0906, 0x0B01, 0x0B02, 0x0B03, 0x0B04, 0x0B05, 0x0B06,
   0x0B07, 0x0B10, 0x0B11, 0x0B12, 0x0B13, 0x0B14, 0x0B15] ++
  [0x0D01, 0x0D02, 0x0D03, 0x0D04, 0x0D05, 0x0D06, 0x0D07, 0x0E00, 0x0E01, 0x0E02, 0x0E03, 0x0E04,
   0x0E05]

/-! ## Responses (R45, R52 step 4) -/

/-- The bytes of a response: the request's code, sequence, Lock number and toggle, the status, the
state codes, the time and the check value. -/
def State.response (s : State) (lk : Lk) (req : List Byte) (status : Nat) (pl : List Byte) : List Byte :=
  let head := w16 (u16 req 0) ++ w16 (u16 req 2) ++ w8 pl.length ++ w8 (u8 req 5) ++
    w8 (u8 req 6 % 2 + 2 + (if status = 0 then 0 else 4)) ++ w8 status ++ w8 (s.stCode 0) ++
    w8 (s.stCode 1) ++ w32 (s.dt / 400) ++ w16 0
  let body := head ++ pl
  body ++ w32 (crc32c (bargeStart lk (u16 req 2)) body)

/-- The first 16 bytes of a chamber. -/
def Lock.header (l : Lock) : List Byte := l.bytes 0 16

/-- `IRQ_LOCK_K` and `IRQ_LOCK_P` are asserted while a Lock of their class is in `SERVICE` (R41, `LOCK_PEND`). -/
def State.lockIrqs (s : State) : State :=
  let any (kp : Bool) : Bool := (List.finRange 16).any fun k => s.locks[k].gate == .service && s.locks[k].keeper == kp
  (s.irqLevel 0 (any true)).irqLevel 1 (any false)

/-- The LOCK block completes a response in its chamber; the Lock enters `REPLY`, and with `keep` the
response goes to the reply store. -/
def State.reply (s : State) (lk : Lk) (status : Nat) (pl : List Byte) (keep : Bool) : State :=
  let r := s.response lk s.locks[lk].req status pl
  (s.upLock lk fun l => { (l.put 0 r) with
    gate := .reply, served := false, reply := if keep then some r else l.reply }).lockIrqs

/-! ## Serving a command -/

/-- What a command answers: status, payload and the state after its execution. -/
abbrev Ans := Nat × List Byte × State

/-- A failure: no effect and no payload (R75). -/
def failWith (st : Nat) (s : State) : Ans := (st, [], s)

/-- `OK` with a payload. -/
def okWith (pl : List Byte) (s : State) : Ans := (ST.OK, pl, s)

/-- The Lock is the first of its class to be served: no Lock of the class stands in `SERVICE` before it
in the order of R77. -/
def State.firstOfClass (s : State) (lk : Lk) : Bool :=
  let l := s.locks[lk]
  (List.finRange 16).all fun k =>
    s.locks[k].gate != .service || s.locks[k].keeper != l.keeper || decide (l.svcAt < s.locks[k].svcAt) ||
      (l.svcAt == s.locks[k].svcAt && decide (lk ≤ k))

/-- The Pilot does not serve: it restarts or is held in reset (R58). -/
def State.pilotOut (s : State) : Bool := s.pilot.restarting || s.pilot.heldForGood

/-- The firmware serves the Barge of a Lock when its code is that of the command: the answer is written
to the chamber, and `LOCK_DONE` completes it. While the Pilot does not serve, the Lockkeeper answers a
Pilot-class Barge `BUSY`, or `REFUSED` once the cluster is held until the next device reset (R58). With
no such Barge to serve nothing happens. -/
def State.serve (s : State) (lk : Lk) (fits : Nat → Bool) (f : State → List Byte → Ans) : Out :=
  let l := s.locks[lk]
  if l.gate = .service ∧ l.served = false ∧ fits l.code = true ∧ s.firstOfClass lk = true then
    let a : Ans := if s.pilotOut && !l.keeper then
        failWith (if s.pilot.heldForGood then ST.REFUSED else ST.BUSY) s
      else f s l.payload
    .next (a.2.2.upLock lk fun l =>
      { ((l.put 7 (w8 a.1)).put 4 (w8 a.2.1.length)).put 16 a.2.1 with served := true })
  else .next s

/-- Serves one code. -/
def State.serveCode (s : State) (lk : Lk) (code : Nat) (f : State → List Byte → Ans) : Out :=
  s.serve lk (fun c => c == code) f

/-! ## The checks of R75 in their order

`need` answers the first failure of a list of conditions that must not hold. -/

/-- The first status whose condition holds. -/
def firstFail : List (Bool × Nat) → Option Nat
  | [] => none
  | (c, st) :: cs => if c then some st else firstFail cs

/-- Runs a command's body once no check fails. -/
def checked (s : State) (cs : List (Bool × Nat)) (k : State → Ans) : Ans :=
  match firstFail cs with
  | some st => failWith st s
  | none => k s

/-! ## Bridge selectors (R76) -/

/-- A selector above 2. -/
def selBad (sel : Nat) : Bool := decide (2 < sel)

/-- A selector refused by the configuration. -/
def State.selRefused (s : State) (sel : Nat) : Bool :=
  !s.lockedPair && (sel == 2 || (sel == 1 && !s.configured 1))

/-- The bridge a selector names; bridge A stands for a locked pair. -/
def State.selBr (s : State) (sel : Nat) : Br := if s.lockedPair then 0 else if sel = 1 then 1 else 0

/-- A commanded transition of a bridge, its response not yet complete (R106). -/
def State.command (s : State) (b : Br) (c : DriveCmd) : State :=
  s.each (s.group b) fun s x => s.upB x fun y => { y with cmds := y.cmds ++ [(c, false)] }

end Sys2Proof.Machine
end

