-- ==== Sys2Proof/Machine/Circle.lean ====
section
/-! DEFINITION. The elementary functions of the datapaths: square root, exponential, logarithm, the circle
functions and the angle of a vector. The spec names the functions and no precision of their values; each is open
only within a narrow bracket around the exact one (DESIGN CHOICE, log entry 151). -/

namespace Sys2Proof.Machine

/-- Absolute value of a rational. -/
def ratAbs (q : Rat) : Rat := if q < 0 then -q else q

/-- Clamps a rational. -/
def clampQ (lo hi x : Rat) : Rat := if x < lo then lo else if hi < x then hi else x

/-- Floor of a rational that is not negative. -/
def floorN (q : Rat) : Nat := q.floor.toNat

/-- Wraps turns to −1/2 up to +1/2. -/
def wrapTurn (q : Rat) : Rat :=
  let f := q - q.floor
  if (1 : Rat) / 2 < f then f - 1 else f

/-- An open value within a billionth of the exact one. -/
def nearTo (exact open_ : Rat) : Rat := clampQ (exact - 1 / 1000000000) (exact + 1 / 1000000000) open_

/-! ## Square root -/

/-- The integer square root by its binary digits from the one of weight 2^n down. -/
def isqrtGo (x : Nat) : Nat → Nat → Nat
  | 0, r => if (r + 1) * (r + 1) ≤ x then r + 1 else r
  | n + 1, r => isqrtGo x n (if (r + 2 ^ (n + 1)) * (r + 2 ^ (n + 1)) ≤ x then r + 2 ^ (n + 1) else r)

/-- The integer square root of a number below 2^256. -/
def isqrt (x : Nat) : Nat := isqrtGo x 127 0

/-- The square root, open within 2^-20. -/
def sqrtQ (x : Rat) : Rat :=
  if x ≤ 0 then 0
  else
    let n : Nat := isqrt (floorN (x * 1099511627776))
    clampQ ((n : Rat) / 1048576) (((n + 1 : Nat) : Rat) / 1048576) (Config.sqrt x)

/-- The square root as a natural number; where it is none, whether it is rounded up is open. -/
def rootFree (x : Rat) : Nat :=
  let n := isqrt (floorN x)
  if ((n * n : Nat) : Rat) = x then n else n + b2n (Config.roundsUp x.num x.den)

/-! ## The circle -/

/-- The circle constant to 15 decimals. -/
def piExact : Rat := 3141592653589793 / 1000000000000000
/-- The circle constant as a datapath holds it. -/
def piQ : Rat := nearTo piExact Config.pi

/-- The alternating series of cosine (k = 0) and sine (k = 1) in the square of the angle. -/
def circleSeries (x2 : Rat) : Nat → Nat → Rat
  | 0, _ => 1
  | n + 1, k => 1 - x2 / (((k + 1) * (k + 2) : Nat) : Rat) * circleSeries x2 n (k + 2)

/-- Cosine of an angle in turns. -/
def cosT (t : Rat) : Rat :=
  let x := 2 * piExact * wrapTurn t
  nearTo (circleSeries (x * x) 16 0) (Config.cosTurn t)

/-- Sine of an angle in turns. -/
def sinT (t : Rat) : Rat :=
  let x := 2 * piExact * wrapTurn t
  nearTo (x * circleSeries (x * x) 16 1) (Config.sinTurn t)

/-- The alternating series of the arc tangent in the square of its argument. -/
def atanSeries (x2 : Rat) : Nat → Nat → Rat
  | 0, k => 1 / (k : Rat)
  | n + 1, k => 1 / (k : Rat) - x2 * atanSeries x2 n (k + 2)

/-- The arc tangent of an argument from 0 to 1, in radians. -/
def atanUnit (t : Rat) : Rat :=
  if t * 2 ≤ 1 then t * atanSeries (t * t) 24 1
  else
    let z := (2 * t - 1) / (2 + t)
    463647609000806 / 1000000000000000 + z * atanSeries (z * z) 24 1

/-- The angle of a vector in turns: exact on the axes and diagonals. -/
def argT (d q : Rat) : Rat :=
  let ad := ratAbs d
  let aq := ratAbs q
  let half : Rat := 1 / 2
  let first : Rat :=
    if aq = 0 then 0 else if ad = 0 then 1 / 4 else if ad = aq then 1 / 8
    else if aq < ad then atanUnit (aq / ad) / (2 * piExact)
    else (1 : Rat) / 4 - atanUnit (ad / aq) / (2 * piExact)
  let upper := if d < 0 then half - first else first
  let exact := if q < 0 then -upper else upper
  if aq = 0 ∨ ad = 0 ∨ ad = aq then exact else nearTo exact (Config.argTurn d q)

/-! ## Exponential and logarithm -/

/-- The alternating series of e to the power −x. -/
def expSeries (x : Rat) : Nat → Nat → Rat
  | 0, _ => 1
  | n + 1, k => 1 - x / (k : Rat) * expSeries x n (k + 1)

/-- A power by repeated multiplication. -/
def powQ (x : Rat) : Nat → Rat
  | 0 => 1
  | n + 1 => x * powQ x n

/-- e to a power that is not positive. -/
def expQ (x : Rat) : Rat :=
  let n := floorN (-x)
  let frac := -x - (n : Rat)
  let e1 : Rat := 367879441171442 / 1000000000000000
  nearTo (if 40 < n then 0 else powQ e1 n * expSeries frac 18 1) (Config.exp x)

/-- The series of the inverse hyperbolic tangent in the square of its argument. -/
def atanhSeries (x2 : Rat) : Nat → Nat → Rat
  | 0, k => 1 / (k : Rat)
  | n + 1, k => 1 / (k : Rat) + x2 * atanhSeries x2 n (k + 2)

/-- A positive number as a power of two and a factor from 1 to 2. -/
def binary : Nat → Int → Rat → Int × Rat
  | 0, k, x => (k, x)
  | n + 1, k, x => if 2 < x then binary n (k + 1) (x / 2) else if x < 1 then binary n (k - 1) (x * 2) else (k, x)

/-- The natural logarithm of a positive number; of any other, open. -/
def lnQ (x : Rat) : Rat :=
  if x ≤ 0 then Config.ln x
  else
    let m := binary 128 0 x
    let z := (m.2 - 1) / (m.2 + 1)
    nearTo ((m.1 : Rat) * (693147180559945 / 1000000000000000) + 2 * z * atanhSeries (z * z) 20 1) (Config.ln x)

end Sys2Proof.Machine
end

