-- ==== Sys2Proof/Machine/Numeric.lean ====
section
/-! DEFINITION. The exact arithmetic of the datapaths: the Flux and Reference Map Stores (R185, R186),
the torque and the reference clamp (R183), frames and angles. Quantities are rationals in the units of
the registers: mA, mV, nWb, 0.01 N·m, turns e; a rounding that no rule gives is free. -/

namespace Sys2Proof.Machine

/-- An int32 word. -/
def wordI (w : Word) : Int := w.toInt

/-! ## Bilinear interpolation -/

/-- A table axis of n points from lo to hi: the index, the fraction, and whether the point lay outside
(R186). -/
def axisPos (n : Nat) (lo hi x : Rat) : Nat × Rat × Bool :=
  let u := (x - lo) * (n - 1 : Nat) / (hi - lo)
  let out := decide (u < 0) || decide (((n - 1 : Nat) : Rat) < u)
  let c := clampQ 0 ((n - 1 : Nat) : Rat) u
  let r := min (floorN c) (n - 2)
  (r, c - r, out)

/-- The bilinear value of four entries (R186). -/
def bilinear (fr fc e00 e10 e01 e11 : Rat) : Rat :=
  (1 - fr) * (1 - fc) * e00 + fr * (1 - fc) * e10 + (1 - fr) * fc * e01 + fr * fc * e11

/-- An entry of the Flux Map Store (R185). -/
def State.fluxEntry (s : State) (m map r c : Nat) : Rat :=
  (wordI (s.memW (0x28000000 + 4 * (((m * 4 + map) * 48 + r) * 48 + c))) : Int)

/-- An axis limit of a machine, in the order of R185: id_min, id_max, iq_max, psid_min, psid_max,
psiq_max. -/
def State.axis (s : State) (m i : Nat) : Rat := (s.rdI (F.FLT_AXIS_AXIS.at (8 * m + i)) 0 : Int)

/-- A map value, rounded to the entry unit, and whether the lookup left the grid (R186). -/
def State.fluxMap (s : State) (m map : Nat) (x y : Rat) : Rat × Bool :=
  let o := if map < 2 then 0 else 3
  let xlo := s.axis m o
  let xhi := s.axis m (o + 1)
  let yhi := s.axis m (o + 2)
  if xlo < xhi ∧ 0 < yhi then
    let (r, fr, ox) := axisPos 48 xlo xhi x
    let (c, fc, oy) := axisPos 48 (-yhi) yhi y
    let v := bilinear fr fc (s.fluxEntry m map r c) (s.fluxEntry m map (r + 1) c)
      (s.fluxEntry m map r (c + 1)) (s.fluxEntry m map (r + 1) (c + 1))
    ((ratNear v : Int), ox || oy)
  else (Config.mapOpen map x y, true)

/-- The fluxes of a current pair, with the map clamp. -/
def State.psi (s : State) (m : Nat) (id iq : Rat) : Rat × Rat × Bool :=
  let a := s.fluxMap m 0 id iq
  let b := s.fluxMap m 1 id iq
  (a.1, b.1, a.2 || b.2)

/-- The currents of a flux pair, with the map clamp. -/
def State.amps (s : State) (m : Nat) (pd pq : Rat) : Rat × Rat × Bool :=
  let a := s.fluxMap m 2 pd pq
  let b := s.fluxMap m 3 pd pq
  (a.1, b.1, a.2 || b.2)

/-- An entry of the Reference Map Store (chapter 6, "From torque request to current reference"). -/
def State.refEntry (s : State) (m map r c : Nat) : Rat :=
  (wordI (s.memW (0x28022000 + 4 * (((m * 2 + map) * 64 + r) * 64 + c))) : Int)

/-- The bilinear value of a reference map at a torque magnitude and a flux limit. -/
def State.refMap (s : State) (m map : Nat) (t psi : Rat) : Rat :=
  let thi : Rat := (s.par (P.flight_ref_t_max m) : Int)
  let plo : Rat := (s.par (P.flight_ref_psi_min m) : Int)
  let phi : Rat := (s.par (P.flight_ref_psi_max m) : Int)
  if 0 < thi ∧ plo < phi then
    let (r, fr, _) := axisPos 64 0 thi t
    let (c, fc, _) := axisPos 64 plo phi psi
    bilinear fr fc (s.refEntry m map r c) (s.refEntry m map (r + 1) c)
      (s.refEntry m map r (c + 1)) (s.refEntry m map (r + 1) (c + 1))
  else Config.mapOpen (4 + map) t psi

/-- Pole pairs of a bridge. -/
def State.polePairs (s : State) (b : Br) : Int := s.par (P.pos_pole_pairs b.val)

/-- The torque of fluxes and currents in 0.01 N·m (R183): nWb × mA is 10^-12 N·m. -/
def torqueOf (p : Int) (pd pq id iq : Rat) : Rat :=
  (3 : Rat) / 2 * (p : Rat) * (pd * iq - pq * id) / 10000000000

/-- The torque of a current pair from the direct maps, with the map clamp (R183, R185). -/
def State.torque (s : State) (b : Br) (id iq : Rat) : Rat × Bool :=
  let (pd, pq, c) := s.psi (s.machine b) id iq
  (torqueOf (s.polePairs b) pd pq id iq, c)

/-- A torque is generating when its sign opposes the speed (R183). -/
def generating (t : Rat) (speed : Int) : Bool :=
  (decide (t < 0) && decide (0 < speed)) || (decide (0 < t) && decide (speed < 0))

/-- What R183 makes of a reference: the currents, whether it was clamped, whether the Weir was the
limit that clamped it, and the map clamp. -/
structure RefClamp where
  id : Rat
  iq : Rat
  clamped : Bool
  torqueLimited : Bool
  weir : Bool
  mapClamp : Bool
  deriving DecidableEq, Repr

/-- The 12 bisection steps on |iq| (R183): the largest magnitude found whose torque lies within the
limit. -/
def State.bisect (s : State) (b : Br) (id : Rat) (neg : Bool) (lim : Rat) : Nat → Rat → Rat → Rat
  | 0, lo, _ => lo
  | n + 1, lo, hi =>
    let mid := (lo + hi) / 2
    if ratAbs (s.torque b id (if neg then -mid else mid)).1 ≤ lim then s.bisect b id neg lim n mid hi
    else s.bisect b id neg lim n lo mid

/-- Sign of a rational. -/
def signQ (q : Rat) : Rat := if q < 0 then -1 else if 0 < q then 1 else 0

/-- The clamp of a reference (R183) by the envelope registers of bridge `b`. -/
def State.clampRef (s : State) (b : Br) (id iq : Rat) : RefClamp :=
  let (t, mc) := s.torque b id iq
  let gen := generating t (s.speed b)
  let weirV := s.rd F.FLT_WEIR_GEN_LIMIT b
  let genV := s.rd F.FLT_ENV_GEN_LIMIT b
  let lim : Rat := if gen then (min genV weirV : Nat) else (s.rd F.FLT_ENV_MOT_LIMIT b : Nat)
  let past := decide (lim < ratAbs t)
  let iq1 := if past then
      (let m := s.bisect b id (decide (iq < 0)) lim 12 0 (ratAbs iq)
       if iq < 0 then -m else m)
    else iq
  let imax : Rat := (s.rd F.FLT_IMAX_IMAX b : Nat)
  let big := decide (imax * imax < id * id + iq1 * iq1)
  let hit := decide (imax ≤ ratAbs id)
  { id := if big && hit then signQ id * imax else id
    iq := if big then (if hit then 0 else signQ iq1 * sqrtQ (imax * imax - id * id)) else iq1
    clamped := past || big
    torqueLimited := past
    weir := past && gen && decide (weirV < genV)
    mapClamp := mc }

/-! ## Angles and frames -/

/-- An angle register value in turns e. -/
def turnsOf (n : Nat) : Rat := (n : Rat) / 4294967296

/-- The fraction of an angle in turns, as 2^-32 turn e. -/
def angleOf (q : Rat) : Nat := ((q - q.floor) * 4294967296).floor.toNat

/-- The distance of two angles in turns e. -/
def turnDist (a b : Rat) : Rat := ratAbs (wrapTurn (a - b))

/-- The angle of a trajectory at a DTIME instant (R149), in turns e. -/
def Traj.at_ (t : Traj) (x : Rat) : Rat :=
  let d := x - (t.t0 : Rat)
  t.th + t.om * d + t.al * d * d / 2

/-- The angular speed of a trajectory at an instant, in turns e per count. -/
def Traj.speedAt (t : Traj) (x : Rat) : Rat := t.om + t.al * (x - (t.t0 : Rat))

/-- Turns e per count as rad per second: × 2π × 400 MHz. -/
def radPerSec (om : Rat) : Rat := om * 2 * piQ * 400000000

/-- The order in which the phase voltages follow each other in the forward direction: 1 for U, V, W and -1 for
U, W, V (R9, R145; `pos.dir_sense`, log entry 10). -/
def State.phaseSense (s : State) (b : Br) : Rat := if s.bit (F.ACLK_CTRL_DIR_SENSE.at (16 * b.val)) 0 then -1 else 1

/-- The dq currents of three phase currents at an angle (amplitude-invariant). -/
def park (sense u v w th : Rat) : Rat × Rat :=
  let third : Rat := sense / 3
  ((u * cosT th + v * cosT (th - third) + w * cosT (th + third)) * 2 / 3,
   -(u * sinT th + v * sinT (th - third) + w * sinT (th + third)) * 2 / 3)

/-- The electrical angular speed of a mechanical speed of 0.1 rpm, in rad/s. -/
def State.omegaE (s : State) (b : Br) : Rat :=
  (s.speed b : Int) * (s.polePairs b : Int) * 2 * piQ / 600

/-- The flux limit of the reference maps: vdc / (√3 × |ωe|), capped at `flight.ref_psi_max`, in nWb. -/
def State.psiLim (s : State) (b : Br) (vdc : Rat) : Rat :=
  let cap : Rat := (s.par (P.flight_ref_psi_max (s.machine b)) : Int)
  let w := ratAbs (s.omegaE b)
  if w = 0 then cap
  else
    let x := vdc * 1000000 / (sqrtQ 3 * w)
    if cap < x then cap else x

/-- The references that Pilot release 3.4 takes from the Reference Map Store for a torque. -/
def State.refOf (s : State) (b : Br) (t : Rat) (vdc : Rat) : Int × Int :=
  let m := s.machine b
  let psi := s.psiLim b vdc
  let d := s.refMap m 0 (ratAbs t) psi
  let q := s.refMap m 1 (ratAbs t) psi
  (ratFree d, ratFree (if t < 0 then -q else q))

end Sys2Proof.Machine
end

