-- ==== Sys2Proof/Machine/Flags.lean ====
section
/-! DEFINITION. The flag words: `SYS_STATUS` (R82), `DRIVE_STATUS` (R85), the limit flags of the
setpoint commands (R84), the input word of `SAFETY_STATUS` (R92) and the fault-list flags. -/

namespace Sys2Proof.Machine

/-- A word of flags, bit 0 first. -/
def flagWord : List Bool → Nat
  | [] => 0
  | b :: bs => b2n b + 2 * flagWord bs

/-- An entry of the list is active: latched, or its condition active (DEDUCED, log entry 7). -/
def State.entryActive (s : State) (e : FaultEntry) : Bool := e.latched || s.condActive e.code e.loc

/-- The count of active faults. -/
def State.activeFaults (s : State) : Nat := (s.fcr.list.filter s.entryActive).length

/-- Either STO channel is asserted. -/
def State.stoOn (s : State) : Bool := s.bit F.FCR_STATUS_STO_A || s.bit F.FCR_STATUS_STO_B

/-- Flag [4]: the die warning of R376 or a module warning of R247. -/
def State.thermWarning (s : State) : Bool :=
  s.bit F.SYS_THERM_STATUS_WARN || s.fcr.active.any fun x => x.1 == FC.TMOD_WARN

/-- The `SYS_STATUS` flags (R82). -/
def State.sysFlags (s : State) : Nat :=
  flagWord [decide (0 < s.activeFaults), s.dst 0 == .degraded || (s.configured 1 && s.dst 1 == .degraded),
    s.bit F.FLT_STATUS_SHALLOW 0, s.configured 1 && s.bit F.FLT_STATUS_SHALLOW 1, s.thermWarning, s.stoOn,
    s.params.job.isSome, !s.params.confirmed]

/-- The hottest lane module temperature in 0.1 °C (R246). -/
def State.hottest (s : State) : Int :=
  (List.range 12).foldl (fun a k => max a (s.rdI F.CONV_TEMP_TEMP k)) (s.rdI F.CONV_TEMP_TEMP 0)

/-- A lane of the bridge waits for its retry: the Flight holds the torque at 0 N·m (R104). -/
def State.retryHold (s : State) (b : Br) : Bool := (lanesOf b).any fun k => s.lanes[k].st == .tripped

/-- The `DRIVE_STATUS` flags (R85). -/
def State.driveFlags (s : State) (b : Br) : Nat :=
  flagWord [s.bit F.FLT_STATUS_SHALLOW b.val, decide (0 < s.bridges[b].limits) || s.retryHold b,
    s.lockedPair, s.source b == 4, s.bit F.FLT_CTRL_HOLD b.val]

/-- The degraded time remaining in µs; 0 when not `DEGRADED` (R85, R123). -/
def State.degMicros (s : State) (b : Br) : Nat :=
  if s.dst b = .degraded then s.bridges[b].degLeft / 400 else 0

/-- The control mode code (R85). -/
def modeCode : Option CtlMode → Nat
  | some .torque => 0
  | some .speed => 1
  | some .current => 2
  | none => 0xFF

/-- The 32-byte record of R85. -/
def State.driveRecord (s : State) (b : Br) : List Byte :=
  w8 (s.stCode b) ++ w8 (modeCode s.bridges[b].mode) ++ w16 (s.driveFlags b) ++
  wi32 (s.rdI F.FLT_TORQUE_VALUE b.val) ++ wi32 (s.speed b) ++ w8 (s.speedQ b) ++ [0, 0, 0] ++
  wi32 (s.rdI F.FLT_ID_VALUE b.val) ++ wi32 (s.rdI F.FLT_IQ_VALUE b.val) ++ wi32 (s.vdcOf b) ++
  w32 (s.degMicros b)

/-- The limit that binds a torque request, with its flag of R84 (DEDUCED, log entry 8): the limit in
force is the smallest of the envelope, the degraded envelope and, for a generating torque, the Weir. -/
def State.torqueLimit (s : State) (b : Br) (t : Int) : Nat × Nat :=
  let gen := generating (t : Rat) (s.speed b)
  let env := if gen then s.rd F.FLT_ENV_GEN_LIMIT b else s.rd F.FLT_ENV_MOT_LIMIT b
  let weir := s.rd F.FLT_WEIR_GEN_LIMIT b
  if gen && decide (weir < env) then (weir, 4)
  else (env, if s.degFactor b < 100 then 2 else 1)

/-- A torque request as it is applied, with its limit flags (R84). -/
def State.applyTorque (s : State) (b : Br) (t : Int) : Int × Nat :=
  let (lim, fl) := s.torqueLimit b t
  if (lim : Int) < t.natAbs then (if t < 0 then -(lim : Int) else lim, fl) else (t, 0)

/-- R121: with `drive.reverse_allow` 0, at zero speed, a setpoint against the direction of motion is
held at 0. -/
def State.reverseHeld (s : State) (b : Br) (v : Int) : Bool :=
  s.parN P.drive_reverse_allow == 0 && (decide ((s.speedMag b : Int) < s.par P.drive_zero_speed) || s.speed b == 0) &&
    ((decide (v < 0) && decide (0 < s.bridges[b].dir)) || (decide (0 < v) && decide (s.bridges[b].dir < 0)))

/-- The limit flags of a clamped reference pair (R84, R183). -/
def State.refFlags (s : State) (b : Br) (r : RefClamp) : Nat :=
  if r.clamped then
    if r.weir then 4 else if r.torqueLimited && decide (s.degFactor b < 100) then 2
    else if r.torqueLimited then 1 else 8
  else 0

/-- The input word of `SAFETY_STATUS` (R92). -/
def State.safetyInputs (s : State) : Nat :=
  flagWord [s.bit F.FCR_STATUS_STO_A, s.bit F.FCR_STATUS_STO_B, s.bit F.FCR_STATUS_SS1,
    s.bit F.FCR_STATUS_ACK_PIN, s.params.confirmed, s.edgeAck]

/-- The highest active class at the locations that `at_` selects (R92, R93): the executed classes of the latched
faults, and `REPORT` while the condition of any listed code is active (DEDUCED, log entry 4). -/
def State.activeClass (s : State) (at_ : Loc → Bool) : Nat :=
  (s.fcr.latched.filter fun l => at_ l.loc).foldl (fun a l => max a (clsCode (s.execClass l.cls)))
    (b2n (s.fcr.active.any fun x => at_ x.2))

/-- The flags byte of a fault-list entry (R92). -/
def State.entryFlags (s : State) (e : FaultEntry) : Nat :=
  flagWord [e.latched, s.condActive e.code e.loc]

end Sys2Proof.Machine
end

