-- ==== Sys2Proof/Machine/DriveOps.lean ====
section
/-! DEFINITION. The drive-state sequences as shared operations: what a commanded transition does when it
takes effect (R104, R106, R291, R293), the start of a precharge and of a discharge, the completion of a
stop and of a safe stop, and the reaction to STO and SS1. -/

namespace Sys2Proof.Machine

/-! ## Release of forced lanes (R276) -/

/-- A low-side lane of a configured bridge reports its OV2 comparator. -/
def State.ov2Reported (s : State) : Bool :=
  s.bridgesUsed.any fun b => (lowLanes b).any fun k => s.bit F.LANE_STATUS_OV2 k.val

/-- The Weir's thresholds. -/
def State.weirOv2 (s : State) : Int := s.rd F.SYS_WEIR_OV2_MV

/-- The condition for a release after OV3: the link below 98 % of `weir.v_ov2` with no lane reporting (R290). -/
def State.ov3Over (s : State) : Bool := decide (s.vLink * 100 < s.weirOv2 * 98) && !s.ov2Reported

/-- `LANE_CMD.RELEASE` to every lane of a bridge that shows `FORCED`; after OV3 only once its condition has
ended. -/
def State.releaseForced (s : State) (b : Br) : State :=
  let ov3 := (lanesOf b).any fun k => s.bit F.LANE_STATUS_OV3 k
  if ov3 && !s.ov3Over then s
  else s.each ((lanesOf b).filter fun (k : LaneIx) => s.rd F.LANE_STATUS_STATE k == 3) fun s k =>
    s.laneSend k F.LANE_CMD_RELEASE 1

/-! ## Transitions -/

/-- The precharge sequence starts (R291): the main negative contactor first, where one is configured,
else the precharge contactor; with the main positive already closed it goes to its last step. -/
def State.prechargeBegin (s : State) (b : Br) : State :=
  let other := mate b
  let held := s.configured other && !s.lockedPair && s.bridges[other].reqPos && s.hasRole 1 && s.roleShows 1 true
  let upd (x : Bridge) : Bridge :=
    if held then { x with reqNeg := true, reqPos := true, pre := .conditions, preSince := s.now }
    else if s.hasRole 2 then { x with reqNeg := true, pre := .negRequested, preSince := s.now }
    else { x with reqPre := true, pre := .preRequested, preSince := s.now, settleSince := none
                  settleV := s.vLink, settleAt := s.now }
  let s := s.enter b .precharge
  (s.each (s.group b) fun s c => s.upB c upd).contactors

/-- A discharge starts (R293): every configured bridge's requests are withdrawn, and the other bridge
goes from `READY` to `STANDBY` (R104 row 7). Under method 1 the forced lanes are released (R276). -/
def State.dischargeBegin (s : State) (b : Br) (windings : Bool) : State :=
  let d : Discharge := ⟨windings, s.now, false, false, false⟩
  let s := s.each (s.group b) fun s c => s.upB c fun x => { x with dis := some d }
  let s := s.enter b .discharge
  let s := s.withdrawAll
  let s := if !s.lockedPair && s.configured (mate b) && s.dst (mate b) == .ready then
      s.enter (mate b) .standby else s
  let s := s.each (s.group b) fun s c => (lanesOf c).foldl State.laneAux s
  let s := if windings then s.each (s.group b) State.releaseForced else s
  { s with dcl := { s.dcl with chopOn := false } }

/-- A shutdown starts (R291): the main positive request first. With no main negative contactor to
release 20 ms later, the bridge enters `STANDBY` at once. -/
def State.shutdownBegin (s : State) (b : Br) : State :=
  let wait := s.hasRole 2 && s.bridges[b].reqNeg
  let s := (s.each (s.group b) fun s c => s.upB c fun x =>
    { x with reqPos := false, reqPre := false, shutAt := if wait then some s.now else none }).contactors
  if wait then s else s.enter b .standby

/-- The bridge enters `CATCH` (R104 row 10). An STO channel asserted meanwhile takes it back to `READY` (row 15),
and `SS1_N` low into `SAFE_STOP` (row 16): both act while their condition persists (R105). -/
def State.startBegin (s : State) (b : Br) (m : CtlMode) : State :=
  let s := (s.each (s.group b) fun s x => s.upB x fun y => { y with mode := some m }).enter b .catching
  if s.stoOn then s.enter b .ready else if s.bit F.FCR_STATUS_SS1 then s.enter b .safeStop else s

/-- The low-side lanes of a bridge have taken their offsets since a cold start (R243). -/
def State.offsetsTaken (s : State) (b : Br) : Bool :=
  (s.group b).all fun c => (lowLanes c).all fun k => decide (64 ≤ s.convs[laneConv k].offsetN)

/-- `DRIVE_START` takes effect. The entry into `CATCH` waits up to 1 ms for the shunt offsets (R243): the command stays
with its bridge meanwhile. -/
def State.startTry (s : State) (b : Br) (m : CtlMode) : State :=
  let t := s.bridges[b].startAt.getD s.now
  if s.offsetsTaken b || decide (t + msCounts ≤ s.now) then s.startBegin b m
  else s.each (s.group b) fun s c => s.upB c fun x => { x with
    startAt := some t, cmds := if c = b then x.cmds ++ [(.start m, true)] else x.cmds }

/-- A commanded transition takes effect (R104 rows 5, 7, 8, 10, 14, 16, 20 and 21 and the start of a stop, R118): it
does when the bridge still stands in a state that the command allows. -/
def State.applyOne (s : State) (b : Br) (c : DriveCmd) : State :=
  match c with
  | .start m => if s.dst b = .ready then s.startTry b m else s
  | .stop dec =>
    if s.dst b = .catching then s.enter b .ready
    else if (s.dst b).isDriving then
      s.each (s.group b) fun s x => s.upB x fun y =>
        { y with stopping := some (dec, s.now), stopFrom := s.speed x, stopTorque := y.torqueRef, slowSince := none }
    else s
  | .precharge => if s.dst b = .standby then s.prechargeBegin b else s
  | .shutdown => if s.dst b = .ready ∨ s.dst b = .fault then s.shutdownBegin b else s
  | .discharge w => if (s.dst b).isIdle then s.dischargeBegin b w else s
  | .safeStop => if (s.dst b).isActive then (s.preempt b).enter b .safeStop else s
  | .ack => s.ackState b

/-- The commanded transitions of a bridge whose responses are complete take effect, oldest first. -/
def State.applyCmd (s : State) (b : Br) : State :=
  let due := s.bridges[b].cmds.filter fun c => c.2
  let s := s.each (s.group b) fun s x => s.upB x fun y => { y with cmds := y.cmds.filter fun c => !c.2 }
  s.each due fun s c => s.applyOne b c.1

/-- An entry into `CATCH` that waits for the shunt offsets is tried again. -/
def State.startRetry (s : State) (b : Br) : State :=
  if s.bridges[s.lead b].startAt.isSome then s.applyCmd (s.lead b) else s

/-- The response of a command of a class is complete: a transition it caused takes effect, at once when
the Flight of its bridge is stopped, else at the next stage boundary (R106). -/
def State.cmdComplete (s : State) (keeper : Bool) : State :=
  let leads : List Br := if s.lockedPair then [0] else [0, 1]
  s.each leads fun s b =>
    let s := s.each (s.group b) fun s x => s.upB x fun y => { y with
      cmds := y.cmds.map fun c => (c.1, c.2 || c.1.keeper == keeper) }
    if s.flightRuns b then s else s.applyCmd b

/-- The Lockkeeper's torque removal and the end of a safe stop: R104 row 17, or row 18 with a latched
fault or a violated deceleration monitor (R309). -/
def State.safeStopDone (s : State) (b : Br) (violated : Bool) : State :=
  if s.dst b = .safeStop then s.enter b (if violated || !s.noLatched then .fault else .ready) else s

/-- Row 15 by STO, and the completion of a safe stop by STO (R308, R110). -/
def State.stoReact (s : State) : State :=
  let leads : List Br := if s.lockedPair then [0] else s.bridgesUsed
  s.each leads fun s b =>
    if (s.dst b).isActive then (s.preempt b).enter b .ready
    else if s.dst b = .safeStop then s.safeStopDone b false
    else s

/-- A row 16 cause: with the Flight running it waits for the stage boundary, else the bridge enters
`SAFE_STOP` at once (R105, R309). -/
def State.safeStopCause (s : State) (b : Br) : State :=
  if (s.dst b).isActive then
    if s.flightRuns b then s.each (s.group b) fun s c => s.upB c fun x => { x with safeStopDue := true }
    else (s.preempt b).enter b .safeStop
  else s

/-! ## The ramp of a stop (R119, R120) -/

/-- The setpoints of current mode are the references, but in a stop under speed control and a safe stop. -/
def State.currentMode (s : State) (b : Br) : Bool :=
  s.bridges[b].mode == some .current && s.dst b != .safeStop &&
    (match s.bridges[b].stopping with | some (true, _) => false | _ => true)

/-- What a ramp at `drive.stop_ramp` has taken off a torque since it began, in 0.01 N·m. -/
def State.rampDown (s : State) (t0 : Nat) : Rat :=
  (s.par P.drive_stop_ramp : Int) * (((s.now - t0 : Nat) : Rat) / (msCounts : Rat))

/-- What is left of a torque that the ramp began at. -/
def State.ramped (s : State) (t0 : Nat) (t : Int) : Int :=
  let mag := ratAbs (t : Rat) - s.rampDown t0
  if mag ≤ 0 then 0 else ratFree (if t < 0 then -mag else mag)

/-- The torque that the ramp began at. -/
def State.rampFrom (s : State) (b : Br) : Rat :=
  let x := s.bridges[b]
  if s.currentMode b then (s.torque b (x.dSet : Rat) (x.qSet : Rat)).1 else (x.stopTorque : Rat)

/-- The ramp has reached 0 N·m. -/
def State.rampOver (s : State) (b : Br) (t0 : Nat) : Bool := decide (ratAbs (s.rampFrom b) ≤ s.rampDown t0)

/-- The bridges that drive-state causes of the device act on: the lead of a locked pair, or every
configured bridge. -/
def State.leads (s : State) : List Br := if s.lockedPair then [0] else s.bridgesUsed

/-- A sensor is present: the source in use is a port with quality `VALID` (R116). -/
def State.sensorPresent (s : State) (b : Br) : Bool := decide (s.source b < 4) && s.speedQ b == 0

/-- A permanent-magnet machine (R3, R197). -/
def State.isPm (s : State) (b : Br) : Bool := s.parN (P.flight_machine (s.machine b)) != 2

/-- A feedback that stays closed after its request was withdrawn for `dcl.fb_time` (R292). -/
def State.welded (s : State) : Bool :=
  (List.finRange 4).any fun k =>
    s.parN (P.dcl_ctr_role k.val) != 0 && !s.dcl.req[k] &&
      decide (s.dcl.reqAt[k] + s.parN P.dcl_fb_time * msCounts < s.now) &&
      ((s.fbClosed k false).getD false || (s.fbClosed k true).getD false)

end Sys2Proof.Machine
end

