-- ==== Sys2Proof/Machine/PosOps.lean ====
section
/-! DEFINITION. Position feedback and the Angle Clock as shared operations: port counts, angles and
turns (R128 to R147), speed and quality (R148), flags and faults (R143, R144), the choice of a source
(R151 to R155), the tracking loop (R149, R150), the observer (R156), the scheduling domain (R159) and the
conversion of an event angle to a time (R158). -/

namespace Sys2Proof.Machine

/-! ## Ports -/

/-- The mode of a port (R128). -/
def State.portMode (s : State) (p : PortIx) : Nat := s.rd F.PORT_CFG_MODE p
/-- The bridge a port serves. -/
def State.portBr (s : State) (p : PortIx) : Br := if s.bit F.PORT_CFG_BRIDGE p then 1 else 0
/-- The port runs. -/
def State.portOn (s : State) (p : PortIx) : Bool := s.bit F.PORT_CFG_ENABLE p

/-- Counts per sensor turn (R128). -/
def State.portN (s : State) (p : PortIx) : Nat :=
  match s.portMode p with
  | 0 => 65536
  | 1 => 4096 * s.rd F.PORT_LINES_LINES p
  | 2 => 4 * s.rd F.PORT_LINES_LINES p
  | 3 => 6
  | _ => 2 ^ s.rd F.PORT_FRAME_BITS p

/-- The angle of a count (R129). -/
def State.countAngle (s : State) (p : PortIx) (c : Nat) : Word :=
  let n := s.portN p
  let sp := s.rd F.PORT_CFG_SENSOR_PP p
  let pp := s.parN (P.pos_pole_pairs (s.portBr p).val)
  let a := divNear ((c * pp % (n * sp) * 4294967296 : Nat) : Int) (n * sp : Nat)
  BitVec.ofInt 32 (a + s.rd F.PORT_OFFSET_OFFSET p)

/-- The angle of the present count. -/
def State.portAngle (s : State) (p : PortIx) : Word := s.countAngle p s.ports[p].count

/-- The angle that the port reports: that of its last count or sample, so that a change of `pos.offset` takes
effect at the next one (R145). -/
def State.portShown (s : State) (p : PortIx) : Word := s.word F.PORT_ANGLE_ANGLE p

/-- The electrical turns of one count. -/
def State.countTurns (s : State) (p : PortIx) : Rat :=
  (s.parN (P.pos_pole_pairs (s.portBr p).val) : Rat) / ((s.portN p * s.rd F.PORT_CFG_SENSOR_PP p : Nat) : Rat)

/-- The stamp of an event at the pins now (R142): 0.1 µs is 40 counts. -/
def State.posStamp (s : State) (p : PortIx) : Nat := s.dt - 40 * s.rd F.PORT_DELAY_DELAY p

/-- The flags of a port. -/
def State.portFlags (s : State) (p : PortIx) : Nat := s.rd F.PORT_STATUS_FLAGS p
/-- An implausibility flag is set (R143, flags [9:0]). -/
def State.portBad (s : State) (p : PortIx) : Bool := s.portFlags p % 1024 != 0
/-- No reference or no first valid position yet (R137, R139). -/
def State.unref (s : State) (p : PortIx) : Bool := (s.portFlags p).testBit 11

/-- Sets or clears one flag. -/
def State.putFlag (s : State) (p : PortIx) (f : Nat) (on : Bool) : State :=
  let w := BitVec.ofNat 16 (s.portFlags p)
  let m := BitVec.ofNat 16 (2 ^ f)
  s.wr F.PORT_STATUS_FLAGS p (if on then w ||| m else w &&& ~~~m).toNat

/-- Sets or clears the condition of a flag. -/
def State.putCond (s : State) (p : PortIx) (f : Nat) (on : Bool) : State :=
  let m := BitVec.ofNat 16 (2 ^ f)
  s.upPort p fun x => { x with cond := if on then x.cond ||| m else x.cond &&& ~~~m }

/-- The fault of an implausibility flag (R143). -/
def flagFault : Nat → Nat
  | 0 => FC.POS_WIRE
  | 1 | 2 => FC.POS_AMP
  | 3 | 4 | 5 => FC.POS_SEQ
  | 6 => FC.POS_FRAME
  | 7 => FC.POS_STALE
  | 8 => FC.POS_JUMP
  | _ => FC.POS_REDUND

/-- The implausibility flags by number. -/
def faultFlags : List Nat := List.range 10

/-! ## Sources (R151, R152) -/

def State.primary (s : State) (b : Br) : Nat := s.rd (F.ACLK_CTRL_PRIMARY.at (16 * b.val))
def State.redundant (s : State) (b : Br) : Nat := s.rd (F.ACLK_CTRL_REDUND.at (16 * b.val))
def State.aclkOn (s : State) (b : Br) : Bool := s.bit (F.ACLK_CTRL_ENABLE.at (16 * b.val))
def State.obsFlag (s : State) (b : Br) : Bool := s.bit (F.ACLK_STATUS_OBS_REDUND.at (16 * b.val))

/-- The observer is usable (R152). -/
def State.obsUsable (s : State) (b : Br) : Bool :=
  s.bit (F.ACLK_CTRL_HFI.at (16 * b.val)) ||
    match s.aclks[b].obs with
    | none => false
    | some (_, conv) => conv && decide (s.parN (P.pos_obs_min_speed b.val) ≤ s.speedMag b)

/-- A port as a source: it runs and serves the bridge. -/
def State.srcPort (s : State) (b : Br) (p : PortIx) : Bool := s.portOn p && s.portBr p == b

/-- A source is plausible (R138, R152). -/
def State.plausible (s : State) (b : Br) (src : Nat) : Bool :=
  if h : src < 4 then s.srcPort b ⟨src, h⟩ && !s.portBad ⟨src, h⟩ && !s.unref ⟨src, h⟩
  else src == 4 && !s.obsFlag b

/-- A source has no implausibility but `REDUND` (R152). -/
def State.onlyRedund (s : State) (b : Br) (src : Nat) : Bool :=
  if h : src < 4 then
    s.srcPort b ⟨src, h⟩ && s.portFlags ⟨src, h⟩ % 1024 == 512 && !s.unref ⟨src, h⟩
  else src == 4 && s.obsFlag b

/-- The latest angle of a source. -/
def State.srcAngle (s : State) (b : Br) (src : Nat) : Option Word :=
  if h : src < 4 then some (s.portShown ⟨src, h⟩) else s.aclks[b].obs.map (·.1)

/-- Two angles lie within a tolerance of 2^-16 turn e. -/
def within (a c : Word) (tol : Nat) : Bool :=
  decide (turnDist (turnsOf a.toNat) (turnsOf c.toNat) * 65536 ≤ (tol : Rat))

/-- `pos.redund_tol`. -/
def State.redTol (s : State) (b : Br) : Nat := s.parN (P.pos_redund_tol b.val)

/-- A source lies within the tolerance of the observer. -/
def State.nearObs (s : State) (b : Br) (src : Nat) : Bool :=
  match s.srcAngle b src, s.aclks[b].obs with
  | some a, some (o, _) => within a o (s.redTol b)
  | _, _ => false

/-- The choice of R152: source and fault class. -/
def State.choose (s : State) (b : Br) : Nat × RClass :=
  let p := s.primary b
  let r := s.redundant b
  let obs := s.obsUsable b && p != 4 && r != 4
  if s.plausible b p then (p, .report)
  else if s.onlyRedund b p && s.onlyRedund b r then
    if obs then
      (if s.nearObs b p then p else if s.nearObs b r then r else 4, .degrade)
    else (0xF, .bridgeSafe)
  else if s.plausible b r then (r, .degrade)
  else if obs then (4, .degrade)
  else (0xF, .bridgeSafe)

/-- The fallback source in use still serves (R155). -/
def State.holds (s : State) (b : Br) (cur : Nat) : Bool :=
  if cur = 4 then (if s.primary b = 4 ∨ s.redundant b = 4 then s.plausible b 4 else s.obsUsable b)
  else s.plausible b cur || (s.onlyRedund b cur && s.obsUsable b && s.nearObs b cur)

/-- The tracked angle at a DTIME instant. -/
def State.trackedAt (s : State) (b : Br) (t : Int) : Rat := s.aclks[b].traj.at_ (t : Rat)

/-- The Angle Clock's status follows its source (R150): quality, speed, ω and the observer's usability. -/
def State.aclkShow (s : State) (b : Br) : State :=
  let src := s.source b
  let o := 16 * b.val
  let q := if h : src < 4 then s.rd F.PORT_STATUS_QUALITY (⟨src, h⟩ : PortIx).val
    else if src = 4 then (if s.obsUsable b then 0 else 4) else 4
  let om := s.aclks[b].traj.om
  let pp := s.parN (P.pos_pole_pairs b.val)
  let s := s.wr (F.ACLK_STATUS_QUALITY.at o) 0 q
  let s := s.wrI (F.ACLK_SPEED_SPEED.at o) 0 (ratFree (om * 240000000000 / (pp : Rat)))
  let s := s.wrI (F.ACLK_OMEGA_OMEGA.at o) 0 (ratFree (om * 281474976710656))
  s.flag (F.ACLK_STATUS_OBS_OK.at o) 0 (s.obsUsable b)

/-- The source reports `ZERO_TIMEOUT` or `REVERSING`: ω and α are 0, and the angle holds the last edge
angle (R150). -/
def State.holdAngle (s : State) (b : Br) (th : Rat) : State :=
  let a := s.aclks[b]
  let cur := a.traj.at_ ((s.dt : Nat) : Rat)
  let j : Traj := ⟨cur + wrapTurn (th - cur), 0, 0, s.dt⟩
  (s.upAclk b fun x => { x with traj := j, fresh := true }).aclkShow b

/-- The angle of the last edge that the Angle Clock has seen of a port. -/
def State.lastEdgeAngle (s : State) (p : PortIx) : Word :=
  let b := s.portBr p
  match if s.primary b = p.val then s.aclks[b].primAngle else if s.redundant b = p.val then s.aclks[b].redAngle else none with
  | some (a, _) => a
  | none => s.portShown p

/-- A source that reports `ZERO_TIMEOUT` or `REVERSING` already when it is taken holds the angle (R150). -/
def State.holdTaken (s : State) (b : Br) (src : Nat) : State :=
  if h : src < 4 then
    let p : PortIx := ⟨src, h⟩
    let q := s.rd F.PORT_STATUS_QUALITY p
    if q = 2 ∨ q = 3 then s.holdAngle b (turnsOf (s.lastEdgeAngle p).toNat) else s
  else s

/-- The Angle Clock takes a source (R154). -/
def State.takeSource (s : State) (b : Br) (src : Nat) : State :=
  let o := 16 * b.val
  if src = s.source b then s
  else
    let s := s.wr (F.ACLK_STATUS_SOURCE.at o) 0 src
    let s := s.flag (F.ACLK_STATUS_FALLBACK.at o) 0 (src != s.primary b && src != 0xF)
    let s := (s.flag (F.ACLK_STATUS_SWITCHED.at o) 0 true).evt (E.POS_SWITCH b)
    let s := s.upAclk b fun a => { a with fresh := true }
    let s := s.when (b == s.lead b) fun s => s.each (s.group b) fun s c => s.squash c 0 true false false 0
    (s.aclkShow b).holdTaken b src

/-- The faults of the flags that the sources of a bridge hold take the class of the choice when it is
above `REPORT` (R144, R152); one that is latched so already is not raised again. -/
def State.raiseSources (s : State) (b : Br) (cls : RClass) : State :=
  if clsCode cls ≤ 1 then s
  else
    let one (s : State) (code : Nat) : State :=
      if s.fcr.latched.any fun l => l.code == code && l.loc == .bridge b && decide (clsCode cls ≤ clsCode l.cls)
      then s else s.raise code (.bridge b) cls
    let ports := (List.finRange 4).filter fun p =>
      s.srcPort b p && (s.primary b == p.val || s.redundant b == p.val)
    let codes := ports.flatMap fun p => (faultFlags.filter fun f => (s.portFlags p).testBit f).map flagFault
    let codes := if s.obsFlag b && (s.primary b == 4 || s.redundant b == 4) then
        codes ++ [FC.POS_REDUND] else codes
    s.each codes.eraseDups one

/-- The Angle Clock chooses its source (R152, R153); it leaves a source that still serves for a better one only when
`returning` allows it (R155). -/
def State.aclkSelect (s : State) (b : Br) (returning : Bool) : State :=
  if s.aclkOn b then
    let (src, cls) := s.choose b
    let cur := s.source b
    let src := if cur != src && cur != 0xF && s.holds b cur && !returning then cur else src
    ((s.takeSource b src).raiseSources b cls).aclkShow b
  else s

/-- The fault conditions of a bridge's position follow its ports: a fault is active while some port of the
bridge holds the flag with its condition (R144). -/
def State.posConds (s : State) (b : Br) : State :=
  let ports := (List.finRange 4).filter fun p => s.portBr p == b
  let act (code : Nat) : Bool :=
    (ports.any fun p => faultFlags.any fun f =>
      flagFault f == code && (s.portFlags p).testBit f && s.ports[p].cond.getLsbD f) ||
    (code == FC.POS_REDUND && s.obsFlag b && s.aclks[b].obsCond)
  s.each [FC.POS_WIRE, FC.POS_AMP, FC.POS_SEQ, FC.POS_FRAME, FC.POS_STALE, FC.POS_JUMP, FC.POS_REDUND]
    fun t code => t.condition code (.bridge b) (act code)

/-! ## Speed and quality of a port (R144, R148) -/

/-- What the port reports: the procedure's speed and quality, overridden while it is implausible; a quality
change raises `IRQ_POS`. -/
def State.portShow (s : State) (p : PortIx) : State :=
  let bad := s.portBad p
  let q := if bad then 4 else s.ports[p].q
  let v := if bad then 0 else s.ports[p].spd
  let s := if q = s.rd F.PORT_STATUS_QUALITY p then s else (s.wr F.PORT_STATUS_QUALITY p q).irq 7
  let s := s.wrI F.PORT_SPEED_SPEED p v
  let b := s.portBr p
  if s.source b = p.val then s.aclkShow b else s

/-- A condition of a flag begins or ends. -/
def State.portCond (s : State) (p : PortIx) (f : Nat) (on : Bool) : State :=
  if s.ports[p].cond.getLsbD f = on then s else (s.putCond p f on).posConds (s.portBr p)

/-- A flag is set after its filter (R143, R144): the port turns implausible, the Angle Clock chooses
anew, and the fault has the class of the choice when the port is a source of its bridge, else `REPORT`.
-/
def State.portFlag (s : State) (p : PortIx) (f : Nat) : State :=
  let b := s.portBr p
  if (s.portFlags p).testBit f then s.putCond p f true |>.posConds b
  else
    let s := (((s.putCond p f true).putFlag p f true).irq 7).posConds b
    let s := s.portShow p
    let src := s.srcPort b p && (s.primary b == p.val || s.redundant b == p.val)
    let cls := if src && s.aclkOn b then (s.choose b).2 else .report
    let s := if cls = .report then s.raise (flagFault f) (.bridge b) .report else s
    s.aclkSelect b false

/-- The lines per minute arithmetic of R148: `n` lines in `t` counts, in 0.1 rpm mechanical, nearest. -/
def State.lineSpeed (s : State) (p : PortIx) (n : Nat) (t : Nat) : Int :=
  divNear ((n * 240000000000 : Nat) : Int) ((s.portN p * s.rd F.PORT_CFG_SENSOR_PP p * t : Nat) : Int)

/-- The digital-mode procedure of R148 on an edge of direction `d` at stamp `t`. -/
def State.speedEdge (s : State) (p : PortIx) (d : Int) (t : Nat) : State :=
  let x := s.ports[p]
  let ivs := (t - x.lastT) :: x.intervals
  let ivs := ivs.take (s.rd F.PORT_FILT_SPEED_AVG p)
  let r : Int × Nat × List Nat :=
    if x.q = 2 then (d * s.lineSpeed p 1 (s.rd F.PORT_LIMITS_ZERO_TIMEOUT p * msCounts), 1, x.intervals)
    else if d = x.lastDir then (d * s.lineSpeed p ivs.length ivs.sum, 0, ivs)
    else (0, 3, [])
  (s.upPort p fun y =>
    { y with spd := r.1, q := r.2.1, intervals := r.2.2, lastT := t, lastDir := d }).portShow p

/-! ## Turn counters (R146) -/

/-- The limit of a turn counter. -/
def State.turnLimit (s : State) (p : PortIx) : Int :=
  let l := s.rd F.PORT_TURN_LIMIT_LIMIT p
  if l = 0 then 2 ^ 47 - 1 else l

/-- The count moves by a number of turns: it saturates at the limit and counts back from it. -/
def State.turnMove (s : State) (p : PortIx) (d : Int) : State :=
  if d = 0 then s
  else
    let l := s.turnLimit p
    let old := s.ports[p].turn
    let new := clampI (-l) l (old + d)
    let hit := decide (new.natAbs = l.toNat) && decide (old.natAbs ≠ l.toNat)
    let s := s.upPort p fun x => { x with turn := new }
    if hit then (s.putFlag p 10 true).evt (E.POS_TURN_SAT p) else s

/-- The count of a port moves by a signed number of counts; the turn count follows the wraps of the
angle. -/
def State.countMove (s : State) (p : PortIx) (dc : Int) : State :=
  let n := s.portN p
  let a := turnsOf (s.portAngle p).toNat
  let turns := (a + (dc : Rat) * s.countTurns p).floor
  (s.upPort p fun x => { x with count := (((x.count : Int) + dc) % (n : Int)).toNat }).turnMove p turns

/-! ## The tracking loop (R149, R150) -/

/-- The bound of α in turns e per count². -/
def State.alphaMax (s : State) (b : Br) : Rat :=
  (s.parN (P.pos_accel_max b.val) : Rat) * 625 / 100000000000000000

/-- A value enters a tracking loop with the gains of R149; with `fresh` it is taken without filtering. -/
def State.trackStep (s : State) (b : Br) (j : Traj) (begun fresh : Bool) (th : Rat) (ts : Nat) : Traj :=
  let d : Rat := ((ts : Int) - (j.t0 : Int) : Int)
  let e := wrapTurn (th - j.at_ (ts : Rat))
  let lam := expQ (-(2 * piQ * (s.parN (P.pos_track_bw b.val) : Rat) * d / 400000000))
  let one : Rat := 1
  let k1 := if fresh then one else one - lam * lam * lam
  let k2 := if fresh then 0 else (3 : Rat) / 2 * (one - lam * lam) * (one - lam) / d
  let k3 := if fresh then 0 else (one - lam) * (one - lam) * (one - lam) / (d * d)
  let am := s.alphaMax b
  if begun then ⟨j.at_ (ts : Rat) + k1 * e, j.om + j.al * d + k2 * e, clampQ (-am) am (j.al + k3 * e), ts⟩
  else ⟨th, 0, 0, ts⟩

/-- A value of the source in use enters the Angle Clock's tracking loop. -/
def State.track (s : State) (b : Br) (th : Rat) (ts : Nat) : State :=
  (s.upAclk b fun x => { x with
    traj := s.trackStep b x.traj x.begun x.fresh th ts, fresh := false, begun := true }).aclkShow b

/-- A speed in turns per count as 0.1 rpm of a bridge's machine. -/
def State.rpmOf (s : State) (b : Br) (om : Rat) : Rat := om * 240000000000 / (s.polePairs b : Rat)

/-- Primary and redundant source disagree: their latest angles, the redundant one moved on by the tracked
speed to the primary's stamp (DEDUCED, log entry 12), differ by more than the tolerance (R151). -/
def State.redundDiffer (s : State) (b : Br) : Bool :=
  match s.aclks[b].primAngle, s.aclks[b].redAngle with
  | some (pa, pt), some (ra, rt) =>
    let moved := turnsOf ra.toNat + s.aclks[b].traj.om * (((pt : Int) - (rt : Int) : Int) : Rat)
    decide ((s.redTol b : Rat) < turnDist (turnsOf pa.toNat) moved * 65536)
  | _, _ => false

/-- The `REDUND` condition of the pair is still present (R151, R155). -/
def State.redundStill (s : State) (b : Br) : Bool :=
  s.redundDiffer b ||
    (s.source b != s.primary b && s.source b != 0xF &&
      match s.aclks[b].primAngle with
      | some (a, t) => decide ((s.redTol b : Rat) < turnDist (turnsOf a.toNat) (s.trackedAt b t) * 65536)
      | none => false)

/-- The ports among the two sources of a bridge. -/
def State.pairPorts (s : State) (b : Br) : List PortIx :=
  (List.finRange 4).filter fun p => s.primary b == p.val || s.redundant b == p.val

/-- The comparison of R151 at an update: the disagreement begins or ends. -/
def State.compareSources (s : State) (b : Br) : State :=
  let p := s.primary b
  let r := s.redundant b
  let flagged := s.obsFlag b || (s.pairPorts b).any fun q => (s.portFlags q).testBit 9
  if flagged then
    if s.redundStill b then s
    else
      let s := s.each (s.pairPorts b) fun s q => s.putCond q 9 false
      (s.upAclk b fun a => { a with obsCond := false, diffSince := none }).posConds b
  else if s.plausible b p && s.plausible b r then
    let d := s.redundDiffer b
    s.upAclk b fun a => { a with diffSince :=
      if d then (match a.diffSince with | none => some s.now | some t => some t) else none }
  else s.upAclk b fun a => { a with diffSince := none }

/-- A value of a source arrives (R149, R151): it is compared, and the tracking loop takes it when it comes
from the source in use. -/
def State.sourceValue (s : State) (b : Br) (src : Nat) (th : Word) (ts : Nat) : State :=
  if s.aclkOn b then
    let s := if src = s.primary b then s.upAclk b fun a => { a with primAngle := some (th, ts) } else s
    let s := if src = s.redundant b then s.upAclk b fun a => { a with redAngle := some (th, ts) } else s
    let s := if src = s.primary b then s.compareSources b else s
    let s := s.when (src == s.source b) fun s => s.upAclk b fun a => { a with hist := ((th, ts) :: a.hist).take 64 }
    if src = s.source b then s.track b (turnsOf th.toNat) ts else s
  else s

/-- The `JUMP` condition of a port: its sample differs from the tracked prediction by more than
4 × `pos.redund_tol` (R143). -/
def State.jumpCheck (s : State) (p : PortIx) (th : Word) (ts : Nat) : State :=
  let b := s.portBr p
  if s.aclkOn b && s.source b != 0xF && s.aclks[b].begun && !s.aclks[b].fresh && !s.unref p then
    s.portCond p 8 (decide ((4 * s.redTol b : Nat) < turnDist (turnsOf th.toNat) (s.trackedAt b ts) * 65536))
  else s

/-- The port's registers show its present angle and the stamp of its last count or sample. -/
def State.portSee (s : State) (p : PortIx) (ts : Nat) : State :=
  (s.setWord F.PORT_ANGLE_ANGLE p (s.portAngle p)).setWord F.PORT_EDGE_STAMP p (BitVec.ofNat 32 ts)

/-- A port has a new value: its registers show it, and the Angle Clock takes it unless `UNREF` is set
(R138). -/
def State.portValue (s : State) (p : PortIx) (th : Word) (ts : Nat) : State :=
  let s := s.portSee p ts
  let s := s.jumpCheck p th ts
  if s.unref p then s else s.sourceValue (s.portBr p) p.val th ts

/-! ## References and enables (R137, R139, R155) -/

/-- The latest value of a source with its stamp. -/
def State.latestOf (s : State) (b : Br) (src : Nat) : Option (Word × Nat) :=
  let a := s.aclks[b]
  if src = s.primary b then a.primAngle
  else if src = s.redundant b then a.redAngle
  else if src = 4 then a.obs.map fun o => (o.1, a.traj.t0)
  else none

/-- The latest value of the source in use. -/
def State.sourceLatest (s : State) (b : Br) : Option (Word × Nat) := s.latestOf b (s.source b)

/-- The tracked angle admits a return to a source: it lies within `pos.redund_tol` of it (R155). -/
def State.canReturn (s : State) (b : Br) (src : Nat) : Bool :=
  s.source b == 0xF ||
  match s.latestOf b src with
  | some (a, t) => decide (turnDist (turnsOf a.toNat) (s.trackedAt b t) * 65536 ≤ (s.redTol b : Rat))
  | none =>
    match s.srcAngle b src with
    | some a => decide (turnDist (turnsOf a.toNat) (s.trackedAt b s.dt) * 65536 ≤ (s.redTol b : Rat))
    | none => false

/-- A return that is due happens when the angle admits it. -/
def State.returnNow (s : State) (b : Br) : State :=
  if s.aclks[b].returnDue && s.canReturn b (s.choose b).1 then
    (s.upAclk b fun a => { a with returnDue := false }).aclkSelect b true
  else s.aclkSelect b false

/-- A return becomes due; with the Flight stopped, for which R155 names no boundary, it happens at once. -/
def State.returnDue (s : State) (b : Br) : State :=
  let s := s.upAclk b fun a => { a with returnDue := true }
  if s.flightRuns b then s else s.returnNow b

/-- `UNREF` clears (R138, R139). -/
def State.unrefClear (s : State) (p : PortIx) : State :=
  let b := s.portBr p
  let s := s.putFlag p 11 false
  if s.primary b = p.val ∨ s.redundant b = p.val then s.returnDue b else s

/-- An analog port has its converter pair (R131). -/
def State.convAssigned (s : State) (p : PortIx) : Bool :=
  s.rd F.POS_CONV_PAIR0_PORT == p.val || s.rd F.POS_CONV_PAIR1_PORT == p.val

/-- The place of a Hall code in the forward sequence (R140). -/
def hallPlace : Nat → Option Nat
  | 1 => some 0
  | 3 => some 1
  | 2 => some 2
  | 6 => some 3
  | 4 => some 4
  | 5 => some 5
  | _ => none

/-- The wire comparators of modes 2 and 4 (R135): a pair in use whose two wires show one level. -/
def State.wireBad (s : State) (p : PortIx) : Bool :=
  let x := s.ports[p]
  let used : List Nat := if s.portMode p = 2 then [0, 1, 2] else if s.portMode p = 4 then [2] else []
  s.portOn p && used.any fun i => x.levels.testBit i == x.nlev.testBit i

/-- The Hall code that stands when a port is enabled (R139, R140): a valid one is the first position, another is the
`HALL_CODE` condition. -/
def State.hallStands (s : State) (p : PortIx) : State :=
  if s.portOn p && s.portMode p == 3 then
    match hallPlace s.ports[p].levels with
    | none => s.portCond p 4 true
    | some i =>
      let i := if s.bit F.PORT_CFG_INVERT p then 5 - i else i
      (((s.portCond p 4 false).upPort p fun x => { x with count := i }).unrefClear p)
  else s

/-- The excitation sine of a resolver port runs: the port is enabled, or `EXC_EN` is set (R132). -/
def State.excRuns (s : State) (p : PortIx) : Bool :=
  s.portMode p == 0 && (s.portOn p || s.bit F.PORT_EXC_EXC_EN p)

/-- How many pairs of samples a resolver port has completed since its sine began (R132): the first sample of a period
lies at the positive peak, a quarter into it, and `pos.exc_phase` later, the second half a period after it. -/
def State.excPairs (s : State) (p : PortIx) : Nat :=
  match if s.excRuns p then s.ports[p].excAt else none with
  | none => 0
  | some t =>
    let x := (s.now - t) * s.rd F.PORT_EXC_FREQ p * 256
    let second := (192 + s.rd F.PORT_EXC_PHASE p) * 4000000
    if x < second then 0 else (x - second) / 1024000000 + 1

/-- The enable of a port or a write of its mode (R139): `UNREF` is set, referencing starts afresh, a Hall port takes
the code that stands, a resolver port starts its sine, and an analog port without a converter pair reports `AMP_LOW`
(R131). -/
def State.portReinit (s : State) (p : PortIx) : State :=
  let s := s.putFlag p 11 true
  let s := s.upPort p fun x => { x with
    refCount := none, lastVal := none, lastSampleAt := s.now, trkOn := false
    excAt := if s.portOn p && s.portMode p == 0 then some s.now else none, excN := 0 }
  let s := if s.portMode p ≤ 1 then s else s.wr F.PORT_AMP_AMP p 0
  let s := ((s.portCond p 5 false).portCond p 0 (s.wireBad p)).hallStands p
  let s := if s.portOn p && decide (s.portMode p ≤ 1) && !s.convAssigned p then s.portCond p 1 true else s
  s.aclkSelect (s.portBr p) false

/-- An accepted acknowledge clears, in every port, each implausibility flag whose condition has ended, and
`OBS_REDUND` likewise; the return to the primary becomes due (R144, R155). -/
def State.posAck (s : State) : State :=
  let s := s.each (List.finRange 4) fun s p =>
    let keep := BitVec.ofNat 16 (s.portFlags p) &&& (s.ports[p].cond ||| 0xFC00)
    (s.wr F.PORT_STATUS_FLAGS p keep.toNat).portShow p
  let s := s.each [(0 : Br), 1] fun s b =>
    if s.aclks[b].obsCond then s else s.flag (F.ACLK_STATUS_OBS_REDUND.at (16 * b.val)) 0 false
  s.each [(0 : Br), 1] fun s b => s.returnDue b

/-! ## Observer, domain and stage boundary (R156, R159) -/

/-- An estimated flux amplitude lies within 20 % of the Flux Map Store's for the present current (R156). -/
def State.obsConverged (s : State) (b : Br) (amp : Rat) : Bool :=
  let p := s.psi (s.machine b) (s.rdI F.FLT_ID_VALUE b : Int) (s.rdI F.FLT_IQ_VALUE b : Int)
  let m := sqrtQ (p.1 * p.1 + p.2.1 * p.2.1)
  decide (ratAbs (amp - m) * 5 ≤ m)

/-- The observer runs in `RUN`, `DEGRADED` and `SAFE_STOP`; its estimates are free (R156). -/
def State.obsUpdate (s : State) (b : Br) : State :=
  let on := (s.dst b).isDriving || s.dst b == .safeStop
  if on then
    let o := Config.observer s.free
    let conv := s.obsConverged b o.2
    let inject := s.bit (F.ACLK_CTRL_HFI.at (16 * b.val)) &&
      decide (s.speedMag b < s.parN (P.pos_obs_min_speed b.val))
    let s := (s.spend).upAclk b fun a => { a with obs := some (o.1, conv), inject := inject }
    (if s.source b = 4 ∨ s.primary b = 4 ∨ s.redundant b = 4 then s.sourceValue b 4 o.1 s.dt else s).aclkShow b
  else (s.obsOff b).aclkShow b

/-- The domain of R159 at a stage boundary. -/
def State.domainUpdate (s : State) (b : Br) : State :=
  let f := F.ACLK_STATUS_DOMAIN.at (16 * b.val)
  let time := s.bit f
  let v := s.speedMag b
  let valid := s.speedQ b == 0
  let new := if time then !(decide (s.parN (P.pos_handover_high b.val) < v) && valid)
    else decide (v < s.parN (P.pos_handover_low b.val)) || !valid
  if new = time then s
  else
    let s := s.flag f 0 new
    s.when (b == s.lead b) fun s => s.each (s.group b) fun s c => s.squash c 0 true false false (E.SQUASH_HANDOVER c)

/-- What the position part does at a stage boundary. -/
def State.posBoundary (s : State) (b : Br) : State := ((s.obsUpdate b).returnNow b).domainUpdate b

/-! ## Event angles to times (R158) -/

/-- The iteration of R158. -/
def convertSteps (om al d : Rat) : Nat → Rat → Rat
  | 0, dt => dt
  | n + 1, dt =>
    let err := d - (om * dt + al * dt * dt / 2)
    let step := err / (om + al * dt)
    if ratAbs step < (1 : Rat) / 64 then dt + step else convertSteps om al d n (dt + step)

/-- The time and fine time of an event at an angle (turns e, unwrapped) on a trajectory whose stage ends
at `tEnd`; none when the event does not belong to the stage. -/
def eventTime (j : Traj) (th : Rat) (tEnd : Nat) : Option (Nat × Nat) :=
  let d := th - j.th
  if j.om = 0 then none
  else
    let dt := convertSteps j.om j.al d 3 (d / j.om)
    if dt < 0 ∨ ((tEnd : Int) - (j.t0 : Int) : Int) < dt then none
    else
      let n := floorN dt
      let fine := (ratNear ((dt - (n : Rat)) * 32)).toNat
      if fine = 32 then some (j.t0 + n + 1, 0) else some (j.t0 + n, fine)

/-! ## Reading angles and turns (R147) -/

/-- The Angle Clock's angle now. -/
def State.aclkAngle (s : State) (b : Br) : Word := BitVec.ofNat 32 (angleOf (s.trackedAt b s.dt))

/-- The Angle Clock's turn count now. -/
def State.aclkTurn (s : State) (b : Br) : Int := s.aclks[b].turn + (s.trackedAt b s.dt).floor

end Sys2Proof.Machine
end

