-- ==== Sys2Proof/Machine/ParamOps.lean ====
section
/-! DEFINITION. Parameters as shared operations: when a value is accepted (R89, R112, R199), when it takes
effect (R89, R200, R398, R419), the parameter check (R90) with every cross-parameter rule, the safety
check value (R315), and the stored generations (R348 to R352). -/

namespace Sys2Proof.Machine

/-! ## Taking effect -/

/-- The value of a parameter as it stood at the last boot (R398, R419). -/
def State.parBoot (s : State) (id : Nat) : Nat := (sget paramDefault s.params.boot id).toNat

/-- A parameter of the active set takes effect on what holds it. -/
def State.parEffect (s : State) (id : Nat) : State :=
  let s := s.parReg id
  match paramFind id with
  | none => s
  | some (r, k) =>
    if r.id = 0x0300 then (if h : k < 4 then s.portReinit ⟨k, h⟩ else s)
    else if r.id = 0x0380 ∨ r.id = 0x0381 ∨ r.id = 0x038A then s.aclkSelect (if k = 0 then 0 else 1) true
    else if decide (0x0900 ≤ id ∧ id < 0x0A00) || id == P.drive_sixph_limit then (s.envelope 0).envelope 1
    else s

/-- Every parameter takes effect (a new configuration, a load of a whole set). -/
def State.parAll (s : State) : State := s.each paramIds State.parEffect

/-- A value enters the active set and takes effect. A change of `drive.config` re-derives every register
that depends on the locking of the bridges; setting `lock.sp_enable` from 0 to 1 empties the reference
counters of R68. -/
def State.parApply (s : State) (id : Nat) (v : Word) : State :=
  let old := s.parN id
  let s := s.setPar id v
  if id = P.drive_config then s.parAll
  else
    let s := s.parEffect id
    if id = P.lock_sp_enable ∧ old = 0 ∧ v ≠ 0 then
      s.each [(0 : Br), 1] fun s b => s.upB b fun x => { x with spRef := none, spAt := s.now }
    else s

/-- The bridge at whose next stage boundary a value takes effect, none when it takes effect at once
(R89, R200, R419). -/
def State.parWaits (s : State) (id : Nat) : Option Br :=
  if decide (0x0400 ≤ id ∧ id < 0x0440) then
    let b : Br := if (id - 0x0400) / 0x20 = 0 then 0 else 1
    if s.flightRuns b then some b else none
  else if id = P.tow_share ∨ id = P.tow_carrier_shift ∨ id = P.tow_bcast_class ∨ id = P.tow_remote_class then
    if s.flightRuns 0 then some 0 else if s.flightRuns 1 then some 1 else none
  else none

/-- An accepted entry: it waits for its boundary or takes effect. -/
def State.parAccept (s : State) (id : Nat) (v : Word) : State :=
  let s := if safetyIds.contains id && sget paramDefault s.params.act id != v then
      { s with params := { s.params with confirmed := false } } else s
  match s.parWaits id with
  | some b => { s with params := { s.params with
      staged := s.params.staged.filter (fun e => !(e.2.1 == id)) ++ [(b, id, v)] } }
  | none => { s with params := { s.params with
      staged := s.params.staged.filter fun e => !(e.2.1 == id) } }.parApply id v

/-- The values that wait for the bridge's boundary take effect together. -/
def State.parBoundary (s : State) (b : Br) : State :=
  let due := s.params.staged.filter fun e => e.1 == b
  let s := { s with params := { s.params with staged := s.params.staged.filter fun e => !(e.1 == b) } }
  s.each due fun s e => s.parApply e.2.1 e.2.2

/-! ## Acceptance (R89) -/

/-- The bridges that a value of a bridge, machine or port parameter concerns. -/
def State.parBridges (s : State) (r : ParamDef) (k id : Nat) (v : Word) : List Br :=
  let br (n : Nat) : Br := if n = 0 then 0 else 1
  if r.id < 0x0380 then
    let old := br (s.parN (P.pos_bridge k))
    s.group old ++ (if r.id = 0x0301 then s.group (br v.toNat) else [])
  else if id / 256 = 0x08 then s.bridgesUsed
  else s.group (br k)

/-- An entry may be accepted in the present states (R89, R112, R199). -/
def State.parStateOk (s : State) (id : Nat) (v : Word) : Bool :=
  match paramFind id with
  | none => true
  | some (r, k) =>
    let subj := id / 256
    let bridges := decide (subj = 3 ∨ subj = 5 ∨ subj = 6 ∨ subj = 7 ∨ subj = 8)
    (!r.safety || s.bothIdle) &&
    (!bridges || (s.parBridges r k id v).all fun b => s.idle b) &&
    (!decide (subj = 1 ∨ subj = 9 ∨ subj = 0x0C) || s.bothIdle) &&
    (!decide (0x0440 ≤ id ∧ id < 0x0500) ||
      s.bridgesUsed.all fun b => s.machine b != k || (s.dst b).isIdle) &&
    (!decide (id = P.drive_config ∨ id = P.drive_set_shift) || s.bothStandby)

/-! ## The parameter check (R90)

Each rule names the first parameter its sentence names (DEDUCED, log entry 14). -/

/-- R73: two intervals overlap. -/
def overlap (a an b bn : Nat) : Bool := decide (a < b + bn ∧ b < a + an)

/-- The rules of the device: R2, R73, R127. -/
def State.rulesDevice (s : State) : List (Bool × Nat) :=
  let req := s.parN P.lock_can_req_id
  let rsp := s.parN P.lock_can_rsp_id
  let sp := s.parN P.lock_sp_can_id
  [(decide (1250000 < s.par P.dcl_pre_max), P.dcl_pre_max),
   (decide (1250000 < s.par P.weir_v_start), P.weir_v_start),
   (overlap req 16 rsp 16 || overlap req 16 sp 1, P.lock_can_req_id),
   (overlap rsp 16 sp 1, P.lock_can_rsp_id),
   (decide (s.par P.drive_catch_max < 5 * s.par P.drive_catch_min), P.drive_catch_max),
   (s.configured 1 && (lanesOf 1).all (fun k => !s.links[k].trained), P.drive_config)]

/-- The ports that are on. -/
def State.portsUsed (s : State) : List Nat := (List.range 4).filter fun k => s.parN (P.pos_mode k) != 7

/-- The bridge of a port as its parameter says it. -/
def State.parPortBr (s : State) (k : Nat) : Br := if s.parN (P.pos_bridge k) = 0 then 0 else 1

/-- The position rules: R130, R156, R159. -/
def State.rulesPos (s : State) : List (Bool × Nat) :=
  let on := s.portsUsed
  let mode k := s.parN (P.pos_mode k)
  let link k := s.parN (P.pos_link k)
  let pp (b : Br) := s.parN (P.pos_pole_pairs b.val)
  let twice (m : Nat) : Bool := on.any fun k => on.any fun j =>
    decide (j < k) && mode k == m && mode j == m && link k == link j
  (s.bridgesUsed.map fun b => (on.any fun k =>
      s.parPortBr k == b && pp b % s.parN (P.pos_sensor_pp k) != 0, P.pos_pole_pairs b.val)) ++
  (on.map fun k => (mode k == 3 && s.configured (s.parPortBr k) &&
      s.parN (P.pos_sensor_pp k) != pp (s.parPortBr k), P.pos_sensor_pp k)) ++
  [(decide (2 < (on.filter fun k => decide (mode k ≤ 1)).length), P.pos_mode 0),
   (twice 5 || twice 6, P.pos_link 0)] ++
  (on.map fun k => (mode k == 5 && s.parN (P.pos_bits k) != 12 && s.parN (P.pos_bits k) != 16, P.pos_bits k)) ++
  (s.bridgesUsed.map fun b => (s.parN (P.pos_primary b.val) == s.parN (P.pos_redundant b.val), P.pos_primary b.val)) ++
  (s.bridgesUsed.map fun b => (on.any fun k =>
      s.parN (P.pos_primary b.val) == k && s.parPortBr k != b, P.pos_primary b.val)) ++
  (s.bridgesUsed.map fun b => (on.any fun k =>
      s.parN (P.pos_redundant b.val) == k && s.parPortBr k != b, P.pos_redundant b.val)) ++
  (on.map fun k => ((mode k == 5 && decide (3 < link k)) ||
      (mode k == 6 && (decide (link k < 2) || decide (5 < link k))), P.pos_link k)) ++
  (s.bridgesUsed.map fun b => (s.parN (P.pos_obs_hfi b.val) == 1 &&
      s.parN (P.flight_machine (s.machine b)) != 0, P.pos_obs_hfi b.val)) ++
  (s.bridgesUsed.map fun b => (decide (s.par (P.pos_handover_high b.val) ≤ s.par (P.pos_handover_low b.val)),
    P.pos_handover_high b.val))

/-- The 16 angles of a pattern point (R208). -/
def State.oppPoint (s : State) (q i : Nat) : List Nat :=
  (List.range 8).flatMap fun e =>
    let w := (s.memW (0x28012000 + 4 * ((((q - 1) / 2) * 256 + i) * 8 + e))).toNat
    [w % 65536, w / 65536]

/-- A list ascends strictly. -/
def ascends : List Nat → Bool
  | a :: b :: l => decide (a < b) && ascends (b :: l)
  | _ => true

/-- A pattern point keeps the rules of R210; an empty one does. -/
def oppPointOk (q : Nat) (a : List Nat) : Bool :=
  if a.getD 0 0 = 0xFFFF then true
  else
    let sw := a.take q
    let tog := [0, 32768] ++ sw ++ sw.map (fun x => 32768 - x) ++ sw.map (fun x => 32768 + x) ++
      sw.map (fun x => (65536 - x) % 65536)
    ascends sw && sw.all (fun x => decide (x < 16384)) && ((a.drop q).take (15 - q)).all (fun x => x == 0xFFFF) &&
      decide (a.getD 15 0 < 16384) &&
      tog.all fun t => decide ((tog.filter fun x => decide ((x + 65536 - t) % 65536 * 24 < 65536)).length ≤ 4)

/-- The store keeps R210 for a pulse number. -/
def State.oppOk (s : State) (q : Nat) : Bool :=
  let pts := (List.range 256).map (s.oppPoint q)
  pts.any (fun a => a.getD 0 0 != 0xFFFF) && pts.all (oppPointOk q)

/-- The pulse numbers of a mask. -/
def oppNumbers (mask : Nat) : List Nat :=
  ((List.range 8).filter fun k => mask.testBit k).map fun k => 2 * k + 1

/-- The rules of a bridge: R191, R198, R210, R218, R228, R255, R282, R325, R450. -/
def State.rulesBridge (s : State) (b : Br) : List (Bool × Nat) :=
  let l := (s.lead b).val
  let o := b.val
  let m := s.machine b
  let f := s.par (P.mod_f_carrier l)
  let boot := s.parN (P.lane_supply_h o) != 0
  let imax := s.par (P.safety_imax l)
  let qs := s.parN (P.mod_opp_q_mask l)
  let on := s.par (P.mod_sync_on l)
  let off := s.par (P.mod_sync_off l)
  let dmin := s.par (P.mod_dead_min l)
  let dmax := s.par (P.mod_dead_max l)
  let zero := s.par (P.sense_mon_zero o) * 1000000
  let swing := s.par (P.sense_mon_gain o) * imax
  [(decide (1000000000 < 2 * f * 5000), P.mod_f_carrier l),
   (decide (10000000000 < 2 * f * (s.par (P.flight_commit_lead l) + 35000)), P.flight_commit_lead l),
   (decide (s.par (P.flight_squash_window l) ≤ s.par (P.flight_squash_limit l)), P.flight_squash_limit l),
   (decide (s.par (P.flight_map_id_max m) ≤ s.par (P.flight_map_id_min m)), P.flight_map_id_min m),
   (decide (s.par (P.flight_ref_psi_max m) ≤ s.par (P.flight_ref_psi_min m)), P.flight_ref_psi_min m),
   ((oppNumbers qs).any (fun q => !s.oppOk q), P.mod_opp_q_mask l),
   (s.parN (P.mod_sixstep_enable l) == 1 && boot, P.mod_sixstep_enable l),
   (decide (dmax < dmin ∨ dmin + 25500 < dmax), P.mod_dead_min l),
   (s.parN (P.mod_dpwm l) != 0 && decide (s.par (P.mod_dpwm_on l) ≤ s.par (P.mod_dpwm_off l)), P.mod_dpwm l),
   (on != 0 && (decide (on ≤ off) || qs == 0 ||
      decide (off * 600 ≤ s.par (P.pos_handover_high o) * s.par (P.pos_pole_pairs o))), P.mod_sync_on l),
   (decide (2 * s.par (P.mod_bst_refresh l) < 5 * s.par (P.mod_min_pulse l)), P.mod_bst_refresh l),
   (!decide (s.par (P.sense_tmod_warn o) < s.par (P.sense_tmod_derate o) ∧
      s.par (P.sense_tmod_derate o) < s.par (P.sense_tmod_trip o)), P.sense_tmod_warn o),
   (decide (800000000 < imax * 2 ^ s.parN (P.sense_shunt_gain o) * s.par (P.sense_shunt o)), P.sense_shunt_gain o),
   (decide (zero < swing ∨ 3000000000 < zero + swing), P.sense_mon_zero o),
   (decide (10000000000 ≤ 2 * f * (s.par (P.sense_settle o) + s.par (P.sense_guard o))), P.sense_settle o),
   (decide (s.par (P.lane_desat_blank o) * 10 ≤ s.par (P.lane_edge_mask o)), P.lane_desat_blank o),
   (decide (s.par (P.lane_int_trip o) * 10000 < 11 * imax), P.lane_int_trip o),
   (decide (2450 * s.par (P.sense_vdc_ratio o) < s.par (P.lane_vdc_ov3 o) * 100), P.lane_vdc_ov3 o),
   (decide (dmin < s.par (P.lane_t_on_target o) * 10), P.lane_t_on_target o),
   (decide (dmin < s.par (P.lane_t_off_target o) * 10), P.lane_t_off_target o)] ++
  [(decide (s.par (P.safety_asc_on l) ≤ s.par (P.safety_asc_off l)), P.safety_asc_off l),
   (decide (s.par (P.safety_ss1_decel l) < s.par (P.safety_ss1_decel_min l)), P.safety_ss1_decel_min l),
   (s.parN (P.safety_asc_side l) == 1 && boot, P.safety_asc_side l),
   (s.isPm b && s.parN (P.safety_tm_psi l) == 0 && s.parN (P.safety_env_mot l) != 0, P.safety_tm_psi l),
   (decide (80000 < s.par (P.lane_ls o) * s.par (P.lane_didt_trip o)), P.lane_ls o)]

/-- A lane that a parameter names is no low-side lane of a configured bridge (R298). -/
def State.laneBad (s : State) (k : Nat) : Bool :=
  k != 15 && (k % 2 == 0 || decide (12 ≤ k) || (decide (6 ≤ k) && !s.configured 1))

/-- The feedback inputs that the used outputs name, with the parameters that name them. -/
def State.feedbacks (s : State) : List (Nat × Nat) :=
  ((List.range 4).filter fun k => s.parN (P.dcl_ctr_role k) != 0).flatMap fun k =>
    [(s.parN (P.dcl_fb_a k), P.dcl_fb_a k), (s.parN (P.dcl_fb_b k), P.dcl_fb_b k)].filter fun x => x.1 != 15

/-- The first input that a list names a second time. -/
def namedTwice : List (Nat × Nat) → List Nat → Option Nat
  | [], _ => none
  | (i, id) :: l, seen => if seen.contains i then some id else namedTwice l (i :: seen)

/-- The DC-link rules: R298. -/
def State.rulesDcl (s : State) : List (Bool × Nat) :=
  let start := s.par P.weir_v_start
  let full := s.par P.weir_v_full
  let ov2 := s.par P.weir_v_ov2
  let chop := s.parN P.weir_chop_lane
  let dis := s.parN P.dcl_dis_lane
  let roles := (List.range 4).map fun k => s.parN (P.dcl_ctr_role k)
  let twice := namedTwice s.feedbacks []
  [(!decide (start < full ∧ full ≤ ov2), P.weir_v_start),
   (!decide (s.par P.weir_v_chop_off < s.par P.weir_v_chop_on ∧ s.par P.weir_v_chop_on < ov2), P.weir_v_chop_off),
   (s.bridgesUsed.any (fun b => decide (s.par (P.lane_vdc_ov3 b.val) ≤ ov2)), P.weir_v_ov2),
   (!decide (s.par P.dcl_pre_min < s.par P.dcl_pre_max ∧ s.par P.dcl_pre_max ≤ ov2), P.dcl_pre_min),
   (s.laneBad chop || (chop != 15 && chop == dis), P.weir_chop_lane),
   (s.laneBad dis, P.dcl_dis_lane),
   (twice.isSome, twice.getD 0),
   (roles.any (fun r => r != 0) && !roles.contains 1, P.dcl_ctr_role 0),
   ((s.parN P.dcl_dis_method).testBit 0 && dis == 15, P.dcl_dis_method)]

/-- The bit timing of R382: BRP, TSEG1, TSEG2. -/
def bitTiming (rate sp nmax : Nat) : Option (Nat × Nat × Nat) :=
  go 32 1
where
  go : Nat → Nat → Option (Nat × Nat × Nat)
    | 0, _ => none
    | k + 1, brp =>
      let d := rate * brp
      if 80000 % d = 0 ∧ 80000 / d ≤ nmax then
        let n := 80000 / d
        let t1 := (2 * n * sp + 1000) / 2000 - 1
        some (brp, t1, n - 1 - t1)
      else go k (brp + 1)

/-- The timing exists and fits the fields of the CAN register window. -/
def timingOk (rate sp nmax t1min t1max t2max : Nat) : Bool :=
  match bitTiming rate sp nmax with
  | none => false
  | some (_, t1, t2) => decide (t1min ≤ t1 ∧ t1 ≤ t1max ∧ 1 ≤ t2 ∧ t2 ≤ t2max)

/-- The rules of the links: R380, R382, R398, R419. -/
def State.rulesLinks (s : State) : List (Bool × Nat) :=
  let can (k : Nat) : List (Bool × Nat) :=
    let en := s.parN (P.can_enable k) == 1
    let fmt := s.parN (P.can_format k)
    [(en && !timingOk (s.parN (P.can_nom_rate k)) (s.parN (P.can_nom_sp k)) 385 2 256 128, P.can_nom_rate k),
     (en && decide (1 ≤ fmt) &&
        !timingOk (s.parN (P.can_data_rate k)) (s.parN (P.can_data_sp k)) 49 1 32 16, P.can_data_rate k),
     (en && fmt == 2 && !timingOk (s.parN (P.can_xl_rate k)) (s.parN (P.can_xl_sp k)) 49 1 32 16, P.can_xl_rate k)]
  let map := s.parN P.lock_can_map
  let share := s.parN P.tow_share_enable == 1
  let gptp := s.parN P.eth_gptp
  [(decide (s.par P.sys_tj_derate ≤ s.par P.sys_tj_warn), P.sys_tj_warn)] ++
  (List.range 4).flatMap can ++
  [((List.range 4).any (fun k => map.testBit k && (s.parN (P.can_enable k) == 0 || s.parN (P.can_format k) == 0)),
      P.lock_can_map),
   (share && (s.parN P.lock_sp_enable == 1 || s.parN P.tow_enable == 0), P.tow_share_enable),
   (decide (gptp < 2) && s.parN (P.eth_enable gptp) == 0, P.eth_gptp)]

/-- Every cross-parameter rule, in the order of the chapters. -/
def State.paramRules (s : State) : List (Bool × Nat) :=
  s.rulesDevice ++ s.rulesPos ++ s.bridgesUsed.flatMap s.rulesBridge ++ s.rulesDcl ++ s.rulesLinks

/-- The failing ID of the parameter check; 0 when the set passes. -/
def State.paramCheck (s : State) : Nat := (firstFail s.paramRules).getD 0

/-! ## The safety check value (R315) -/

/-- CRC-32C over the `SAFETY` parameters of a set, each with its ID. -/
def safetyCheck (act : List (Nat × Word)) : Word :=
  BitVec.ofNat 32 ((safetyIds.foldl (fun c id =>
    crc32cFold (c ^^^ id) (leBytes 4 (sget paramDefault act id).toNat)) 0xFFFFFFFF) ^^^ 0xFFFFFFFF)

/-! ## Stored generations (R346, R348) -/

/-- The base of a parameter slot. -/
def slotAt (k : Fin 2) : Nat := 0x11900000 + k.val * 0x100000
/-- The base of a table image slot. -/
def tableAt (k : Fin 2) : Nat := 0x11B00000 + k.val * 0x200000
/-- The bytes of the three stores in table SRAM, which lie one after the other (R39). -/
def storeBytes : Nat := 204800
/-- The bytes of a table image. -/
def imageBytes : Nat := 206336

/-- The commit word of a slot. -/
def State.commitWord (s : State) (k : Fin 2) : Nat := (s.memW (slotAt k)).toNat
/-- A word of a slot's header: 0 generation, 1 entries, 2 safety check, 3 parameter check, 4 table check. -/
def State.slotHeader (s : State) (k : Fin 2) (i : Nat) : Word := s.memW (slotAt k + 4 + 4 * i)
/-- The check value of a part under a generation number. -/
def partCheck (gen : Nat) (bs : List Byte) : Word := BitVec.ofNat 32 (crc32c (0xFFFFFFFF ^^^ gen) bs)

/-- The commit word equals the header generation, and both check values match. -/
def State.slotValid (s : State) (k : Fin 2) : Bool :=
  let g := s.commitWord k
  let n := (s.slotHeader k 1).toNat
  decide (g ≠ 0) && decide (s.slotHeader k 0 = BitVec.ofNat 32 g) && decide (n ≤ 131000) &&
    s.slotHeader k 3 == partCheck g (s.memBytes (slotAt k + 24) (8 * n)) &&
    s.slotHeader k 4 == partCheck g (s.memBytes (tableAt k) imageBytes)

/-- The valid generation: the valid slot with the higher generation. -/
def State.validSlot (s : State) : Option (Fin 2) :=
  if s.slotValid 0 then
    if s.slotValid 1 && decide (s.commitWord 0 < s.commitWord 1) then some 1 else some 0
  else if s.slotValid 1 then some 1 else none

/-- The number of the valid generation, 0 when there is none. -/
def State.validGen (s : State) : Nat :=
  match s.validSlot with
  | some k => s.commitWord k
  | none => 0

/-- `NVMC_GEN` and `VALID_SLOT` show the valid generation. -/
def State.nvmSync (s : State) : State :=
  let k := s.validSlot
  (s.setWord F.NVMC_GEN_GEN 0 (BitVec.ofNat 32 s.validGen)).wr F.NVMC_STATUS_VALID_SLOT 0
    (match k with | some k => k.val | none => 0)

/-- The stored set of a slot: entries of IDs that are not defined are ignored, and a defined ID without an
entry takes its default (R352). -/
def State.slotSet (s : State) (k : Fin 2) : List (Nat × Word) :=
  (List.range (s.slotHeader k 1).toNat).foldl (fun act i =>
    let a := slotAt k + 24 + 8 * i
    let id := leVal (s.memBytes a 2)
    if (paramFind id).isSome then sset paramDefault act id (s.memW (a + 4)) else act) []

/-- Copies an interval of memory. -/
def State.copyMem (s : State) (src dst n : Nat) : State :=
  let cells := s.mem.filter fun c => decide (src ≤ c.1) && decide (c.1 < src + n)
  (s.clearMem dst n).each cells fun s c => s.setMemB (c.1 - src + dst) c.2

/-- The gate strength blocks of all lanes, entries other than step 32 (R266). -/
def State.gstAll (s : State) : List (Nat × Nat) :=
  allLanes.flatMap fun k => s.lanes[k].gst.map fun e => (k.val * 128 + e.1, e.2)

/-- The step of an entry in such a list. -/
def gstStep (l : List (Nat × Nat)) (i : Nat) : Nat := (l.lookup i).getD 32

/-- The bytes of the entries of a set: every defined ID in ascending order (R348). -/
def entryBytes (set : List (Nat × Word)) : List Byte :=
  paramIds.flatMap fun id => w16 id ++ [0, 0] ++ w32 (sget paramDefault set id).toNat

/-- A set has locked two bridges whose states differ: the pair has one state machine (R111). It takes `FAULT` when
either bridge is in `FAULT`, else `STANDBY` (DESIGN CHOICE, log entry 147). -/
def State.pairAlign (s : State) : State :=
  if s.lockedPair && s.dst 0 != s.dst 1 then
    s.enter 0 (if s.dst 0 = .fault ∨ s.dst 1 = .fault then .fault else .standby)
  else s

/-- Takes a set as the active set: its confirmation stands when the value recomputed over it equals the
stored one (R315); else the configuration is unconfirmed and `FLT_CFG_CHECK` is raised. -/
def State.takeSet (s : State) (k : Option (Fin 2)) : State :=
  let act := match k with | some k => s.slotSet k | none => []
  let chk := match k with | some k => s.slotHeader k 2 | none => 0
  let ok := k.isSome && safetyCheck act == chk
  let s := { s with params := { s.params with
    act := act, staged := [], confirmed := ok, confCheck := if ok then chk else s.params.confCheck } }
  let s := s.parAll.pairAlign
  if ok then s else s.raiseF FC.CFG_CHECK .device

/-- A `SAFETY` parameter of the active set differs from the valid generation (R91); with none valid, it
counts as different (DEDUCED, log entry 15). -/
def State.safetyDiffers (s : State) : Bool :=
  match s.validSlot with
  | none => true
  | some k =>
    let st := s.slotSet k
    safetyIds.any fun id => sget paramDefault s.params.act id != sget paramDefault st id

/-- The slot that a store writes: the other one than the valid generation's. -/
def State.storeSlot (s : State) : Fin 2 :=
  match s.validSlot with
  | some 0 => 1
  | _ => 0

/-- A store starts (R349): the active set and the strength blocks are captured, and the commit word of the
slot is cleared. -/
def State.storeBegin (s : State) : State :=
  let k := s.storeSlot
  let chk := if s.safetyDiffers then s.params.confCheck
    else match s.validSlot with | some v => s.slotHeader v 2 | none => s.params.confCheck
  let job : StoreJob := ⟨k, s.validGen + 1, s.params.act, s.gstAll, chk⟩
  let s := { s with params := { s.params with job := some job } }
  ((s.setMemW (slotAt k) 0).wr F.NVMC_STATUS_STORE_STATE 0 1).nvmSync

/-- The parts of a store are written: table image, entries and header. -/
def State.storeWrite (s : State) (j : StoreJob) : State :=
  let s := s.copyMem 0x28000000 (tableAt j.slot) storeBytes
  let s := s.setMemBytes (tableAt j.slot + storeBytes)
    ((List.range 1536).map fun i => BitVec.ofNat 8 (gstStep j.gst i))
  let es := entryBytes j.set
  let s := s.setMemBytes (slotAt j.slot + 24) es
  s.setMemBytes (slotAt j.slot + 4) (w32 j.gen ++ w32 paramIds.length ++ w32 j.check.toNat ++
    w32 (partCheck j.gen es).toNat ++
    w32 (partCheck j.gen (s.memBytes (tableAt j.slot) imageBytes)).toNat)

end Sys2Proof.Machine
end

