-- ==== Sys2Proof/WellFormed.lean ====
section
/-! DEFINITION. Which commands a wire of the hardware can carry: frames of the lengths that their protocols
have, readings of the numbers that a round has. A command that is not well-formed never reaches the device;
the meanings that take such operands answer it with the fault `illFormed`. -/

namespace Sys2Proof

/-- The data lengths of a CAN FD frame. -/
def fdLengths : List Nat := [0, 1, 2, 3, 4, 5, 6, 7, 8, 12, 16, 20, 24, 32, 48, 64]

/-- A CAN frame as ISO 11898-1 or CiA 610-1 has it (R381): identifier width and data length by format. -/
def CanFrame.wf (f : CanFrame) : Bool :=
  match f.fmt with
  | .classical => decide (f.id < (if f.ext then 2 ^ 29 else 2 ^ 11)) && decide (f.data.length ≤ 8)
  | .fd => decide (f.id < (if f.ext then 2 ^ 29 else 2 ^ 11)) && fdLengths.contains f.data.length && !f.rtr
  | .xl => decide (f.id < 2 ^ 11) && !f.ext && decide (1 ≤ f.data.length ∧ f.data.length ≤ 2048) && !f.rtr

/-- A result brings 1 to 256 conversions (R236). -/
def ConvRes.wf (r : ConvRes) : Bool := decide (0 < r.codes.length ∧ r.codes.length ≤ 256)

/-- A housekeeping round reads eight sensors and twelve lanes (R246, R375). -/
def HkRound.wf (h : HkRound) : Bool := h.die.length == 8 && h.tmod.length == 12

/-- Fault codes are bytes (R301). -/
def FaultSrc.wf (f : FaultSrc) : Bool := decide (f.code < 256)

/-- A SENT frame has a length for each of its nibbles (R410). -/
def SentFrame.wf (f : SentFrame) : Bool :=
  f.nibbleLens.length == f.nibbles.length && f.nibbles.all fun n => decide (n < 16)

/-- The commands that a wire can carry. -/
def Instr.wf : Instr → Bool
  | .canXlBarge _ f => f.wf
  | .canFdSegment _ _ f => f.wf
  | .directSetpointFrame _ _ f => f.wf
  | .canRxFrame _ _ _ f => f.wf
  | .convResult _ _ r => r.wf
  | .housekeepingRound _ h => h.wf
  | .faultSourceAssert _ l => l.all FaultSrc.wf
  | .sentFrame _ _ f => f.wf
  | _ => true

end Sys2Proof
end

