-- ==== Sys2Proof/Machine/CanOps.lean ====
section
/-! DEFINITION. The CAN controllers as shared operations (R381 to R396): interrupt flags, error confinement,
message buffers with their shadows, the choice of the next frame, bus-off, initialisation, and the
configuration at boot (R382, R383, R398). Buffer `mb` of controller `c` is the register instance
64 × c + mb. -/

namespace Sys2Proof.Machine

/-- The register instance of a buffer. -/
def mbI (c : Fin 4) (mb : Nat) : Nat := 64 * c.val + mb

/-! ## Interrupt flags -/

/-- `IRQ_CANk` follows its flags and enables. -/
def State.canLevel (s : State) (c : Fin 4) : State :=
  s.irqLevel (12 + c.val) (s.word F.CAN_IRQ_RX c &&& s.word F.CAN_IRQ_EN_RX c != 0)

/-- A flag of `CAN_IRQ` is set. -/
def State.canFlag (s : State) (c : Fin 4) (f : Fld) : State := (s.flag f c true).canLevel c

/-! ## Error confinement (R390, ISO 11898-1) -/

/-- The confinement state that the counters and the bus state give. -/
def State.canConfOf (s : State) (c : Fin 4) : Nat :=
  match s.cans[c].bus with
  | .busOff => 2
  | .recovering => 3
  | _ => if 127 < s.rd F.CAN_ECR_TEC c ∨ 127 < s.rd F.CAN_ECR_REC c then 1 else 0

/-- `CAN_STATUS.CONF` follows; a change is flagged, and entry into error passive or bus-off is counted. -/
def State.canConf (s : State) (c : Fin 4) : State :=
  let new := s.canConfOf c
  if new = s.rd F.CAN_STATUS_CONF c then s
  else
    let s := (s.wr F.CAN_STATUS_CONF c new).canFlag c F.CAN_IRQ_CONF_CHG
    if new = 1 then s.evt (E.CAN_PASSIVE c) else if new = 2 then s.evt (E.CAN_BUSOFF c) else s

/-- A frame was received without error: the receive counter falls by one; from error passive it takes a value
of 119 to 127, which ISO 11898-1 leaves open. -/
def State.canRxGood (s : State) (c : Fin 4) : State :=
  let n := s.rd F.CAN_ECR_REC c
  if 127 < n then (s.spend.wr F.CAN_ECR_REC c (119 + Config.freeNat s.free % 9)).canConf c
  else (s.wr F.CAN_ECR_REC c (n - 1)).canConf c

/-- A receiver detects an error. -/
def State.canRxError (s : State) (c : Fin 4) : State :=
  (s.wr F.CAN_ECR_REC c (min 511 (s.rd F.CAN_ECR_REC c + 1))).canConf c

/-! ## Message buffers -/

/-- The format code of `MB_FMT.FMT`. -/
def fmtCode : CanFmt → Nat
  | .classical => 0
  | .fd => 1
  | .xl => 2

/-- The data lengths of CAN FD. -/
def fdLengths : List Nat := [0, 1, 2, 3, 4, 5, 6, 7, 8, 12, 16, 20, 24, 32, 48, 64]

/-- The smallest data length of CAN FD that holds n bytes. -/
def fdFit (n : Nat) : Nat := (fdLengths.find? fun l => decide (n ≤ l)).getD 64

/-- The format of a code. -/
def fmtOf (n : Nat) : CanFmt := if n = 0 then .classical else if n = 1 then .fd else .xl

/-- The data bytes of a buffer. -/
def State.mbData (s : State) (i n : Nat) : List Byte :=
  (List.range n).map fun k => (s.word (F.MB_DATA_DATA.at (k / 4)) i).extractLsb' (8 * (k % 4)) 8

/-- Writes data bytes into a buffer, four to a word, little-endian. -/
def State.mbPut (s : State) (i : Nat) (bs : List Byte) : State :=
  s.each (List.range ((bs.length + 3) / 4)) fun s k =>
    s.setWord (F.MB_DATA_DATA.at k) i (BitVec.ofNat 32 (leVal (slice bs (4 * k) 4)))

/-- The frame that a transmit buffer holds. -/
def State.mbFrame (s : State) (i : Nat) : CanFrame :=
  let ext := s.bit F.MB_FMT_IDE i
  { fmt := fmtOf (s.rd F.MB_FMT_FMT i)
    ext := ext
    id := if ext then s.rd F.MB_ID_ID i else s.rd F.MB_ID_ID i % 2048
    rtr := s.bit F.MB_FMT_RTR i
    brs := s.bit F.MB_FMT_BRS i
    esi := false
    sec := s.bit F.MB_FMT_SEC i
    sdt := BitVec.ofNat 8 (s.rd F.MB_XL_SDT i)
    vcid := BitVec.ofNat 8 (s.rd F.MB_XL_VCID i)
    af := s.word F.MB_AF_AF i
    data := s.mbData i (s.rd F.MB_FMT_LEN i) }

/-- A received frame enters a buffer, which becomes full (R385). `MB_FMT.ANY` stays. -/
def State.mbFill (s : State) (c : Fin 4) (mb : Nat) (f : CanFrame) (stamp : Word) : State :=
  let i := mbI c mb
  let fmt := s.rd F.MB_FMT_ANY i * 2 ^ 19 + b2n f.sec * 2 ^ 18 + b2n f.rtr * 2 ^ 17 + b2n f.esi * 2 ^ 16 +
    b2n f.brs * 2 ^ 15 + b2n f.ext * 2 ^ 14 + fmtCode f.fmt * 2 ^ 12 + f.data.length
  let s := (s.setWord F.MB_FMT_LEN i (BitVec.ofNat 32 fmt)).wr F.MB_ID_ID i f.id
  let s := ((s.wr F.MB_XL_SDT i f.sdt.toNat).wr F.MB_XL_VCID i f.vcid.toNat).setWord F.MB_AF_AF i f.af
  let s := (s.setWord F.MB_STAMP_STAMP i stamp).mbPut i f.data
  (s.wr F.MB_STATUS_STATE i 6).canFlag c F.CAN_IRQ_RX

/-- The filter of a receive buffer accepts a frame (R385). -/
def State.mbAccepts (s : State) (c : Fin 4) (f : CanFrame) (mb : Nat) : Bool :=
  let i := mbI c mb
  s.rd F.MB_CFG_DIR i == 1 &&
    ((BitVec.ofNat 32 f.id ^^^ s.word F.MB_ID_ID i) &&& s.word F.MB_MASK_MASK i) == 0 &&
    (s.bit F.MB_FMT_ANY i || (s.rd F.MB_FMT_FMT i == fmtCode f.fmt && s.bit F.MB_FMT_IDE i == f.ext))

/-- A received frame is stored in the accepting buffer or its shadow, or discarded (R385). -/
def State.mbStore (s : State) (c : Fin 4) (f : CanFrame) (stamp : Word) : State :=
  match (List.range 64).find? (s.mbAccepts c f) with
  | none => s
  | some mb =>
    let i := mbI c mb
    if s.rd F.MB_STATUS_STATE i = 6 then
      let had := s.bit F.MB_STATUS_SHADOW i
      let s := s.upCan c fun x =>
        { x with shadows := (mb, f, stamp) :: x.shadows.filter fun e => e.1 != mb }
      let s := s.flag F.MB_STATUS_SHADOW i true
      if had then ((s.flag F.MB_STATUS_OVERRUN i true).canFlag c F.CAN_IRQ_OVERRUN).evt (E.CAN_OVERRUN c) else s
    else s.mbFill c mb f stamp

/-- `MB_CMD.RELEASE` (R385). -/
def State.mbRelease (s : State) (c : Fin 4) (mb : Nat) : State :=
  let i := mbI c mb
  if s.rd F.MB_STATUS_STATE i = 6 then
    match s.cans[c].shadows.find? fun e => e.1 == mb with
    | some (_, f, t) =>
      let s := s.upCan c fun x => { x with shadows := x.shadows.filter fun e => e.1 != mb }
      (s.flag F.MB_STATUS_SHADOW i false).mbFill c mb f t
    | none => s.wr F.MB_STATUS_STATE i 0
  else s

/-- `MB_CMD.REQ` (R387); a request to a buffer that cannot take it sets `RANGE`. -/
def State.mbReq (s : State) (c : Fin 4) (mb : Nat) : State :=
  let i := mbI c mb
  let st := s.rd F.MB_STATUS_STATE i
  if s.rd F.MB_CFG_DIR i = 2 ∧ (st = 0 ∨ st = 3 ∨ st = 4 ∨ st = 5) then
    (s.wr F.MB_STATUS_STATE i 1).flag F.MB_STATUS_CANCEL_LATE i false
  else s.flag F.CAN_ERR_RANGE 0 true

/-- `MB_CMD.CANCEL` (R389). -/
def State.mbCancel (s : State) (c : Fin 4) (mb : Nat) : State :=
  let i := mbI c mb
  let st := s.rd F.MB_STATUS_STATE i
  if st = 1 then (s.wr F.MB_STATUS_STATE i 4).canFlag c F.CAN_IRQ_CANCELLED
  else if st = 2 then s.flag F.MB_STATUS_CANCEL_LATE i true
  else s

/-! ## The next frame (R387) -/

/-- The arbitration field as a number: the lower one wins. A base identifier equal to the first 11 bits of an
extended one wins. -/
def arbKey (f : CanFrame) : Nat :=
  if f.ext then f.id / 2 ^ 18 * 2 ^ 21 + 2 ^ 20 + 2 ^ 19 + f.id % 2 ^ 18 * 2 + b2n f.rtr
  else f.id * 2 ^ 21 + b2n f.rtr * 2 ^ 20

/-- A response belongs to a controller: its format and bytes. -/
def respFor (c : Fin 4) : Transport × Lk × List Byte → Option (Bool × Lk × List Byte)
  | (.canXl d, r) => if d = c then some (true, r) else none
  | (.canFd d, r) => if d = c then some (false, r) else none
  | _ => none

/-- The response that the internal Lock transmit buffer of a controller holds: on CAN XL or not, its Lock and its
bytes. -/
def State.canResp (s : State) (c : Fin 4) : Option (Bool × Lk × List Byte) := s.net.respTx.findSome? (respFor c)

/-- Removes the first element of a list that a test meets. -/
def dropOne {α : Type} (p : α → Bool) : List α → List α
  | [] => []
  | x :: xs => if p x then xs else x :: dropOne p xs

/-- The response leaves the internal buffer. -/
def State.canRespDone (s : State) (c : Fin 4) : State :=
  { s with net := { s.net with respTx := dropOne (fun e => (respFor c e).isSome) s.net.respTx } }.upCan c
    fun x => { x with seg := 0 }

/-- The segments of a response on CAN FD (R63). -/
def segCount (bs : List Byte) : Nat := (bs.length + 61) / 62

/-- Segment k of a response (R63): `LAST` and the index, the low byte of the sequence, up to 62 Barge bytes, and
padding up to the smallest data length that fits. -/
def segBytes (bs : List Byte) (k : Nat) : List Byte :=
  let head := w8 ((if k + 1 = segCount bs then 128 else 0) + k) ++ [bs.getD 2 0]
  let seg := head ++ slice bs (62 * k) 62
  seg ++ List.replicate (fdFit seg.length - seg.length) 0

/-- The frame that the internal buffer of a controller sends next (R62, R63, R394): identifier `lock.can_rsp_id` + L
in base format, L the chamber's number; on CAN XL the whole Barge with SDU type, VCID and acceptance field 0, on CAN
FD its present segment. -/
def State.respFrame (s : State) (c : Fin 4) : Option CanFrame :=
  (s.canResp c).map fun r =>
    { fmt := if r.1 then .xl else .fd
      ext := false
      id := s.parN P.lock_can_rsp_id + r.2.1.val
      rtr := false
      brs := !r.1 && Config.respBrs
      esi := false
      sec := false
      sdt := 0
      vcid := 0
      af := 0
      data := if r.1 then r.2.2 else segBytes r.2.2 s.cans[c].seg }

/-- The frame of a transmit buffer; 64 is the internal one. -/
def State.txFrame (s : State) (c : Fin 4) (k : Nat) : Option CanFrame :=
  if k < 64 then some (s.mbFrame (mbI c k)) else s.respFrame c

/-- The pending buffers of a controller with their keys. -/
def State.canPending (s : State) (c : Fin 4) : List (Nat × Nat) :=
  ((List.range 64).filter fun mb => s.rd F.MB_STATUS_STATE (mbI c mb) == 1 && s.rd F.MB_CFG_DIR (mbI c mb) == 2).map
    fun mb => (mb, arbKey (s.mbFrame (mbI c mb)))

/-- The first entry with the lowest key. -/
def lowestKey : List (Nat × Nat) → Option (Nat × Nat)
  | [] => none
  | e :: es =>
    match lowestKey es with
    | some x => if x.2 < e.2 then some x else some e
    | none => some e

/-- The frame that would win: the internal Lock buffer before the lowest buffer number at equal fields. -/
def State.canChoice (s : State) (c : Fin 4) : Option Nat :=
  let own : List (Nat × Nat) := match s.respFrame c with | some f => [(64, arbKey f)] | none => []
  (lowestKey (own ++ s.canPending c)).map (·.1)

/-- The peripheral clock domain runs, so that the controllers do. -/
def State.canUp (s : State) : Bool := s.running && s.sys.up[4]

/-- Counts from the start of a nominal bit to its sample point (R382): 12.5 ns are five counts. -/
def State.nomSample (s : State) (c : Fin 4) : Nat :=
  (s.rd F.CAN_NBT_TSEG1 c + 2) * (s.rd F.CAN_NBT_BRP c + 1) * 5

/-- The controller takes part on the bus. -/
def State.canOn (s : State) (c : Fin 4) : Bool := s.canUp && s.cans[c].bus == .on

/-- A frame may begin: on the bus, in a mode that transmits, no frame in progress, not past bus-off. -/
def State.canMaySend (s : State) (c : Fin 4) : Bool :=
  s.canOn c && (s.rd F.CAN_CTRL_MODE c == 0 || s.rd F.CAN_CTRL_MODE c == 2) && s.cans[c].tx.isNone &&
    decide (s.rd F.CAN_ECR_TEC c ≤ 255) && !s.bit F.CAN_CTRL_INIT c

/-- The selected frame starts: its buffer is `ACTIVE`. -/
def State.canStart (s : State) (c : Fin 4) (k : Nat) : State :=
  let s := s.upCan c fun x => { x with tx := some k, sof := BitVec.ofNat 32 (s.dt + s.nomSample c) }
  let s := if k < 64 then s.wr F.MB_STATUS_STATE (mbI c k) 2 else s
  (s.flag F.CAN_STATUS_TXING c true).flag F.CAN_STATUS_IDLE c false

/-- The controller leaves the bus (R392): pending buffers end `ABORTED`, the counters reset. -/
def State.canAbort (s : State) (c : Fin 4) : State :=
  let ks := (List.range 64).filter fun mb => s.rd F.MB_STATUS_STATE (mbI c mb) == 1
  let s := s.each ks fun s mb => s.wr F.MB_STATUS_STATE (mbI c mb) 5
  if ks.isEmpty then s else s.canFlag c F.CAN_IRQ_ABORTED

/-- `INIT` = 1 takes effect. -/
def State.canOff (s : State) (c : Fin 4) : State :=
  let s := (s.upCan c fun x => { x with bus := .off }).canAbort c
  let s := (s.wr F.CAN_ECR_TEC c 0).wr F.CAN_ECR_REC c 0
  let s := (s.flag F.CAN_STATUS_SYNC c false).canConf c
  s.condition FC.CAN_BUSOFF .device ((List.finRange 4).any fun d =>
    s.cans[d].bus == .busOff || s.cans[d].bus == .recovering)

/-- The frame in progress is over. -/
def State.canIdle (s : State) (c : Fin 4) : State :=
  let s := (s.upCan c fun x => { x with tx := none }).flag F.CAN_STATUS_TXING c false
  let s := s.flag F.CAN_STATUS_IDLE c true
  if s.bit F.CAN_CTRL_INIT c && s.cans[c].bus == .on then s.canOff c else s

/-- A frame ended without completing (R388, R389). -/
def State.canFailed (s : State) (c : Fin 4) (mb : Nat) : State :=
  let i := mbI c mb
  if s.bit F.MB_STATUS_CANCEL_LATE i then (s.wr F.MB_STATUS_STATE i 4).canFlag c F.CAN_IRQ_CANCELLED
  else if s.bit F.MB_CFG_ONESHOT i then (s.wr F.MB_STATUS_STATE i 5).canFlag c F.CAN_IRQ_ABORTED
  else s.wr F.MB_STATUS_STATE i 1

/-- A frame of the internal buffer completed: the next segment follows, or the response is sent. -/
def State.canRespNext (s : State) (c : Fin 4) : State :=
  match s.canResp c with
  | some (false, _, bs) =>
    if s.cans[c].seg + 1 < segCount bs then s.upCan c fun x => { x with seg := x.seg + 1 } else s.canRespDone c
  | _ => s.canRespDone c

/-- A buffer's frame completed. -/
def State.canSent (s : State) (c : Fin 4) (mb : Nat) : State :=
  let i := mbI c mb
  ((s.wr F.MB_STATUS_STATE i 3).setWord F.MB_STAMP_STAMP i s.cans[c].sof).canFlag c F.CAN_IRQ_TX_DONE

/-- The measured transmitter delay, which the spec leaves to the bus: a free value of seven bits (R383). -/
def State.canMeasure (s : State) (c : Fin 4) (f : CanFrame) : State :=
  if s.bit F.CAN_TDC_EN c && f.fmt != .classical then
    s.spend.wr F.CAN_TDC_MEAS c (Config.freeNat s.free % 128)
  else s

/-- What the end of a transmission leaves in the error counter, in the mailbox and of the response (R390). -/
def State.canTxCount (s : State) (c : Fin 4) (k : Nat) (own : Option CanFrame) (e : CanTxEnd) : State :=
  let tec := s.rd F.CAN_ECR_TEC c
  match e with
  | .ok =>
    let s := s.wr F.CAN_ECR_TEC c (tec - 1)
    let s := match own with
      | some f => s.canMeasure c f
      | none => s
    if k < 64 then s.canSent c k else s.canRespNext c
  | .lostArbitration => if k < 64 then s.canFailed c k else s
  | .error _ =>
    let s := s.wr F.CAN_ECR_TEC c (min 511 (tec + 8))
    if k < 64 then s.canFailed c k else s

/-- The transmission in progress ends (R388 to R390). A completed frame lowers the transmit counter by one, an
error raises it by eight (ISO 11898-1). -/
def State.canTxEnd (s : State) (c : Fin 4) (e : CanTxEnd) : State :=
  match s.cans[c].tx with
  | none => s
  | some k =>
    let own := s.txFrame c k
    let s := s.canTxCount c k own e
    let s := match own with
      | some f => if e = CanTxEnd.ok ∧ s.rd F.CAN_CTRL_MODE c = 2 then s.mbStore c f s.cans[c].sof else s
      | none => s
    (s.canIdle c).canConf c

/-- Entry into bus-off (R391). -/
def State.canBusOff (s : State) (c : Fin 4) : State :=
  let s := match s.cans[c].tx with
    | none => s
    | some k =>
      let i := mbI c k
      if k < 64 then
        (if s.bit F.MB_STATUS_CANCEL_LATE i then (s.wr F.MB_STATUS_STATE i 4).canFlag c F.CAN_IRQ_CANCELLED
         else (s.wr F.MB_STATUS_STATE i 5).canFlag c F.CAN_IRQ_ABORTED)
      else s
  let s := if (s.canResp c).isSome then s.canRespDone c else s
  let s := (s.upCan c fun x => { x with bus := .busOff, tx := none }).flag F.CAN_STATUS_TXING c false
  let s := ((s.flag F.CAN_STATUS_SYNC c false).canAbort c).canConf c
  let s := (s.canFlag c F.CAN_IRQ_BUS_OFF).raiseOn FC.CAN_BUSOFF .device (fixedClass FC.CAN_BUSOFF)
  if s.bit F.CAN_CTRL_BUSOFF_AUTO c then (s.upCan c fun x => { x with bus := .recovering }).canConf c else s

/-- `CAN_CTRL.RECOVER` (R391). -/
def State.canRecover (s : State) (c : Fin 4) : State :=
  if s.cans[c].bus = .busOff then (s.upCan c fun x => { x with bus := .recovering }).canConf c else s

/-- Recovery is complete (R391). -/
def State.canRecovered (s : State) (c : Fin 4) : State :=
  let s := (s.upCan c fun x => { x with bus := .on }).flag F.CAN_STATUS_SYNC c true
  let s := ((s.wr F.CAN_ECR_TEC c 0).wr F.CAN_ECR_REC c 0).canConf c
  s.condition FC.CAN_BUSOFF .device ((List.finRange 4).any fun d =>
    s.cans[d].bus == .busOff || s.cans[d].bus == .recovering)

/-- A write of `CAN_CTRL.INIT` (R392). -/
def State.canInit (s : State) (c : Fin 4) (v : Bool) : State :=
  let s := s.flag F.CAN_CTRL_INIT c v
  if v then (if s.cans[c].bus = .off ∨ s.cans[c].tx.isSome then s else s.canOff c)
  else if s.cans[c].bus = .off then s.upCan c fun x => { x with bus := .integrating }
  else s

/-! ## Configuration at boot (R382, R383, R398) -/

/-- Writes the timing of one phase: BRP, TSEG1, TSEG2 and SJW, each minus one. -/
def State.canTiming (s : State) (c : Fin 4) (t : Option (Nat × Nat × Nat)) (fb f1 f2 fs : Fld) : State :=
  match t with
  | some (brp, t1, t2) =>
    (((s.wr fb c (brp - 1)).wr f1 c (t1 - 1)).wr f2 c (t2 - 1)).wr fs c (t2 - 1)
  | none => s

/-- Pilot release 3.4 configures a controller from its parameters. -/
def State.canBoot (s : State) (c : Fin 4) : State :=
  let p := s.parBoot
  let fmt := p (P.can_format c)
  if p (P.can_enable c) = 1 then
    let s := s.canTiming c (bitTiming (p (P.can_nom_rate c)) (p (P.can_nom_sp c)) 385)
      F.CAN_NBT_BRP F.CAN_NBT_TSEG1 F.CAN_NBT_TSEG2 F.CAN_NBT_SJW
    let s := if 1 ≤ fmt then s.canTiming c (bitTiming (p (P.can_data_rate c)) (p (P.can_data_sp c)) 49)
      F.CAN_DBT_BRP F.CAN_DBT_TSEG1 F.CAN_DBT_TSEG2 F.CAN_DBT_SJW else s
    let s := if fmt = 2 then s.canTiming c (bitTiming (p (P.can_xl_rate c)) (p (P.can_xl_sp c)) 49)
      F.CAN_XBT_BRP F.CAN_XBT_TSEG1 F.CAN_XBT_TSEG2 F.CAN_XBT_SJW else s
    let s := (s.wr F.CAN_TDC_OFFSET c (s.rd F.CAN_DBT_TSEG1 c + 2)).wr F.CAN_TDC_EN c (p (P.can_tdc_enable c))
    let s := (s.flag F.CAN_CTRL_FD_EN c (decide (1 ≤ fmt))).flag F.CAN_CTRL_XL_EN c (fmt == 2)
    let s := (s.wr F.CAN_CTRL_MODE c (p (P.can_mode c))).wr F.CAN_CTRL_BUSOFF_AUTO c (p (P.can_busoff_auto c))
    s.canInit c false
  else s

end Sys2Proof.Machine
end

