-- ==== Sys2Proof/Machine/TowOps.lean ====
section
/-! DEFINITION. Towpath frames (R403) and the torque share that the device sends (R406). -/

namespace Sys2Proof.Machine

/-- A frame of R403: type, flags, source, destination, payload and check value; the check is CRC-32C with its
usual final XOR (DEDUCED, log entry 25). -/
def towFrame (type flags src dst : Nat) (pl : List Byte) : List Byte :=
  let head := w8 type ++ w8 flags ++ w16 src ++ w16 dst ++ w16 pl.length ++ pl
  head ++ w32 (crc32c 0xFFFFFFFF head)

/-- The payload length field of a frame. -/
def towLen (f : List Byte) : Nat := u16 f 6
/-- The payload of a frame. -/
def towPayload (f : List Byte) : List Byte := slice f 8 (towLen f)
/-- A frame passes its check; a payload length above 256 or a type above 4 discards it. -/
def towCheck (f : List Byte) : Bool :=
  f.length == 12 + towLen f && u32 f (8 + towLen f) == crc32c 0xFFFFFFFF (f.take (8 + towLen f))
/-- A frame whose fields are admitted. -/
def towAdmitted (f : List Byte) : Bool := decide (u8 f 0 ≤ 4) && decide (towLen f ≤ 256)

/-- The broadcast destination. -/
def towAll : Nat := 0x07FF

/-- The place of a frame type in the order of sending: 0, 2, 1, 4, 3. -/
def towRank (f : List Byte) : Nat :=
  match u8 f 0 with
  | 0 => 0
  | 2 => 1
  | 1 => 2
  | 4 => 3
  | _ => 4

/-- A port is trained. -/
def State.towOn (s : State) : TowPort → Bool
  | .up => s.net.towUp
  | .dn => s.net.towDn

/-- Frames that wait for a port, in type order. -/
def towInsert (p : TowPort) (f : List Byte) : List (TowPort × List Byte) → List (TowPort × List Byte)
  | [] => [(p, f)]
  | e :: es => if e.1 = p ∧ towRank f < towRank e.2 then (p, f) :: e :: es else e :: towInsert p f es

/-- A frame leaves a trained port. -/
def State.towSend (s : State) (p : TowPort) (f : List Byte) : State :=
  if s.towOn p then { s with net := { s.net with towTx := towInsert p f s.net.towTx } } else s

/-- A frame of this device goes to its destination: upstream to a lower number, downstream to a higher one,
both ways to all. -/
def State.towRoute (s : State) (f : List Byte) : State :=
  match s.net.towNum with
  | none => s
  | some n =>
    let d := u16 f 4
    if d = towAll then (s.towSend .up f).towSend .dn f
    else if d < n then s.towSend .up f
    else if n < d then s.towSend .dn f
    else s

/-- The other port. -/
def towOther : TowPort → TowPort
  | .up => .dn
  | .dn => .up

/-- The 16 bytes of R67. -/
def setpointBytes (dataId cnt target : Nat) (t lim : Int) : List Byte :=
  let head := w16 dataId ++ w8 (cnt % 16) ++ w8 target ++ wi32 t ++ wi32 lim
  head ++ w32 (crc32c (0xFFFFFFFF ^^^ dataId) head)

/-- The device named by `tow.share_src` sends a torque-share frame after each applied torque request (R406).
-/
def State.shareSend (s : State) (b : Br) (t lim : Int) : State :=
  match s.net.towNum with
  | none => s
  | some n =>
    if s.parBoot P.tow_enable = 1 ∧ s.parBoot P.tow_share_src = n then
      let pl := setpointBytes (s.parN P.lock_sp_data_id) s.net.shareCnt (if s.lockedPair then 2 else b.val) t lim
      { s with net := { s.net with shareCnt := (s.net.shareCnt + 1) % 16 } }.towRoute (towFrame 2 0 n towAll pl)
    else s

end Sys2Proof.Machine
end

