-- ==== Sys2Proof/Machine/Drive.lean ====
section
/-! DEFINITION. The drive commands 0x0201 to 0x0209 (R83 to R85). -/

namespace Sys2Proof.Machine

/-- `DRIVE_START` (R83): legal in `READY`; `REFUSED` while an STO channel is asserted (R110, checked
after the state: log entry 9), `UNCONFIRMED` while the safety configuration is unconfirmed. -/
def execDriveStart (lk : Lk) (s : State) : Out :=
  s.serveCode lk 0x0201 fun s p =>
    let sel := u8 p 0
    let b := s.selBr sel
    checked s [(p.length != 4, ST.LENGTH), (selBad sel || decide (2 < u8 p 1) || !zeros p 2 2, ST.RANGE),
      (s.selRefused sel, ST.REFUSED), (s.dst b != .ready, ST.STATE), (s.stoOn, ST.REFUSED),
      (!s.params.confirmed, ST.UNCONFIRMED)] fun s =>
        okWith [] (s.command b (.start
          (if u8 p 1 = 0 then .torque else if u8 p 1 = 1 then .speed else .current)))

/-- `DRIVE_STOP` (R83): legal in an Active state. -/
def execDriveStop (lk : Lk) (s : State) : Out :=
  s.serveCode lk 0x0202 fun s p =>
    let sel := u8 p 0
    let b := s.selBr sel
    checked s [(p.length != 4, ST.LENGTH), (selBad sel || decide (1 < u8 p 1) || !zeros p 2 2, ST.RANGE),
      (s.selRefused sel, ST.REFUSED), (!(s.dst b).isActive, ST.STATE)] fun s =>
        okWith [] (s.command b (.stop (u8 p 1 == 1)))

/-- A torque request is taken over: the previous one stays for the torque monitor (R311), and the device
named by `tow.share_src` passes it on (R406). -/
def State.takeTorque (s : State) (b : Br) (t lim : Int) : State :=
  (s.each (s.group b) fun s c => s.upB c fun x =>
    { x with prevReq := x.torqueReq, torqueReq := t, speedLimit := lim, reqAt := s.now }).shareSend b t lim

/-- `TORQUE_SET` (R83, R84): `REFUSED` while direct setpoint frames or torque shares are enabled (R69,
R406); the applied torque and the limit flags are returned. -/
def execTorqueSet (lk : Lk) (s : State) : Out :=
  s.serveCode lk 0x0203 fun s p =>
    let sel := u8 p 0
    let b := s.selBr sel
    let t := i32 p 4
    checked s [(p.length != 12, ST.LENGTH), (selBad sel || !zeros p 1 3 || decide (i32 p 8 < 0), ST.RANGE),
      (s.selRefused sel || s.parN P.lock_sp_enable == 1 || s.parBoot P.tow_share_enable == 1, ST.REFUSED),
      (!(s.dst b).isDriving || s.bridges[b].mode != some .torque, ST.STATE)] fun s =>
        let a := if s.reverseHeld b t then (0, 0) else s.applyTorque b t
        okWith (wi32 a.1 ++ w8 a.2 ++ [0, 0, 0]) (s.takeTorque b t (i32 p 8))

/-- `SPEED_SET` (R83, R84, R121): the applied speed is the setpoint as the controller takes it; the
limit flags are those of the latest retired stage. -/
def execSpeedSet (lk : Lk) (s : State) : Out :=
  s.serveCode lk 0x0204 fun s p =>
    let sel := u8 p 0
    let b := s.selBr sel
    let v := i32 p 4
    checked s [(p.length != 12, ST.LENGTH), (selBad sel || !zeros p 1 3 || decide (i32 p 8 < 0), ST.RANGE),
      (s.selRefused sel, ST.REFUSED),
      (!(s.dst b).isDriving || s.bridges[b].mode != some .speed, ST.STATE)] fun s =>
        let a := if s.reverseHeld b v then 0 else v
        okWith (wi32 a ++ w8 (s.bridges[b].limits % 8) ++ [0, 0, 0])
          (s.each (s.group b) fun s c => s.upB c fun x => { x with speedSet := v, torqueLimit := i32 p 8 })

/-- `CURRENT_SET` (R83, R84): legal in `RUN`; the currents as R183 clamps them are returned. -/
def execCurrentSet (lk : Lk) (s : State) : Out :=
  s.serveCode lk 0x0205 fun s p =>
    let sel := u8 p 0
    let b := s.selBr sel
    let d := i32 p 4
    let q := i32 p 8
    checked s [(p.length != 12, ST.LENGTH), (selBad sel || !zeros p 1 3, ST.RANGE),
      (s.selRefused sel, ST.REFUSED),
      (s.dst b != .run || s.bridges[b].mode != some .current, ST.STATE)] fun s =>
        let r := s.clampRef b (d : Rat) (q : Rat)
        okWith (wi32 (ratFree r.id) ++ wi32 (ratFree r.iq) ++ w8 (s.refFlags b r % 8) ++ [0, 0, 0])
          (s.each (s.group b) fun s c => s.upB c fun x => { x with dSet := d, qSet := q })

/-- `DRIVE_STATUS` (R83, R85): bridge 0 or 1. -/
def execDriveStatus (lk : Lk) (s : State) : Out :=
  s.serveCode lk 0x0206 fun s p =>
    let b : Br := if u8 p 0 = 1 then 1 else 0
    checked s [(p.length != 4, ST.LENGTH), (decide (1 < u8 p 0) || !zeros p 1 3, ST.RANGE),
      (!s.configured b, ST.REFUSED)] fun s => okWith (s.driveRecord b) s

/-- `PRECHARGE_START` (R83): legal in `STANDBY`; `REFUSED` with a welded contact (R292, checked after the
state: log entry 9). -/
def execPrechargeStart (lk : Lk) (s : State) : Out :=
  s.serveCode lk 0x0207 fun s p =>
    let sel := u8 p 0
    let b := s.selBr sel
    checked s [(p.length != 4, ST.LENGTH), (selBad sel || !zeros p 1 3, ST.RANGE),
      (s.selRefused sel, ST.REFUSED), (s.dst b != .standby, ST.STATE), (s.welded, ST.REFUSED)] fun s =>
        okWith [] (s.command b .precharge)

/-- `DRIVE_SHUTDOWN` (R83): legal in `READY` and `FAULT`. -/
def execDriveShutdown (lk : Lk) (s : State) : Out :=
  s.serveCode lk 0x0208 fun s p =>
    let sel := u8 p 0
    let b := s.selBr sel
    checked s [(p.length != 4, ST.LENGTH), (selBad sel || !zeros p 1 3, ST.RANGE),
      (s.selRefused sel, ST.REFUSED), (s.dst b != .ready && s.dst b != .fault, ST.STATE)] fun s =>
        okWith [] (s.command b .shutdown)

/-- `DISCHARGE_START` (R83, R293, R220): legal when Idle and the other bridge is neither Active nor in
`PRECHARGE`; `REFUSED` when the method is not configured, or for windings in direct modulation mode. -/
def execDischargeStart (lk : Lk) (s : State) : Out :=
  s.serveCode lk 0x0209 fun s p =>
    let sel := u8 p 0
    let b := s.selBr sel
    let w := u8 p 1 == 1
    let o := mate b
    let busy := !s.lockedPair && s.configured o && ((s.dst o).isActive || s.dst o == .precharge)
    checked s [(p.length != 4, ST.LENGTH), (selBad sel || decide (1 < u8 p 1) || !zeros p 2 2, ST.RANGE),
      (s.selRefused sel || !(s.parN P.dcl_dis_method).testBit (b2n w) ||
        (w && s.bit F.MOD_CTRL_MODE b.val), ST.REFUSED),
      (!(s.dst b).isIdle || busy, ST.STATE)] fun s => okWith [] (s.command b (.discharge w))

end Sys2Proof.Machine
end

