-- ==== Sys2Proof/Machine/LockOps.lean ====
section
/-! DEFINITION. The LOCK block and its transports as shared operations: submission with its checks (R52 to
R56), delivery by the transports (R59, R62 to R66), segments (R63), byte stuffing (R65), the host SPI frame
(R411 to R413), direct setpoints (R67 to R69), and the routing of a received CAN frame (R394, R395). -/

namespace Sys2Proof.Machine

/-! ## Submission -/

/-- `LOCK_CTRL.ENABLE` (R57). -/
def State.lockEnabled (s : State) : Bool := s.bit F.LOCK_CTRL_ENABLE

/-- A check of R53 fails: the response is not stored, and the rejection is counted. -/
def State.lockReject (s : State) (lk : Lk) (status : Nat) : State :=
  (s.reply lk status [] false).evt E.LOCK_REJECT

/-- The check value of the Barge in a chamber is right (R46). -/
def Lock.crcOk (l : Lock) (lk : Lk) : Bool :=
  leVal (l.bytes (16 + l.plen) 4) == crc32c (bargeStart lk l.seq) (l.bytes 0 (16 + l.plen))

/-- Byte 6 bits [7:1] and bytes 7 to 15 are 0. -/
def Lock.headZero (l : Lock) : Bool := decide (l.byte 6 < 2) && zeros (l.bytes 7 9) 0 9

/-- The new request of a Lock enters `SERVICE`, routed by its code (R52, R55, R56). -/
def State.lockServe (s : State) (lk : Lk) : State :=
  (s.upLock lk fun l => { l with
    gate := .service, svcAt := s.now, served := false
    last := some (l.seq, l.toggle), reply := none }).lockIrqs

/-- Check 5: the sequence and the toggle bit (R55). -/
def State.lockSequence (s : State) (lk : Lk) : State :=
  let l := s.locks[lk]
  match l.last with
  | none => s.lockServe lk
  | some (q, t) =>
    if l.seq = (q + 1) % 65536 ∧ l.toggle ≠ t then s.lockServe lk
    else if l.seq = q ∧ l.toggle = t then
      match l.reply with
      | some r => s.upLock lk fun l => { (l.put 0 r) with gate := .reply }
      | none => s.reply lk ST.BUSY [] false
    else s.lockReject lk ST.SEQUENCE

/-- The first bytes of a submitted Barge and its class stay known until the Lock is claimed again (R45, R71). -/
def State.lockNote (s : State) (lk : Lk) : State :=
  s.upLock lk fun l => { l with req := l.header, keeper := keeperCode l.code }

/-- A submitted Barge is checked and routed; the check takes no time of its own (DEDUCED, log entry 22). Its first
bytes and its class stay known until the Lock is claimed again (R45, R71). -/
def State.lockSubmit (s : State) (lk : Lk) : State :=
  let s := s.lockNote lk
  let l := s.locks[lk]
  if 236 < l.plen then s.lockReject lk ST.LENGTH
  else if l.got ≠ 20 + l.plen then s.lockReject lk ST.LENGTH
  else if !l.crcOk lk then s.lockReject lk ST.CHECK
  else if !l.headZero then s.lockReject lk ST.RANGE
  else s.lockSequence lk

/-- A Lock that a transport may claim. -/
def Lock.free (l : Lock) : Bool := l.gate == .empty && l.owner.isNone

/-- A response leaves over a transport (R59): over the Towpath in a tunnel frame to the device that asked (R407).
-/
def State.respSend (s : State) (tr : Transport) (lk : Lk) (bs : List Byte) : State :=
  match tr with
  | .tow _ dev => s.towRoute (towFrame 3 1 (s.net.towNum.getD 0) dev bs)
  | _ => { s with net := { s.net with respTx := s.net.respTx ++ [(tr, lk, bs)] } }

/-- A transport other than SPI delivers a Barge (R52, R57, R59): it claims a free Lock and submits; a Lock that is
not free answers `BUSY`, which is not stored. -/
def State.lockDeliver (s : State) (tr : Transport) (lk : Lk) (bs : List Byte) : State :=
  if !s.lockEnabled then s
  else if s.locks[lk].free then
    (s.upLock lk fun l => { ({ l with buf := [] } : Lock).put 0 bs with
      owner := some tr, claimedAt := s.now, got := bs.length }).lockSubmit lk
  else s.respSend tr lk (s.response lk bs ST.BUSY [])

/-- The Lock that byte 5 of a Barge names; none when the Barge is too short or the number is above 15. Over UART
and the Towpath such a Barge is dropped without a response (DESIGN CHOICE, log entry 141). -/
def lockOf (bs : List Byte) : Option Lk :=
  if h : u8 bs 5 < 16 then (if 6 ≤ bs.length then some ⟨u8 bs 5, h⟩ else none) else none

/-- Delivers a Barge to the Lock that its byte 5 names. -/
def State.lockByFive (s : State) (tr : Transport) (bs : List Byte) : State :=
  match lockOf bs with
  | some lk => s.lockDeliver tr lk bs
  | none => s

/-- A UDP datagram (R64): one whose byte 5 names no Lock is answered `LENGTH` when its length is not that of its
Barge, in the number that its byte 5 gives modulo 16, and else dropped (DESIGN CHOICE, log entry 141). -/
def State.udpIn (s : State) (tr : Transport) (bs : List Byte) : State :=
  match lockOf bs with
  | some lk => s.lockDeliver tr lk bs
  | none =>
    if s.lockEnabled && bs.length != 20 + u8 bs 4 then
      let lk : Lk := ⟨u8 bs 5 % 16, by omega⟩
      (s.respSend tr lk (s.response lk bs ST.LENGTH [])).evt E.LOCK_REJECT
    else s

/-- A drained Lock is empty and unclaimed (R52). -/
def State.lockEmpty (s : State) (lk : Lk) : State :=
  s.upLock lk fun l => { l with gate := .empty, owner := none, buf := [], got := 0 }

/-! ## CAN transports (R62, R63, R394, R395) -/

/-- The controller carries Barges and setpoints. -/
def State.canMapped (s : State) (c : Fin 4) : Bool := (s.parN P.lock_can_map).testBit c.val

/-- The Lock that a request identifier names. -/
def State.canReqLock (s : State) (f : CanFrame) : Option Lk :=
  let b := s.parN P.lock_can_req_id
  if h : b ≤ f.id ∧ f.id - b < 16 then some ⟨f.id - b, h.2⟩ else none

/-- The partial Barge of a controller is discarded and counted. -/
def State.segDrop (s : State) (c : Fin 4) : State :=
  match s.cans[c].part with
  | some _ => (s.upCan c fun x => { x with part := none }).evt E.LOCK_SEG_DROP
  | none => s

/-- The Barge bytes that a last segment completes: those of the segments before, and its own without the padding
that the smallest fitting data length brings (R63). Bytes beyond that are delivered, and fail check 2 of R53. -/
def segBarge (before body : List Byte) : List Byte :=
  let all := before ++ body
  let rest := 20 + u8 all 4 - before.length
  if rest < body.length ∧ 0 < rest ∧ body.length + 2 = fdFit (rest + 2) then all.take (20 + u8 all 4) else all

/-- The segment that follows: its part is kept, or with `LAST` submitted. A controller holds one partial Barge,
and the Lock is claimed when its last segment has come (DESIGN CHOICE, log entry 142). -/
def State.segTake (s : State) (c : Fin 4) (lk : Lk) (last : Bool) (before body : List Byte) (p : SegPart) : State :=
  if last then (s.upCan c fun x => { x with part := none }).lockDeliver (.canFd c) lk (segBarge before body)
  else s.upCan c fun x => { x with part := some p }

/-- A segment of a Barge on CAN FD (R63). A segment for another Lock than the partial Barge's breaks its order,
and one of an index above 0 without a partial Barge discards nothing (DESIGN CHOICE, log entry 142). -/
def State.segIn (s : State) (c : Fin 4) (lk : Lk) (f : CanFrame) : State :=
  let h := u8 f.data 0
  let idx := h % 8
  let last := h / 128 == 1
  let seq := f.data.getD 1 0
  let body := f.data.drop 2
  let bad := decide (4 < idx) || h / 8 % 16 != 0 || decide (f.data.length < 2)
  if bad then s.segDrop c
  else if idx = 0 then (s.segDrop c).segTake c lk last [] body ⟨lk, 0, seq, body, s.now⟩
  else
    match s.cans[c].part with
    | some p =>
      if p.lk = lk ∧ idx = p.index + 1 ∧ seq = p.seq then
        s.segTake c lk last p.bytes body ⟨lk, idx, seq, p.bytes ++ body, s.now⟩
      else s.segDrop c
    | none => s

/-- A frame on a request identifier (R394). -/
def State.canLock (s : State) (c : Fin 4) (lk : Lk) (f : CanFrame) : State :=
  match f.fmt with
  | .xl => s.lockDeliver (.canXl c) lk f.data
  | .fd => if f.ext then s.evt (E.CAN_LOCK_FMT c) else s.segIn c lk f
  | .classical => s.evt (E.CAN_LOCK_FMT c)

/-! ## Direct setpoints and torque shares (R67 to R69, R406) -/

/-- The target of a setpoint: a bridge, or both of a locked pair; other values name no target, 0 and 1 on a locked
pair among them (DESIGN CHOICE, log entry 60). -/
def State.spTarget (s : State) (n : Nat) : Option Br :=
  if s.lockedPair then (if n = 2 then some 0 else none)
  else if n = 0 then some 0
  else if n = 1 ∧ s.configured 1 = true then some 1
  else none

/-- Data ID, check value, the upper counter bits and the target of a setpoint are right; a frame whose upper
counter bits are not 0 is discarded and counted as one of a wrong layout (DESIGN CHOICE, log entry 60). -/
def State.spValid (s : State) (p : List Byte) : Bool :=
  u16 p 0 == s.parN P.lock_sp_data_id && u32 p 12 == crc32c (0xFFFFFFFF ^^^ u16 p 0) (p.take 12) &&
    decide (u8 p 2 < 16) && (s.spTarget (u8 p 3)).isSome

/-- Replaces a reference counter of a bridge or its locked pair. -/
def State.spPut (s : State) (share : Bool) (b : Br) (n : Option Nat) : State :=
  s.each (s.group b) fun s c => s.upB c fun x => if share then { x with shareRef := n } else { x with spRef := n }

/-- An applicable frame has come: the timeout of R69, or of R406, begins anew (DEDUCED, log entry 184). -/
def State.spHeard (s : State) (share : Bool) (b : Br) : State :=
  s.each (s.group b) fun s c => s.upB c fun x => if share then { x with shareAt := s.now } else { x with spAt := s.now }

/-- `limit` ms have passed with no applicable frame (R69, R406). -/
def State.spSilent (s : State) (share : Bool) (b : Br) (limit : Nat) : Bool :=
  let x := s.bridges[s.lead b]
  decide ((if share then x.shareAt else x.spAt) + limit * msCounts ≤ s.now)

/-- The counter rules of R68 on the 16 bytes of a setpoint; `scale` is in 1/1,000. A bridge that drives in speed or
current mode takes the torque request and keeps its mode (DESIGN CHOICE, log entry 143). -/
def State.spApply (s : State) (share : Bool) (scale : Int) (p : List Byte) : State :=
  if !s.spValid p then s.evt E.SP_DROP
  else
    match s.spTarget (u8 p 3) with
    | none => s
    | some b =>
      if (s.dst b).isDriving then
        let n := u8 p 2
        let t := i32 p 4 * scale
        let take (s : State) : State :=
          (s.spHeard share b).takeTorque b (if scale = 1000 then i32 p 4 else divFree t 1000) (i32 p 8).natAbs
        match (if share then s.bridges[b].shareRef else s.bridges[b].spRef) with
        | none => take (s.spPut share b (some n))
        | some r =>
          let d := (n + 16 - r) % 16
          if d = 0 then s
          else if d ≤ 3 then take (s.spPut share b (some n))
          else (s.spPut share b (some n)).evt E.SP_DROP
      else s

/-- A frame on the setpoint identifier (R68, R395): a classical frame or one of another length is dropped; it is
used only while `lock.sp_enable` is 1, and else ignored whatever it holds (DEDUCED, log entry 143). -/
def State.canSetpoint (s : State) (f : CanFrame) : State :=
  if f.fmt = .classical ∨ f.data.length ≠ 16 then s.evt E.SP_DROP
  else if s.parN P.lock_sp_enable = 1 then s.spApply false 1000 f.data
  else s

/-- The torque request of a bridge falls to 0 for want of frames (R69, R406). -/
def State.spTimeout (s : State) (b : Br) (share : Bool) (code : Nat) : State :=
  if (s.dst b).isDriving then
    (((s.spHeard share b).takeTorque b 0 s.bridges[b].speedLimit).spPut share b none).raiseF code (.bridge (s.lead b))
  else s

/-! ## A frame on the bus -/

/-- The counter-relevant protocol limits of R381: what the controller does with a frame that it does not accept;
none when it accepts the frame. -/
def State.canRefuse (s : State) (c : Fin 4) (f : CanFrame) : Option State :=
  let fd := s.bit F.CAN_CTRL_FD_EN c
  let xl := s.bit F.CAN_CTRL_XL_EN c
  if f.fmt ≠ .classical ∧ fd = false then some (s.canRxError c)
  else if f.fmt = .xl ∧ xl = false then
    some (((s.upCan c fun x => { x with bus := .integrating }).flag F.CAN_STATUS_SYNC c false).evt (E.CAN_PEX c))
  else none

/-- A frame reaches a controller that takes part (R381, R385, R394, R395); `stamp` is the DTIME of its
start-of-frame sample point. A frame on the setpoint identifier is one in base or extended format (DESIGN CHOICE,
log entry 143). -/
def State.canReceive (s : State) (c : Fin 4) (stamp : Word) (f : CanFrame) : State :=
  if s.canOn c && s.rd F.CAN_CTRL_MODE c != 2 then
    match s.canRefuse c f with
    | some t => t
    | none =>
      let s := s.canRxGood c
      if f.fmt = .xl ∧ 256 < f.data.length then
        (s.canFlag c F.CAN_IRQ_RX_LONG).evt (E.CAN_RX_LONG c)
      else if s.canMapped c then
        match s.canReqLock f with
        | some lk => s.canLock c lk f
        | none => if f.id = s.parN P.lock_sp_can_id then s.canSetpoint f else s.mbStore c f stamp
      else s.mbStore c f stamp
  else s

/-! ## UART (R65, R416) -/

/-- Removes the byte stuffing of a frame between its delimiters; none when a 0x7D stands before the closing
0x7E. -/
def unstuff : List Byte → Option (List Byte)
  | [] => some []
  | [b] => if b = 0x7D then none else some [b]
  | b :: c :: bs =>
    if b = 0x7D then (unstuff bs).map (fun t => (c ^^^ 0x20) :: t) else (unstuff (c :: bs)).map (fun t => b :: t)

/-! ## Host SPI (R411 to R413) -/

/-- The Locks in `REPLY` that a port has claimed. -/
def State.spiReplies (s : State) (port : Fin 2) : Nat :=
  ((List.finRange 16).filter fun k => s.locks[k].gate == .reply && s.locks[k].owner == some (.spi port)).length

/-- `HSPIk_IRQ_N` is low: a Lock claimed by the port is in `REPLY`. -/
def State.hspiIrqLow (s : State) (port : Fin 2) : Bool := decide (0 < s.spiReplies port)

/-- Both bridges are in `SAFE_HOLD`. -/
def State.safeHeld (s : State) : Bool := s.dst 0 == .safeHold

/-- How a frame ended. -/
inductive SpiEnd where
  | done | crc | noEffect | length
  deriving DecidableEq, Repr

/-- The frame status of R412. -/
def State.spiStatus (s : State) (port : Fin 2) (e : SpiEnd) : Nat :=
  (match e with | .done => 1 | .crc => 2 | .noEffect => 4 | .length => 8) +
    b2n s.lockEnabled * 16 + b2n s.safeHeld * 32 + s.spiReplies port * 256

/-- A frame ends: its status, and the bytes it returned; it is an event of `IRQ_SPI_HOST` (R41). -/
def State.spiEnd (s : State) (port : Fin 2) (e : SpiEnd) (out : List Byte) : State :=
  let s := s.irq 20
  { s with spi := vupd s.spi port fun _ => ⟨BitVec.ofNat 16 (s.spiStatus port e), out⟩ }

/-- The header of a frame. -/
def spiHead (op : Nat) (lock : Byte) (off count : BitVec 16) : List Byte :=
  w8 op ++ [lock] ++ w16 off.toNat ++ w16 count.toNat

/-- The check value of a frame. -/
def spiCrc (bs : List Byte) : Byte := BitVec.ofNat 8 (crc8 0xFF bs)

/-- Bytes returned with their check value. -/
def spiOut (bs : List Byte) : List Byte := bs ++ [spiCrc bs]

/-- The peripheral domain serves host SPI. -/
def State.spiUp (s : State) : Bool := s.running && s.sys.up[4]

/-- A frame: check value and length first, then the instruction, which answers nothing when R60 or a reserved
header field denies it an effect. In `SAFE_HOLD` only `ST_READ` is served (R413). -/
def State.spiFrame (s : State) (port : Fin 2) (op : Nat) (lock : Byte) (off count : BitVec 16) (data : List Byte)
    (crc : Byte) (act : State → Option (State × List Byte)) : State :=
  if !s.spiUp then s
  else if crc ≠ spiCrc (spiHead op lock off count ++ data) then s.spiEnd port .crc []
  else if op = 0x20 ∧ data.length ≠ count.toNat then s.spiEnd port .length []
  else if s.safeHeld && op != 0x10 then s.spiEnd port .noEffect []
  else
    match act s with
    | some (t, out) => t.spiEnd port .done out
    | none => s.spiEnd port .noEffect []

/-- The Lock of a frame header. -/
def lockNo (b : Byte) : Option Lk := if h : b.toNat < 16 then some ⟨b.toNat, h⟩ else none

/-- The value of `LOCK_GATES`. -/
def State.gates (s : State) : Nat :=
  (List.finRange 16).foldl (fun n k => n + (match s.locks[k].gate with
    | .empty => 0 | .check => 1 | .service => 2 | .reply => 3) * 4 ^ k.val) 0

/-- The faulted lanes of all twelve, by lane index. -/
def State.faultedAll (s : State) : Nat :=
  (List.range 12).foldl (fun n k =>
    n + (if s.rd F.LANE_STATUS_STATE k = 4 ∨ s.rd F.LANE_STATUS_STATE k = 5 then 2 ^ k else 0)) 0

/-- The status block of R413. -/
def State.statusBlock (s : State) (life : Nat) : List Byte :=
  let b := w16 0x1224 ++ w8 0xB0 ++ w8 life ++ w8 (s.stCode 0) ++ w8 (s.stCode 1) ++ w8 s.sys.selfTest ++
    w8 (b2n s.lockEnabled) ++ w32 (s.word F.SYS_RST_CAUSE_STATE 0).toNat ++ w32 (s.word F.FCR_FIRST_CODE 0).toNat ++
    w32 (s.word F.FCR_FIRST_TIME_STAMP 0).toNat ++ wi16 (s.rdI F.SYS_THERM_STATUS_TJ) ++ w16 s.faultedAll ++
    w32 s.stamp.toNat
  b ++ w32 (crc32c 0xFFFFFFFF b)

end Sys2Proof.Machine
end

