-- ==== Sys2Proof/Machine/CanCmd.lean ====
section
/-! DEFINITION. The events of the CAN controllers (R384 to R393). -/

namespace Sys2Proof.Machine

/-- `CAN_RX_FRAME` (R384 to R387, R393): a frame completes reception; `ago` counts have passed since the sample
point of its start-of-frame bit. -/
def execCanRxFrame (dt : Nat) (can : Fin 4) (ago : Nat) (fr : CanFrame) (s : State) : Out :=
  let s := s.tick dt
  if fr.wf then .next (s.canReceive can (BitVec.ofNat 32 (s.dt - ago)) fr)
  else .fault .illFormed

/-- `CAN_TX_SELECT` (R388): the controller starts the pending buffer that wins arbitration. -/
def execCanTxSelect (dt : Nat) (can : Fin 4) (s : State) : Out :=
  let s := s.tick dt
  .next (if s.canMaySend can then
      match s.canChoice can with
      | some k => s.canStart can k
      | none => s
    else s)

/-- `CAN_TX_END` (R388 to R390): the transmission in progress ends. -/
def execCanTxEnd (dt : Nat) (can : Fin 4) (e : CanTxEnd) (s : State) : Out :=
  .next ((s.tick dt).canTxEnd can e)

/-- `CAN_BUS_OFF` (R391): the transmit error counter has passed 255. -/
def execCanBusOff (dt : Nat) (can : Fin 4) (s : State) : Out :=
  let s := s.tick dt
  .next (if 255 < s.rd F.CAN_ECR_TEC can ∧ s.cans[can].bus = .on then s.canBusOff can else s)

/-- `CAN_RECOVERY_DONE` (R391): 128 occurrences of eleven recessive bits. -/
def execCanRecoveryDone (dt : Nat) (can : Fin 4) (s : State) : Out :=
  let s := s.tick dt
  .next (if s.cans[can].bus = .recovering then s.canRecovered can else s)

/-- `CAN_INTEGRATED` (R392): eleven recessive bits after `INIT` = 0; the controller joins the bus. -/
def execCanIntegrated (dt : Nat) (can : Fin 4) (s : State) : Out :=
  let s := s.tick dt
  .next (if s.cans[can].bus = .integrating ∧ s.canUp then
      ((s.upCan can fun x => { x with bus := .on }).flag F.CAN_STATUS_SYNC can true).canConf can
    else s)

end Sys2Proof.Machine
end

