-- ==== Sys2Proof/Machine/LaneOps.lean ====
section
/-! DEFINITION. The lane die as shared operations (R256 to R279): its gate under plans, queue and trips, its
local DTIME, the frames it receives, the register writes it applies, its capture. The lane's own register
copies are the register-file instances `laneOwn`. -/

namespace Sys2Proof.Machine

/-! ## Local state -/

/-- A field of the lane die's own copy. -/
def State.own (s : State) (k : LaneIx) (f : Fld) : Nat := s.rd f (laneOwn k)
/-- Writes a field of the lane die's own copy. -/
def State.ownPut (s : State) (k : LaneIx) (f : Fld) (v : Nat) : State := s.wr f (laneOwn k) v
/-- Sets a flag of the lane die's own copy. -/
def State.ownFlag (s : State) (k : LaneIx) (f : Fld) : State := s.flag f (laneOwn k) true

/-- The local DTIME of a lane in fine steps of 78.125 ps (R34). -/
def State.localFine (s : State) (k : LaneIx) : Int := 32 * (s.dt : Int) + s.lanes[k].skew

/-- The state codes of R256. -/
def LaneSt.code : LaneSt → Nat
  | .unlinked => 0
  | .plan => 1
  | .armed => 2
  | .forced => 3
  | .tripped => 4
  | .latched => 5

/-- The leg of the lane is at high impedance by this lane. -/
def LaneSt.isOut : LaneSt → Bool
  | .tripped | .latched => true
  | _ => false

/-- The plan a lane follows: `ASC_LOW` while `ASC_NOW` or OV3 forced it (R275). -/
def Lane.effPlan (l : Lane) : Nat := if l.ascForced then 1 else l.plan

/-- A plan holds the main gate of a lane on (R274). -/
def planWants (plan : Nat) (low : Bool) : Bool := (plan == 1 && low) || (plan == 2 && !low)

/-- The lane follows a plan. -/
def Lane.onPlan (l : Lane) : Bool := l.st == .plan || l.st == .forced

/-- Neither STO channel inhibits the gate, or the exemption of R308 applies. -/
def State.gateEnable (s : State) (k : LaneIx) : Bool :=
  let l := s.lanes[k]
  !(l.stoA || l.stoB) ||
    (s.own k F.LANE_PROT_STO_ASC == 1 && laneLow k && l.effPlan == 1 && l.onPlan)

/-- The main gate may be on at all: enabled, not locked off by the partner (R272), supplied (R445). -/
def State.gateMay (s : State) (k : LaneIx) : Bool :=
  s.gateEnable k && !s.lanes[k].legLock && !s.lanes[k].hvs

/-! ## The gate strength table (R266) -/

/-- The gate strength step of an entry (R266). -/
def State.gst (s : State) (k : LaneIx) (i : Nat) : Nat := gstGet s.lanes[k].gst i
where
  gstGet (l : List (Nat × Nat)) (i : Nat) : Nat := sget (fun _ => 32) l i

/-- Replaces the gate strength step of an entry. -/
def State.gstPut (s : State) (k : LaneIx) (i v : Nat) : State :=
  s.upLane k fun l => { l with gst := sset (fun _ => 32) l.gst i v }

/-- The temperature bin of a lane (R266): an open input counts as `sense.tmod_derate`, one that has never been
converted as 0 °C (DESIGN CHOICE, log entry 183). -/
def State.tempBin (s : State) (k : LaneIx) : Nat :=
  let t := if s.condActive FC.SENSE_OPEN (.lane k) then s.par (P.sense_tmod_derate (laneBr k).val)
    else (s.sys.tmods.getD k.val none).getD 0
  if t < 250 then 0 else if t < 750 then 1 else if t < 1250 then 2 else 3

/-- The index of the strength table entry that an edge uses, by its type and the estimate held (R266). -/
def State.gstIndex (s : State) (k : LaneIx) (off : Bool) : Nat :=
  b2n off * 64 + min 15 (s.lanes[k].est.natAbs / s.own k F.LANE_GST_DATA_BIN_A) * 4 + s.tempBin k

/-! ## The gate -/

/-- The main gate on: the clamp releases at the start of a turn-on (R268). -/
def Lane.gateOn (l : Lane) (now : Nat) : Lane := { l with gate := true, gateAt := now, clamp := false, ascWait := false }

/-- The main gate off at a strength; `clamp`: a gate that falls below the clamp voltage is connected to `VEEL`
(R268). -/
def Lane.gateOff (l : Lane) (clamp : Bool) (step : Nat) : Lane :=
  { l with gate := false, ascWait := false, clamp := l.clamp || (l.gate && clamp)
           strength := if l.gate then step else l.strength }

/-- The main gate of a lane goes on, at the strength of its table (R266). -/
def State.gateRise (s : State) (k : LaneIx) : State :=
  let x := s.gstIndex k false
  s.upLane k fun l => { l.gateOn s.dt with strength := s.gst k x, gstOn := x }

/-- A plan turn-on that the switch node does not admit waits (R274). -/
def State.gateWait (s : State) (k : LaneIx) : State :=
  s.upLane k fun l => { l with ascWait := true, ascAt := if l.ascWait then l.ascAt else s.dt }

/-- The voltage at a gate by its lane's supplies, in mV (DEDUCED, log entry 137): `VDDL` while it is on, `VEEL`
once it is off. -/
def Lane.gateMv (l : Lane) (on : Bool) : Int := if on then l.vddl else l.veel

/-- A gate that turns off engages the Miller clamp: it is enabled, and the gate voltage falls below `VEEL` and
`lane.clamp_v` (R268). -/
def State.clampEngages (s : State) (k : LaneIx) : Bool :=
  let l := s.lanes[k]
  s.own k F.LANE_CFG_CLAMP_EN == 1 &&
    decide (l.gateMv false < l.veel + s.par (P.lane_clamp_v (laneBr k).val))

/-- The main gate of a lane goes off, at the strength of its table (R266). -/
def State.gateDrop (s : State) (k : LaneIx) : State :=
  let x := s.gstIndex k true
  let clamp := s.clampEngages k
  s.upLane k fun l => { l.gateOff clamp (s.gst k x) with gstOff := if l.gate then x else l.gstOff }

/-- What a lane drives at `GON`, `GOFF` and `GCLAMP`, at which strength step, and whether they are the inputs of an
external booster stage (R266, R268). -/
structure GatePins where
  on : Bool
  off : Bool
  clamp : Bool
  step : Nat
  booster : Bool
  deriving DecidableEq, Repr

/-- The gate outputs of a lane: an unsupplied one drives none, and only its pull-down holds the gate (R268). -/
def State.gatePins (s : State) (k : LaneIx) : GatePins :=
  let l := s.lanes[k]
  if l.st = .unlinked then ⟨false, false, false, 0, s.own k F.LANE_CFG_BOOSTER == 1⟩
  else ⟨l.gate, !l.gate, l.clamp, l.strength, s.own k F.LANE_CFG_BOOSTER == 1⟩

/-- The gate as the lane's state and plan have it (R256, R274). Whether the switch node admits a plan
turn-on is the outside world's, a free choice; a lane that it does not admit keeps waiting. -/
def State.laneApply (s : State) (k : LaneIx) : State :=
  let l := s.lanes[k]
  if l.onPlan then
    if planWants l.effPlan (laneLow k) && s.gateMay k then
      if l.gate then s
      else if Config.freeBool s.free then s.spend.gateRise k
      else s.spend.gateWait k
    else s.gateDrop k
  else if l.st == .armed && s.gateMay k then s
  else s.gateDrop k

/-- The Sluice drives the discharge switch (R293). -/
def State.disOn (s : State) : Bool :=
  s.bridgesUsed.any fun b =>
    match s.bridges[b].dis with
    | some d => s.dst b == .discharge && d.acting && !d.windings
    | none => false

/-- The command of the control die for the auxiliary output of a lane, as its frames carry it: the chopper for the
lane of the chopper, the discharge switch for the other mode (R285, R293; DEDUCED, log entry 138). -/
def State.auxSent (s : State) (k : LaneIx) : Bool :=
  if s.rd F.LANE_PLAN_AUX_MODE k = 1 then s.dcl.chopOn else s.disOn

/-- The auxiliary output of a lane, by the command that its latest frame brought (R274, R285, R286, R293). -/
def State.auxApply (s : State) (k : LaneIx) : State :=
  let l := s.lanes[k]
  let mode := s.own k F.LANE_PLAN_AUX_MODE
  let cmd :=
    if l.st == .unlinked then false
    else if mode = 1 then l.auxCmd && !l.auxBlocked
    else if mode = 2 then (l.auxCmd && !l.auxBlocked) || l.autoDis
    else l.st == .armed && l.aux
  s.upLane k fun x => { x with aux := cmd }

/-! ## Capture (R278) -/

/-- A capture trigger: the lane's recording goes on for its post-trigger words. -/
def State.capFire (s : State) (k : LaneIx) (code : Nat) : State :=
  if s.lanes[k].cap = .recording ∧ s.own k F.LANE_CAP_CTRL_TRIG = code then
    (s.upLane k fun l => { l with cap := .post, post := 0, capAt := s.now }).setWord F.LANE_CAP_STAMP_STAMP (laneOwn k) s.stamp
  else s

/-- The words recorded after the trigger. -/
def State.capAfter (s : State) (k : LaneIx) : Nat := (32 - s.own k F.LANE_CAP_CTRL_PRE) * 512

/-- A word of the capture's source. -/
def State.capWord (s : State) (k : LaneIx) (w : BitVec 16) : State :=
  let l := s.lanes[k]
  if l.cap = .recording then s.upLane k fun x => { x with ring := (w :: x.ring).take 16384 }
  else if l.cap = .post ∧ l.post < s.capAfter k then
    s.upLane k fun x => { x with ring := (w :: x.ring).take 16384, post := x.post + 1 }
  else s

/-- Recording starts; a stopped capture and its copy are discarded (R279). -/
def State.capArm (s : State) (k : LaneIx) : State :=
  (s.upLane k fun l => { l with cap := .recording, ring := [], post := 0 }).wr F.LANE_CAP_STATUS_COPIED k 0

/-! ## Forcing, release, trips -/

/-- A lane enters `FORCED` (R276): a lane in `TRIPPED` or `LATCHED` stays there; `ASC_NOW` prevails. -/
def State.laneForce (s : State) (k : LaneIx) (asc : Bool) : State :=
  match s.lanes[k].st with
  | .unlinked | .tripped | .latched => s
  | .forced => (s.upLane k fun l => { l with queue := [], ascForced := l.ascForced || asc }).laneApply k
  | _ =>
    let s := s.upLane k fun l => { l with st := .forced, queue := [], ascForced := asc }
    ((s.evt (E.LANE_FORCED k)).capFire k 4).laneApply k

/-- The conditions of the lane faults of a leg (R456). -/
def State.laneConds (s : State) (k : LaneIx) : State :=
  let out := s.lanes[k].st.isOut
  let shoot := s.lanes[k].st == .latched || s.lanes[lanePartner k].st == .latched
  ((((s.condition FC.LANE_SC (.lane k) out).condition FC.LANE_DESAT (.lane k) out).condition FC.LANE_UV (.lane k)
    out).condition FC.LANE_SHOOT (.lane k) shoot).condition FC.LANE_SHOOT (.lane (lanePartner k)) shoot

/-- A lane goes to `ARMED` or `PLAN` by its `LANE_CTRL.ARM`. -/
def State.laneHome (s : State) (k : LaneIx) : State :=
  let st : LaneSt := if s.own k F.LANE_CTRL_ARM = 1 then .armed else .plan
  (s.upLane k fun l => { l with st := st }).laneApply k

/-- The forcing conditions have cleared and the link is trained (R276). -/
def State.canRelease (s : State) (k : LaneIx) : Bool :=
  let l := s.lanes[k]
  l.trained && !l.hbLost && !l.slip && !l.ov3

/-- `LANE_CMD.RELEASE` at the lane: with the last forced lane of a bridge the plan replacement of R455 ends. -/
def State.laneRelease (s : State) (k : LaneIx) : State :=
  if s.lanes[k].st = .forced ∧ s.canRelease k = true then
    let s := (s.upLane k fun l => { l with ascForced := false, auxBlocked := false }).laneHome k
    if (lanesOf (laneBr k)).any fun j => s.lanes[j].st == .forced then s
    else s.upB (laneBr k) fun x => { x with planOver := none }
  else s.flag F.LANE_ERR_RANGE 0 true

/-- The latched faults of a lane are unlatched in the FCR once `LANE_CLEAR` has cleared it (R92, R94). -/
def State.laneUnlatch (s : State) (k : LaneIx) : State :=
  let mine (c : Nat) (l : Loc) : Bool :=
    (l == .lane k && [FC.LANE_SC, FC.LANE_DESAT, FC.LANE_UV].contains c) ||
    (c == FC.LANE_SHOOT && (l == .lane k || l == .lane (lanePartner k)) &&
      s.lanes[lanePartner k].st != .latched)
  let f := { s.fcr with
    latched := s.fcr.latched.filter fun l => !mine l.code l.loc
    list := s.fcr.list.map fun e => if mine e.code e.loc then { e with latched := false } else e }
  { s with fcr := f }

/-- The trip causes of a lane's `LANE_TRIP` are cleared, and the pair marks that the control die holds. -/
def State.tripClear (s : State) (k : LaneIx) : State :=
  ((s.setWord F.LANE_TRIP_DIDT (laneOwn k) 0).wr F.LANE_TRIP_PAIR k 0).wr F.LANE_TRIP_SHOOT k 0

/-- `LANE_CMD.CLEAR` at the lane: `LATCHED`, the tries and the causes are cleared (R273); the partner is
freed, and the faults unlatch. -/
def State.laneClearDie (s : State) (k : LaneIx) : State :=
  let was := s.lanes[k].st
  let s := (s.upLane k fun l => { l with tries := [], cause := none }).tripClear k
  if was = .latched then
    (((s.laneHome k).urgent (lanePartner k) .legFree).laneConds k).laneUnlatch k
  else s

/-- The fault code of a cause (R277). -/
def TripCause.code : TripCause → Nat
  | .didt | .integ => FC.LANE_SC
  | .desat => FC.LANE_DESAT
  | .vddl | .veel => FC.LANE_UV

/-- The cause's bit of `LANE_TRIP`. -/
def TripCause.fld : TripCause → Fld
  | .didt => F.LANE_TRIP_DIDT
  | .integ => F.LANE_TRIP_INTEG
  | .desat => F.LANE_TRIP_DESAT
  | .vddl => F.LANE_TRIP_UV_VDDL
  | .veel => F.LANE_TRIP_UV_VEEL

/-- The capture triggers of a trip. -/
def State.tripCapture (s : State) (k : LaneIx) (c : TripCause) : State :=
  let s := s.capFire k 1
  match c with
  | .didt | .integ => s.capFire k 2
  | .desat => s.capFire k 3
  | _ => s

/-- The tries of the last 10 s. -/
def State.laneTries (s : State) (k : LaneIx) : List Nat :=
  s.lanes[k].tries.filter fun t => decide (s.now ≤ t + 10000 * msCounts)

/-- The strength at which a trip turns the gate off (R272): `lane.soft_step` by a short-circuit method, full sink
strength by a supply trip. -/
def State.tripStep (s : State) (k : LaneIx) (c : TripCause) : Nat :=
  match c with
  | .vddl | .veel => 63
  | _ => s.own k F.LANE_PROT_SOFT_STEP

/-- A lane that can take a trip decision: supplied, and not tripped already. -/
def Lane.canTrip (l : Lane) : Bool := l.st == .plan || l.st == .armed || l.st == .forced

/-- A trip decision (R272, R273): gate off, cause recorded, `TRIPPED` while tries are left, else `LATCHED`
with R104 row 19; the fault has class `LEG_OFF`. -/
def State.laneTrip (s : State) (k : LaneIx) (c : TripCause) : State :=
  if s.lanes[k].canTrip then
    let tries := s.laneTries k
    let latch := decide (s.own k F.LANE_RETRY_MAX ≤ tries.length)
    let clamp := s.clampEngages k
    let step := s.tripStep k c
    let s := s.upLane k fun l => { l.gateOff clamp step with
      st := if latch then .latched else .tripped
      queue := []
      tries := if latch then tries else tries ++ [s.now]
      retryAt := s.now
      tripAt := s.dt
      cause := some c
      ascForced := false }
    let s := (s.ownFlag k c.fld).auxApply k
    let s := (s.tripCapture k c).evt (E.LANE_TRIP k)
    let s := (s.laneConds k).raise c.code (.lane k) .legOff
    if latch then (s.evt (E.LANE_LATCH k)).laneLatchedFault k else s
  else s

/-- A lane latches without a retry: the retry wait ended with the condition active, or a shoot-through. -/
def State.laneLatch (s : State) (k : LaneIx) : State :=
  let s := (s.gateDrop k).upLane k fun l => { l with st := .latched, queue := [] }
  (s.evt (E.LANE_LATCH k)).laneConds k

/-- A frame or symbol that reaches a lane brings the relay's decision that it latches with its partner (R272;
DEDUCED, log entry 139). -/
def State.latchTake (s : State) (k : LaneIx) : State :=
  if s.links[k].latch then
    let s := s.upLink k fun l => { l with latch := false }
    if s.lanes[k].st = .tripped then s.laneLatch k else s
  else s

/-! ## Frames (R31, R258) -/

/-- The bytes under a downlink frame's check. -/
def downBytes (f : DownFrame) : List Byte := f.hdr :: leBytes 7 f.payload.toNat
/-- The frame kind: 0 time mark, 1 edges, 2 register write, 3 not used. -/
def downKind (f : DownFrame) : Nat := f.hdr.toNat / 64
/-- A frame that passes its check. -/
def downOk (f : DownFrame) : Bool := downKind f != 3 && f.crc.toNat == crc8 Config.linkCrc (downBytes f)
/-- The step or capture flag of the header. -/
def downFlag (f : DownFrame) : Bool := f.hdr.getLsbD 2

/-- What every valid frame does: a heartbeat, the STO bits, the plan when it is given, the auxiliary command;
an autonomous discharge ends (R258, R275, R285, R295). Plan code 3 gives no plan. -/
def State.laneHeader (s : State) (k : LaneIx) (f : DownFrame) : State :=
  let code := f.hdr.toNat % 4
  let given := f.hdr.getLsbD 3 && code != 3
  let s := s.upLane k fun l => { l with
    lastFrameAt := s.now
    stoA := f.hdr.getLsbD 5
    stoB := f.hdr.getLsbD 4
    plan := if given then code else l.plan
    planAt := if given then s.now else l.planAt
    planGiven := l.planGiven || given
    auxBlocked := l.auxBlocked || l.autoDis
    auxCmd := s.auxSent k
    autoDis := false }
  (s.latchTake k |>.laneApply k).auxApply k

/-- Difference of the local DTIME and a mark plus half the round trip, in fine steps; local DTIME has 56 bits
of counts. -/
def State.markOff (s : State) (k : LaneIx) (mark : Int) : Int :=
  let m : Int := 2 ^ 61
  let d := (s.localFine k - (mark + s.lanes[k].half)) % m
  if m / 2 ≤ d then d - m else d

/-- The same for the mark of a frame. -/
def State.markError (s : State) (k : LaneIx) (f : DownFrame) : Int := s.markOff k (32 * (f.payload.toNat : Int))

/-- The local DTIME becomes a mark plus half the round trip, in one clock (R34, R35). -/
def State.markLoad (s : State) (k : LaneIx) (mark : Int) : State :=
  let d := s.markOff k mark
  s.upLane k fun l => { l with skew := l.skew - d, slip := false }

/-- The sign of an integer. -/
def signI (x : Int) : Int := if x < 0 then -1 else if 0 < x then 1 else 0

/-- A mark without the step flag (R34): every mark that lies more than 64 steps away is a slip. -/
def State.laneMark (s : State) (k : LaneIx) (f : DownFrame) : State :=
  let d := s.markError k f
  if d.natAbs ≤ 64 then
    let s := s.upLane k fun l => { l with skew := l.skew - signI d, slip := false }
    if 5 ≤ d.natAbs then s.ownFlag k F.LANE_STATUS_TIME_WARN else s
  else
    let s := (s.upLane k fun l => { l with slip := true, queue := [] }).ownFlag k F.LANE_STATUS_TIME_SLIP
    (s.laneForce k false).raise FC.LANE_TIME (.lane k) (laneClass FC.LANE_TIME)

/-- A mark with the step flag loads the local DTIME; the queue is discarded (R35). -/
def State.laneStep (s : State) (k : LaneIx) (f : DownFrame) : State :=
  (s.markLoad k (32 * (f.payload.toNat : Int))).upLane k fun l => { l with queue := [] }

/-! ## Edges (R36, R212, R263) -/

/-- The fine time of an edge in steps of 78.125 ps. -/
def Edge.at_ (e : Edge) : Int := 32 * (e.time : Int) + e.fine

/-- The 28 bits of an edge command (R212). -/
def edgeWord (e : Edge) : Nat :=
  (if e.on then 2 ^ 27 else 0) + (if e.aux then 2 ^ 26 else 0) + (if e.dead then 2 ^ 25 else 0) +
    e.fine % 32 * 2 ^ 20 + e.time % 2 ^ 20

/-- The empty command slot. -/
def edgeEmpty : Nat := 2 ^ 26 + 2 ^ 25

/-- The time nearest to the local DTIME whose low 20 bits are those of a command (R36). -/
def State.expand (s : State) (k : LaneIx) (t : Nat) : Nat :=
  let l := s.localFine k / 32
  (l + (((t : Int) - l + 524288) % 1048576 - 524288)).toNat

/-- An edge command as the lane reads it; none for an empty slot. -/
def State.edgeOf (s : State) (k : LaneIx) (w : Nat) : Option Edge :=
  let aux := w.testBit 26
  let dead := w.testBit 25
  if aux && dead then none
  else some ⟨s.expand k (w % 1048576), w / 1048576 % 32, w.testBit 27, aux, dead⟩

/-- A lane fault at the arrival of an edge: forced, with `FLT_LANE_QUEUE`. -/
def State.queueFault (s : State) (k : LaneIx) (flag : Fld) : State :=
  ((s.ownFlag k flag).laneForce k false).raise FC.LANE_QUEUE (.lane k) (laneClass FC.LANE_QUEUE)

/-- A late edge: a turn-off is executed at once, a turn-on discarded. -/
def State.lateEdge (s : State) (k : LaneIx) (e : Edge) : State :=
  let s := ((s.ownFlag k F.LANE_STATUS_LATE_EDGE).evt (E.LANE_LATE k)).raise FC.LANE_LATE (.lane k) .report
  if e.on then s
  else if e.aux then s.upLane k fun l => { l with aux := false }
  else s.gateDrop k

/-- One edge command arrives (R263, R286). -/
def State.edgeIn (s : State) (k : LaneIx) (e : Edge) : State :=
  let l := s.lanes[k]
  if l.st ≠ .armed then s
  else if e.aux && s.own k F.LANE_PLAN_AUX_MODE != 0 then s
  else if 16 ≤ l.queue.length then s.queueFault k F.LANE_STATUS_QUEUE_OVERRUN
  else if l.queue.any fun x => x.aux == e.aux && decide (e.at_ ≤ x.at_) then s.queueFault k F.LANE_STATUS_EDGE_ORDER
  else if e.at_ < s.localFine k + 320 then s.lateEdge k e
  else
    let s := s.upLane k fun x => { x with queue := x.queue ++ [e] }
    s.ownPut k F.LANE_QUEUE_HIGH_COUNT (max (s.own k F.LANE_QUEUE_HIGH_COUNT) (l.queue.length + 1))

/-- The two commands of an edge frame, the first in bits [27:0] (R258); the capture flag is trigger 5. -/
def State.laneEdges (s : State) (k : LaneIx) (f : DownFrame) : State :=
  let s := if downFlag f then s.capFire k 5 else s
  let one (s : State) (w : Nat) : State := match s.edgeOf k w with | some e => s.edgeIn k e | none => s
  one (one s (f.payload.toNat % 268435456)) (f.payload.toNat / 268435456)

/-- The node admits a turn-on (R215, R274): it is at the lane's own rail, or no longer slewing and not at the
partner's. -/
def nodeAdmits (env : EdgeEnv) : Bool := env.nodeAtRail || (!env.slewing && !env.atPartner)

/-- The dead time that a turn-on applies, in fine steps, from the partner's turn-off `MOD_DEAD.DEAD_MAX` before its
commanded time (R214, R215). -/
def State.deadTime (s : State) (k : LaneIx) (e : Edge) : Nat :=
  (32 * (s.rd F.MOD_DEAD_DEAD_MAX (laneBr k).val : Int) - e.at_ + s.localFine k).toNat

/-- An edge falls due: at its time, or for an adaptive turn-on up to the permitted advance earlier when the
node admits it (R213, R215). -/
def State.edgeDue (s : State) (k : LaneIx) (env : EdgeEnv) (e : Edge) : Bool :=
  decide (e.at_ ≤ s.localFine k) ||
    (e.dead && e.on && !e.aux && nodeAdmits env &&
      decide (e.at_ - 128 * (s.own k F.LANE_ADV_ADV : Int) ≤ s.localFine k))

/-- An edge is executed: a turn-on under `LEG_LOCK` or without gate enable does not turn the gate on; a
turn-off holds the estimate of its current (R264, R266). -/
def State.edgeRun (s : State) (k : LaneIx) (env : EdgeEnv) (e : Edge) : State :=
  let may := s.gateMay k
  let dead := if e.dead && e.on && !e.aux && may then min (s.deadTime k e) (32 * s.rd F.MOD_DEAD_DEAD_MAX (laneBr k).val)
    else s.lanes[k].deadApplied
  let s := s.upLane k fun l => { l with queue := l.queue.erase e, deadApplied := dead }
  if e.aux then s.upLane k fun l => { l with aux := e.on }
  else if e.on then (if may then s.gateRise k else s)
  else (s.upLane k fun l => { l with est := if l.gate then env.amps else l.est }).gateDrop k

/-! ## Register writes at the lane (R262) -/

/-- A lane register is written as a whole. -/
def State.ownWord (s : State) (k : LaneIx) (a : Nat) (w : Word) : State := s.setWord ⟨a, 31, 0⟩ (laneOwn k) w

/-- `LANE_CTRL` at the lane: `ARM` moves it between `PLAN` and `ARMED`, and is stored in other states
(R257). -/
def State.ownCtrl (s : State) (k : LaneIx) (w : Word) : State :=
  let s := s.ownPut k F.LANE_CTRL_ARM (F.LANE_CTRL_ARM.get w)
  match s.lanes[k].st with
  | .plan => s.laneHome k
  | .armed => if s.own k F.LANE_CTRL_ARM = 1 then s
    else (s.upLane k fun l => { l with queue := [] }).laneHome k
  | _ => s

/-- `LANE_CAP_CTRL` at the lane. -/
def State.ownCap (s : State) (k : LaneIx) (w : Word) : State :=
  let s := s.ownWord k F.LANE_CAP_CTRL_ARM.addr (w &&& 0xBFFFFFFF)
  let s := if F.LANE_CAP_CTRL_ARM.get w = 1 then s.capArm k else s
  if F.LANE_CAP_CTRL_FIRE.get w = 1 then s.capFire k 0 else s

/-- The lane applies a write to one of its registers. -/
def State.ownApply (s : State) (k : LaneIx) (off : Nat) (w : Word) : State :=
  let a := 0x40020100 + 4 * off
  if a = F.LANE_CTRL_ARM.addr then s.ownCtrl k w
  else if a = F.LANE_CMD_CLEAR.addr then
    let s := if F.LANE_CMD_CLEAR.get w = 1 then s.laneClearDie k else s
    if F.LANE_CMD_RELEASE.get w = 1 then s.laneRelease k else s
  else if a = F.LANE_STATUS_STATE.addr then
    s.ownWord k a (s.word F.LANE_STATUS_STATE (laneOwn k) &&& ~~~(w &&& 0x3FC))
  else if a = F.LANE_PLAN_PLAN.addr then
    (s.ownPut k F.LANE_PLAN_AUX_MODE (F.LANE_PLAN_AUX_MODE.get w)).auxApply k
  else if a = F.LANE_QUEUE_COUNT.addr then
    if w.getLsbD 8 then s.ownPut k F.LANE_QUEUE_HIGH_COUNT 0 else s
  else if a = F.LANE_CAP_CTRL_ARM.addr then s.ownCap k w
  else if a = F.LANE_GST_DATA_STEP.addr then
    (s.ownPut k F.LANE_GST_DATA_BIN_A (F.LANE_GST_DATA_BIN_A.get w)).gstPut k (s.own k F.LANE_GST_IDX_INDEX)
      (F.LANE_GST_DATA_STEP.get w)
  else if a = F.LANE_PROT_STO_ASC.addr then (s.ownWord k a w).laneApply k
  else if a = F.LANE_CFG_LEARN.addr then s.ownWord k a ((w &&& 0x1E) ||| BitVec.ofNat 32 (b2n (laneLow k)))
  else s.ownWord k a w

/-- A register-write frame: applied once, by its toggle. -/
def State.laneWrite (s : State) (k : LaneIx) (f : DownFrame) : State :=
  let p := f.payload.toNat
  let t := p.testBit 48
  if s.lanes[k].toggle = some t then s
  else (s.upLane k fun l => { l with toggle := some t }).ownApply k (p % 256) (BitVec.ofNat 32 (p / 256))

/-- A lane hears frames. -/
def State.laneHears (s : State) (k : LaneIx) : Bool := s.lanes[k].trained && s.lanes[k].st != .unlinked

/-- A lane receives a downlink frame and acts by its kind: a frame that fails its check is counted and discarded
(R31); only a trained lane hears frames. -/
def State.laneRx (s : State) (k : LaneIx) (f : DownFrame) : State :=
  if s.laneHears k then
    if downOk f then
      let s := s.laneHeader k f
      if downKind f = 0 then (if downFlag f then s.laneStep k f else s.laneMark k f)
      else if downKind f = 1 then s.laneEdges k f
      else s.laneWrite k f
    else s.evt (E.LINK_CRC k)
  else s

/-- A register-file key of a lane die's own copies. -/
def laneKey (k : LaneIx) (key : Nat) : Bool :=
  decide (key / 4294967296 = laneOwn k) && decide (0x40020100 ≤ key % 4294967296 ∧ key % 4294967296 < 0x40021000)

/-- The lane die powers up or down: everything it held is lost. -/
def State.laneBlank (s : State) (k : LaneIx) : State :=
  let s := { s with regs := s.regs.filter fun e => !laneKey k e.1 }
  s.upLane k fun _ => Lane.reset

end Sys2Proof.Machine
end

