-- ==== Sys2Proof/Machine/SafetyOps.lean ====
section
/-! DEFINITION. The safety functions as shared operations: the STO inputs, their start-up test and
discrepancy (R108, R109, R306), the deceleration monitor (R309), the acknowledge (R94, R304), the guard
readback (R316), and the Weir with its chopper and OV2 decision (R283 to R290). -/

namespace Sys2Proof.Machine

/-! ## STO -/

/-- Both channels are asserted. -/
def State.stoBoth (s : State) : Bool := s.bit F.FCR_STATUS_STO_A && s.bit F.FCR_STATUS_STO_B

/-- The bridges show `BOOT`. -/
def State.inBoot (s : State) : Bool := s.dst 0 == .boot || s.dst 1 == .boot

/-- The start-up test has passed (R108). -/
def State.stoPassed (s : State) : Bool := s.bit (F.SYS_BKP_DATA.at 15 |> fun f => { f with hi := 0 }) 0

/-- Records the result of the start-up test in `SYS_BKP15` [0]. -/
def State.stoRecord (s : State) : State :=
  s.flag (F.SYS_BKP_DATA.at 15 |> fun f => { f with hi := 0 }) 0 true

/-- When the 10 ms of R108 step 1 began. -/
def State.stoLowFrom (s : State) : Option Nat := s.sto.lowSince.map fun t => max t s.sys.bootEnd

/-- Gate enable has been read back as removed on every lane of the configured bridges, whose links are up. -/
def State.stoSeen (s : State) : Bool :=
  (s.bridgesUsed.flatMap lanesOf).all fun k => s.sto.seen.contains k && s.links[k].trained

/-- The first two steps of R108 hold now. -/
def State.stoHeld (s : State) : Bool :=
  match s.stoLowFrom with
  | some t => !s.inBoot && !s.sto.readbackBad && s.stoSeen && decide (t + 10 * msCounts ≤ s.now)
  | none => false

/-- The start-up test follows a change of the inputs (R108). -/
def State.stoTestStep (s : State) (wasBoth : Bool) : State :=
  let a := s.bit F.FCR_STATUS_STO_A
  let b := s.bit F.FCR_STATUS_STO_B
  if a && b then
    { s with sto := { s.sto with
      lowSince := some s.now, lowDone := false, firstHighAt := none, readbackBad := false, seen := [] } }
  else
    let t := s.sto
    let t := if wasBoth then { t with lowSince := none, lowDone := s.stoHeld, firstHighAt := some s.now } else t
    let s := { s with sto := t }
    if !a && !b && t.lowDone then
      let ok := match t.firstHighAt with
        | some f => decide (s.now ≤ f + 500 * usCounts)
        | none => false
      let s := { s with sto := { t with lowDone := false } }
      if ok then s.stoRecord.condition FC.STO_TEST .device false else s
    else s

/-- The readback of R108 step 2 by a status frame of a lane, once the reaction time of R307 has passed (DEDUCED, log
entry 23): gate enable removed through both channels is noted, a gate still enabled through either fails the test
with `FLT_STO_TEST`. -/
def State.stoReadback (s : State) (k : LaneIx) (onA onB : Bool) : State :=
  match s.stoLowFrom with
  | some t =>
    if !s.inBoot && !s.stoPassed && !s.sto.readbackBad && decide (t + 5 * usCounts < s.now) then
      (if onA || onB then
        { s with sto := { s.sto with readbackBad := true } }.raiseOn FC.STO_TEST .device (fixedClass FC.STO_TEST)
      else { s with sto := { s.sto with seen := k :: s.sto.seen.filter (· != k) } })
    else s
  | none => s

/-- The discrepancy condition ends once both inputs have shown the same level for 10 ms (R306). -/
def State.stoSettle (s : State) : State :=
  if s.bit F.FCR_STATUS_STO_A = s.bit F.FCR_STATUS_STO_B ∧ s.sto.sameSince + 10 * msCounts ≤ s.now then
    (s.flag F.FCR_STATUS_STO_DISC 0 false).condition FC.STO_DISC .device false
  else s

/-- A filtered STO input changes (R306): its bit goes into every downlink frame; assertion takes the bridges
by rows 15, 17 and 18 of R104. -/
def State.stoChange (s : State) (ch : StoCh) (low : Bool) : State :=
  let f := match ch with | .a => F.FCR_STATUS_STO_A | .b => F.FCR_STATUS_STO_B
  if s.bit f = low then s
  else
    let wasBoth := s.stoBoth
    let s := (s.flag f 0 low).irq 29
    let differ := s.bit F.FCR_STATUS_STO_A != s.bit F.FCR_STATUS_STO_B
    let s := { s with sto := { s.sto with
      diffSince := if differ then some s.now else none
      sameSince := if differ then s.sto.sameSince else s.now } }
    let s := s.stoTestStep wasBoth
    if low then (s.recTrigger 2 none).stoReact else s

/-! ## Safe stop -/

/-- The deceleration monitor of R309 is violated. -/
def State.ss1Violated (s : State) (b : Br) : Bool :=
  let l := (s.lead b).val
  let x := s.bridges[b]
  let t : Int := s.now - x.ssSince
  let t1 : Int := if t < msCounts then 0 else t - msCounts
  s.speedQ b == 4 ||
    decide ((x.ssSpeed + s.par (P.safety_ss1_speed_tol l)) * msCounts - s.par (P.safety_ss1_decel_min l) * t1 <
      (s.speedMag b : Int) * msCounts) ||
    decide (s.par (P.safety_ss1_time_max l) * msCounts < t)

/-- The Lockkeeper monitors the deceleration at every stage of `SAFE_STOP`. -/
def State.ss1Monitor (s : State) (b : Br) : State :=
  if s.dst b = .safeStop && s.ss1Violated b then s.raiseF FC.SS1_DECEL (.bridge b) else s

/-! ## The Weir (R283 to R290) -/

/-- The link or a lane decides OV2. -/
def State.ov2 (s : State) : Bool := decide (s.weirOv2 < s.vLink) || s.ov2Reported

/-- The condition of `FLT_VDC_OV2` ends below 98 % with no lane reporting (R290). -/
def State.ov2Settle (s : State) : State :=
  if decide (s.vLink * 100 < s.weirOv2 * 98) && !s.ov2Reported then s.condition FC.VDC_OV2 .device false else s

/-- The OV2 decision (R289 step 4, R290): `PLAN_NOW` with the escalated plan to every configured bridge. -/
def State.ov2Decide (s : State) : State :=
  if s.condActive FC.VDC_OV2 .device then s
  else
    let s := s.each s.bridgesUsed fun s b => s.planNowWith b (if s.bridges[b].plan = 0 then 0 else 1)
    s.raiseOn FC.VDC_OV2 .device (fixedClass FC.VDC_OV2)

/-- `FLT_WEIR_GEN` of both bridges. -/
def State.weirLimit (s : State) (f : State → Br → Nat) : State :=
  s.each [(0 : Br), 1] fun t b => t.wr F.FLT_WEIR_GEN_LIMIT b (f s b)

/-- The braking limit of R284. -/
def State.weirGen (s : State) (b : Br) : Nat :=
  let v := s.vLink
  let start : Int := s.rd F.SYS_WEIR_START_MV
  let full : Int := s.rd F.SYS_WEIR_FULL_MV
  if s.bit F.SYS_WEIR_STATUS_CHOP_FAULTY then 0
  else if v ≤ start then 0x7FFFFFFF
  else if full ≤ v then 0
  else ((s.rd F.FLT_ENV_GEN_LIMIT b : Int) * (full - v) / (full - start)).toNat

/-- The chopper is enabled: a lane is named, it is not faulty, and the link is not being discharged. -/
def State.chopEnabled (s : State) : Bool :=
  s.rd F.SYS_WEIR_CHOP1_LANE != 15 && !s.bit F.SYS_WEIR_STATUS_CHOP_FAULTY && !s.discharging

/-- Switches the chopper command. -/
def State.chopSet (s : State) (on : Bool) : State :=
  { s with dcl := { s.dcl with
    chopOn := on, chopAt := s.now
    vEng := if on then s.vLink else s.dcl.vEng
    engAt := if on then s.now else s.dcl.engAt } }.flag F.SYS_WEIR_STATUS_CHOP_ON 0 on

/-- The chopper is declared faulty (R288). -/
def State.chopFault (s : State) : State :=
  let s := (s.chopSet false).flag F.SYS_WEIR_STATUS_CHOP_FAULTY 0 true
  let s := { s with dcl := { s.dcl with mismatch := false } }
  (s.weirLimit fun _ _ => 0).raiseF FC.CHOP .device

/-- The link has not fallen since the engagement (R288). -/
def State.chopNoFall (s : State) : Bool :=
  let v := s.vLink
  s.dcl.chopOn && decide (s.dcl.vEng - s.rd F.SYS_WEIR_CHOP1_DROP ≤ v) && decide (s.rd F.SYS_WEIR_CHOP_OFF_MV ≤ v)

/-- `weir.chop_check` has passed since the engagement. -/
def State.chopLate (s : State) : Bool := decide (s.dcl.engAt + s.rd F.SYS_WEIR_CHOP0_CHECK * usCounts ≤ s.now)

/-- The hysteresis of R285. -/
def State.chopSwitch (s : State) : State :=
  let v := s.vLink
  let held := decide (s.dcl.chopAt + s.rd F.SYS_WEIR_CHOP0_MIN * usCounts ≤ s.now)
  if !s.dcl.chopOn && decide (s.rd F.SYS_WEIR_CHOP_ON_MV < v) && held then s.chopSet true
  else if s.dcl.chopOn && decide (v < s.rd F.SYS_WEIR_CHOP_OFF_MV) && held then s.chopSet false
  else s

/-- The procedure of R289 at a new link value. -/
def State.weirEval (s : State) : State :=
  let s := s.ov2Settle
  if s.ov2 then s.ov2Decide
  else
    let s := s.weirLimit State.weirGen
    if s.chopEnabled then
      let s := s.chopSwitch
      if s.dcl.mismatch || (s.chopLate && s.chopNoFall) then s.chopFault else s
    else if s.dcl.chopOn then s.chopSet false else s

/-- An accepted acknowledge re-enables the chopper and ends the forced zero (R288). -/
def State.chopAck (s : State) : State :=
  if s.bit F.SYS_WEIR_STATUS_CHOP_FAULTY then
    let s := s.flag F.SYS_WEIR_STATUS_CHOP_FAULTY 0 false
    s.weirLimit State.weirGen
  else s

/-! ## Guard readback (R316) -/

/-- Reads back the guarded fields and rewrites those that differ; the condition of `FLT_GUARD_CFG` follows
the readback. A lane in `UNLINKED` is not read. -/
def State.guardCheck (s : State) : State :=
  let bad := s.guardFields.filter fun x => s.rdI x.1 x.2.1 != x.2.2 && s.rd x.1 x.2.1 != x.2.2.toNat
  let lanes := allLanes.filter fun k => s.lanes[k].st != .unlinked
  let lbad := lanes.flatMap fun k => (s.laneSafety k).filterMap fun x =>
    let w := s.laneNext k x.1
    if x.1.get w = (x.2 % (2 ^ (x.1.hi + 1 - x.1.lo) : Int)).toNat then none else some (k, x.1, x.2)
  if bad.isEmpty && lbad.isEmpty then s.condition FC.GUARD_CFG .device false
  else
    let s := s.raiseOn FC.GUARD_CFG .device (fixedClass FC.GUARD_CFG)
    let s := s.wrList bad
    s.each lbad fun s x => s.lanePut x.1 x.2.1 x.2.2

/-! ## Contactors (R292) -/

/-- The condition of `FLT_CONTACTOR` ends when every feedback matches its request. -/
def State.contactorSettle (s : State) : State :=
  if s.fbDiffers then s else s.condition FC.CONTACTOR .device false

/-! ## Acknowledge (R94, R304) -/

/-- What an acknowledge answers: accepted, or refused with the blocking code (0 by the toggle). -/
inductive AckResult where
  | accepted | refused (code : Nat)
  deriving DecidableEq, Repr

/-- The check of an acknowledge with a toggle: the conditions first, then under `EDGE_ACK` the toggle. -/
def State.ackCheck (s : State) (toggle : Bool) : AckResult :=
  match s.blockCode with
  | some c => .refused c
  | none =>
    if s.edgeAck && s.bit F.FCR_ACK_LAST_TOGGLE == toggle then .refused 0 else .accepted

/-- An acknowledge: accepted, it unlatches every fault and re-arms what waits for it; refused, it leaves a record. -/
def State.ackRun (s : State) (toggle : Bool) : AckResult × State :=
  let s := s.stoSettle.ov2Settle.contactorSettle
  match s.ackCheck toggle with
  | .refused c => (.refused c, (s.flag F.FCR_ACK_REFUSED 0 true).wr F.FCR_ACK_BLOCK_CODE 0 c)
  | .accepted =>
    let s := s.unlatchAll.posAck.chopAck
    let s := (s.flag F.FCR_ACK_LAST_TOGGLE 0 toggle).flag F.FCR_ACK_REFUSED 0 false
    (.accepted, s)

/-- The transitions of an accepted acknowledge that wait (R104 rows 14, 20 and 21, R106): with `complete` at once or
at the next stage boundary, else once the response of the command is complete. -/
def State.ackWaits (s : State) (complete : Bool) : State :=
  s.each (s.leads.filter fun b => s.dst b == .degraded || s.dst b == .fault) fun s b =>
    if !complete then s.command b .ack
    else if s.flightRuns b then
      s.each (s.group b) fun s c => s.upB c fun x => { x with cmds := x.cmds ++ [(.ack, true)] }
    else s.ackState b

/-- An acknowledge by the pin or by `FCR_ACK`, which no command carries. -/
def State.ackHere (s : State) (toggle : Bool) : State :=
  match s.ackRun toggle with
  | (.accepted, t) => t.ackWaits true
  | (.refused _, t) => t

end Sys2Proof.Machine
end

