-- ==== Sys2Proof/Machine/Catch.lean ====
section
/-! DEFINITION. The catch of a turning machine (R115 to R118, R157, R220): what the measurement gives and
what the decision does. -/

namespace Sys2Proof.Machine

/-- The zero crossings of u_UV, newest first. -/
def CatchRec.uv (c : CatchRec) : List Crossing := c.crossings.filter fun x => x.pair == 0

/-- Two periods have been seen: five crossings of u_UV (R115). -/
def CatchRec.seen (c : CatchRec) : Bool := decide (5 ≤ c.uv.length)

/-- The measuring window has ended (R115): two periods seen and `drive.catch_min` over, or `drive.catch_max` over. -/
def State.windowOver (s : State) (b : Br) : Bool :=
  let c := s.bridges[b].catchRec
  (c.seen && decide (c.since + s.parN P.drive_catch_min * msCounts ≤ s.now)) ||
    decide (c.since + s.parN P.drive_catch_max * msCounts ≤ s.now)

/-- The electrical frequency in turns per count: two periods over the time from the first to the fifth of
the latest five crossings (R115). -/
def CatchRec.freq (c : CatchRec) : Rat :=
  match c.uv.head?, (c.uv.drop 4).head? with
  | some e, some a => 2 / (((e.at_ : Int) - (a.at_ : Int) : Int) : Rat)
  | _, _ => 0

/-- The sense U, V, W (1) or U, W, V (-1) of the motion: the order in which the line-to-line voltages cross zero in the same sense; none when no
two pairs have crossed in one sense. -/
def CatchRec.dir (c : CatchRec) : Option Int :=
  match c.crossings with
  | [] => none
  | x :: rest =>
    (rest.find? fun y => y.rising == x.rising && y.pair != x.pair).map fun y =>
      if x.pair = (y.pair + 1) % 3 then 1 else -1

/-- The angle that a crossing marks, in turns e, with the d axis on phase U at angle 0 and the phases in
the order of the sense (DEDUCED, log entry 27). -/
def Crossing.angle (sense : Rat) (x : Crossing) : Rat :=
  sense * ((5 : Rat) / 12 + ((x.pair : Int) : Rat) / 3) + (if x.rising then 0 else (1 : Rat) / 2)

/-- The rotor angle now, from the latest crossing at a speed in turns per count. -/
def CatchRec.angle (c : CatchRec) (sense om : Rat) (now : Nat) : Rat :=
  match c.crossings.head? with
  | some x => x.angle sense + om * (((now : Int) - (x.at_ : Int) : Int) : Rat)
  | none => 0

/-- The decision's outcome (R116). -/
inductive CatchOut where
  | zero | weaken | fail | pos | high
  deriving DecidableEq, Repr

/-- The measurement disagrees with a present sensor (R116). -/
def State.catchDiffers (s : State) (b : Br) (th om : Rat) : Bool :=
  let v := s.rpmOf b om
  let vs : Rat := (s.speed b : Int)
  decide ((s.parN P.drive_catch_tol : Rat) < turnDist th (turnsOf (s.aclkAngle b).toNat) * 65536) ||
    decide ((s.parN P.drive_catch_speed_tol : Rat) * ratAbs vs < ratAbs (v - vs) * 100)

/-- The procedure of R116 with a measured angle and angular speed. -/
def State.catchChoose (s : State) (b : Br) (th om : Rat) : CatchOut :=
  let c := s.bridges[b].catchRec
  let emin := s.par P.drive_catch_emf_min
  if !c.seen then (if c.ePeak < emin then .zero else .fail)
  else if s.sensorPresent b && s.catchDiffers b th om then .pos
  else
    let confident := s.sensorPresent b || decide (4 * emin ≤ c.ePeak)
    if s.par P.drive_catch_env * s.vdcOf b ≤ c.ePeak * 100 then (if confident then .weaken else .high)
    else .zero

/-- The bridge leaves `CATCH` for `RUN`, or `DEGRADED` by row 12 of R104, with current references. -/
def State.catchRun (s : State) (b : Br) (d q : Int) : State :=
  let s := s.enter b (if s.degradeLatched b then .degraded else .run)
  s.each (s.group b) fun s c =>
    let s := s.upB c fun x => { x with speedSet := s.speed c }
    if s.bit F.MOD_CTRL_MODE c then s
    else ((s.wrI F.FLT_IREF_D_IREF c d).wrI F.FLT_IREF_Q_IREF c q).switchStart c

/-- The angle found without a sensor starts the observer and the tracked angle (R116). -/
def State.observerStart (s : State) (b : Br) (th om : Rat) : State :=
  s.each (s.group b) fun s c =>
    let w := BitVec.ofNat 32 (angleOf th)
    ((s.upAclk c fun a => { a with
      traj := ⟨th, om, 0, s.dt⟩, fresh := false, begun := true, obs := some (w, true) }).aclkShow c).aclkSelect c
        false

/-- A catch that ends in a fault of class `BRIDGE_SAFE`. -/
def State.catchFail (s : State) (b : Br) (code : Nat) : State := s.raiseF code (.bridge b)

/-- `FLT_CATCH_OVER` (R116): safe state `ASC_LOW`, and the condition stays. -/
def State.catchOver (s : State) (b : Br) : State :=
  let s := s.each (s.group b) fun s c => (s.setPlan c 1).planNow c
  s.raiseOn FC.CATCH_OVER (.bridge b) (fixedClass FC.CATCH_OVER)

/-- The d-axis current that the Reference Map Store gives for zero torque at a speed and the link voltage
(R116). -/
def State.weakenD (s : State) (b : Br) (om : Rat) : Int :=
  let cap : Rat := (s.par (P.flight_ref_psi_max (s.machine b)) : Int)
  let w := ratAbs (radPerSec om)
  let x := (s.vdcOf b : Rat) * 1000000 / (sqrtQ 3 * w)
  ratFree (s.refMap (s.machine b) 0 0 (if w = 0 ∨ cap < x then cap else x))

/-- `CATCH_DECISION` (R115, R116, R220). An induction machine is not caught so, but in direct modulation
mode (R117, R220). Before the window has ended nothing is decided. A direction that the crossings do not show is
free. -/
def execCatchDecision (dt : Nat) (b : Br) (s : State) : Out :=
  let s := s.tick dt
  let b := s.lead b
  let direct := s.bit F.MOD_CTRL_MODE b
  if s.dst b != .catching || (!s.isPm b && !direct) then .next s
  else if !s.isPm b then .next (s.catchRun b 0 0)
  else if !s.windowOver b then .next s
  else
    let c := s.bridges[b].catchRec
    let dir := c.dir.getD (if Config.freeBool s.free then 1 else -1)
    let s := s.spend
    let sense := s.phaseSense b
    let om := c.freq * (dir : Rat) * sense
    let th := c.angle sense om s.now
    let sensor := s.sensorPresent b
    .next (match s.catchChoose b th om with
      | .fail => s.catchFail b FC.CATCH_FAIL
      | .pos => s.catchFail b FC.CATCH_POS
      | .high => s.catchOver b
      | .weaken =>
        if direct then s.catchOver b
        else (if sensor then s else s.observerStart b th om).catchRun b (s.weakenD b om) 0
      | .zero =>
        let s1 := if sensor || direct || !c.seen then s else s.observerStart b th om
        let s2 := s1.catchRun b 0 0
        if !c.seen && !sensor && !direct then
          s2.each (s2.group b) fun s c => s.upB c fun x => { x with ipd := true }
        else s2)

/-- `CATCH_IM_SEARCH_END` (R117): `found` is the signed rotor frequency in mHz e. The tracked angle takes
its speed, and the flux rises from that of the search to its rated value before torque is accepted. A search that
has taken longer than `drive.im_search_time` has found nothing. -/
def execCatchImSearchEnd (dt : Nat) (b : Br) (found : Option Int) (s : State) : Out :=
  let s := s.tick dt
  let b := s.lead b
  match (if s.dst b = .catching then s.bridges[b].imSearch else none), found with
  | none, _ => .next s
  | some _, none => .next (s.catchFail b FC.CATCH_FAIL)
  | some t0, some f =>
    if t0 + s.parN P.drive_im_search_time * msCounts < s.now then .next (s.catchFail b FC.CATCH_FAIL)
    else
      let om : Rat := (f : Rat) / 400000000000
      let s := if s.sensorPresent b then s else s.observerStart b (s.trackedAt b s.dt) om
      let s := s.catchRun b 0 0
      .next (s.each (s.group b) fun s c => s.upB c fun x => { x with imFlux := some (s.parN P.drive_im_search_flux) })

/-- `INITIAL_POSITION_DETECTION` (R157, R192): the test pulses and the pulse pair have given an angle, the saliency
ratio in 1/1,000 and whether the polarity is resolved. A ratio below 1.05 or an open polarity is
`FLT_CATCH_FAIL`. -/
def execInitialPositionDetection (dt : Nat) (b : Br) (found : IpdReading) (s : State) : Out :=
  let s := s.tick dt
  let b := s.lead b
  let ok := found.polarity && decide (1050 ≤ found.saliency)
  if s.bridges[b].ipd then
    let s := s.each (s.group b) fun s c => s.upB c fun x =>
      { x with ipd := false, dis := x.dis.map fun d => { d with located := ok } }
    .next (if ok then s.observerStart b (turnsOf found.th.toNat) 0 else s.catchFail b FC.CATCH_FAIL)
  else .next s

end Sys2Proof.Machine
end

