-- ==== Sys2Proof/Machine/PilotOps.lean ====
section
/-! DEFINITION. The Pilot cluster as the Lockkeeper supervises it, as shared operations: the start of a
restart with its hold (R125, R184, R317, R332), the end of a hold, a Pilot failure, and the states in
which activation and restart are permitted (R98). -/

namespace Sys2Proof.Machine

/-- The Pilot-class Locks in `SERVICE` are answered `TIMEOUT` (R58, R54). -/
def State.pilotLocksOut (s : State) : State :=
  s.each (List.finRange 16) fun s k =>
    if s.locks[k].gate = .service ∧ s.locks[k].keeper = false then
      (s.reply k ST.TIMEOUT [] true).flag F.LOCK_ERR_TIMEOUT 0 true
    else s

/-- The hold of a bridge begins (R184). -/
def State.holdBegin (s : State) (b : Br) : State :=
  if s.bit F.FLT_CTRL_HOLD b then s
  else (((s.flag F.FLT_CTRL_HOLD b true).flag F.FLT_STATUS_HOLD_ACTIVE b true).wr F.FLT_HOLD_TIME_TIME b 0).upFl b
    fun f => { f with holdAt := some s.now }

/-- The µs since the hold of a bridge began, saturating at 65,535 (R184). -/
def State.holdMicros (s : State) (b : Br) : Nat :=
  match s.flights[b].holdAt with
  | some t => min ((s.now - t) / usCounts) 65535
  | none => s.rd F.FLT_HOLD_TIME_TIME b

/-- The hold of a bridge ends; the references stay (R184). -/
def State.holdEnd (s : State) (b : Br) : State :=
  (((s.wr F.FLT_HOLD_TIME_TIME b (s.holdMicros b)).flag F.FLT_CTRL_HOLD b false).flag F.FLT_STATUS_HOLD_ACTIVE b
    false).upFl b fun f => { f with holdAt := none }

/-- The select registers that each master holds for itself (R19). -/
def selectFields : List Fld :=
  [F.PORT_SEL_PORT, F.FLT_BRIDGE_SEL_BRIDGE, F.FLT_VIEW_SPEC, F.FLT_SLOT_SLOT, F.MOD_BRIDGE_SEL_BRIDGE, F.CONV_SEL_INST,
    F.LANE_SEL_LANE, F.CAN_SEL_CAN, F.MB_SEL_MB, F.CRC_SEL_UNIT, F.CNT_SEL_CNT]

/-- The Pilot cluster is held in reset: its cores' interrupt enables and select copies return to reset
(R369). -/
def State.pilotIntoReset (s : State) : State :=
  let s := s.flag F.SYS_RST_CTRL_PILOT_HOLD 0 true
  s.each (List.range 4) fun s m =>
    s.each selectFields (fun s f => s.regToReset f m) |>.regToReset (F.SYS_IRQ_EN_P_EN.at m) 0

/-- The Pilot cluster goes into reset for a restart on a bank (R317, R332): the hold in `RUN` and
`DEGRADED`, the Locks, and the recorder trigger. A catch in progress ends with gates off. -/
def State.pilotRestartBegin (s : State) (bank : Option Br) : State :=
  let s := s.pilotLocksOut
  let drive := s.bridgesUsed.any fun b => (s.dst b).isDriving
  let s := s.each s.bridgesUsed fun s b => if (s.dst b).isDriving then s.holdBegin b else s
  let s := s.each s.leads fun s b =>
    if s.dst b = .catching then (s.preempt b).enter b .ready else s
  let s := { s with pilot := { s.pilot with
    chal := none, first := true, restarting := true, runBank := bank, trialAt := none
    holdAt := match s.pilot.holdAt with
      | some t => some t
      | none => if drive then some s.now else none } }
  s.pilotIntoReset.recTrigger 4 none

/-- The Pilot resumes: `HOLD` is cleared, and the condition of `FLT_PILOT_HOLD` ends (R125, R332, R456). -/
def State.pilotResume (s : State) : State :=
  let s := s.each [(0 : Br), 1] fun s b =>
    (if s.bit F.FLT_CTRL_HOLD b then s.holdEnd b else s).condition FC.PILOT_HOLD (.bridge b) false
  { s with pilot := { s.pilot with restarting := false, first := false, holdAt := none } }

/-- The record of a bank. -/
def State.bank (s : State) (b : Br) : Bank := if b = 0 then s.trust.bankA else s.trust.bankB
/-- Replaces the record of a bank (one NVM word write, R331). -/
def State.upBank (s : State) (b : Br) (f : Bank → Bank) : State :=
  { s with trust := if b = 0 then { s.trust with bankA := f s.trust.bankA }
    else { s.trust with bankB := f s.trust.bankB } }

/-- The bank whose record is of a state. -/
def State.bankOf (s : State) (st : BankSt) : Option Br :=
  if s.trust.bankA.st = st then some 0 else if s.trust.bankB.st = st then some 1 else none

/-- The active bank; 0xFF when there is none (R97, R336). -/
def State.activeBank (s : State) : Nat :=
  match s.bankOf .active with
  | some b => b.val
  | none => 0xFF

/-- The bank that the Pilot restarts on: the trial bank, or else the active one (R332). -/
def State.restartBank (s : State) : Option Br :=
  match s.bankOf .trial with
  | some b => some b
  | none => s.bankOf .active

/-- Replaces the firmware session. -/
def State.upFw (s : State) (f : FwSession → FwSession) : State :=
  { s with trust := { s.trust with fw := f s.trust.fw } }

/-- A failure ends a trial: the trial bank is empty with reason 8 (R332). -/
def State.trialFail (s : State) : State :=
  match s.bankOf .trial with
  | some b => (s.upBank b fun x => { x with st := .empty }).upFw fun f => { f with phase := .failed, reason := 8 }
  | none => s

/-- Restarts after failures within the last 60 s. -/
def State.restartCount (s : State) : Nat :=
  (s.pilot.restarts.filter fun t => decide (s.now < t + 60000 * msCounts)).length

/-- A Pilot failure (R317): none arises while the cluster is held in reset. -/
def State.pilotFailure (s : State) : State :=
  if s.pilot.heldForGood || s.bit F.SYS_RST_CTRL_PILOT_HOLD then s
  else
    let s := (s.trialFail).raiseF FC.PILOT_WDG .device
    if s.parN P.safety_pilot_restart_max ≤ s.restartCount then
      let s := s.pilotLocksOut
      let s := { s with pilot := { s.pilot with heldForGood := true, restarting := false, chal := none } }
      s.pilotIntoReset.raiseF FC.PILOT_RESTARTS .device
    else
      let s := { s with pilot := { s.pilot with
        restarts := s.now :: (s.pilot.restarts.filter fun t => decide (s.now < t + 60000 * msCounts)) } }
      s.pilotRestartBegin s.restartBank

/-- The Pilot cluster runs. -/
def State.pilotUp (s : State) : Bool :=
  s.pilot.runBank.isSome && !s.pilot.restarting && !s.pilot.heldForGood && !s.bit F.SYS_RST_CTRL_PILOT_HOLD

/-- The running image is a Tolvoma image: it does what the spec gives for Pilot release 3.4. -/
def State.release34 (s : State) : Bool :=
  s.pilotUp && match s.pilot.runBank with
    | some b => !(s.bank b).customer
    | none => false

/-- The states in which a Pilot image may be activated and the Pilot restarted (R98). -/
def State.restartAllowed (s : State) : Bool :=
  s.bridgesUsed.all fun b => s.dst b != .catching && s.dst b != .precharge && s.dst b != .discharge

end Sys2Proof.Machine
end

