-- ==== Sys2Proof/Machine/DcLinkOps.lean ====
section
/-! DEFINITION. The precharge, the discharge and the contactors as shared operations (R192, R267, R291 to
R294, R352). -/

namespace Sys2Proof.Machine

/-- The precharge sequence watches the rise of the link at every new value (R291 step 3). -/
def State.settleWatch (s : State) (b : Br) : State :=
  let x := s.bridges[b]
  if x.pre = .preRequested ∧ x.settleAt < s.now then
    let v := s.vLink
    let d : Int := (s.now : Int) - x.settleAt
    let slow := decide ((v - x.settleV) * msCounts < s.par P.dcl_pre_settle * d)
    s.upB b fun y => { y with
      settleSince := if slow then some (x.settleSince.getD x.settleAt) else none
      settleV := v, settleAt := s.now }
  else s

/-- Step 3 of R291 is met. -/
def State.settled (s : State) (b : Br) : Bool :=
  let x := s.bridges[b]
  decide (s.par P.dcl_pre_min < s.vLink) &&
    match x.settleSince with
    | some t => decide (t + 5 * msCounts ≤ s.now)
    | none => false

/-- The contactor feedback of a completed precharge (R291 step 5, R104 row 6). -/
def State.preClosed (s : State) : Bool :=
  s.roleShows 1 true && s.roleShows 2 true && s.roleShows 3 false

/-- All lane links of a bridge are trained. -/
def State.lanesTrained (s : State) (b : Br) : Bool := (lanesOf b).all fun k => s.links[k].trained

/-- Pilot release 3.4 writes the stored strength table back to each lane before it is first armed
(R267, R352), by writes of its index and data registers through the link (R23, R262). -/
def State.gstRestore (s : State) (b : Br) : State :=
  match s.validSlot with
  | some v =>
    if s.release34 then
      s.each (lanesOf b) fun s k =>
        if s.links[k].gstDone then s
        else
          let at_ (i : Nat) : Nat := (s.memB (tableAt v + storeBytes + k.val * 128 + i)).toNat % 64
          let s := s.each (List.range 128) fun s i =>
            (s.laneSend k F.LANE_GST_IDX_INDEX (BitVec.ofNat 32 i)).lanePut k F.LANE_GST_DATA_STEP (at_ i)
          s.upLink k fun l => { l with gstDone := true }
    else s
  | none => s

/-- The winding discharge follows the speed (R192): the injection starts below `drive.zero_speed`, once the
rotor angle is known, and ends at or above it. -/
def State.windingStep (s : State) (b : Br) : State :=
  match s.bridges[b].dis with
  | none => s
  | some d =>
    if s.dst b = .discharge && d.windings && d.acting && s.flightRuns b then
      let slow := decide (s.speedMag b < s.parN P.drive_zero_speed)
      if slow && !d.injecting then
        if d.located || s.sensorPresent b || !s.isPm b then
          let s := s.upB b fun x => { x with dis := some { d with injecting := true } }
          let s := s.laneArm b true
          let s := (s.wrI F.FLT_IREF_D_IREF b (s.par P.dcl_dis_current)).wr F.FLT_IREF_Q_IREF b 0
          s.switchStart b
        else s.upB b fun x => { x with ipd := true }
      else if !slow && d.injecting then
        ((s.upB b fun x => { x with dis := some { d with injecting := false } }).laneArm b false).upFl b
          fun f => { f with predictOnly := true }
      else s
    else s

/-- The method of an autonomous discharge (R294): none when no bit of `dcl.dis_method` is set. -/
def State.autoMethod (s : State) : Option Bool :=
  let m := s.parN P.dcl_dis_method
  if m.testBit 0 then some false else if m.testBit 1 then some true else none

/-- The main positive feedback shows open. -/
def State.mainOpen (s : State) : Bool := s.hasRole 1 && s.roleShows 1 false

/-- A filtered feedback input changes (R292, R294): a main positive feedback that opens under its request is
remembered until it closes. -/
def State.feedbackSet (s : State) (k : Fin 6) (level : Bool) : State :=
  let was := s.mainOpen
  let s := { s with dcl := { s.dcl with fb := s.dcl.fb.set k level } }
  let asked := (List.finRange 4).any fun j => s.parN (P.dcl_ctr_role j.val) == 1 && s.dcl.req[j]
  let s := if s.mainOpen && !was && asked then { s with dcl := { s.dcl with openedAlone := true } }
    else if s.mainOpen then s else { s with dcl := { s.dcl with openedAlone := false } }
  s.contactorSettle

end Sys2Proof.Machine
end

