-- ==== Sys2Proof/Machine/RecOps.lean ====
section
/-! DEFINITION. The event counters and the event recorder as shared operations: clearing and configuring
a counter (R427 to R429), the stage records and snapshots (R353 to R356). -/

namespace Sys2Proof.Machine

/-! ## Counters -/

/-- A counter stands frozen. -/
def State.frozen (s : State) (k : Fin 32) : Bool := s.cnts[k].frozen

/-- A counter resumes; `EVC_FROZEN` keeps the record of the freeze until it is written 1 (R428). -/
def State.unfreeze (s : State) (k : Fin 32) : State :=
  { s with cnts := vupd s.cnts k fun c => { c with frozen := false } }

/-- `CNT_CMD.CLEAR` (R429). -/
def State.cntClear (s : State) (k : Fin 32) : State :=
  { s with cnts := vupd s.cnts k fun c => { c with value := 0, sat := false } }.unfreeze k

/-- A source and a freeze setting for a counter: a change of source clears it, and `FREEZE` = 0 ends a
freeze (R428, R429). -/
def State.cntSetup (s : State) (k : Fin 32) (src : Nat) (freeze : Bool) : State :=
  let old := s.rd F.CNT_CFG_SRC k
  let s := (s.wr F.CNT_CFG_SRC k src).flag F.CNT_CFG_FREEZE k freeze
  let s := if old = src then s else s.cntClear k
  if freeze then s else s.unfreeze k

/-! ## The recorder -/

/-- The base of a snapshot slot. -/
def snapAt (i : Nat) : Nat := 0x12700000 + 65536 * i
/-- The valid word of a snapshot. -/
def snapValid : Nat := 0x4E535031

/-- A slot holds a snapshot (R353, R355). -/
def State.hasSnap (s : State) (i : Nat) : Bool := decide (i < 384) && (s.memW (snapAt i)).toNat == snapValid

/-- The slots that hold a snapshot, ascending. -/
def State.snaps (s : State) : List Nat := (List.range 384).filter s.hasSnap

/-- `NVMC_REC_STATUS` and the pin count show the slots. -/
def State.recShow (s : State) : State :=
  ((s.wr F.NVMC_REC_STATUS_VALID_COUNT 0 s.snaps.length).wr F.NVMC_REC_STATUS_NEWEST 0
    (s.recd.newest.getD 0)).wr F.NVMC_STATUS_PIN_COUNT 0 s.recd.pins.length

/-- Pins or releases a slot (R356). -/
def State.recPinSet (s : State) (i : Nat) (on : Bool) : State :=
  let rest := s.recd.pins.filter fun j => j != i
  { s with recd := { s.recd with pins := if on then i :: rest else rest } }.recShow

/-- The pin limit is reached. -/
def State.pinFull (s : State) : Bool := decide (s.rd F.NVMC_REC_PIN_MAX ≤ s.recd.pins.length)

/-- The faulted lanes of a bridge, [5:0]. -/
def State.faultedLanes (s : State) (b : Br) : Nat :=
  flagWord ((lanesOf b).map fun k => s.lanes[k].st == .tripped || s.lanes[k].st == .latched)

/-- A stage record of R353: the stage number, its start, and the values of the bridge; `vd` and `vq` are
the stage's voltages. -/
def State.stageRecord (s : State) (b : Br) (num start : Nat) (vd vq : Int) (angle : Word) (strat : Nat) :
    List Byte :=
  w32 num ++ w32 start ++ w8 b.val ++ w8 (s.stCode b) ++ w16 ((s.word F.FLT_STATUS_RUNNING b).toNat % 65536) ++
  wi32 (s.rdI F.FLT_TORQUE_VALUE b) ++ wi32 (s.rdI F.FLT_ID_VALUE b) ++ wi32 (s.rdI F.FLT_IQ_VALUE b) ++
  wi32 s.flights[b].refD ++ wi32 s.flights[b].refQ ++ wi32 vd ++ wi32 vq ++ wi32 (s.vdcOf b) ++
  wi32 (s.speed b) ++ w32 angle.toNat ++ w8 s.bridges[b].plan ++ w8 strat ++ w8 (s.faultedLanes b) ++ [0] ++
  wi16 s.hottest ++ w16 0 ++ w32 (s.rd F.FLT_CNT_MISPRED_COUNT b)

/-- A record enters the ring buffer of 1,020 records, and counts in a collection that has not yet gathered
its share of 1,020 less `rec.pre` (R354). -/
def State.recEnter (s : State) (r : List Byte) : State :=
  match s.recd.coll with
  | some c =>
    if c.after < c.quota then
      { s with recd := { s.recd with
        ring := (r :: s.recd.ring).take 1020, coll := some { c with after := c.after + 1 } } }
    else s
  | none => { s with recd := { s.recd with ring := (r :: s.recd.ring).take 1020 } }

/-- The bytes of a snapshot but its valid word (R353). -/
def State.snapBytes (s : State) (c : Collect) (pinned : Bool) : List Byte :=
  let f : List Byte := match c.fault with
    | some (code, loc, cls) => w8 code ++ w8 (locCode loc) ++ w8 (clsCode cls)
    | none => [0, 0, 0]
  let recs := (s.recd.ring.take (c.before + c.after)).reverse
  let ver : Nat := (if s.pilot.runBank = some 1 then s.trust.bankB.version else s.trust.bankA.version).toNat
  w16 c.slot ++ w8 c.trigger ++ w8 (flagWord [pinned, decide (0 < c.later), c.truncated]) ++ w64 c.stamp.toNat ++
  f ++ w8 c.later ++ w8 c.stA ++ w8 c.stB ++ w16 c.before ++ w16 c.after ++ w16 0 ++ w32 ver ++
  w16 0x0201 ++ w16 s.trust.patchLevel.toNat ++ w32 c.first.toNat ++ List.replicate 24 0 ++
  c.counts.flatMap w48 ++ recs.flatten

/-- A snapshot is written: the valid word first cleared, then set last; it is pinned when its trigger class
asks for it and the limit admits it (R355, R356). A slot that has been pinned since the trigger is skipped. -/
def State.recWrite (s : State) : State :=
  match s.recd.coll with
  | none => s
  | some c =>
    let auto := s.rd F.NVMC_REC_AUTO_PIN
    let cls := match c.fault with | some (_, _, k) => clsCode k | none => 0
    let pin := decide (auto ≠ 0 ∧ auto ≤ cls) && !s.pinFull
    let c := if s.recd.pins.contains c.slot then { c with slot := recNext s.recd.newest s.recd.pins } else c
    let s := s.clearMem (snapAt c.slot) 65536
    let s := s.setMemBytes (snapAt c.slot + 4) (s.snapBytes c pin)
    let s := s.setMemW (snapAt c.slot) (BitVec.ofNat 32 snapValid)
    let s := { s with recd := { s.recd with coll := none, newest := some c.slot } }
    let s := s.flag F.NVMC_STATUS_REC_CAPTURE 0 false
    if pin then s.recPinSet c.slot true else s.recShow

/-- A collection ends: its snapshot is written, or with `INHIBIT`, where no word write starts, is lost. -/
def State.recEnd (s : State) : State :=
  if s.bit F.NVMC_STATUS_INHIBIT then
    ({ s with recd := { s.recd with coll := none } }.flag F.NVMC_STATUS_REC_CAPTURE 0 false).flag
      F.NVMC_ERR_WFAIL 0 true
  else s.recWrite

end Sys2Proof.Machine
end

