-- ==== Sys2Proof/Machine/TrustOps.lean ====
section
/-! DEFINITION. Firmware trust, life cycle and the vault as shared operations: image headers (R327), key
permissions (R329), key records (R334, R343), authenticated commands (R101, R338), erases (R340). -/

namespace Sys2Proof.Machine

/-- The life-cycle codes of R100. -/
def lifeCode : Life → Nat
  | .manufacture => 0
  | .provisioned => 1
  | .opened => 2
  | .sealed => 3
  | .returned => 4
  | .scrapped => 5

/-- The base of a Pilot bank (R346). -/
def bankBase (b : Br) : Nat := if b = 0 then 0x10000000 else 0x10C00000
/-- The base of the patch area. -/
def patchBase : Nat := 0x11800000

/-- The base of the image under load. -/
def State.fwBase (s : State) : Nat := if s.trust.fw.patch then patchBase else bankBase s.trust.fw.bank

/-- An 8-bit field of the loaded header. -/
def State.hdr8 (s : State) (o : Nat) : Nat := (s.memB (s.fwBase + o)).toNat
/-- A 32-bit field of the loaded header. -/
def State.hdr32 (s : State) (o : Nat) : Nat := (s.memW (s.fwBase + o)).toNat

/-- A vault slot's bytes; empty when nothing is installed. -/
def State.slot (s : State) (n : Nat) : List Byte := (s.trust.vault.lookup n).getD []

/-- Replaces a vault slot; no bytes empties it. -/
def State.setSlot (s : State) (n : Nat) (bs : List Byte) : State :=
  let rest := s.trust.vault.filter fun e => e.1 != n
  { s with trust := { s.trust with vault := if bs.isEmpty then rest else (n, bs) :: rest } }

/-- The vault policy word (slot 10). -/
def State.vaultPolicy (s : State) : Nat := leVal (s.slot 10)
/-- A rollback floor of slot 9: 0 Pilot image, 1 Lockkeeper patch. -/
def State.floor (s : State) (i : Nat) : Nat := u32 (s.slot 9) (4 * i)
/-- A customer authority key is installed. -/
def State.hasAuthority (s : State) : Bool := !(s.slot 1).isEmpty

/-- A customer image key is installed and not revoked. -/
def State.imageKeyOk (s : State) (slot : Nat) : Bool := !(s.slot slot).isEmpty && !s.trust.revoked.contains slot

/-- The key index is permitted for the kind (R329). -/
def State.keyPermitted (s : State) (kind idx : Nat) : Bool :=
  match kind with
  | 0 => if idx = 0 then s.vaultPolicy.testBit 0 else decide (idx ≤ 4) && s.imageKeyOk (idx + 1)
  | 1 => idx == 0
  | _ => if s.hasAuthority then idx == 5 else idx == 0

/-- Check 1 of R330 on the loaded header. -/
def State.headerOk (s : State) : Bool :=
  let fw := s.trust.fw
  let kind := s.hdr8 4
  let enc := s.hdr8 6 % 2
  s.hdr32 0 == 0x5A435846 && s.hdr8 5 == 1 && decide (s.hdr8 6 ≤ 1) && s.hdr8 7 == 0 &&
    (if fw.patch then kind == 1 && enc == 0 else (kind == 0 || (kind == 2 && enc == 1))) &&
    zeros (s.memBytes s.fwBase 32) 17 3 && (enc == 1 || zeros (s.memBytes s.fwBase 32) 20 12) &&
    fw.size == 128 + s.hdr32 12 + 16 * enc

/-! ## Key records (R343) -/

/-- One entry of a key record: slot, operation, data. -/
structure KeyEntry where
  slot : Nat
  op : Nat
  data : List Byte
  deriving DecidableEq, Repr

/-- The entries of a record body; none when it does not parse. `fuel` bounds their number. -/
def keyEntries : Nat → List Byte → Option (List KeyEntry)
  | _, [] => some []
  | 0, _ => none
  | n + 1, bs =>
    let len := u16 bs 2
    if bs.length < 4 + len then none
    else match keyEntries n (bs.drop (4 + len)) with
      | some es => some (⟨u8 bs 0, u8 bs 1, slice bs 4 len⟩ :: es)
      | none => none

/-- The size of a slot (R342). -/
def slotSize (n : Nat) : Nat :=
  if n = 0 ∨ n = 6 then 32 else if n = 1 ∨ n = 7 ∨ n = 8 then 64
  else if 2 ≤ n ∧ n ≤ 5 then 65 else if n = 9 then 8 else if n = 10 then 4 else 61440

/-- An entry's slot and length are right (R343). -/
def KeyEntry.ok (e : KeyEntry) : Bool :=
  decide (e.slot ≤ 11) && e.data.length == (if e.op = 0 then slotSize e.slot else 0)

/-- The slots whose records a life-cycle state accepts (R339). -/
def Life.accepts (l : Life) (slot : Nat) : Bool :=
  match l with
  | .manufacture => slot == 0
  | .provisioned | .opened => true
  | .sealed => slot != 0
  | .returned | .scrapped => false

/-- An entry may be applied (R334, R339, R343): its slot is accepted, revoke names slots 2 to 5, and a
rollback floor is not lowered. -/
def State.entryPermitted (s : State) (e : KeyEntry) : Bool :=
  s.trust.life.accepts e.slot && decide (e.op ≤ 2) && (e.op != 1 || decide (2 ≤ e.slot ∧ e.slot ≤ 5)) &&
    (e.slot != 9 || (e.op == 0 && decide (s.floor 0 ≤ u32 e.data 0 ∧ s.floor 1 ≤ u32 e.data 4)))

/-- Applies an entry. A set of slot 1 provisions the vault; a slot of a MACsec key that changes leaves its
MAC without keys until they are installed (R344). -/
def State.applyEntry (s : State) (e : KeyEntry) : State :=
  let s := if e.op = 0 then s.setSlot e.slot e.data else if e.op = 2 then s.setSlot e.slot [] else s
  let rev := s.trust.revoked.filter fun k => k != e.slot
  let rev := if e.op = 1 ∨ (e.op = 0 ∧ 2 ≤ e.slot ∧ e.slot ≤ 5 ∧ u8 e.data 64 % 2 = 1) then e.slot :: rev
    else if e.op = 0 ∨ e.op = 2 then rev else s.trust.revoked
  let vs := if e.op = 0 ∧ e.slot = 1 then 1 else s.trust.vaultSt
  let s := { s with trust := { s.trust with revoked := rev, vaultSt := vs } }
  if e.slot = 7 then { s with net := { s.net with macsecKey := s.net.macsecKey.set 0 false } }
  else if e.slot = 8 then { s with net := { s.net with macsecKey := s.net.macsecKey.set 1 false } }
  else s

/-- The entries of the key record in the loaded bank. -/
def State.keyRecord (s : State) : Option (List KeyEntry) :=
  keyEntries 16384 (s.memBytes (s.fwBase + 128) (s.hdr32 12))

/-! ## Authenticated commands (R101, R338) -/

/-- Authenticated commands are locked out. -/
def State.authLocked (s : State) : Bool := s.trust.lockedOut.isSome

/-- The signature of a command: valid nonce of at most 10 s, and one of the public keys verifies. -/
def State.authOk (s : State) (code : Nat) (p : List Byte) (keys : List (List Byte)) : Bool :=
  match s.trust.nonce with
  | some (n, t) => decide (s.now ≤ t + 10000 * msCounts) &&
      keys.any fun k => !k.isEmpty && Config.ecdsaOk k (n ++ w16 code ++ slice p 0 4) (slice p 4 64)
  | none => false

/-- A nonce is used up by one authenticated command. -/
def State.useNonce (s : State) : State := { s with trust := { s.trust with nonce := none } }

/-- An `AUTH` answer: after three within 60 s the authenticated commands are locked out (R101). -/
def State.authFail (s : State) : State :=
  let fs := s.now :: (s.trust.authFails.filter fun t => decide (s.now ≤ t + 60000 * msCounts))
  { s with trust := { s.trust with authFails := fs, lockedOut := if 3 ≤ fs.length then some s.now else s.trust.lockedOut } }

/-! ## Erases (R337, R339, R340) -/

/-- The slots that a customer erase empties: all but the transport key (R339). -/
def State.eraseVault (s : State) (whole : Bool) : State :=
  let v := if whole then [] else s.trust.vault.filter fun e => e.1 == 0
  let s := { s with trust := { s.trust with vault := v, revoked := [] } }
  { s with net := { s.net with macsecKey := Vector.replicate 2 false } }

/-- The base and size of the customer data region (R346). -/
def customerBase : Nat := 0x11F00000
def customerBytes : Nat := 0x800000

/-- An access opens (R340, R341): the debug port or scan. -/
def State.openAccess (s : State) (scan : Bool) : State :=
  { s with trust := if scan then { s.trust with scanOpen := true } else { s.trust with dbgOpen := true } }

/-- A pending erase completes: the slots and, for customer secrets, the customer data are overwritten, the
vault reads erased, and the access opens (R340 steps 3 and 4). -/
def State.eraseDone (s : State) : State :=
  match s.trust.erase with
  | none => s
  | some (whole, scan) =>
    let s := s.eraseVault whole
    let s := if whole then s else s.clearMem customerBase customerBytes
    let s := { s with trust := { s.trust with erase := none, vaultSt := 2 } }
    s.openAccess scan

/-- Both Pilot banks and the whole vault are erased (R337, `SCRAPPED`). -/
def State.scrap (s : State) : State :=
  let s := s.eraseVault true
  let s := (s.clearMem (bankBase 0) 0xC00000).clearMem (bankBase 1) 0xC00000
  let s := (s.upBank 0 fun x => { x with st := .empty }).upBank 1 fun x => { x with st := .empty }
  { s with trust := { s.trust with vaultSt := 2 } }

/-- The image of a bank comes from a customer (R99). -/
def State.pilotCustomer (s : State) : Bool :=
  match s.pilot.runBank with
  | some b => (s.bank b).customer
  | none => match s.bankOf .active with
    | some b => (s.bank b).customer
    | none => false

end Sys2Proof.Machine
end

