-- ==== Sys2Proof/Machine/ResetOps.lean ====
section
/-! DEFINITION. Resets, clocks and the boot as shared operations: what each reset keeps (R363, R368, R369),
the NVM word that a reset meets (R345), standby (R373), the release of the clock domains (R366), and the boot
of the Lockkeeper (R335, R336, R352). -/

namespace Sys2Proof.Machine

/-! ## What a reset keeps -/

/-- A cold start (R363). -/
def RstKind.cold : RstKind → Bool
  | .warm => false
  | _ => true

/-- A power-on reset in the sense of R369: with brown-out and wake. -/
def RstKind.power : RstKind → Bool
  | .powerOn | .brownOut | .wake => true
  | _ => false

/-- The reach of a reset; while two are asserted the wider one counts. -/
def RstKind.rank : RstKind → Nat
  | .warm => 0
  | .pin => 1
  | .wake => 2
  | .brownOut => 3
  | .powerOn => 4

/-- A key of the lane dies' own copies. -/
def anyLaneKey (key : Nat) : Bool := allLanes.any fun k => laneKey k key

/-- The registers that a reset keeps as they are: the lane dies' own, the reset causes, and for a warm reset
the NVMC and the backup registers (R369). -/
def keptKey (cold : Bool) (key : Nat) : Bool :=
  let a := key % 4294967296
  anyLaneKey key || a == F.SYS_RST_CAUSE_STATE.addr ||
    (!cold && (decide (0x400B0000 ≤ a ∧ a < 0x400B1000) || decide (0x40000100 ≤ a ∧ a < 0x40000140)))

/-- The fields that a reset keeps: the input levels always, `HOLD` and `FCR_KEEPER` over all but a power-on,
`LAST_TOGGLE` and the reset scope over a warm reset (R369). -/
def keptFields (k : RstKind) : List Fld :=
  [F.FCR_STATUS_STO_A, F.FCR_STATUS_STO_B, F.FCR_STATUS_SS1, F.FCR_STATUS_ACK_PIN, F.SYS_PWR_STATUS_IN_RANGE,
    F.SYS_PWR_STATUS_INHIBIT, F.NVMC_STATUS_INHIBIT] ++
  (if k.power then [] else [F.FCR_STATUS_HOLD, F.FCR_KEEPER_FAIL_COUNT, F.FCR_KEEPER_WINDOW, F.FCR_KEEPER_BEAT]) ++
  (if k.cold then [] else [F.FCR_ACK_LAST_TOGGLE, F.SYS_RST_CTRL_SCOPE])

/-- Faults whose condition outlives a warm reset because it lies outside the blocks that the reset reaches: the
lanes, the link voltage and the STO inputs. -/
def outerFaults : List Nat :=
  [FC.LANE_SC, FC.LANE_DESAT, FC.LANE_UV, FC.LANE_SHOOT, FC.LANE_HB, FC.LANE_LINK, FC.VDC_OV3, FC.VDC_OV2, FC.STO_DISC]

/-- The NVM word under way at a reset: on `RST_N` and warm resets it completes, on a loss of power it completes
or keeps its old value, a free choice (R345, R369). -/
def State.wordSettle (s : State) (power : Bool) : State :=
  match s.recd.word with
  | none => s
  | some (a, new, _) =>
    let done := !power || Config.freeBool s.free
    let s := if power then s.spend else s
    let s := if done then s.setMemW a new else s
    ({ s with recd := { s.recd with word := none } }.flag F.NVMC_STATUS_BUSY 0 false).nvmSync

/-- A store that a warm reset interrupts does not resume: the store state reads idle (R349). -/
def State.storeCut (s : State) : State :=
  if s.params.job.isSome then s.wr F.NVMC_STATUS_STORE_STATE 0 0 else s

/-- The memories that a reset keeps: all of them on a warm reset, the NVM always. -/
def State.memKept (s : State) (cold : Bool) : List Host.Cell :=
  if cold then s.mem.filter fun c => decide (0x10000000 ≤ c.1 ∧ c.1 < 0x14000000) else s.mem

/-- The trust state after a reset: the stored records stay, the nonce, the counts and the session go, but for a
trial, whose session stays open (R331, R332). An access opened by `DEBUG_OPEN` closes at a power-on or `RST_N`
reset, except in `RETURNED` and `MANUFACTURE` (R341). -/
def Trust.afterReset (t : Trust) (cold : Bool) : Trust :=
  let trial := t.bankA.st == .trial || t.bankB.st == .trial
  let clear (b : Bank) : Bank := if b.st == .loading then { b with st := .empty } else b
  let stays := !cold || t.life == .returned || t.life == .manufacture
  { t with
    nonce := none, authFails := [], lockedOut := none
    fw := if trial then t.fw else FwSession.reset
    bankA := clear t.bankA, bankB := clear t.bankB
    dbgOpen := t.dbgOpen && stays, scanOpen := t.scanOpen && stays }

/-- A lane link after a reset: a warm reset leaves frames running and marks the plan as not given (R305); a cold
start begins training anew. -/
def Link.afterReset (l : Link) (cold : Bool) : Link :=
  if cold then Link.reset else { l with planGiven := false, edges := [], step := false }

/-- The collection that a warm reset meets is written as truncated (R355); a cold start loses it. -/
def State.recCut (s : State) : State :=
  match s.recd.coll with
  | some c => { s with recd := { s.recd with coll := some { c with truncated := true } } }.recEnd
  | none => s

/-- The state right after a reset of a kind is asserted: `State.reset` but for what R369 keeps. -/
def State.resetBase (s : State) (k : RstKind) : State :=
  let cold := k.cold
  let r := State.reset
  let fcr : Fcr := { Fcr.reset with
    failAt := if k.power then none else s.fcr.failAt
    beatAt := s.now
    active := if cold then [] else s.fcr.active.filter fun x => outerFaults.contains x.1 }
  let dcl : DcLink := { DcLink.reset with
    fb := s.dcl.fb
    reqAt := Vector.ofFn fun i => if s.dcl.req[i] then s.now else s.dcl.reqAt[i] }
  let both := s.bit F.FCR_STATUS_STO_A && s.bit F.FCR_STATUS_STO_B
  let sto : StoTest := if cold then { StoTest.reset with lowSince := if both then some s.now else none } else s.sto
  let sys : SysCtl := { SysCtl.reset with
    rst := some k
    wakeLatch := s.sys.wakeLatch && k != .powerOn
    oscOk := s.sys.oscOk || k == .powerOn
    selfTest := if cold then 0xFF else s.sys.selfTest }
  let recd : Recorder := if cold then { s.recd with ring := [], coll := none } else s.recd
  let net : Net := { Net.reset with tapIr := s.net.tapIr }
  { r with
    pending := s.pending, now := s.now, free := s.free, pins := s.pins
    dtime := if cold then 0 else s.dtime
    regs := s.regs.filter fun e => keptKey cold e.1
    mem := s.memKept cold
    lanes := s.lanes
    links := Vector.ofFn fun i => s.links[i].afterReset cold
    trips := if cold then [] else s.trips
    fcr := fcr, dcl := dcl, sto := sto, sys := sys, recd := recd, net := net
    trust := s.trust.afterReset cold }

/-- The control die's view of the lanes after a reset. -/
def State.laneShow (s : State) : State :=
  s.each allLanes fun s k =>
    (s.wr F.LANE_STATUS_STATE k s.lanes[k].st.code).flag F.LANE_STATUS_TRAINED k s.links[k].trained

/-- A reset is asserted (R363, R369) with its cause recorded (R368): a power-on clears every other cause. With a
wider reset already asserted, only the cause is added. -/
def State.coreReset (s : State) (k : RstKind) (cause : Fld) : State :=
  let s := if k = .powerOn then s.setWord F.SYS_RST_CAUSE_STATE 0 0 else s
  let s := s.flag cause 0 true
  let wider := match s.sys.rst with | some r => decide (k.rank < r.rank) | none => false
  if wider then s
  else
    let s := s.wordSettle k.power
    let s := if k.cold then s else s.recCut.storeCut
    let old := s.fcr.latched
    let fields := (keptFields k).map fun f => (f, s.rd f)
    let t := s.resetBase k
    let t := t.each fields fun t x => t.wr x.1 0 x.2
    let t := t.laneShow
    let t := if k.cold then t.each allLanes State.laneConds else t
    let again := old.filter fun l => t.condActive l.code l.loc && !k.cold
    t.each again fun t l => t.raise l.code l.loc l.cls

/-- A device warm reset. -/
def State.warmReset (s : State) (cause : Fld) : State := s.coreReset .warm cause

/-! ## Standby (R373, R374) -/

/-- A wake reset: the latch is set. -/
def State.wakeReset (s : State) : State :=
  let s := { s with sys := { s.sys with wakeLatch := true } }
  s.coreReset .wake F.SYS_RST_CAUSE_WAKE

/-- The device enters standby: the links stop, the main domains lose their power, and only the `WAKE` input and
its latch stay; with `WAKE` high the wake reset comes at once. -/
def State.standbyEnter (s : State) : State :=
  let pins := s.pins
  let t := s.resetBase .powerOn
  let sys := { t.sys with rst := none, standby := true, oscOk := s.sys.oscOk, wakeLatch := s.sys.wakeLatch }
  let t := { t with
    pins := pins, sys := sys
    links := Vector.ofFn fun i => { t.links[i] with stopped := true } }
  if pins.wake then t.wakeReset else t

/-- The device enters standby 10 ms after the completion of `STANDBY_ENTER` whatever its transport does (R81); seen
at the periodic rounds (DEDUCED, log entry 145). -/
def State.standbyTimer (s : State) : State :=
  match s.sys.standbyAt with
  | some t => if s.sys.standbyDue && decide (t + 10 * msCounts ≤ s.now) then s.standbyEnter else s
  | none => s

/-! ## Clock domains (R360, R361, R366) -/

/-- The bit of a clock domain in `CLK_OK` and `LOST`. -/
def clkBit : ClkDom → Fin 6
  | .xtal => 0
  | .pllCore => 1
  | .pllSys => 2
  | .pllLink => 3
  | .pllPer => 4
  | .pllEth => 5

/-- `CLK_OK` of a domain, and with it the release of its blocks. -/
def State.clkSet (s : State) (d : Fin 6) (ok : Bool) : State :=
  let w := s.rd F.SYS_CLK_STATUS_CLK_OK
  let w' := if ok then w ||| 2 ^ d.val else w &&& (63 ^^^ 2 ^ d.val)
  let s := s.wr F.SYS_CLK_STATUS_CLK_OK 0 w'
  { s with sys := { s.sys with up := s.sys.up.set d ok } }

/-- `LOST` of a domain. -/
def State.clkLost (s : State) (d : Fin 6) : State :=
  s.wr F.SYS_CLK_STATUS_LOST 0 (s.rd F.SYS_CLK_STATUS_LOST ||| 2 ^ d.val)

/-- Clock domains are lost (R361): `CLK_OK` falls, `LOST` is set, `FLT_CLOCK` is raised, and with scope `FULL` a
device warm reset is armed. -/
def State.domainsLost (s : State) (l : List (Fin 6)) : State :=
  let s := s.each l fun s i => (s.clkSet i false).clkLost i
  { s with sys := { s.sys with clockRst := if s.bit F.SYS_RST_CTRL_SCOPE then none else
      match s.sys.clockRst with
      | some t => some t
      | none => some s.now } }.raiseOn FC.CLOCK .device
    (fixedClass FC.CLOCK)

/-- Every domain is released. -/
def State.clkAll (s : State) (ok : Bool) : State := s.each (List.finRange 6) fun s d => s.clkSet d ok

/-! ## Boot (R335, R336, R352) -/

/-- The stored table image is copied into the stores; with no valid generation they read 0. -/
def State.loadTables (s : State) : State :=
  match s.validSlot with
  | some k => s.copyMem (tableAt k) 0x28000000 storeBytes
  | none => s.clearMem 0x28000000 storeBytes

/-- The hash of a bank passes. -/
def bankHashOk (e : BootEnv) (b : Br) : Bool := if b = 0 then e.bankAOk else e.bankBOk

/-- The bank that the Pilot runs on (R336): the trial or active bank, or else a previous or verified one, or
after a failed trial the active one, which becomes active; the failed bank is empty. -/
def State.bootBank (s : State) (e : BootEnv) : State × Option Br :=
  let first := s.restartBank
  match first with
  | some b =>
    if bankHashOk e b then (s, some b)
    else
      let o := mate b
      let trial := (s.bank b).st == .trial
      let s := (s.upBank b fun x => { x with st := .empty }).upFw fun f =>
        if trial then { f with phase := .failed, reason := 8 } else f
      let st := (s.bank o).st
      if (st == .previous || st == .verified || st == .active) && bankHashOk e o then
        (s.upBank o fun x => { x with st := .active }, some o)
      else (s, none)
  | none =>
    match [(0 : Br), 1].find? fun b => ((s.bank b).st == .previous || (s.bank b).st == .verified) && bankHashOk e b with
    | some b => (s.upBank b fun x => { x with st := .active }, some b)
    | none => (s, none)

/-- The Pilot is released on its bank, or held for good when no bank passes. -/
def State.bootPilot (s : State) (e : BootEnv) : State :=
  let (s, bank) := s.bootBank e
  match bank with
  | some b =>
    let p := { s.pilot with runBank := some b, trialAt := if (s.bank b).st == .trial then some s.now else none }
    { s with pilot := p }.flag F.SYS_RST_CTRL_PILOT_HOLD 0 false
  | none => { s with pilot := { s.pilot with heldForGood := true } }

/-- Both bridges enter a state at the end of the boot. -/
def State.bootTo (s : State) (st : DState) : State := (s.enterOne 0 st).enterOne 1 st

/-- The boot fails: `SAFE_HOLD` with the self-test byte (R104 row 3, R433). -/
def State.bootFail (s : State) (code : Nat) : State :=
  { s with sys := { s.sys with selfTest := code } }.bootTo .safeHold

/-- The stored parameters and tables are loaded (step 5). -/
def State.bootParams (s : State) : State :=
  let s := (s.takeSet s.validSlot).loadTables
  { s with params := { s.params with boot := s.params.act } }

/-- The Lockkeeper and Pilot release 3.4 configure the device (step 7): the Angle Clocks (DEDUCED, log entry 11),
the CAN controllers, the Locks and `ALIVE`. -/
def State.bootDone (s : State) (e : BootEnv) : State :=
  let s := s.bootPilot e
  let s := s.each s.bridgesUsed fun s b => (s.flag (F.ACLK_CTRL_ENABLE.at (16 * b.val)) 0 true).aclkSelect b true
  let s := s.each (List.finRange 4) State.canBoot
  let s := s.nvmSync.recShow
  let s := s.flag F.LANE_ERR_NOLINK 0 false
  let s := { s with sys := { s.sys with bootEnd := s.now }, fcr := { s.fcr with beatAt := s.now } }
  ((s.bootTo .standby).flag F.LOCK_CTRL_ENABLE 0 true).flag F.FCR_CTRL_ALIVE_EN 0 true

/-- The boot from the release of a reset on (R335): self-test at a cold start, pending erase, activated patch,
parameters, Pilot bank. In `SCRAPPED` every boot ends in `SAFE_HOLD` (R337). -/
def State.boot (s : State) (cold : Bool) (e : BootEnv) : State :=
  if cold && !e.lbistOk then s.bootFail 1
  else if cold && !e.mbistOk then s.bootFail 2
  else if !cold && (s.sys.selfTest == 1 || s.sys.selfTest == 2) then s.bootTo .safeHold
  else
    let s := { s with sys := { s.sys with selfTest := 0 } }.eraseDone
    if s.bit F.FCR_STATUS_HOLD || !s.sys.oscOk || s.trust.life == .scrapped then s.bootTo .safeHold
    else if s.trust.patchActive && !e.patchOk then s.bootFail 3
    else
      let lvl : BitVec 16 := if s.trust.patchActive then s.trust.patchVersion.setWidth 16 else 0
      let s := { s with trust := { s.trust with patchLevel := lvl } }
      s.bootParams.bootDone e

/-- The release of the asserted reset (R366, R367): DTIME of a cold start begins at 0 (R32), the clock domains
are released when the crystal runs, and the Lockkeeper boots; without the crystal every PLL domain stays in
reset. -/
def State.release (s : State) (e : BootEnv) : State :=
  match s.sys.rst with
  | none => s
  | some k =>
    let s := { s with dtime := if k.cold then 0 else s.dtime, sys := { s.sys with rst := none } }
    if e.xtalOk then (s.clkAll true).boot k.cold e else s.clkAll false

end Sys2Proof.Machine
end

