-- ==== Sys2Proof/Machine/House.lean ====
section
/-! DEFINITION. The 1 ms housekeeping round (R246 to R248, R375 to R377): converter diagnosis, module
temperatures, die temperatures, derating and thermal shutdown. -/

namespace Sys2Proof.Machine

/-- The fault location of a converter instance (R252). -/
def convLoc (i : ConvIx) : Loc :=
  if h : i.val < 12 then .lane ⟨i.val, h⟩ else if i.val = 12 then .bridge 0 else if i.val = 13 then .bridge 1 else .device

/-- A converter instance converts. -/
def State.convOn (s : State) (i : ConvIx) : Bool := s.bit F.CONV_CFG_ENABLE i

/-- The codes of the internal reference and of the internal zero lie outside their windows (R248): the reference
±0.5 % about 1.250 V of the 2.5 V of 16 bits or the 3.0 V of 12 bits, the zero ±32 or ±4. -/
def diagBad (i : ConvIx) (ref zero : Int) : Bool :=
  if i.val < 12 then decide (32768 < 200 * (ref - 32768).natAbs ∨ 32 < zero.natAbs)
  else decide (5120 < 200 * (3 * ref - 5120).natAbs ∨ 4 < zero.natAbs)

/-- The diagnosis of one converter in a round (R248): two failing rounds in succession raise `FLT_CONV_DIAG`
and take the results' `VALID`. -/
def State.convDiag (s : State) (checks : List (Fin 15 × Int × Int)) (i : ConvIx) : State :=
  if s.convOn i then
    if checks.any fun x => x.1 == i && diagBad i x.2.1 x.2.2 then
      let n := s.convs[i].badRounds + 1
      let s := s.upConv i fun c => { c with badRounds := n }
      if n = 2 then
        let s := s.wr F.CONV_DIAG_FAIL 0 (s.rd F.CONV_DIAG_FAIL ||| 2 ^ i.val)
        let s := s.flag F.CONV_STATUS_DIAG i true
        let s := s.each (List.range 16) fun s e => s.flag (F.CONV_RES_VALID.at e) i false
        s.raiseOn FC.CONV_DIAG (convLoc i) (if i.val < 12 then .bridgeSafe else .degrade)
      else s
    else (s.upConv i fun c => { c with badRounds := 0 }).condition FC.CONV_DIAG (convLoc i) false
  else s

/-- A module temperature in 0.1 °C from the code of the input (R246): an NTC toward ground in the divider with the
internal 10.0 kΩ resistor (DEDUCED, log entry 72), or a diode by its voltage in µV. -/
def State.tmodOf (s : State) (b : Br) (code : Int) : Int :=
  let l := b.val
  if s.parN (P.sense_tmod_type l) = 0 then
    let ohms : Rat := (10000 * code : Int) / (65536 - code : Int)
    let r25 : Rat := (s.par (P.sense_ntc_r25 l) : Int)
    let beta : Rat := (s.par (P.sense_ntc_beta l) : Int)
    let inv := (1 : Rat) / ((29815 : Rat) / 100) + lnQ (ohms / r25) / beta
    ratFree (10 / inv - (27315 : Rat) / 10)
  else
    let uv : Rat := (code * 2500000 : Int) / 65536
    250 + ratFree (10 * (uv - 1000 * (s.par (P.sense_diode_mv25 l) : Int)) / (s.par (P.sense_diode_tc l) : Int))

/-- The open-wire test of a code (R249): 98 % of full scale with pull-up, 2 % with pull-down. -/
def codeOpen (w : Word) (full v : Int) : Bool :=
  match entOwc w with
  | 1 => decide (98 * full ≤ 100 * v)
  | 2 => decide (100 * v ≤ 2 * full)
  | _ => false

/-- The module temperature input of a lane reads as an open wire, under the open-wire current that its entry of
channel 3 sets (R249). -/
def State.tmodOpen (s : State) (k : LaneIx) (code : Int) : Bool :=
  let i := laneConv k
  match (s.convUsed i).find? fun e => entChan (s.convEntry i e) == 3 with
  | some e => codeOpen (s.convEntry i e) 65535 code
  | none => false

/-- The temperature by which a lane derates: its last valid one; without one, as at `sense.tmod_derate`
(R252). -/
def State.tmodUse (s : State) (k : LaneIx) : Int :=
  match s.sys.tmods.getD k.val none with
  | some t => t
  | none => if s.condActive FC.SENSE_OPEN (.lane k) then s.par (P.sense_tmod_derate (laneBr k).val) else 0

/-- A threshold with a hysteresis of 5.0 °C: raised when newly met, its condition ended below. -/
def State.threshold (s : State) (code : Nat) (loc : Loc) (cls : RClass) (met clear : Bool) : State :=
  if met && !s.condActive code loc then s.raiseOn code loc cls
  else if clear then s.condition code loc false
  else s

/-- A lane's module temperature in a round (R246, R247, R249). -/
def State.tmodLane (s : State) (code : Int) (k : LaneIx) : State :=
  if s.convOn (laneConv k) && decide (s.convs[laneConv k].badRounds < 2) then
    let opened := (s.flag F.CONV_STATUS_OPEN k true)
    let t := s.tmodOf (laneBr k) code
    let known := { s with sys := { s.sys with tmods := s.sys.tmods.set k.val (some t) } }
    let s := if s.tmodOpen k code then
        (if opened.condActive FC.SENSE_OPEN (.lane k) then opened
         else opened.raiseOn FC.SENSE_OPEN (.lane k) .degrade)
      else (known.wrI F.CONV_TEMP_TEMP k t).condition FC.SENSE_OPEN (.lane k) false
    let t := s.tmodUse k
    let l := (laneBr k).val
    let warn := s.par (P.sense_tmod_warn l)
    let trip := s.par (P.sense_tmod_trip l)
    let s := s.threshold FC.TMOD_WARN (.lane k) .report (decide (warn < t)) (decide (t ≤ warn - 50))
    s.threshold FC.TMOD_TRIP (.lane k) .bridgeSafe (decide (trip ≤ t)) (decide (t ≤ trip - 50))
  else s

/-- The module factor of a temperature, in 1/1,000 (R247). -/
def State.modFactorOf (s : State) (b : Br) (t : Int) : Nat :=
  let l := b.val
  let d := s.par (P.sense_tmod_derate l)
  let trip := s.par (P.sense_tmod_trip l)
  if t ≤ d then 1000 else if trip ≤ t then 0 else (divFree ((trip - t) * 1000) (trip - d)).toNat

/-- The module factors of both bridges. -/
def State.modFactors (s : State) : State :=
  let f (b : Br) : Nat := (lanesOf b).foldl (fun a k => min a (s.modFactorOf b (s.tmodUse k))) 1000
  { s with sys := { s.sys with modFactor := Vector.ofFn f } }

/-- The pairs of the cross-check of R375 as (place, differs, higher reading): the control-die sensors' mean
against the diode, and the two sensors of each trained lane. -/
def State.tempPairs (s : State) (hk : HkRound) : List (Nat × Bool × Int) :=
  let sum := hk.die.foldl (· + ·) 0
  let first : Nat × Bool × Int :=
    (0, decide (800 < (sum - 8 * hk.diode).natAbs), max (divFree sum 8) hk.diode)
  first :: (allLanes.filter (fun k => s.links[k].trained)).map fun (k : LaneIx) =>
    let a := s.rdI F.LANE_DIE_TEMP_TEMP0 k
    let b := s.rdI F.LANE_DIE_TEMP_TEMP1 k
    (k.val + 1, decide (100 < (a - b).natAbs), max a b)

/-- The cross-check: three rounds in succession with a difference above 10.0 °C. -/
def State.crossCheck (s : State) (pairs : List (Nat × Bool × Int)) : State :=
  s.each pairs fun s p =>
    let n := s.sys.xchkRounds.getD p.1 0
    let n' := if p.2.1 then n + 1 else 0
    let pad := s.sys.xchkRounds ++ List.replicate (13 - s.sys.xchkRounds.length) 0
    let s := { s with sys := { s.sys with xchkRounds := pad.set p.1 n' } }
    if n' = 3 then
      let bad := if s.sys.xchkBad.contains p.1 then s.sys.xchkBad else s.sys.xchkBad ++ [p.1]
      ({ s with sys := { s.sys with xchkBad := bad } }.flag F.SYS_THERM_STATUS_XCHK 0 true).raiseF
        FC.THERM_WARN .device
    else s

/-- The valid readings of a round: the sensors of every die, and the higher reading of a failed pair. -/
def State.dieReadings (s : State) (hk : HkRound) (pairs : List (Nat × Bool × Int)) : List Int :=
  hk.die ++ (allLanes.filter (fun k => s.links[k].trained)).flatMap (fun (k : LaneIx) =>
    [s.rdI F.LANE_DIE_TEMP_TEMP0 k, s.rdI F.LANE_DIE_TEMP_TEMP1 k]) ++
  (pairs.filter fun p => s.sys.xchkBad.contains p.1).map (·.2.2)

/-- The die factor in 1/1,000 (R376). -/
def State.dieFactorOf (s : State) (tj : Int) : Nat :=
  let d : Int := s.rd F.SYS_THERM_CFG_DERATE
  let m : Int := s.rd F.SYS_THERM_CFG_DERATE_MIN
  if tj ≤ d then 1000
  else if 1750 ≤ tj then (10 * m).toNat
  else (1000 - divFree ((1000 - 10 * m) * (tj - d)) (1750 - d)).toNat

/-- The reactions to Tj (R376), and `IRQ_THERM` on a change of the warning or of the factor by 1 %. -/
def State.thermStep (s : State) (tj : Int) : State :=
  let s := s.wrI F.SYS_THERM_STATUS_TJ 0 tj
  let warn : Int := s.rd F.SYS_THERM_CFG_WARN
  let der : Int := s.rd F.SYS_THERM_CFG_DERATE
  let was := s.bit F.SYS_THERM_STATUS_WARN
  let now_ := decide (warn ≤ tj) || (was && decide (warn - 50 < tj))
  let s := s.flag F.SYS_THERM_STATUS_WARN 0 now_
  let s := if now_ && !was then s.raiseOn FC.THERM_WARN .device (fixedClass FC.THERM_WARN)
    else if !now_ then s.condition FC.THERM_WARN .device false else s
  let s := s.flag F.SYS_THERM_STATUS_DERATE 0
    (decide (der ≤ tj) || (s.bit F.SYS_THERM_STATUS_DERATE && decide (der - 50 < tj)))
  let f := s.dieFactorOf tj
  let s := { s with sys := { s.sys with dieFactor := f } }
  let pc := (divFree (f : Int) 10).toNat
  let moved := pc != s.rd F.SYS_THERM_STATUS_FACTOR
  let s := if moved then s.wr F.SYS_THERM_STATUS_FACTOR 0 pc else s
  if moved || now_ != was then (s.flag F.SYS_THERM_STATUS_CHANGED 0 true).irq 30 else s

/-- Thermal shutdown (R377): a reading of 175.0 °C or above in two rounds in succession. -/
def State.thermShut (s : State) (readings : List Int) : State :=
  let n := if readings.any fun t => decide (1750 ≤ t) then s.sys.hotRounds + 1 else 0
  let s := { s with sys := { s.sys with hotRounds := n } }
  if 2 ≤ n ∧ !s.bit F.SYS_THERM_STATUS_SHUT then
    (s.flag F.SYS_THERM_STATUS_SHUT 0 true).raiseOn FC.THERM_SHUT .device (fixedClass FC.THERM_SHUT)
  else s

/-- `HOUSEKEEPING_ROUND` (R246 to R248, R375 to R377). -/
def execHousekeepingRound (dt : Nat) (hk : HkRound) (s : State) : Out :=
  if !hk.wf then .fault .illFormed
  else
    let s := (s.tick dt).standbyTimer
    if s.running then
      let s := s.stoSettle.each (List.finRange 15) fun s i => s.convDiag hk.checks i
      let s := s.each allLanes fun s k => s.tmodLane (clampI 0 65535 (hk.tmod.getD k.val 0)) k
      let s := s.modFactors
      let s := s.each (List.range 4) fun s k =>
        (s.wrI (F.SYS_TEMP_EVEN.at k) 0 (hk.die.getD (2 * k) 0)).wrI (F.SYS_TEMP_ODD.at k) 0
          (hk.die.getD (2 * k + 1) 0)
      let s := s.wrI F.CONV_TEMP_TEMP 14 hk.diode
      let pairs := s.tempPairs hk
      let s := s.crossCheck pairs
      let rs := s.dieReadings hk pairs
      let s := s.thermStep (rs.foldl max (hk.die.headD 0))
      let s := s.thermShut rs
      .next ((s.each s.bridgesUsed State.envelope).irq 10)
    else .next s

end Sys2Proof.Machine
end

