-- ==== Sys2Proof/Machine/ConvOps.lean ====
section
/-! DEFINITION. The converters as shared operations (R229 to R252, R311): entries and their order, what a
result means by its channel, the DC-link median, the back-EMF samples, the offset filter, and the current
plausibility and torque monitors. -/

namespace Sys2Proof.Machine

/-! ## Conversions under way (R229, R230, R234 to R237) -/

/-- `BUSY` and `IDLE` follow the converters of an instance. -/
def State.convShow (s : State) (i : ConvIx) : State :=
  let b := !s.convs[i].busy.isEmpty
  (s.flag F.CONV_STATUS_BUSY i.val b).flag F.CONV_STATUS_IDLE i.val (!b)

/-- The counts of one converter clock: 200 MHz of a lane, 80 MHz of a monitor, 20 MHz of the housekeeping (R229). -/
def convClock (i : ConvIx) : Nat := if i.val < 12 then 2 else if i.val < 14 then 5 else 20

/-- The converters that an entry uses: 0, 1 or both. -/
def entUses (w : Word) : List Nat := if entConv w = 2 then [0, 1] else [entConv w]

/-- A conversion under way holds a converter that an entry needs (R237). -/
def State.jobMeets (s : State) (i : ConvIx) (w : Word) (j : Job) : Bool :=
  (entUses w).any fun c => (entUses (s.convEntry i j.entry)).contains c

/-- An entry begins now: its sample instant comes after its sample time. -/
def State.convStart (s : State) (i : ConvIx) (e : Fin 16) : State :=
  let w := s.convEntry i e
  let j : Job := ⟨e, entWin w, s.dt + entStime w * convClock i, 1, none⟩
  (s.upConv i fun c => { c with busy := c.busy ++ [j] }).convShow i

/-- A conversion falls due (R237): on a busy converter a window or single sample pre-empts an entry of another
kind, which repeats; two of these kinds lose the later one. -/
def State.convDue (s : State) (i : ConvIx) (j : Job) : State :=
  let w := s.convEntry i j.entry
  let held := s.convs[i].busy.filter (s.jobMeets i w)
  if held.isEmpty then (s.upConv i fun c => { c with busy := c.busy ++ [j] }).convShow i
  else if !j.prio then s.upConv i fun c => { c with queue := c.queue ++ [j.entry] }
  else if held.any fun x => x.prio then
    ((s.wr (F.CONV_RES_VALID.at j.entry.val) i.val 0).flag F.CONV_STATUS_OVERLAP i.val true).evt (E.CONV_OVERLAP i)
  else s.upConv i fun c => { c with
    busy := (c.busy.filter fun x => !held.contains x) ++ [j], queue := held.map (fun x => x.entry) ++ c.queue }

/-- The entries that wait take the converters that are free, in order. -/
def State.convNext (s : State) (i : ConvIx) : State :=
  s.each s.convs[i].queue fun s e =>
    if s.convs[i].busy.any (s.jobMeets i (s.convEntry i e)) then s
    else (s.upConv i fun c => { c with queue := c.queue.erase e }).convStart i e

/-- A conversion ends: its sample instant is kept with the result, and entries that wait go on. A sequence that has
nothing left to convert is complete (R41). -/
def State.convFinish (s : State) (i : ConvIx) (j : Job) : State :=
  let s := s.upConv i fun c => { c with
    busy := c.busy.erase j
    stamps := (j.entry.val, j.at_) :: c.stamps.filter fun x => x.1 != j.entry.val }
  let s := (s.convNext i).convShow i
  if s.convs[i].busy.isEmpty then s.irq 8 else s

/-! ## What the scheduler has placed (R231, R234) -/

/-- Direct modulation mode with `ARM` set. -/
def State.directArmed (s : State) (b : Br) : Bool := s.bit F.MOD_CTRL_MODE b && s.bit F.MOD_CTRL_ARM b

/-- The bridge of a converter instance and its place there by `TARGET`; the housekeeping converter has none. -/
def convBr (i : ConvIx) : Option (Br × Nat) :=
  if i.val < 6 then some (0, i.val) else if i.val < 12 then some (1, i.val - 6)
  else if i.val = 12 then some (0, 6) else if i.val = 13 then some (1, 6) else none

/-- A bridge's conversions come from the sample events of its committed stages or periods. -/
def State.scheduled (s : State) (b : Br) : Bool :=
  (s.flightRuns b && !s.flights[b].predictOnly) || s.directArmed b

/-- The sample event by which an instance now converts an entry, or its sequence. -/
def State.eventFor (s : State) (i : ConvIx) (e : Option (Fin 16)) : Option (Br × SampleEv) :=
  (convBr i).bind fun x =>
    (s.flights[x.1].due.find? fun v => v.target == x.2 && v.entry == e && decide (v.at_ ≤ s.dt)).map fun v => (x.1, v)

/-- An instance converts by the clock alone: the housekeeping converter, and those of a bridge that has no stages or
periods (R234). -/
def State.byClock (s : State) (i : ConvIx) : Bool :=
  match convBr i with
  | some x => !s.scheduled x.1
  | none => true

/-- A sample event is used up. -/
def State.takeEvent (s : State) (b : Br) (v : SampleEv) : State := s.upFl b fun f => { f with due := f.due.erase v }

/-! ## Currents -/

/-- A shunt code in mA: ±800 mV / gain over 2^15 codes, by the shunt (R232). -/
def State.shuntAmps (s : State) (b : Br) (gain : Nat) (code : Int) : Int :=
  divFree (code * 800000000) (32768 * 2 ^ gain * s.par (P.sense_shunt b.val))

/-- A monitor code in mA (R250). -/
def State.monAmps (s : State) (b : Br) (code : Int) : Int :=
  divFree ((code * 3000 - s.par (P.sense_mon_zero b.val) * 4096) * 1000000) (4096 * s.par (P.sense_mon_gain b.val))

/-- A group of this number is under assembly: its stage is committed and has not retired, or it is that of a period
boundary (R176, R238). -/
def State.groupLive (s : State) (b : Br) (num : Nat) : Bool :=
  let sl := s.flights[b].slots[slotIx num]
  (sl.num == num && sl.st == .committed) || (s.directArmed b && s.rd F.MOD_PERIOD_CNT_COUNT b ≤ num + 1)

/-- A change to one group of a bridge. -/
def Flight.upGroup (f : Flight) (num : Nat) (g : Group → Group) : Flight :=
  let old := (f.groups.find? fun x => x.num == num).getD (Group.fresh num)
  { f with groups := g old :: f.groups.filter fun x => x.num != num }

/-- A window result enters the sample group of its stage or period (R238, R242). One whose group is not under
assembly is discarded (R176). -/
def State.groupWindow (s : State) (k : LaneIx) (num gain : Nat) (v : Int) (sat : Bool) : State :=
  let b := laneBr k
  let ph := (lanePhase k).val
  let i : Option Int := if sat then none else some (s.shuntAmps b gain v)
  if s.groupLive b num then
    s.upFl b fun f => f.upGroup num fun g => { g with i := g.i.set ph i, lost := g.lost.set ph sat }
  else s

/-- A shunt conversion counts for the offset: of the first 64 those in `READY` under `FREEWHEEL`, then those that a
stage or period has placed in high-side conduction (R243). -/
def State.offsetCounts (s : State) (i : ConvIx) (b : Br) (num : Option Nat) : Bool :=
  if s.convs[i].offsetN < 64 then s.dst b == .ready && s.bridges[b].plan == 0 else num.isSome

/-- A shunt conversion during high-side conduction (R243): the mean of the first 64, then a filter of 256
samples; an offset beyond `sense.offset_max` raises `FLT_CUR_OFFSET`. -/
def State.offsetSample (s : State) (i : ConvIx) (k : LaneIx) (gain : Nat) (v : Int) : State :=
  let c := s.convs[i]
  let off : Rat := if c.offsetN < 64 then (c.offset * (c.offsetN : Rat) + (v : Rat)) / ((c.offsetN + 1 : Nat) : Rat)
    else c.offset + ((v : Rat) - c.offset) / 256
  let s := s.upConv i fun c => { c with offset := off, offsetN := min 64 (c.offsetN + 1) }
  let code := ratFree off
  let s := s.wrI F.CONV_OFFSET_OFFSET i.val code
  if s.parN (P.sense_offset_max (laneBr k).val) < (s.shuntAmps (laneBr k) gain code).natAbs then
    s.raise FC.CUR_OFFSET (.lane k) .bridgeSafe
  else s

/-! ## DC link (R244) -/

/-- The median of three. -/
def median3 (a b c : Int) : Int := max (min a b) (min (max a b) c)

/-- A lane's DC-link result counts: its instance converts, passes its diagnosis, and the result is not excluded. -/
def State.vdcCounts (s : State) (k : LaneIx) : Bool :=
  let c := s.convs[laneConv k]
  s.convOn (laneConv k) && !c.excluded && decide (c.badRounds < 2)

/-- The results from which a bridge's value is formed. -/
def State.vdcValues (s : State) (b : Br) : List Int :=
  ((lowLanes b).filter fun (k : LaneIx) => s.vdcCounts k).filterMap fun (k : LaneIx) => s.convs[laneConv k].vdc

/-- Their median, or the mean of two; none of fewer. -/
def vdcMid : List Int → Option Int
  | [a, b, c] => some (median3 a b c)
  | [a, b] => some (divFree (a + b) 2)
  | _ => none

/-- The bridge's DC-link value is formed; `FLT_VDC_LOST` while fewer than two results remain. The value serves
the sample group, the Weir and the precharge. -/
def State.vdcForm (s : State) (b : Br) : State :=
  let lost := decide (((lowLanes b).filter fun (k : LaneIx) => s.vdcCounts k).length < 2)
  let s := if lost then s.raiseOn FC.VDC_LOST (.bridge b) .bridgeSafe else s.condition FC.VDC_LOST (.bridge b) false
  match vdcMid (s.vdcValues b) with
  | some v =>
    ((s.wrI (F.CONV_VDC_BR_VDC.at (8 * b.val)) 0 v).weirEval).settleWatch b
  | none => s

/-- The exclusion of a lane's result (R244): three in succession away from the median exclude it, three near
the mean of the remaining two take it back. -/
def State.vdcExclude (s : State) (k : LaneIx) (v : Int) : State :=
  let b := laneBr k
  let i := laneConv k
  match vdcMid (s.vdcValues b) with
  | some m =>
    let near := decide ((v - m).natAbs ≤ s.parN (P.sense_vdc_tol b.val))
    if s.convs[i].excluded then
      let n := if near then s.convs[i].near + 1 else 0
      if 3 ≤ n then
        (s.upConv i fun c => { c with excluded := false, far := 0, near := 0 }).condition FC.VDC_PLAUS (.lane k) false
      else s.upConv i fun c => { c with near := n }
    else if (s.vdcValues b).length = 3 then
      let n := if near then 0 else s.convs[i].far + 1
      if 3 ≤ n then
        (s.upConv i fun c => { c with excluded := true, far := 0, near := 0 }).raiseOn FC.VDC_PLAUS (.lane k) .degrade
      else s.upConv i fun c => { c with far := n }
    else s
  | none => s

/-- A DC-link result of a low-side lane, in mV. -/
def State.vdcTake (s : State) (k : LaneIx) (code : Int) : State :=
  let v := divFree (code * 2500 * s.par (P.sense_vdc_ratio (laneBr k).val)) 6553600
  let s := (s.upConv (laneConv k) fun c => { c with vdc := some v }).wrI F.CONV_VDC_VDC k.val v
  s.vdcExclude k v

/-- A DC-link result and the bridge's value with it. -/
def State.vdcResult (s : State) (k : LaneIx) (code : Int) : State := (s.vdcTake k code).vdcForm (laneBr k)

/-! ## Back-EMF (R115, R116, R245) -/

/-- A line-to-line voltage of a measurement at a conversion: the instant at which it last passed through zero,
interpolated between two conversions, and its crossing once it lies beyond the hysteresis. -/
def CatchRec.pairStep (c : CatchRec) (p : Nat) (u hyst : Int) (now : Nat) : CatchRec :=
  let l := c.last.getD p 0
  let passed := decide ((l < 0 ∧ 0 ≤ u) ∨ (0 < l ∧ u ≤ 0))
  let at_ := if passed then c.at_ + (divNear (((now - c.at_ : Nat) : Int) * l.natAbs) (l.natAbs + u.natAbs)).toNat
    else c.zero.getD p 0
  let sg : Int := if hyst < u then 1 else if u < -hyst then -1 else 0
  let old := c.sgn.getD p 0
  let cross := decide (sg ≠ 0 ∧ old ≠ 0 ∧ sg ≠ old)
  { c with
    last := c.last.set p u
    zero := c.zero.set p at_
    sgn := if sg = 0 then c.sgn else c.sgn.set p sg
    ePeak := max c.ePeak u.natAbs
    crossings := (if cross then ⟨p, decide (sg = 1), at_⟩ :: c.crossings else c.crossings).take 64 }

/-- A switch-node result of a phase, in mV. The line-to-line voltages are formed when the three phases of an instant
have come; the next instant begins anew. -/
def CatchRec.sample (c : CatchRec) (ph : Nat) (v hyst : Int) (now : Nat) : CatchRec :=
  let c := if ph = 0 then { c with u := some v } else if ph = 1 then { c with v := some v } else { c with w := some v }
  match c.u, c.v, c.w with
  | some u, some v, some w =>
    let c := ((c.pairStep 0 (u - v) hyst now).pairStep 1 (v - w) hyst now).pairStep 2 (w - u) hyst now
    { c with at_ := now, u := none, v := none, w := none }
  | _, _, _ => c

/-- The condition of `FLT_CATCH_OVER` (R116): while the speed-band plan is `FREEWHEEL`, E over 2 ms below the
envelope ends it. -/
def State.catchOverWatch (s : State) (b : Br) : State :=
  if s.condActive FC.CATCH_OVER (.bridge b) && s.dst b != .catching then
    let fresh : CatchRec := { CatchRec.reset with since := s.now }
    let c := s.bridges[b].catchRec
    if s.bridges[b].plan ≠ 0 then s.upB b fun x => { x with catchRec := fresh }
    else if c.since + 2 * msCounts ≤ s.now then
      let s := s.upB b fun x => { x with catchRec := fresh }
      if c.ePeak * 100 < s.par P.drive_catch_env * s.vdcOf b then s.condition FC.CATCH_OVER (.bridge b) false else s
    else s
  else s

/-- A switch-node result of a low-side lane. -/
def State.bemfSample (s : State) (k : LaneIx) (code : Int) : State :=
  let b := laneBr k
  if (s.dst b = .catching ∧ s.windowOver b = false) ∨ s.condActive FC.CATCH_OVER (.bridge b) = true then
    let v := divFree (code * 2500 * s.par (P.sense_sw_ratio b.val)) 6553600
    let hyst := s.vdcOf b / 100
    (s.upB b fun x => { x with catchRec := x.catchRec.sample (lanePhase k).val v hyst s.now }).catchOverWatch b
  else s

/-! ## Open wires and results -/

/-- The class of an open wire by its instance (R252). -/
def openClass (i : ConvIx) : RClass := if i.val = 14 then .report else .degrade

/-- The open-wire test of an entry with `OWC` set (R249); the condition of an instance lasts while the latest result
of some entry shows an open wire. -/
def State.openTest (s : State) (i : ConvIx) (opened : Bool) : State :=
  if opened then (s.flag F.CONV_STATUS_OPEN i.val true).raiseOn FC.SENSE_OPEN (convLoc i) (openClass i)
  else if (s.convUsed i).any fun e => s.bit (F.CONV_RES_OPEN.at e.val) i.val then s
  else s.condition FC.SENSE_OPEN (convLoc i) false

/-- A result of the channel that a lane captures is a word of its capture (R278). -/
def State.capResult (s : State) (i : ConvIx) (w : Word) (v : Int) : State :=
  if h : i.val < 12 then
    let k : LaneIx := ⟨i.val, h⟩
    if s.own k F.LANE_CAP_CTRL_SRC = 0 ∧ s.own k F.LANE_CAP_CTRL_CHAN = entChan w then s.capWord k (BitVec.ofInt 16 v)
    else s
  else s

/-- What a lane's result means by its channel. -/
def State.laneResult (s : State) (i : ConvIx) (k : LaneIx) (w : Word) (j : Job) (raw v : Int) (sat : Bool) : State :=
  if laneLow k then
    match entChan w with
    | 0 => if entWin w then (match j.num with | some n => s.groupWindow k n (entGain w) v sat | none => s)
      else if s.offsetCounts i (laneBr k) j.num then s.offsetSample i k (entGain w) raw else s
    | 1 => s.bemfSample k v
    | 2 => s.vdcResult k v
    | _ => s
  else s

/-- The range of an instance's codes on a channel (R232): 16 bits, signed for the shunt alone, or 12 bits. -/
def codeRange (i : ConvIx) (w : Word) : Int × Int :=
  if 12 ≤ i.val then (0, 4095) else if entChan w = 0 then (-32768, 32767) else (0, 65535)

/-- The mean of a window's conversions; a single conversion is its own mean (R236). -/
def codeMean (cs : List Int) : Int := divFree (cs.foldl (· + ·) 0) cs.length

/-- A result is stored (R235, R236, R242, R243, R248, R249): of the codes within the converter's range the mean, less
the offset in a window, without `VALID` once the converter has failed its diagnosis. -/
def State.convStore (s : State) (i : ConvIx) (j : Job) (codes : List Int) : State :=
  let w := s.convEntry i j.entry
  let rng := codeRange i w
  let cs := (codes.take (max 1 j.n)).map (clampI rng.1 rng.2)
  let bad := decide (2 ≤ s.convs[i].badRounds)
  let raw := codeMean cs
  let opened := codeOpen w rng.2 raw
  let v := if entWin w then clampI rng.1 rng.2 (raw - s.rdI F.CONV_OFFSET_OFFSET i.val) else raw
  let sat := entWin w && (raw == rng.1 || raw == rng.2 || v == rng.1 || v == rng.2)
  let word : Nat := b2n (!bad) * 2 ^ 31 + b2n sat * 2 ^ 30 + b2n opened * 2 ^ 29 + cs.length * 2 ^ 16 + (v % 65536).toNat
  let s := ((s.setWord (F.CONV_RES_VALID.at j.entry.val) i.val (BitVec.ofNat 32 word)).convFinish i j).capResult i w v
  let s := if sat then ((s.flag F.CONV_STATUS_SAT i.val true).evt (E.CONV_SAT i)).irq 8 else s
  let s := if entOwc w = 0 then s else s.openTest i opened
  if bad || opened then s
  else if h : i.val < 12 then s.laneResult i ⟨i.val, h⟩ w j raw v sat else s

/-- A valid sample frame is an uplink frame of its lane (R261). -/
def State.upHeard (s : State) (i : ConvIx) : State :=
  if h : i.val < 12 then s.upLink ⟨i.val, h⟩ fun l => { l with upAt := s.now } else s

/-- A result arrives for a conversion under way (R230, R231). A sample frame whose CRC fails is discarded and counted
(R31). -/
def State.convResult (s : State) (i : ConvIx) (r : ConvRes) : State :=
  match s.convs[i].busy.find? fun j => j.entry == r.entry with
  | some j =>
    if r.crcOk then (s.upHeard i).convStore i j r.codes
    else
      let s := s.convFinish i j
      if h : i.val < 12 then s.evt (E.LINK_CRC ⟨i.val, h⟩) else s
  | none => s

/-! ## Frames of the dq currents -/

/-- The shift of a bridge's dq frame, in turns: the second set of a six-phase pair by `drive.set_shift`
twelfths (chapter 6). -/
def State.frameShift (s : State) (b : Br) : Rat :=
  if s.config = 2 ∧ b = 1 then (s.par P.drive_set_shift : Int) / 12 else 0

/-- The slot that holds the present stage of an engine. -/
def Flight.present (f : Flight) : Option Slot :=
  f.slots.toList.find? fun sl => sl.num == f.cur && (sl.st == .committed || sl.st == .retired)

/-- The angle of a bridge's dq frame now: the committed trajectory while its Flight runs, else the Angle
Clock. -/
def State.frameAngle (s : State) (b : Br) : Rat :=
  (match if s.flightRuns b then s.flights[b].present else none with
    | some sl => sl.chk.traj.at_ (s.dt : Rat)
    | none => s.trackedAt b s.dt) - s.frameShift b

/-! ## Current plausibility (R251) and torque monitor (R311) -/

/-- A violation held for a time: since when, and whether it is due. -/
def heldFor (since : Option Nat) (bad : Bool) (now time : Nat) : Option Nat × Bool :=
  if bad then
    let t := since.getD now
    (some t, decide (t + time ≤ now))
  else (none, false)

/-- The comparison of the monitor currents with the group values, which are 0 while nothing switches. -/
def State.plausCheck (s : State) (b : Br) : State :=
  let runs := s.flightRuns b || s.directArmed b
  let time := s.parN (P.sense_plaus_time b.val) * usCounts
  let step (s : State) (ph : Fin 3) : State :=
    if runs && !(s.flights[b].carried.getD ph.val true) then s
    else
      let g : Int := if runs then s.rdI (F.CONV_GRP_I_I.at (8 * b.val + ph.val)) 0 else 0
      let m := s.bridges[b].mon.getD ph.val 0
      let bad := decide (s.par (P.sense_plaus_abs b.val) * 100 + s.par (P.sense_plaus_rel b.val) * g.natAbs <
        (m - g).natAbs * 100)
      let h := heldFor (s.bridges[b].plausSince.getD ph.val none) bad s.now time
      let s := s.upB b fun x => { x with plausSince := x.plausSince.set ph.val h.1 }
      if h.2 then s.raise FC.CUR_PLAUS (.bridge b) .bridgeSafe else s
  let s := s.each [0, 1, 2] step
  let sum := s.bridges[b].mon.foldl (· + ·) 0
  let h := heldFor s.bridges[b].sumSince (decide (s.parN (P.sense_mon_sum_tol b.val) < sum.natAbs)) s.now time
  let s := s.upB b fun x => { x with sumSince := h.1 }
  if h.2 then s.raise FC.MON_SUM (.bridge b) .degrade else s

/-- The monitored torque in 0.01 N·m; the currents of a locked pair add up. -/
def State.monTorque (s : State) (b : Br) : Rat :=
  let l := (s.lead b).val
  let dq (c : Br) : Rat × Rat :=
    let m := s.bridges[c].mon
    park (s.phaseSense c) (m.getD 0 0 : Int) (m.getD 1 0 : Int) (m.getD 2 0 : Int) (s.frameAngle c)
  let i := (s.group b).foldl (fun (a : Rat × Rat) c => (a.1 + (dq c).1, a.2 + (dq c).2)) (0, 0)
  let psi : Rat := (s.par (P.safety_tm_psi l) : Int)
  let dl : Rat := if s.isPm b then ((s.par (P.safety_tm_ld l) - s.par (P.safety_tm_lq l) : Int) : Rat) else 0
  (3 : Rat) / 2 * (s.polePairs b : Rat) * (psi * i.2 / 10000000000 + dl * i.1 * i.2 / 10000000000000)

/-- The tolerance about a torque, in 0.01 N·m. -/
def State.tmTol (s : State) (b : Br) (t : Int) : Rat :=
  let l := (s.lead b).val
  (s.par (P.safety_tm_tol_abs l) : Int) + (s.par (P.safety_tm_tol_rel l) * t.natAbs : Int) / 100

/-- A torque lies in the window of a torque request. -/
def State.tmInside (s : State) (b : Br) (tm : Rat) (req : Int) : Bool :=
  let tol := s.tmTol b req
  decide (((min 0 req : Int) : Rat) - tol ≤ tm ∧ tm ≤ ((max 0 req : Int) : Rat) + tol)

/-- The monitored torque lies in its permitted window (R311). -/
def State.tmPermitted (s : State) (b : Br) (tm : Rat) : Bool :=
  let l := s.lead b
  let x := s.bridges[l]
  let genLim : Int := s.rd F.FLT_ENV_GEN_LIMIT l
  if s.dst b = .safeStop then
    let mag := ratAbs tm
    if generating tm (s.speed b) then decide (mag ≤ (genLim : Rat) + s.tmTol b genLim)
    else decide (mag ≤ (s.par (P.safety_tm_tol_abs l.val) : Int))
  else if x.mode = some .torque ∧ s.dst b ≠ .discharge ∧ s.bit F.MOD_CTRL_MODE b = false then
    s.tmInside b tm x.torqueReq ||
      (decide (s.now ≤ x.reqAt + s.parN (P.safety_tm_time l.val) * usCounts) && s.tmInside b tm x.prevReq)
  else
    let e : Int := max (s.rd F.FLT_ENV_MOT_LIMIT l : Int) genLim
    decide (ratAbs tm ≤ (e : Rat) + s.tmTol b e)

/-- A lane of the bridge holds a safe plan. -/
def State.onSafePlan (s : State) (b : Br) : Bool := (lanesOf b).any fun (k : LaneIx) => s.lanes[k].onPlan

/-- The torque monitor at a monitor round. -/
def State.torqueMonitor (s : State) (b : Br) : State :=
  if (s.flightRuns b || s.directArmed b) && !s.onSafePlan b then
    let l := s.lead b
    let bad := !s.tmPermitted b (s.monTorque b)
    let h := heldFor s.bridges[b].tmSince bad s.now (s.parN (P.safety_tm_time l.val) * usCounts)
    let s := s.upB b fun x => { x with tmSince := h.1 }
    if h.2 then s.raiseF FC.TORQUE_MON (.bridge b) else s
  else s.upB b fun x => { x with tmSince := none }

/-- The monitor converter of a bridge. -/
def monConv (b : Br) : ConvIx := ⟨12 + b.val, by omega⟩

/-- A monitor round stores its three codes in the entries of their channels; an open-wire entry is no current
sample (R249). -/
def State.monStore (s : State) (b : Br) (codes : List Int) : State :=
  let i := monConv b
  s.each (s.convUsed i) fun s e =>
    let w := s.convEntry i e
    match (if entOwc w = 0 then codes[entChan w]? else none) with
    | some c => s.setWord (F.CONV_RES_VALID.at e.val) i.val (BitVec.ofNat 32 (2 ^ 31 + 2 ^ 16 + c.toNat))
    | none => s

end Sys2Proof.Machine
end

