-- ==== Sys2Proof/Machine/Conv.lean ====
section
/-! DEFINITION. The converter rows: the starts of conversions, their results, the DC-link conversion while the
Flight is stopped, and the monitor round. -/

namespace Sys2Proof.Machine

/-- A sequence start runs entries 0 to `SEQ_LAST` back to back (R234). While the bridge has stages or periods only
an event that they have placed starts a monitor's sequence, and a lane's runs within a committed stage (R231). -/
def execConvSequenceStart (dt : Nat) (i : ConvIx) (s : State) : Out :=
  let s := s.tick dt
  let ev := s.eventFor i none
  let s1 := match ev with | some x => s.takeEvent x.1 x.2 | none => s
  .next (if s.convOn i && (s.byClock i || decide (i.val < 12) || ev.isSome) then
      s1.each (s.convUsed i) fun s e =>
        let w := s.convEntry i e
        s.convDue i ⟨e, entWin w, s.dt + entStime w * convClock i, 1, none⟩
    else s)

/-- A converter sample converts one entry at its instant (R230, R234, R237): by the clock, or by an event of a
committed stage or of a period (R231). -/
def execConvSample (dt : Nat) (i : ConvIx) (e : Fin 16) (s : State) : Out :=
  let s := s.tick dt
  .next (if s.convOn i then
      match s.eventFor i (some e) with
      | some x => (s.takeEvent x.1 x.2).convDue i ⟨e, true, x.2.at_, x.2.n, some x.2.num⟩
      | none => if s.byClock i then s.convDue i ⟨e, true, s.dt, 1, none⟩ else s
    else s)

/-- A conversion or window completes (R235); it has 1 to 256 conversions. -/
def execConvResult (dt : Nat) (i : ConvIx) (r : ConvRes) (s : State) : Out :=
  if !r.wf then .fault .illFormed
  else
    let s := s.tick dt
    .next (if s.convOn i then
        match convBr i with
        | some x => (s.convResult i r).startRetry x.1
        | none => s.convResult i r
      else s)

/-- The DC-link conversion of a bridge whose Flight is stopped, with the codes of its low-side lanes (R244): those
that convert give their results, and the value is formed. -/
def execVdcConversion (dt : Nat) (v : VdcReading) (s : State) : Out :=
  let s := s.tick dt
  let jobs : List (LaneIx × Int) := (lowLanes v.br).zip [v.u, v.v, v.w]
  .next (if s.flightRuns v.br then s else
    (s.each jobs fun s x =>
      if s.convOn (laneConv x.1) && decide (s.convs[laneConv x.1].badRounds < 2) then s.vdcTake x.1 (clampI 0 65535 x.2)
      else s).vdcForm v.br)

/-- The reference of a monitor round while the bridge has stages or periods: a group's event that has come due. -/
def State.monitorDue (s : State) (b : Br) : Option (Option SampleEv) :=
  if s.scheduled b then (s.eventFor (monConv b) none).map fun x => some x.2 else some none

/-- A monitor round with the codes of its three conversions (R250, R251, R311): by the clock, or at the reference
instant of a group. -/
def execMonitorRound (dt : Nat) (b : Br) (iu iv iw : Int) (s : State) : Out :=
  let s := s.tick dt
  let codes := [iu, iv, iw].map (clampI 0 4095)
  .next (if s.convOn (monConv b) && decide (s.convs[monConv b].badRounds < 2) then
      match s.monitorDue b with
      | some ev =>
        let s := match ev with | some v => s.takeEvent b v | none => s
        let s := s.monStore b codes
        let s := s.upB b fun x => { x with mon := codes.map fun c => s.monAmps b c }
        let s := s.irq 9
        let s := if s.flightRuns b || s.directArmed b then s else s.plausCheck b
        s.torqueMonitor b
      | none => s
    else s)

end Sys2Proof.Machine
end

