-- ==== Sys2Proof/Machine/LinkOps.lean ====
section
/-! DEFINITION. The lane links as shared operations (R31 to R36, R258 to R262, R272, R455): the frame of a
downlink slot, the shadow copies that a status frame refreshes, and the relay's leg and bridge rules. -/

namespace Sys2Proof.Machine

/-! ## Downlink -/

/-- The lane links run: their clock is up, or a warm reset leaves them running (R455). -/
def State.linksRun (s : State) : Bool :=
  !s.sys.standby && (match s.sys.rst with
    | none => s.sys.up[3]
    | some .warm => true
    | _ => false)

/-- DTIME at the first bit of the next downlink slot, a multiple of 200 counts (R33). -/
def State.slotAlign (s : State) : State := s.tick ((200 - s.dt % 200) % 200)

/-- The plan code of a lane's headers and whether it is given (R258, R455). -/
def State.headerPlan (s : State) (k : LaneIx) : Nat × Bool :=
  let alt := s.bridges[laneBr k].planOver
  (alt.getD (s.rd F.LANE_PLAN_PLAN k), s.links[k].planGiven || alt.isSome)

/-- The header byte of a frame (R258). -/
def State.downHdr (s : State) (k : LaneIx) (kind : Nat) (flag : Bool) : Nat :=
  let p := s.headerPlan k
  kind * 64 + s.rd F.FCR_STATUS_STO_A * 32 + s.rd F.FCR_STATUS_STO_B * 16 + b2n p.2 * 8 + b2n flag * 4 + p.1 % 4

/-- A frame with its check. -/
def State.downFrame (s : State) (k : LaneIx) (kind : Nat) (flag : Bool) (payload : Nat) : DownFrame :=
  let f : DownFrame := ⟨BitVec.ofNat 8 (s.downHdr k kind flag), BitVec.ofNat 56 payload, 0⟩
  { f with crc := BitVec.ofNat 8 (crc8 Config.linkCrc (downBytes f)) }

/-- The edges that the next edge frame carries: at most two, of one stage. -/
def frameEdges : List (Edge × Nat × Bool) → List (Edge × Nat × Bool)
  | a :: b :: _ => if a.2.1 = b.2.1 then [a, b] else [a]
  | l => l

/-- The payload of an edge frame; an empty second slot has both of its mark bits set (R212). -/
def edgePayload (l : List (Edge × Nat × Bool)) : Nat :=
  let w (i : Nat) : Nat := match l[i]? with | some x => edgeWord x.1 | none => edgeEmpty
  w 0 + w 1 * 2 ^ 28

/-- Remembers the frame sent and counts the slots since the last time mark. -/
def Link.sentFrame (l : Link) (f : DownFrame) : Link := { l with sent := some f, sinceMark := l.sinceMark + 1 }

/-- By how many counts an urgent symbol pair under way delays the start of a frame: at most the 100 ns of the pair,
and how much of it is left no row says (R33, R259). -/
def State.slotDelay (s : State) (k : LaneIx) : Nat :=
  if s.links[k].urgent.isEmpty then 0 else Config.freeNat s.free % 41

/-- A time-mark frame, with the step flag when a step is due (R35); its mark is DTIME at its own first bit (R33,
R259). -/
def State.sendMark (s : State) (k : LaneIx) : State :=
  let f := s.downFrame k 0 s.links[k].step ((s.dt + s.slotDelay k) % 2 ^ 56)
  let s := s.when (!s.links[k].urgent.isEmpty) State.spend
  s.upLink k fun l => { l.sentFrame f with sinceMark := 0, step := false }

/-- What one slot of a lane's downlink carries (R258). -/
def State.sendSlot (s : State) (k : LaneIx) : State :=
  let l := s.links[k]
  if l.stopped then s
  else if !l.edges.isEmpty then
    let es := frameEdges l.edges
    let f := s.downFrame k 1 (es.any fun e => e.2.2) (edgePayload es)
    s.upLink k fun l => { l.sentFrame f with edges := l.edges.drop es.length }
  else if 15 ≤ l.sinceMark then s.sendMark k
  else
    match l.writes, l.sentAt with
    | (off, w) :: _, none =>
      let f := s.downFrame k 2 false (off + w.toNat * 2 ^ 8 + b2n l.toggle * 2 ^ 48)
      s.upLink k fun l => { l.sentFrame f with sentAt := some s.now }
    | _, _ => s.sendMark k

/-! ## Status frames -/

/-- The registers of the LANE window whose shadow is the lane's own word. -/
def shadowAddrs : List Nat :=
  [0x40020100, 0x40020108, 0x40020118, 0x4002011C, 0x40020120, 0x40020124, 0x40020128, 0x4002012C, 0x40020130,
   0x40020134, 0x40020138, 0x40020140, 0x40020150, 0x40020158, 0x40020164, 0x40020168]

/-- The OV2 and OV3 comparators of a low-side lane at a DC-link input, with 2 % hysteresis (R271, R290); that of OV3
rises with its own event. -/
def State.comparators (s : State) (k : LaneIx) (vdc : Int) : State :=
  let two : Int := s.own k F.LANE_OV2_VDC_OV2
  let three : Int := s.own k F.LANE_OV3_VDC_OV3
  s.upLane k fun l => { l with
    ov2 := laneLow k && (decide (two < vdc) || (l.ov2 && decide (98 * two ≤ 100 * vdc)))
    ov3 := laneLow k && l.ov3 && decide (98 * three ≤ 100 * vdc) }

/-- `LANE_STATUS` as a status frame gives it: the state, the age of the plan in µs, the training, the lane's
flags, and the OV2 comparator of a low-side lane. -/
def State.statusWord (s : State) (k : LaneIx) : Word :=
  let l := s.lanes[k]
  let age := min 4095 ((s.now - l.planAt) / usCounts)
  BitVec.ofNat 32 (l.st.code * 2 ^ 28 + age * 2 ^ 16 + b2n l.trained * 2 ^ 10 + b2n l.ov2 * 2) |||
    (s.word F.LANE_STATUS_STATE (laneOwn k) &&& 0x3FC)

/-- `LANE_TRIP` as a status frame gives it; the pair marks are the control die's. -/
def State.tripWord (s : State) (k : LaneIx) : Word :=
  let l := s.lanes[k]
  BitVec.ofNat 32 (b2n (l.st == .latched) * 2 ^ 31 + min 7 (s.laneTries k).length * 2 ^ 24 + b2n l.legLock * 2 ^ 5) |||
    (s.word F.LANE_TRIP_DIDT (laneOwn k) &&& 0x1F) ||| (s.word F.LANE_TRIP_DIDT k &&& 0xC0)

/-- `LANE_CAP_STATUS` as a status frame gives it. -/
def State.capStatus (s : State) (k : LaneIx) : State :=
  let c := s.lanes[k].cap
  (s.flag F.LANE_CAP_STATUS_RECORDING k (c == .recording || c == .post)).flag F.LANE_CAP_STATUS_STOPPED k
    (c == .stopped || c == .copied)

/-- A status frame refreshes the shadow copies of a lane's registers (R258, R262). -/
def State.shadow (s : State) (k : LaneIx) (rd : LaneReading) : State :=
  let s := s.each shadowAddrs fun s a => s.setWord ⟨a, 31, 0⟩ k (s.word ⟨a, 31, 0⟩ (laneOwn k))
  let s := (s.setWord F.LANE_STATUS_STATE k (s.statusWord k)).setWord F.LANE_TRIP_DIDT k (s.tripWord k)
  let s := (s.wr F.LANE_GST_DATA_BIN_A k (s.own k F.LANE_GST_DATA_BIN_A)).wr F.LANE_GST_DATA_STEP k
    (s.gst k (s.own k F.LANE_GST_IDX_INDEX))
  let s := (s.wrI F.LANE_SUPPLY_VDDL k rd.vddl).wrI F.LANE_SUPPLY_VEEL k rd.veel
  let s := (s.wrI F.LANE_DIE_TEMP_TEMP0 k rd.temp0).wrI F.LANE_DIE_TEMP_TEMP1 k rd.temp1
  let s := (s.wr F.LANE_QUEUE_COUNT k s.lanes[k].queue.length).wr F.LANE_QUEUE_HIGH_COUNT k
    (s.own k F.LANE_QUEUE_HIGH_COUNT)
  let s := s.upLane k fun l => { l with
    vddl := rd.vddl
    veel := rd.veel
    hvs := l.hvs && decide (rd.vddl < 9000) }
  s.capStatus k

/-- The write under way is done once the lane reports its toggle (R262). -/
def State.writeConfirm (s : State) (k : LaneIx) : State :=
  let l := s.links[k]
  if l.sentAt.isSome && s.lanes[k].toggle == some l.toggle then
    s.upLink k fun l => { l with writes := l.writes.drop 1, toggle := !l.toggle, sentAt := none }
  else s

/-- The mean of a list, saturated at 16 bits. -/
def meanSat (l : List Nat) : Nat := min 65535 (divFree l.sum l.length).toNat

/-- A lane reports the dead time that it applied since its last status frame; `MOD_DT` shows the mean of the last 64
(R215). -/
def State.deadReport (s : State) (k : LaneIx) : State :=
  let t := s.lanes[k].deadApplied
  if t = 0 then s
  else
    let s := s.upLane k fun l => { l with deadUsed := (t :: l.deadUsed).take 64, deadApplied := 0 }
    let f := if laneLow k then F.MOD_DT_LOW else F.MOD_DT_HIGH
    s.wr (f.at (lanePhase k).val) (laneBr k).val (meanSat s.lanes[k].deadUsed)

/-- The lost heartbeat of a lane as its status frames report it (R260). -/
def State.beatReport (s : State) (k : LaneIx) (lost : Bool) : State :=
  if lost then s.raiseOn FC.LANE_HB (.lane k) (laneClass FC.LANE_HB)
  else if s.links[k].trained then s.condition FC.LANE_HB (.lane k) false else s

/-- The comparators of a low-side lane as its status frames report them (R258, R271, R290). -/
def State.ovReport (s : State) (k : LaneIx) : State :=
  if laneLow k then
    let b := laneBr k
    let any := (lowLanes b).any fun j => s.lanes[j].ov3
    let s := if any then s else s.condition FC.VDC_OV3 (.bridge b) false
    if s.ov2Reported then s.ov2Decide else s.ov2Settle
  else s

/-- A chopper mismatch reported by a lane (R288). -/
def State.chopReport (s : State) (k : LaneIx) : State :=
  let bad := s.lanes[k].mismatch
  let s := s.upLane k fun l => { l with mismatch := false }
  if bad && s.chopEnabled then s.chopFault else s

/-- `LANE_STATUS` of a lane but for the age of its plan, which every frame moves. -/
def State.statusShown (s : State) (k : LaneIx) : Word := s.word F.LANE_STATUS_STATE k &&& 0xF000FFFF

/-- What a valid status frame does (R258); a change of the lane's status is an event of `IRQ_LANE` (R41). -/
def State.statusFrame (s : State) (k : LaneIx) (rd : LaneReading) : State :=
  let old := s.statusShown k
  let s := (s.comparators k rd.vdc).shadow k rd
  let s := if s.statusShown k = old then s else s.irq 11
  let lost := s.lanes[k].hbLost
  let s := s.upLink k fun l => { l with upAt := s.now, trained := s.lanes[k].trained && !lost }
  let s := s.condition FC.LANE_LINK (.lane k) false
  let s := if 13000 ≤ rd.vddl then s.condition FC.LANE_UV_WARN (.lane k) false else s
  let s := ((s.writeConfirm k).beatReport k lost).ovReport k
  let s := (s.chopReport k).stoReadback k rd.gateEnabledA rd.gateEnabledB
  s.deadReport k

/-! ## The relay (R271, R272) -/

/-- Both lanes of a leg have tripped within the window: the leg latches. The lanes learn it with the next frame or
symbol that reaches them (log entry 139); the fault stands from now on. -/
def State.shootThrough (s : State) (k : LaneIx) (t tp : Nat) : State :=
  let p := lanePartner k
  let high := if laneLow k then p else k
  let first := if t = tp then high else if t < tp then k else p
  let latch (s : State) (j : LaneIx) : State :=
    if s.lanes[j].st = .latched then s else s.upLink j fun l => { l with latch := true }
  let s := (latch (latch s first) (lanePartner first)).wr F.LANE_PAIR_KIND 0 2
  let s := (s.wr F.LANE_PAIR_FIRST 0 first.val).wr F.LANE_PAIR_SECOND 0 (lanePartner first).val
  let s := (s.flag F.LANE_TRIP_SHOOT k true).flag F.LANE_TRIP_SHOOT p true
  let s := (s.condition FC.LANE_SHOOT (.lane (lanePartner first)) true).raiseOn FC.LANE_SHOOT (.lane first)
    (laneClass FC.LANE_SHOOT)
  s.laneLatchedFault first

/-- Two legs of a bridge have tripped within the window: the bridge takes its safe state. -/
def State.legPair (s : State) (k j : LaneIx) : State :=
  let b := laneBr k
  let s := ((s.wr F.LANE_PAIR_KIND 0 1).wr F.LANE_PAIR_FIRST 0 j.val).wr F.LANE_PAIR_SECOND 0 k.val
  let s := (s.flag F.LANE_TRIP_PAIR k true).flag F.LANE_TRIP_PAIR j true
  let s := s.each ((lanesOf b).filter fun (i : LaneIx) => !s.lanes[i].st.isOut) fun s i => s.urgent i .planNow
  let s := if s.par (P.lane_pair_state b.val) = 1 then s.upB b fun x => { x with planOver := some 0 } else s
  s.raise FC.LANE_PAIR (.bridge b) (fixedClass FC.LANE_PAIR)

/-- The relay receives `TRIP`: `LEG_LOCK` to the partner, then the leg and bridge rules (R272). A `TRIP`
already handled is the second copy of the pair. -/
def State.tripRelay (s : State) (k : LaneIx) : State :=
  let t := s.lanes[k].tripAt
  if s.lanes[k].st.isOut && !s.trips.contains (k, t) then
    let b := laneBr k
    let win := s.parN (P.lane_pair_window b.val) * usCounts
    let near := s.trips.filter fun x => laneBr x.1 == b && decide (x.2 ≤ t + win ∧ t ≤ x.2 + win)
    let s := { s with trips := (k, t) :: s.trips.filter fun x => x.1 != k }
    let s := s.urgent (lanePartner k) .legLock
    let s := match near.find? fun x => x.1 == lanePartner k with
      | some x => s.shootThrough k t x.2
      | none => s
    match near.find? fun x => x.1.val / 2 != k.val / 2 with
    | some x => s.legPair k x.1
    | none => s
  else s

/-- An urgent symbol has reached its lane. -/
def State.urgentDone (s : State) (k : LaneIx) (u : Urgent) : State :=
  s.upLink k fun l => { l with urgent := l.urgent.erase u }

end Sys2Proof.Machine
end

