-- ==== Sys2Proof/Machine/Lane.lean ====
section
/-! DEFINITION. The lane die rows: its edges, its link, the downlink symbols, its protection and supplies, its
auxiliary output. -/

namespace Sys2Proof.Machine

/-! ## Edges -/

/-- The due entry that comes first. -/
def State.edgeFirst (s : State) (k : LaneIx) (env : EdgeEnv) : Option Edge :=
  (s.lanes[k].queue.filter fun e => s.edgeDue k env e).foldl (fun a e =>
    match a with
    | none => some e
    | some x => if e.at_ < x.at_ then some e else some x) none

/-- A waiting plan turn-on is admitted by the switch node (R274). -/
def State.planTurnOn (s : State) (k : LaneIx) (env : EdgeEnv) : State :=
  let l := s.lanes[k]
  if l.ascWait && l.onPlan && planWants l.effPlan (laneLow k) && s.gateMay k && nodeAdmits env
  then s.gateRise k
  else s

/-- An edge falls due at a lane (R213, R263), or the switch node admits a waiting plan turn-on. -/
def execLaneEdgeExecute (dt : Nat) (lane : LaneIx) (env : EdgeEnv) (s : State) : Out :=
  let s := s.tick dt
  .next (match s.edgeFirst lane env with
    | some e => s.edgeRun lane env e
    | none => s.planTurnOn lane env)

/-- The learning step for a switching time in steps of 78.125 ps, 5/64 ns, at the entry that the edge used; a swing
that takes longer than 1 µs is none (R267). -/
def State.learn (s : State) (k : LaneIx) (off : Bool) (ts : Nat) : State :=
  if s.own k F.LANE_CFG_LEARN = 1 ∧ s.lanes[k].st = .armed ∧ ts ≤ 12800 then
    let x := if off then s.lanes[k].gstOff else s.lanes[k].gstOn
    let g := s.gst k x
    let target : Int := s.own k (if off then F.LANE_GATE_T_OFF else F.LANE_GATE_T_ON)
    let band : Int := s.own k F.LANE_GATE_BAND
    if 64 * (target + band) < 5 * (ts : Int) ∧ g < s.own k F.LANE_GATE_STEP_MAX then s.gstPut k x (g + 1)
    else if 5 * (ts : Int) < 64 * (target - band) ∧ 0 < g then s.gstPut k x (g - 1)
    else s
  else s

/-- A lane has measured a switching time (R267); without a full swing within 1 µs nothing is updated. -/
def execLaneEdgeComplete (dt : Nat) (lane : LaneIx) (t : EdgeMeas) (s : State) : Out :=
  let s := s.tick dt
  .next (match t.time with
    | some ts =>
      (s.ownPut lane (if t.off then F.LANE_MEAS_T_OFF else F.LANE_MEAS_T_ON) (min 65535 ts)).learn lane t.off ts
    | none => s)

/-! ## Link of the lane -/

/-- From the end of a downlink frame to 100 ns after the start of the second slot without one (R260): two slots of
500 ns and 100 ns, less the 450 ns of the frame. -/
def laneBeat : Nat := 260

/-- Two slots without a valid frame (R260): the lane is forced with its present plan. -/
def execLaneHeartbeatLoss (dt : Nat) (lane : LaneIx) (s : State) : Out :=
  let s := s.tick dt
  .next (if s.lanes[lane].trained && decide (s.lanes[lane].lastFrameAt + laneBeat ≤ s.now) then
      let s := s.upLane lane fun l => { l with
        hbLost := true, trained := false
        auxBlocked := l.auxBlocked || s.own lane F.LANE_PLAN_AUX_MODE == 1 }
      ((s.ownFlag lane F.LANE_STATUS_HB_LOST).laneForce lane false).auxApply lane
    else s)

/-- The Lockkeeper gives a lane that has trained the values of its parameters where they differ. -/
def State.laneWelcome (s : State) (k : LaneIx) : State :=
  if s.inBoot then s
  else s.each (s.laneSafety k ++ s.laneNormal k) fun s x =>
    s.laneSet k x.1 (x.2 % (2 ^ (x.1.hi + 1 - x.1.lo) : Int)).toNat

/-- A link has trained (R34, R257): half the round trip is known, and the lane loads its local DTIME from a mark
plus that half; the mark that arrives now left half the round trip ago (DEDUCED, log entry 140). A lane in `UNLINKED` enters `PLAN` with plan `FREEWHEEL`; a forced one stays forced. -/
def execLaneTrained (dt : Nat) (lane : LaneIx) (rt : Nat) (s : State) : Out :=
  let s := s.tick dt
  .next (if s.lanes[lane].selfTestBad then s
    else
      let new := s.lanes[lane].st == .unlinked
      let s := if s.links[lane].sentAt.isSome then s
        else s.upLink lane fun l => { l with toggle := s.lanes[lane].toggle != some true }
      let s := s.upLink lane fun l => { l with trained := true, upAt := s.now }
      let s := s.upLane lane fun l => { l with
        trained := true, half := divFree rt 2, slip := false, hbLost := false, lastFrameAt := s.now
        st := if new then .plan else l.st
        plan := if new then 0 else l.plan
        planGiven := l.planGiven && !new }
      let s := s.markLoad lane (32 * (s.dt : Int) - s.lanes[lane].half)
      (s.laneApply lane).laneWelcome lane)

/-- A lane powers up; its self-test of R432 passes or not. -/
def execLanePowerUp (dt : Nat) (lane : LaneIx) (pass : Bool) (s : State) : Out :=
  let s := ((s.tick dt).laneBlank lane).upLane lane fun l => { l with selfTestBad := !pass }
  let s := s.upLink lane fun l => { l with trained := false }
  .next (if pass then s else s.raiseOn FC.LANE_LINK (.lane lane) (laneClass FC.LANE_LINK))

/-! ## Downlink symbols (R259) -/

/-- `PLAN_NOW` reaches a lane: it is forced with the plan of its last header. -/
def execPlanNowSymbol (dt : Nat) (lane : LaneIx) (s : State) : Out :=
  .next (((s.tick dt).urgentDone lane .planNow).laneForce lane false)

/-- `ASC_NOW` reaches a lane: it is forced with `ASC_LOW`. -/
def execAscNowSymbol (dt : Nat) (lane : LaneIx) (s : State) : Out :=
  .next (((s.tick dt).urgentDone lane .ascNow).laneForce lane true)

/-- `LEG_LOCK` reaches a lane: it holds its gate off (R272). -/
def execLegLockSymbol (dt : Nat) (lane : LaneIx) (s : State) : Out :=
  .next (((((s.tick dt).urgentDone lane .legLock).upLane lane fun l => { l with legLock := true }).latchTake
    lane).laneApply lane)

/-- `LEG_FREE` reaches a lane: the lock ends. -/
def execLegFreeSymbol (dt : Nat) (lane : LaneIx) (s : State) : Out :=
  .next ((((s.tick dt).urgentDone lane .legFree).upLane lane fun l => { l with legLock := false }).laneApply lane)

/-! ## Protection (R264 to R273) -/

/-- The time since the start of a lane's latest turn-on, in 0.1 ns. -/
def State.onFor (s : State) (k : LaneIx) : Nat := 25 * (s.dt - s.lanes[k].gateAt)

/-- The di/dt comparator fires (R269): rising di/dt above `lane.didt_trip` for `lane.didt_filter`, outside the mask
of `lane.edge_mask` from the start of a turn-on. -/
def State.didtFires (s : State) (k : LaneIx) (r : ShortReading) : Bool :=
  decide ((s.own k F.LANE_DIDT_TRIP : Int) < r.didt ∧
    100 + 25 * s.own k F.LANE_DIDT_FILT_FILTER ≤ min r.held (s.onFor k - (300 + 25 * s.own k F.LANE_DIDT_MASK)))

/-- The integrating estimate fires (R269): beyond `lane.int_trip` while the switch conducts; it has no valid zero
under a safe plan. -/
def State.integFires (s : State) (k : LaneIx) (r : ShortReading) : Bool :=
  s.lanes[k].gate && s.lanes[k].st == .armed && decide (s.own k F.LANE_INTEG_TRIP < r.amps.natAbs)

/-- The desaturation check fires (R269): the voltage across the conducting switch above `lane.desat_v` for 100 ns,
later than `lane.desat_blank` after the start of its turn-on. -/
def State.desatFires (s : State) (k : LaneIx) (mv : Int) (held : Nat) : Bool :=
  s.lanes[k].gate && decide ((s.own k F.LANE_DESAT_VOLT : Int) < mv ∧
    1000 ≤ min held (s.onFor k - 10 * s.own k F.LANE_DESAT_BLANK))

/-- A short circuit is decided by the di/dt comparator or by the integrating estimate (R269). -/
def execLaneShortCircuit (dt : Nat) (lane : LaneIx) (r : ShortReading) (s : State) : Out :=
  let s := s.tick dt
  .next (if s.didtFires lane r then s.laneTrip lane .didt
    else if s.integFires lane r then s.laneTrip lane .integ
    else s)

/-- A desaturation is decided (R269). -/
def execLaneDesat (dt : Nat) (v : DesatReading) (s : State) : Out :=
  let s := s.tick dt
  .next (if s.desatFires v.lane v.mv v.held then s.laneTrip v.lane .desat else s)

/-- `VDDL` has fallen below 11.0 V (R265). -/
def execLaneVddlTrip (dt : Nat) (lane : LaneIx) (mv : Int) (s : State) : Out :=
  let s := (s.tick dt).upLane lane fun l => { l with vddl := mv }
  .next (if mv < 11000 then s.laneTrip lane .vddl else s)

/-- `VEEL` lies above its threshold, where one is set (R265). -/
def execLaneVeelTrip (dt : Nat) (lane : LaneIx) (mv : Int) (s : State) : Out :=
  let s := (s.tick dt).upLane lane fun l => { l with veel := mv }
  let limit := s.rdI F.LANE_PROT_VEEL_TRIP (laneOwn lane)
  .next (if limit ≠ 0 ∧ limit < mv then s.laneTrip lane .veel else s)

/-- `VDDL` has fallen below 12.5 V: a warning, whose condition lasts up to 13.0 V, and on bootstrap a refresh at the
next stage (R217, R265). -/
def execLaneVddlWarn (dt : Nat) (lane : LaneIx) (mv : Int) (s : State) : Out :=
  let s := (s.tick dt).upLane lane fun l => { l with vddl := mv }
  .next (if mv < 12500 ∧ s.lanes[lane].st ≠ .unlinked then
      let s := ((s.ownFlag lane F.LANE_STATUS_VDDL_WARN).evt (E.LANE_UV_WARN lane)).raiseOn FC.LANE_UV_WARN
        (.lane lane) .report
      if s.own lane F.LANE_CFG_BOOTSTRAP = 1 then
        s.upMod (laneBr lane) fun m => { m with bstForced := m.bstForced.set (lanePhase lane).val true }
      else s
    else s)

/-- `VDDL` has fallen below 9.0 V (R265, R445): a low-side lane goes on from `HVS` at 45 V or more, with its main
gate off; any other lane is `UNLINKED`. -/
def execLaneSupplyLoss (dt : Nat) (lane : LaneIx) (mv : Int) (hvs : Int) (s : State) : Out :=
  let s := (s.tick dt).upLane lane fun l => { l with vddl := mv }
  .next (if mv < 9000 then
      if laneLow lane ∧ 45000 ≤ hvs ∧ s.lanes[lane].st ≠ .unlinked then
        (s.gateDrop lane).upLane lane fun l => { l with hvs := true }
      else
        (s.upLane lane fun l => { l.gateOff false l.strength with
          st := .unlinked, trained := false, autoDis := false, clamp := false, queue := [] }).auxApply lane
    else s)

/-- The OV3 comparator of a low-side lane fires (R271). -/
def execLaneOv3 (dt : Nat) (lane : LaneIx) (mv : Int) (s : State) : Out :=
  let s := s.tick dt
  let l := s.lanes[lane]
  .next (if laneLow lane && !l.ov3 && l.st != .unlinked && decide ((s.own lane F.LANE_OV3_VDC_OV3 : Int) < mv) then
      ((s.upLane lane fun x => { x with ov3 := true }).ownFlag lane F.LANE_STATUS_OV3).laneForce lane true
    else s)

/-- The condition of a supply trip is still active: it clears 0.5 V beyond its threshold (R265). -/
def State.supplyBad (s : State) (k : LaneIx) : Bool :=
  let l := s.lanes[k]
  let limit := s.rdI F.LANE_PROT_VEEL_TRIP (laneOwn k)
  match l.cause with
  | some .vddl => decide (l.vddl < 11500)
  | some .veel => limit != 0 && decide (limit - 500 < l.veel)
  | _ => false

/-- The retry wait of a tripped lane has ended, with the condition of its trip still active or not (R273). -/
def execLaneRetryWaitEnd (dt : Nat) (lane : LaneIx) (active : Bool) (s : State) : Out :=
  let s := s.tick dt
  .next (if s.lanes[lane].st = .tripped ∧ s.lanes[lane].retryAt + s.own lane F.LANE_RETRY_WAIT * msCounts ≤ s.now then
      if active || s.supplyBad lane then (s.laneLatch lane).laneLatchedFault lane
      else
        let s := (s.laneHome lane).evt (E.LANE_RETRY lane)
        (s.urgent (lanePartner lane) .legFree).laneConds lane
    else s)

/-- A plan turn-on has waited more than 2 µs (R274): it keeps waiting, with `FLT_LANE_ASC`. -/
def execLaneAscWaitTimeout (dt : Nat) (lane : LaneIx) (s : State) : Out :=
  let s := s.tick dt
  let l := s.lanes[lane]
  .next (if l.ascWait && l.onPlan && decide (l.ascAt + 2 * usCounts < s.dt) then
      s.raise FC.LANE_ASC (.lane lane) (laneClass FC.LANE_ASC) else s)

/-! ## Auxiliary output (R286 to R288, R295) -/

/-- The level read back at a chopper lane's `AUXG` has differed from the commanded one for more than 1 µs (R287): its
next status frame reports a mismatch. -/
def execLaneChopMismatch (dt : Nat) (v : ChopReading) (s : State) : Out :=
  let s := s.tick dt
  .next (if s.own v.lane F.LANE_PLAN_AUX_MODE = 1 ∧ s.lanes[v.lane].aux ≠ v.level ∧ 1000 < v.ns then
      s.upLane v.lane fun l => { l with mismatch := true }
    else s)

/-- 200 ms have passed without a valid frame and the DC-link input lies above 50 V: an autonomous discharge
(R295). -/
def execLaneAutoDischarge (dt : Nat) (lane : LaneIx) (mv : Int) (s : State) : Out :=
  let s := s.tick dt
  let l := s.lanes[lane]
  .next (if s.own lane F.LANE_PLAN_AUX_MODE = 2 ∧ l.lastFrameAt + 200 * msCounts ≤ s.now ∧ 50000 < mv ∧
        l.auxBlocked = false ∧ l.st ≠ .unlinked then
      (s.upLane lane fun x => { x with autoDis := true }).auxApply lane
    else s)

/-- An autonomous discharge ends; the lane does not discharge again until it has been released (R295). -/
def execLaneAutoDischargeEnd (dt : Nat) (lane : LaneIx) (cause : AutoDisEnd) (s : State) : Out :=
  let s := s.tick dt
  .next (if s.lanes[lane].autoDis then
      let s := s.upLane lane fun l => { l with autoDis := false, auxBlocked := true }
      let s := if cause == .selfSupply && s.lanes[lane].hvs then
          s.upLane lane fun l => { l with st := .unlinked, trained := false, clamp := false }
        else s
      s.auxApply lane
    else s)

/-! ## Capture (R278, R279) -/

/-- The words after the trigger are recorded (R278): those of the converter, or one of the estimate every 40 ns. -/
def State.capFull (s : State) (k : LaneIx) : Bool :=
  let l := s.lanes[k]
  if s.own k F.LANE_CAP_CTRL_SRC = 0 then decide (s.capAfter k ≤ l.post)
  else decide (l.capAt + 16 * s.capAfter k ≤ s.now)

/-- The words after the trigger are recorded: the capture stops. -/
def execLaneCapStop (dt : Nat) (lane : LaneIx) (s : State) : Out :=
  let s := s.tick dt
  .next (if s.lanes[lane].cap = .post ∧ s.capFull lane = true then s.upLane lane fun l => { l with cap := .stopped } else s)

/-- The copy of a stopped capture is complete on the control die. -/
def execLaneCapCopied (dt : Nat) (lane : LaneIx) (s : State) : Out :=
  let s := s.tick dt
  .next (if s.lanes[lane].cap = .stopped then
      ((s.upLane lane fun l => { l with cap := .copied }).flag F.LANE_CAP_STATUS_COPIED lane true).irq 11
    else s)

end Sys2Proof.Machine
end

