-- ==== Sys2Proof/Machine/ModOps.lean ====
section
/-! DEFINITION. The modulation unit as operations on one stage or period (R201 to R223): the strategies, the
pulse patterns, the leg transitions with their minimum pulse, dead time and refresh, and the low-side windows.
Times inside a stage are fine steps of 78.125 ps counted from DTIME 0. -/

namespace Sys2Proof.Machine

/-! ## Voltage and strategy (R203, R204) -/

/-- A phase voltage of a dq voltage at a frame angle; the phases follow in the order of the sense (R145). -/
def phaseV (sense vd vq th : Rat) (ph : Nat) : Rat :=
  let a := th - sense * (ph : Rat) / 3
  vd * cosT a - vq * sinT a

/-- The modulation index (R203). -/
def modIndex (vd vq vdc : Rat) : Rat :=
  if vdc ≤ 0 then 0 else sqrtQ (vd * vd + vq * vq) * piQ / (2 * vdc)

/-- The index of the highest non-empty point, or of the nearest one, by a distance. -/
def bestPoint (ok : Nat → Bool) (dist : Nat → Rat) : Option Nat :=
  (List.range 256).foldl (fun a i =>
    if ok i then
      match a with
      | none => some i
      | some j => if dist i < dist j then some i else some j
    else a) none

/-- An angle of a pattern, in 2^-16 turn e (R208). -/
def State.oppAngle (s : State) (q i j : Nat) : Nat :=
  let w := (s.memW (0x28012000 + 4 * ((((q - 1) / 2) * 256 + i) * 8 + j / 2))).toNat
  if j % 2 = 0 then w % 65536 else w / 65536

/-- A point of a pattern holds angles. -/
def State.oppFull (s : State) (q i : Nat) : Bool := s.oppAngle q i 0 != 0xFFFF

/-- The non-empty point nearest to an index, the lower one on a tie (R209). -/
def State.oppNearest (s : State) (q : Nat) (m : Rat) : Nat :=
  (bestPoint (s.oppFull q) fun i => ratAbs (m * 255 - (i : Rat))).getD 0

/-- The highest non-empty point of a pulse number. -/
def State.oppTop (s : State) (q : Nat) : Nat :=
  (bestPoint (s.oppFull q) fun i => ((255 - i : Nat) : Rat)).getD 0

/-- The pulse numbers enabled, ascending. -/
def State.oppQs (s : State) (b : Br) : List Nat :=
  ((List.range 8).filter fun k => (s.rd F.MOD_OPP_Q_MASK b).testBit k).map fun k => 2 * k + 1

/-- The pulse number by the electrical frequency: the largest within `mod.opp_fsw_max`, else the smallest. -/
def State.oppQ (s : State) (b : Br) (fe : Rat) : Nat :=
  let qs := s.oppQs b
  ((qs.filter fun q => decide (((2 * q + 1 : Nat) : Rat) * fe ≤ (s.rd F.MOD_OPP_FSW_MAX b : Nat))).getLast?).getD
    (qs.head?.getD 1)

/-- The strategy, pulse number and family asked for (R204). -/
def State.chooseStrat (s : State) (b : Br) (sync : Bool) (prev : Nat) (m fe : Rat) : Nat × Nat × Bool :=
  let six := s.bit F.MOD_OVM_SIX_EN b && decide ((s.rd F.MOD_OVM_SIX_ON b : Nat) ≤ m * 1000)
  let time := s.bit (F.ACLK_STATUS_DOMAIN.at (16 * (s.lead b).val))
  let on := s.rd F.MOD_SYNC_ON b
  let want := if sync then
      !(time || (!six && (on == 0 || decide (fe < (s.rd F.MOD_SYNC_OFF b : Nat)))))
    else !time && (six || (on != 0 && decide ((on : Rat) ≤ fe)))
  if sync then (if six then (3, 0, want) else (4, s.oppQ b fe, want))
  else
    let dp := s.rd F.MOD_DPWM_KIND b != 0 && (decide ((s.rd F.MOD_DPWM_ON b : Nat) ≤ m * 1000) ||
      (prev == 1 && decide ((s.rd F.MOD_DPWM_OFF b : Nat) ≤ m * 1000)))
    let st := if (9069 : Rat) < m * 10000 ∧ s.bit F.MOD_OVM_OVM_EN b = true then 2 else if dp then 1 else 0
    (st, 0, want)

/-- The voltage limit (R203), in the unit of vdc. -/
def State.vMax (s : State) (b : Br) (sync : Bool) (strat q : Nat) (vdc : Rat) : Rat :=
  let full := 2 * vdc / piQ
  if !sync then (if s.bit F.MOD_OVM_OVM_EN b then (98 : Rat) / 100 * full else vdc / sqrtQ 3)
  else if strat = 3 then full
  else (s.oppTop q : Rat) / 255 * full

/-! ## Carrier strategies (R201, R205, R206) -/

def maxQ (a b : Rat) : Rat := if a < b then b else a
def minQ (a b : Rat) : Rat := if a < b then a else b

/-- The common voltage that a strategy adds to the three phase voltages. -/
def zeroSeq (strat kind : Nat) (u v w vdc : Rat) : Rat :=
  let hi := maxQ u (maxQ v w)
  let lo := minQ u (minQ v w)
  if strat = 1 then
    match kind with
    | 1 => if -lo < hi then vdc / 2 - hi else -(vdc / 2) - lo
    | 2 => -(vdc / 2) - lo
    | 3 => vdc / 2 - hi
    | _ => -(hi + lo) / 2
  else -(hi + lo) / 2

/-- The duties of the three legs, each limited to 0 to 1. -/
def dutiesOf (sense : Rat) (strat kind : Nat) (vd vq th vdc : Rat) : List Rat :=
  let u := phaseV sense vd vq th 0
  let v := phaseV sense vd vq th 1
  let w := phaseV sense vd vq th 2
  let z := zeroSeq strat kind u v w vdc
  [u, v, w].map fun x => clampQ 0 1 ((1 : Rat) / 2 + (x + z) / vdc)

/-- The modulation index that the limited duties of a vector of a given index give: the fundamental of leg U over a
turn in 96 steps. -/
def overFund (m : Rat) : Rat :=
  let step (k : Nat) : Rat :=
    let a : Rat := (k : Rat) / 96
    ((dutiesOf 1 2 0 (2 * m / piQ) 0 a 1).getD 0 0 - 1 / 2) * cosT a
  ((List.range 96).foldl (fun a k => a + step k) 0) / 48 * piQ / 2

/-- The index, found by bisection, that a vector must be given for its limited duties to have the fundamental m. -/
def overSearch (m : Rat) : Nat → Rat → Rat → Rat
  | 0, lo, hi => (lo + hi) / 2
  | n + 1, lo, hi =>
    let x := (lo + hi) / 2
    if overFund x < m then overSearch m n x hi else overSearch m n lo x

/-- The duties of the three legs. In `OVM` the vector keeps its angle, and its length is raised so that the
fundamental of the limited duties is the demanded one (R206). -/
def duties (sense : Rat) (strat kind : Nat) (vd vq th vdc : Rat) : List Rat :=
  let m := modIndex vd vq vdc
  let g : Rat := if strat = 2 ∧ 0 < m then overSearch m 16 m 16 / m else 1
  dutiesOf sense strat kind (g * vd) (g * vq) th vdc

/-- The levels of a leg in a carrier stage: a stage from a valley ends high, one from a peak begins high. -/
def carrierPat (valley : Bool) (base len : Int) (d : Rat) : List (Int × Bool) :=
  let on := ratNear (d * (len : Rat))
  if valley then (if on ≤ 0 then [(base, false)] else if len ≤ on then [(base, true)]
      else [(base, false), (base + (len - on), true)])
  else (if on ≤ 0 then [(base, false)] else if len ≤ on then [(base, true)]
      else [(base, true), (base + on, false)])

/-! ## Pulse patterns (R208, R209) -/

/-- The toggles of a pattern over one period, in turns: at 0, at the angles of each quarter wave, and at 1/2. -/
def toggles (as : List Rat) : List Rat :=
  let half : Rat := (1 : Rat) / 2
  let first := as ++ as.reverse.map fun a => half - a
  0 :: first ++ half :: first.map fun a => half + a

/-- The switching angles of a pattern in turns; six-step has none. -/
def State.oppAngles (s : State) (strat q i : Nat) : List Rat :=
  if strat = 3 then [] else (List.range q).map fun j => (s.oppAngle q i j : Rat) / 65536

/-- The transition angle of a pattern in turns. -/
def State.oppTau (s : State) (strat q i : Nat) : Rat :=
  if strat = 3 then 0 else (s.oppAngle q i 15 : Rat) / 65536

/-- The fraction of a number of turns. -/
def fracQ (x : Rat) : Rat := x - x.floor

/-- The level at a pattern angle: the toggles at or below it alternate, the one at 0 goes low. -/
def levelAt (ts : List Rat) (phi : Rat) : Bool :=
  let n := (ts.filter fun t => decide (t ≤ fracQ phi)).length
  n % 2 == 0 && n != 0

/-- The instant in fine steps at which an angle that moves with a trajectory next takes a value, after the
trajectory's start and by the end of its stage (R158). -/
def nextAt (j : Traj) (phi0 target : Rat) (tEnd : Nat) : Option Int :=
  let d := if 0 ≤ j.om then fracQ (target - phi0) else -fracQ (phi0 - target)
  (eventTime j (j.th + d) tEnd).map fun x => 32 * (x.1 : Int) + x.2

/-- Inserts an entry by its time. -/
def insTime {α : Type} (x : Int × α) : List (Int × α) → List (Int × α)
  | [] => [x]
  | y :: r => if x.1 ≤ y.1 then x :: y :: r else y :: insTime x r

/-- Sorts by time. -/
def sortTime {α : Type} (l : List (Int × α)) : List (Int × α) := l.foldr insTime []

/-- The levels of a leg in a synchronous stage, by its pattern angle at the start. -/
def syncPat (j : Traj) (ts : List Rat) (phi0 : Rat) (base : Int) (tEnd : Nat) : List (Int × Bool) :=
  let hits := (List.range ts.length).filterMap fun k =>
    (nextAt j phi0 (ts.getD k 0) tEnd).map fun t =>
      (t, if 0 ≤ j.om then k % 2 == 1 else k % 2 == 0)
  (base, levelAt ts phi0) :: sortTime (hits.filter fun h => decide (base < h.1))

/-- The trajectory carried to an instant. -/
def Traj.rebase (j : Traj) (t : Nat) : Traj := ⟨j.at_ (t : Rat), j.speedAt (t : Rat), j.al, t⟩

/-! ## Transitions of a leg (R207, R214, R216) -/

/-- A leg transition: its fine time, its new level, and whether its turn-on has adaptive dead time. -/
structure Move where
  t : Int
  up : Bool
  dead : Bool
  deriving DecidableEq, Repr

/-- The transitions that take a leg along a pattern from a level. -/
def patMoves : Bool → List (Int × Bool) → List Move
  | _, [] => []
  | l, (t, x) :: r => if x = l then patMoves l r else ⟨t, x, true⟩ :: patMoves x r

/-- Removes the leg intervals shorter than the minimum (R207), and counts them. -/
def dropShort (min : Int) : List Move → List Move × Nat
  | a :: b :: r =>
    if b.t - a.t < min then
      let x := dropShort min r
      (x.1, x.2 + 1)
    else
      let x := dropShort min (b :: r)
      (a :: x.1, x.2)
  | l => (l, 0)

/-- The level at the end of a list of transitions. -/
def endLevel (l : Bool) (ms : List Move) : Bool := match ms.getLast? with | some m => m.up | none => l

/-- When a leg that stands at a level first leaves it along a pattern. -/
def leaves (l : Bool) (pat : List (Int × Bool)) : Option Int := (pat.find? fun e => e.2 != l).map fun e => e.1

/-- The first transition of a stage: one out of a refresh pulse stands and has no dead time (R214, R216), any other
comes no earlier than the minimum after the last one (R207). -/
def firstMove (g : Leg) (min : Int) : List Move → List Move
  | m :: r =>
    if g.pulse then { m with dead := false } :: r
    else if m.t < g.at_ + min ∧ g.at_ < m.t then { m with t := g.at_ + min } :: r
    else m :: r
  | [] => []

/-- The transitions of a leg over a stage under R207: the pattern from where the leg stands, none out of an
interval that was removed, the first no earlier than the minimum after the last one, and none into an interval
that would end too early by the next stage's pattern. With them the number of intervals removed, and whether the
last of them begins at the end of the stage. -/
def legMoves (g : Leg) (pat next : List (Int × Bool)) (min : Int) : List Move × Nat × Bool :=
  let pat := if g.skip then pat.dropWhile fun e => e.2 != g.level else pat
  let x := dropShort min (firstMove g min (patMoves g.level pat))
  match x.1.getLast?, leaves (endLevel g.level x.1) next with
  | some m, some t => if t - m.t < min then (x.1.dropLast, x.2 + 1, true) else (x.1, x.2, false)
  | _, _ => (x.1, x.2, false)

/-- The high segments of a leg over a stage. -/
def highSegs (l : Bool) (a e : Int) : List Move → List (Int × Int)
  | [] => if l then [(a, e)] else []
  | m :: r => (if l ∧ a < m.t then [(a, m.t)] else []) ++ highSegs m.up m.t e r

/-- The common parts of two lists of segments. -/
def meetSegs (x y : List (Int × Int)) : List (Int × Int) :=
  x.flatMap fun p => y.filterMap fun q =>
    let a := max p.1 q.1
    let e := min p.2 q.2
    if a < e then some (a, e) else none

/-- Inserts a transition by its time. -/
def insMove (m : Move) : List Move → List Move
  | [] => [m]
  | x :: r => if m.t ≤ x.t then m :: x :: r else x :: insMove m r

/-- A low pulse in a leg; its turn-ons carry no adaptive dead time (R214). -/
def lowPulse (a e : Int) (ms : List Move) : List Move := insMove ⟨a, false, false⟩ (insMove ⟨e, true, false⟩ ms)

/-- The fine time of an edge command. -/
def mkEdge (t : Int) (on dead : Bool) : Edge := ⟨(t / 32).toNat, (t % 32).toNat, on, false, dead⟩

/-- The lane of a leg that conducts at a level. -/
def sideLane (b : Br) (ph : Fin 3) (up : Bool) : LaneIx := laneIx b ph (if up then 0 else 1)

/-- The edges of a leg's transitions (R214): the turn-off at the transition, the partner's turn-on after the
dead time, neither for a conduction interval that is not longer than it; and whether the conducting lane has
been turned on at the end. -/
def legEdges (b : Br) (ph : Fin 3) (dead : Int) (last : Option Int) : Bool → List Move → List (LaneIx × Edge) × Bool
  | g, [] => ([], g)
  | g, m :: r =>
    let off := if g then [(sideLane b ph (!m.up), mkEdge m.t false false)] else []
    let stop := match r with | x :: _ => some x.t | [] => last
    let on := match stop with | some e => decide (dead < e - m.t) | none => true
    let on' := if on then [(sideLane b ph m.up, mkEdge (m.t + dead) true m.dead)] else []
    let x := legEdges b ph dead last on r
    (off ++ on' ++ x.1, x.2)

/-! ## Low-side windows (R236, R239) -/

/-- The low segments of a leg by the transitions into and out of them, and whether the latter lies inside the
stage; `a` is the transition into the level at the start. -/
def lowSegs (l : Bool) (a : Int) (e : Int) : List Move → List (Int × Int × Bool)
  | [] => if l then [] else [(a, e, false)]
  | m :: r => (if l then [] else [(a, m.t, true)]) ++ lowSegs m.up m.t e r

/-- The averaging interval of a low segment inside a stage from `base`, in counts (R239): after `sense.settle` from
a turn-on that the dead time places in the stage, before `sense.guard`. -/
def avgInterval (base dead settle guard_ : Int) (x : Int × Int × Bool) : Int × Int :=
  let a := if base ≤ x.1 + dead then x.1 + dead + settle else base
  let e := if x.2.2 then x.2.1 - guard_ else x.2.1
  ((a + 31) / 32, e / 32)

/-- The longest of a list of intervals. -/
def longest (l : List (Int × Int)) : Option (Int × Int) :=
  l.foldl (fun a x => match a with
    | none => some x
    | some y => if y.2 - y.1 < x.2 - x.1 then some x else some y) none

/-- The conversions that fit an averaging interval when each takes `per` counts, at most 256 (R236). -/
def convCount (per : Int) (x : Int × Int) : Nat := min 256 ((x.2 - x.1) / per).toNat

/-- The conversion span of an averaging interval: 256 conversions lie centred in a longer one (R236). -/
def convSpan (per : Int) (x : Int × Int) : Int × Int :=
  if 256 < (x.2 - x.1) / per then
    let mid := (x.1 + x.2) / 2
    (mid - 128 * per, mid + 128 * per)
  else x

/-- A parameter in 0.1 ns as fine steps of 78.125 ps. -/
def tenthNs (v : Nat) : Int := divNear (v * 32) 25

/-- The averaging interval of a leg in a stage, the longest of its low-side conduction; `start` is the transition
into the leg's first level. None when it is shorter than `sense.win_min` (R239, R240). -/
def State.legInterval (s : State) (b : Br) (l : Bool) (start base e : Int) (ms : List Move) : Option (Int × Int) :=
  let dead : Int := 32 * (s.rd F.MOD_DEAD_DEAD_MAX b : Int)
  let settle := tenthNs (s.parN (P.sense_settle b.val))
  let guard_ := tenthNs (s.parN (P.sense_guard b.val))
  match longest ((lowSegs l start e ms).map (avgInterval base dead settle guard_)) with
  | some x => if 32 * (x.2 - x.1) < tenthNs (s.parN (P.sense_win_min b.val)) then none else some x
  | none => none

/-- The conversion span of an averaging interval of a leg (R236). -/
def State.legSpan (s : State) (b : Br) (ph : Fin 3) (x : Int × Int) : Nat × Nat :=
  let c := convSpan (convPeriod (s.convEntry (laneConv (lowLane b ph)) 0)) x
  (c.1.toNat, c.2.toNat)

/-- The longest high-side conduction of a leg in a stage outside every dead time, when it is at least
`sense.win_min` long (R243): its centre in counts. -/
def State.offsetAt (s : State) (b : Br) (l : Bool) (start base e : Int) (ms : List Move) : Option Nat :=
  let dead : Int := 32 * (s.rd F.MOD_DEAD_DEAD_MAX b : Int)
  let flip : List Move := ms.map fun m => { m with up := !m.up }
  match longest ((lowSegs (!l) start e flip).map (avgInterval base dead 0 0)) with
  | some x =>
    if 32 * (x.2 - x.1) < tenthNs (s.parN (P.sense_win_min b.val)) then none else some ((x.1 + x.2) / 2).toNat
  | none => none

/-- The group's reference instant: the centre of the longest span, the lower phase on a tie (R239). -/
def refInstant (ws : List (Option (Nat × Nat))) (dflt : Nat) : Nat :=
  match longest ((ws.filterMap id).map fun w => ((w.1 : Int), (w.2 : Int))) with
  | some x => ((x.1 + x.2) / 2).toNat
  | none => dflt

/-! ## A stage or period of the three legs -/

/-- What the unit makes of the three legs over an interval: their transitions and end states, the edges, the
averaging intervals of the low sides, the instants of the offset conversions, and the marks of R207 and R216. -/
structure LegPlan where
  moves : List (List Move)
  legs : List Leg
  edges : List (LaneIx × Edge)
  intervals : List (Option (Int × Int))
  offsets : List (Option Nat)
  dropped : Nat
  refresh : Bool
  forced : Bool
  refreshed : List Bool
  deriving DecidableEq, Repr

/-- The continuous on-time of a high side at the end of an interval, in counts. -/
def onTime (g : Leg) (base e : Int) (ms : List Move) : Nat :=
  match ms.getLast? with
  | some m => if m.up then ((e - m.t) / 32).toNat else 0
  | none => if g.level then g.on + ((e - base) / 32).toNat else 0

/-- A leg whose high-side lane is supplied by bootstrap. -/
def State.bootstrap (s : State) (b : Br) (ph : Nat) : Bool := (s.parN (P.lane_supply_h b.val)).testBit ph

/-- What a refresh makes of the transitions of the three legs: the new transitions, the legs that end low by a pulse
alone, whether a three-leg or a single-leg pulse was inserted, and the legs served. -/
structure Refreshed where
  moves : List (List Move)
  pulses : List Bool
  three : Bool
  single : Bool
  served : List Bool
  deriving DecidableEq, Repr

/-- A refresh as a function of the transitions. -/
abbrev Refresh := List (List Move) → Refreshed

/-- No refresh in an interval. -/
def noRefresh : Refresh := fun mss => ⟨mss, [false, false, false], false, false, [false, false, false]⟩

/-- A refresh of a leg is forced and no stage computed ahead carries one yet (R217). -/
def State.forcedNow (s : State) (b : Br) (ph : Nat) : Bool :=
  s.mods[b].bstForced.getD ph false &&
    !(s.flights[b].slots.toList.any fun sl => sl.st == .speculative && sl.refreshed.getD ph false)

/-- A leg that is low from `a` to the end of its interval. -/
def lowFrom (a : Int) (l : Bool) (ms : List Move) : List Move :=
  let before := ms.filter fun m => decide (m.t < a)
  if endLevel l before then before ++ [⟨a, false, false⟩] else before

/-- The bootstrap refresh of R216 on the transitions of a stage, within the limit of R172. -/
def State.refresh (s : State) (b : Br) (gs : List Leg) (cap : Nat) (base e : Int) : Refresh := fun mss =>
  let len := ((e - base) / 32).toNat
  let lim := s.rd F.MOD_BST_ON_MAX b * usCounts
  let r : Int := 32 * (s.rd F.MOD_BST_REFRESH b : Int)
  let dead : Int := 32 * (s.rd F.MOD_DEAD_DEAD_MAX b : Int)
  let g (ph : Nat) : Leg := gs.getD ph Leg.reset
  let m (ph : Nat) : List Move := mss.getD ph []
  let need (k : Nat) (ph : Nat) : Bool :=
    s.bootstrap b ph && (decide (lim < onTime (g ph) base e (m ph) + k * len) || s.forcedNow b ph)
  if ((List.range 3).filter (need 2)).isEmpty then noRefresh mss
  else
    let seg (ph : Nat) : List (Int × Int) := highSegs (g ph).level base e (m ph)
    let fits := (List.range 3).all fun ph => decide ((m ph).length + 2 ≤ cap)
    let common := (meetSegs (meetSegs (seg 0) (seg 1)) (seg 2)).filter fun x => decide (r + 2 * dead ≤ x.2 - x.1)
    match (if fits then common.head? else none) with
    | some x =>
      let a := (x.1 + x.2) / 2 - r / 2
      ⟨mss.map (lowPulse a (a + r)), [false, false, false], true, false, [true, true, true]⟩
    | none =>
      let served := (List.range 3).map fun ph => need 1 ph &&
        decide ((lowFrom (e - r) (g ph).level (m ph)).length ≤ cap)
      ⟨(List.range 3).map fun ph =>
          if served.getD ph false then lowFrom (e - r) (g ph).level (m ph) else m ph,
        (List.range 3).map fun ph => served.getD ph false && endLevel (g ph).level (m ph),
        false, served.any id, served⟩

/-- In direct modulation mode the pulse is inserted in the leg concerned at the period boundary (R216); `len` is
the coming period in counts. -/
def State.refreshDirect (s : State) (b : Br) (gs : List Leg) (base : Int) (len : Nat) : Refresh := fun mss =>
  let lim := s.rd F.MOD_BST_ON_MAX b * usCounts
  let r : Int := 32 * (s.rd F.MOD_BST_REFRESH b : Int)
  let g (ph : Nat) : Leg := gs.getD ph Leg.reset
  let need (ph : Nat) : Bool :=
    s.bootstrap b ph && (((g ph).level && decide (lim < (g ph).on + len)) || s.mods[b].bstForced.getD ph false)
  let served := (List.range 3).map need
  ⟨(List.range 3).map fun ph =>
      let m := mss.getD ph []
      if need ph && (g ph).level then lowPulse base (base + r) m else m,
    [false, false, false], false, served.any id, served⟩

/-- At most so many transitions; one that is left out is made up for at the start of the next stage. -/
def capMoves (cap : Option Nat) (x : List Move × Nat × Bool) : List Move × Nat × Bool :=
  match cap with
  | some n => if n < x.1.length then (x.1.take n, x.2.1, false) else x
  | none => x

/-- The three legs over an interval with their patterns, those of the interval that follows, and a refresh; a stage
admits only so many transitions of a leg (R172). `fresh`:
no lane has been turned on yet, so each leg turns on the lane of its level at the start, unless that lane's conduction
interval is not longer than the dead time (R214). -/
def State.legPlan (s : State) (b : Br) (gs : List Leg) (fresh : Bool) (cap : Option Nat) (base e : Int)
    (pats nexts : List (List (Int × Bool))) (refresh : Refresh) : LegPlan :=
  let min : Int := 32 * (s.rd F.MOD_PULSE_MIN_PULSE b : Int)
  let dead : Int := 32 * (s.rd F.MOD_DEAD_DEAD_MAX b : Int)
  let g (ph : Nat) : Leg := gs.getD ph Leg.reset
  let raw := (List.range 3).map fun ph => capMoves cap (legMoves (g ph) (pats.getD ph []) (nexts.getD ph []) min)
  let rf := refresh (raw.map fun x => x.1)
  let ms (ph : Nat) : List Move := rf.moves.getD ph []
  let edges := ([0, 1, 2] : List (Fin 3)).map fun ph =>
    let l := (g ph.val).level
    let m := ms ph.val
    let out := leaves (endLevel l m) (nexts.getD ph.val [])
    let first : Option Int := match m.head? with | some x => some x.t | none => out
    let go := fresh && (match first with | some t => decide (dead < t - base) | none => true)
    let start := if go then [(sideLane b ph l, mkEdge (base + dead) true false)] else []
    let x := legEdges b ph dead out (if fresh then go else (g ph.val).gate) m
    (start ++ x.1, x.2)
  let legs := (List.range 3).map fun ph =>
    let x := raw.getD ph ([], 0, false)
    let l : Leg := ⟨endLevel (g ph).level (ms ph), match (ms ph).getLast? with | some m => m.t | none => (g ph).at_,
      onTime (g ph) base e (ms ph), x.2.2, (edges.getD ph ([], false)).2, rf.pulses.getD ph false⟩
    l
  let start (ph : Nat) : Int := if fresh then base else (g ph).at_
  { moves := rf.moves
    legs := legs
    edges := (edges.map fun x => x.1).flatten
    intervals := (List.range 3).map fun ph => s.legInterval b (g ph).level (start ph) base e (ms ph)
    offsets := (List.range 3).map fun ph => s.offsetAt b (g ph).level (start ph) base e (ms ph)
    dropped := (raw.map fun x => x.2.1).foldl (· + ·) 0
    refresh := rf.three
    forced := rf.single
    refreshed := rf.served }

/-! ## Sample events (R230, R231, R234, R238) -/

/-- The conversion spans of the legs. -/
def State.legSpans (s : State) (b : Br) (ivs : List (Option (Int × Int))) : List (Option (Nat × Nat)) :=
  ([0, 1, 2] : List (Fin 3)).map fun ph => (ivs.getD ph.val none).map (s.legSpan b ph)

/-- The first entry in use of an instance that converts a channel outside a window. -/
def State.plainEntry (s : State) (i : ConvIx) (chan : Nat) : Option (Fin 16) :=
  (s.convUsed i).find? fun e => entChan (s.convEntry i e) == chan && !entWin (s.convEntry i e)

/-- The sample events of a stage or period: a window entry for each leg whose interval is not short, the DC-link
conversions and the monitor's sequence at the reference instant (R244, R250), and the offset conversions (R243). -/
def State.sampleEvs (s : State) (b : Br) (num refAt : Nat) (ivs : List (Option (Int × Int)))
    (offs : List (Option Nat)) : List SampleEv :=
  let legs := ([0, 1, 2] : List (Fin 3)).flatMap fun ph =>
    let k := lowLane b ph
    let i := laneConv k
    let tgt := k.val % 6
    let win : Option SampleEv := (ivs.getD ph.val none).bind fun x =>
      if entWin (s.convEntry i 0) then
        some ⟨tgt, some 0, (s.legSpan b ph x).1, convCount (convPeriod (s.convEntry i 0)) x, num⟩
      else none
    let vdc : Option SampleEv := (s.plainEntry i 2).map fun e => ⟨tgt, some e, refAt, 1, num⟩
    let off : Option SampleEv := (offs.getD ph.val none).bind fun t =>
      (s.plainEntry i 0).map fun e => ⟨tgt, some e, t, 1, num⟩
    [win, vdc, off].filterMap id
  legs ++ [⟨6, none, refAt, 1, num⟩]

/-- The sample events of a committed stage or of a period wait for their instants. -/
def State.placeSamples (s : State) (b : Br) (evs : List SampleEv) : State :=
  s.upFl b fun f => { f with due := f.due ++ evs }

/-! ## Sending edges (R212) -/

/-- The commanded edges of the high-side lanes are noted for the pulse outputs (R225); of those past only the
latest of each leg is kept. -/
def State.noteMoves (s : State) (b : Br) (es : List (LaneIx × Edge)) : State :=
  let new := (es.filter fun x => !laneLow x.1).map fun x =>
    ((lanePhase x.1).val, 32 * (x.2.time : Int) + (x.2.fine : Int), x.2.on)
  let all := s.mods[b].moves ++ new
  let past (m : Nat × Int × Bool) : Bool := decide (m.2.1 ≤ 32 * (s.dt : Int))
  let last := [0, 1, 2].filterMap fun ph => ((all.filter fun m => m.1 == ph && past m).getLast?)
  s.upMod b fun m => { m with moves := last ++ all.filter fun m => !past m }

/-- The level that a pulse output shows (R225). -/
def State.pulseOut (s : State) (b : Br) (ph : Nat) : Bool :=
  match (s.mods[b].moves.filter fun m => m.1 == ph && decide (m.2.1 ≤ 32 * (s.dt : Int))).getLast? with
  | some m => m.2.2
  | none => false

/-- Committed edges wait to be sent; the first of a lane carries the capture mark when the stage or period
number [7:0] is the lane's `MATCH`, unless an earlier edge of the lane has carried that of the period. -/
def State.holdEdges (s : State) (b : Br) (num : Nat) (done : List LaneIx) (es : List (LaneIx × Edge)) : State :=
  let mk (k : LaneIx) (es : List Edge) : List Held :=
    match es with
    | [] => []
    | e :: r => ⟨k, e, num, s.rd F.LANE_CAP_CTRL_MATCH k == num % 256 && !done.contains k⟩ ::
        r.map fun e => ⟨k, e, num, false⟩
  let held := (lanesOf b).flatMap fun (k : LaneIx) => mk k ((es.filter fun x => x.1 == k).map fun x => x.2)
  s.upMod b fun m => { m with plan := m.plan ++ held }

/-- The edges of a lane that have come within 1.2 ms are sent to its link. -/
def State.sendEdges (s : State) (k : LaneIx) : State :=
  let b := laneBr k
  let due (h : Held) : Bool := h.lane == k && decide (h.edge.time ≤ s.dt + 480000)
  let go := s.mods[b].plan.filter due
  let s := s.upMod b fun m => { m with plan := m.plan.filter fun h => !due h }
  s.upLink k fun l => { l with edges := l.edges ++ go.map fun h => (h.edge, h.num, h.mark) }

/-- The edges of all lanes of a bridge that may be sent. -/
def State.sendAll (s : State) (b : Br) : State := s.each (lanesOf b) State.sendEdges

/-! ## Direct modulation mode (R219 to R223) -/

/-- The duty of a leg's high side in fine steps over a period (R221). -/
def State.directDuty (s : State) (b : Br) (ph : Nat) : Nat :=
  let full := 32 * s.rd F.MOD_PERIOD_ACT_PERIOD b
  let d := s.rd (F.MOD_DUTY_ACT_COUNT.at ph) b * 32 + s.rd (F.MOD_DUTY_ACT_FINE.at ph) b
  if (s.rd F.MOD_CTRL_INVERT b).testBit ph then full - d else d

/-- The levels of a leg over a period of the given start and length, by its duty (R221). -/
def directPat (base full d : Int) : List (Int × Bool) :=
  if d ≤ 0 then [(base, false)]
  else if full ≤ d then [(base, true)]
  else
    let t := base + (full - d) / 2
    [(base, false), (t, true), (t + d, false)]

/-- `SWAP` sends a leg's high-side edges to its low-side lane and the low-side edges to its high-side lane: the leg's
levels are inverted, so that the refresh acts on the lanes themselves (R221). -/
def State.swapPat (s : State) (b : Br) (ph : Nat) (pat : List (Int × Bool)) : List (Int × Bool) :=
  if (s.rd F.MOD_CTRL_SWAP b).testBit ph then pat.map fun x => (x.1, !x.2) else pat

/-- The levels of the three legs over a period by the active duties. -/
def State.directPats (s : State) (b : Br) (base full : Int) : List (List (Int × Bool)) :=
  (List.range 3).map fun ph => s.swapPat b ph (directPat base full (s.directDuty b ph))

/-- The low-side intervals nearest to the end of a period (R238): each leg's transitions go on by the pattern of the
next period to its middle. -/
def State.boundaryIntervals (s : State) (b : Br) (gs : List Leg) (base e half : Int) (mss : List (List Move))
    (nexts : List (List (Int × Bool))) : List (Option (Int × Int)) :=
  let dead : Int := 32 * (s.rd F.MOD_DEAD_DEAD_MAX b : Int)
  let settle := tenthNs (s.parN (P.sense_settle b.val))
  let guard_ := tenthNs (s.parN (P.sense_guard b.val))
  (List.range 3).map fun ph =>
    let g := gs.getD ph Leg.reset
    let ms := mss.getD ph []
    let on := (patMoves (endLevel g.level ms) (nexts.getD ph [])).filter fun m => decide (m.t < e + half)
    let far (x : Int × Int) : Int := max 0 (max (32 * x.1 - e) (e - 32 * x.2))
    let ivs := (lowSegs g.level g.at_ (e + half) (ms ++ on)).map (avgInterval base dead settle guard_)
    let best := ivs.foldl (fun a x => match a with
      | none => some x
      | some y => if far x < far y then some x else some y) none
    best.bind fun x => if 32 * (x.2 - x.1) < tenthNs (s.parN (P.sense_win_min b.val)) then none else some x

/-- The sample events of the group about the end of a period: its reference instant is the centre of the longest
span, and the number that of the period which begins there (R238). -/
def State.boundarySamples (s : State) (b : Br) (gs : List Leg) (base e half : Int) (lp : LegPlan)
    (nexts : List (List (Int × Bool))) : State :=
  let ivs := s.boundaryIntervals b gs base e half lp.moves nexts
  let refAt := refInstant (s.legSpans b ivs) (e / 32).toNat
  s.placeSamples b (s.sampleEvs b (s.rd F.MOD_PERIOD_CNT_COUNT b + 1) refAt ivs lp.offsets)

/-- The edges of an interval of a period are formed from the patterns of the legs and go to the lanes; the marks
of R207 and R216 show. The sample group about the end of the period is placed with the edges before it. -/
def State.directForm (s : State) (b : Br) (base e : Int) (pats nexts : List (List (Int × Bool)))
    (last : Bool) (refresh : Refresh) : State :=
  let gs := s.mods[b].legs
  let lp := s.legPlan b gs (gs.all fun g => !g.gate) none base e pats nexts refresh
  let s := s.when last fun s => s.boundarySamples b gs base e (16 * s.rd F.MOD_PERIOD_ACT_PERIOD b) lp nexts
  let done := s.mods[b].marked
  let s := s.upMod b fun m => { m with
    legs := lp.legs
    bstForced := (List.range 3).map fun k => m.bstForced.getD k false && !lp.refreshed.getD k false
    marked := done ++ lp.edges.map fun x => x.1 }
  let s := s.when (lp.dropped != 0) fun s =>
    (s.flag F.MOD_STATUS_PULSE_DROP b true).evtN (E.MOD_PULSE_DROP b) lp.dropped
  let s := s.when lp.forced fun s => s.flag F.MOD_STATUS_BST_FORCED b true
  ((s.noteMoves b lp.edges).holdEdges b (s.rd F.MOD_PERIOD_CNT_COUNT b) done lp.edges).sendAll b

/-- The end of the present period and its middle, in fine steps. -/
def ModU.perEnd (m : ModU) : Nat := m.perStart + m.firstHalf + m.secondHalf
def ModU.perMid (m : ModU) : Nat := m.perStart + m.firstHalf

/-- The load point of the present period in fine steps (R222). -/
def State.loadPoint (s : State) (b : Br) : Nat :=
  if s.bit F.MOD_CTRL_LOAD_MID b then s.mods[b].perMid else s.mods[b].perEnd

/-- The commit buffer becomes active at a load point if it was committed before it, with the clamp of R223. -/
def State.loadBuffer (s : State) (b : Br) : State :=
  match s.mods[b].buf with
  | some (p, ds, at_) =>
    if 32 * at_ + 32 ≤ s.loadPoint b then
      let full := 32 * p
      let d (k : Nat) : Nat := min full (ds.getD k 0)
      let s := s.wr F.MOD_PERIOD_ACT_PERIOD b p
      let s := s.each [0, 1, 2] fun s k =>
        (s.wr (F.MOD_DUTY_ACT_COUNT.at k) b (d k / 32)).wr (F.MOD_DUTY_ACT_FINE.at k) b (d k % 32)
      let s := s.when (ds.any fun x => decide (full < x)) fun s => s.flag F.MOD_STATUS_CLAMP b true
      (s.flag F.MOD_STATUS_PENDING b false).upMod b fun m => { m with buf := none }
    else s
  | none => s

/-- The second half of a period: the turn-off of each leg that is high lies at the middle plus half its duty
(R221). -/
def State.directHalf (s : State) (b : Br) : State :=
  let m := s.mods[b]
  let mid : Int := m.perMid
  let full : Int := 32 * (s.rd F.MOD_PERIOD_ACT_PERIOD b : Int)
  let off (ph : Nat) : List (Int × Bool) :=
    let d : Int := s.directDuty b ph
    let swap := (s.rd F.MOD_CTRL_SWAP b).testBit ph
    s.swapPat b ph (if (m.legs.getD ph Leg.reset).level == swap then [(mid, false)]
      else if full ≤ d then [(mid, true)]
      else if d ≤ 0 then [(mid, false)]
      else [(mid, true), (mid + d / 2, false)])
  let s := s.upMod b fun m => { m with midDue := false }
  s.directForm b mid m.perEnd ((List.range 3).map off) (s.directPats b m.perEnd full) true noRefresh

/-- The load point at mid-period: the buffer becomes active, a new period sets the length of the second half, and
its edges are formed while `ARM` is 1 (R219, R221, R222). -/
def State.midLoad (s : State) (b : Br) : State :=
  let s := s.loadBuffer b
  let s := s.upMod b fun m => { m with secondHalf := 16 * s.rd F.MOD_PERIOD_ACT_PERIOD b }
  if s.mods[b].midDue && s.bit F.MOD_CTRL_ARM b then s.directHalf b else s

/-- A period begins at the end of the one before it (R221): the counter advances and, while `ARM` is 1, its
edges are formed with any refresh pulse, those of its second half at the middle when the load point is there. -/
def State.directPeriod (s : State) (b : Br) (armed : Bool) : State :=
  let s := if s.mods[b].midDue && armed then s.directHalf b else s
  let p := s.rd F.MOD_PERIOD_ACT_PERIOD b
  let start := s.mods[b].perEnd
  let s := s.wr F.MOD_PERIOD_CNT_COUNT b (s.rd F.MOD_PERIOD_CNT_COUNT b + 1)
  let s := s.upMod b fun m => { m with perStart := start, firstHalf := 16 * p, secondHalf := 16 * p, marked := [] }
  if armed then
    let base : Int := start
    let full : Int := 32 * p
    let halfway := s.bit F.MOD_CTRL_LOAD_MID b
    let e : Int := if halfway then base + full / 2 else base + full
    let pats := s.directPats b base full
    let cut := pats.map fun l => l.filter fun x => decide (x.1 < e)
    let nexts := if halfway then pats.map fun l => l.filter fun x => decide (e ≤ x.1) else s.directPats b e full
    let s := s.upMod b fun m => { m with midDue := halfway }
    s.directForm b base e cut nexts (!halfway) (s.refreshDirect b s.mods[b].legs base p)
  else s.upMod b fun m => { m with legs := ModU.reset.legs, midDue := false }

end Sys2Proof.Machine
end

