-- ==== Sys2Proof/Machine/Stop.lean ====
section
/-! DEFINITION. The ends of a stop, of a safe stop, of the degraded time and of a Pilot hold (R119, R120,
R124, R125, R309). -/

namespace Sys2Proof.Machine

/-- `DRIVE_STOP_RAMP_DONE` (R119, R120): the torque ramp has reached 0; gates off, `READY`. -/
def execDriveStopRampDone (dt : Nat) (b : Br) (s : State) : Out :=
  let s := s.tick dt
  let b := s.lead b
  match s.bridges[b].stopping with
  | some (false, t0) => .next (if (s.dst b).isDriving && s.rampOver b t0 then s.enter b .ready else s)
  | _ => .next s

/-- The speed has stayed below `drive.zero_speed` for `drive.zero_hold` (R120). -/
def State.standsStill (s : State) (b : Br) : Bool :=
  match s.bridges[b].slowSince with
  | some t => decide (t + s.parN P.drive_zero_hold * msCounts ≤ s.now)
  | none => false

/-- The torque ramps to 0 from the present braking torque (R120); in current mode from the present references. -/
def State.stopRamp (s : State) (b : Br) : State :=
  s.each (s.group b) fun s c => s.upB c fun x => { x with
    stopping := some (false, s.now), stopTorque := x.torqueRef
    dSet := s.rdI F.FLT_IREF_D_IREF (s.lead c), qSet := s.rdI F.FLT_IREF_Q_IREF (s.lead c) }

/-- `DRIVE_STOP_STANDSTILL` (R120): the speed has stayed below `drive.zero_speed` for `drive.zero_hold`. -/
def execDriveStopStandstill (dt : Nat) (b : Br) (s : State) : Out :=
  let s := s.tick dt
  let b := s.lead b
  match s.bridges[b].stopping with
  | some (true, _) =>
    .next (if (s.dst b).isDriving && s.standsStill b then s.enter b .ready else s)
  | _ => .next s

/-- `DRIVE_STOP_TIMEOUT` (R120): no standstill within `drive.stop_max`; the torque ramps to 0 as for kind 0,
with `FLT_STOP_TIMEOUT`. -/
def execDriveStopTimeout (dt : Nat) (b : Br) (s : State) : Out :=
  let s := s.tick dt
  let b := s.lead b
  match s.bridges[b].stopping with
  | some (true, t0) =>
    .next (if (s.dst b).isDriving && decide (t0 + s.parN P.drive_stop_max * msCounts ≤ s.now) then
        (s.stopRamp b).raiseF FC.STOP_TIMEOUT (.bridge b)
      else s)
  | _ => .next s

/-- `SAFE_STOP_COMPLETE` (R309, R104 rows 17 and 18): the speed has fallen below `safety.ss1_zero`. -/
def execSafeStopComplete (dt : Nat) (b : Br) (s : State) : Out :=
  let s := s.tick dt
  let b := s.lead b
  .next (if s.dst b = .safeStop ∧ s.speedMag b < s.parN P.safety_ss1_zero then s.safeStopDone b false else s)

/-- `DEGRADED_TIMER_EXPIRY` (R123, R124, R104 row 16). -/
def execDegradedTimerExpiry (dt : Nat) (b : Br) (s : State) : Out :=
  let s := s.tick dt
  let b := s.lead b
  .next (if s.dst b = .degraded ∧ s.bridges[b].degLeft = 0 then s.safeStopCause b else s)

/-- `PILOT_HOLD_TIMEOUT` (R125): the Pilot has not resumed within 50 ms of the hold. -/
def execPilotHoldTimeout (dt : Nat) (b : Br) (s : State) : Out :=
  let s := s.tick dt
  let b := s.lead b
  match s.flights[b].holdAt with
  | some t => .next (if s.bit F.FLT_CTRL_HOLD b && (s.dst b).isDriving && decide (t + 50 * msCounts ≤ s.now) then
      s.raiseOn FC.PILOT_HOLD (.bridge b) (fixedClass FC.PILOT_HOLD)
    else s)
  | none => .next s

end Sys2Proof.Machine
end

