-- ==== Sys2Proof/Machine/FlightOps.lean ====
section
/-! DEFINITION. The Flight engines as shared operations (R166 to R195): the computation of a stage, its commit,
verification, retirement, the boundary, and the references that the Pilot writes. -/

namespace Sys2Proof.Machine

/-! ## Slots -/

/-- The slot that holds a stage number, if it still does. -/
def Flight.stage (f : Flight) (n : Nat) : Option Slot :=
  let sl := f.slots[slotIx n]
  if sl.num = n ∧ (sl.st = .speculative ∨ sl.st = .committed ∨ sl.st = .retired) then some sl else none

/-- The events of a stage in the Angle Event Table (R161): its boundary, its edges with lane, polarity and auxiliary
mark, and its sample events; at most 224 (R163). -/
def Slot.tableEvs (sl : Slot) : List TableEv :=
  let edge (x : LaneIx × Edge) : TableEv := ⟨2, x.1.val % 6, b2n x.2.on + 2 * b2n x.2.aux, x.2.time⟩
  let sample (x : SampleEv) : TableEv :=
    match x.entry with
    | some e => ⟨3, x.target, e.val, x.at_⟩
    | none => ⟨4, x.target, 0, x.at_⟩
  ((⟨1, 0, 0, sl.start⟩ : TableEv) :: sl.edges.map edge ++ sl.samples.map sample).take 224

/-- Replaces the contents of a slot. -/
def State.putSlot (s : State) (b : Br) (sl : Slot) : State :=
  s.upFl b fun f => { f with slots := f.slots.set (slotIx sl.num) sl }

/-- The depth in force (R167, R179). -/
def Flight.ahead (f : Flight) : Nat := if f.shallow then 1 else max 1 f.depth

/-- The engine may compute its next stage (R167). -/
def State.mayCompute (s : State) (b : Br) : Bool :=
  let f := s.flights[b]
  s.bit F.FLT_CTRL_ENABLE b && decide (f.next ≤ if f.begun then f.cur + f.ahead else f.ahead - 1)

/-! ## References (R182 to R184, R195) -/

/-- The torque is held at 0 N·m: a lane of the bridge waits for its retry (R104), or the initial position detection
runs (R157). -/
def State.torqueHeld (s : State) (b : Br) : Bool := (s.group b).any fun c => s.retryHold c || s.bridges[c].ipd

/-- The reference that the engine reads: while the hold is in force that of the last committed stage. -/
def State.refRead (s : State) (b : Br) : Int × Int :=
  let l := s.lead b
  let f := s.flights[l]
  if s.bit F.FLT_STATUS_HOLD_ACTIVE l then (f.refD, f.refQ)
  else (s.rdI F.FLT_IREF_D_IREF l, s.rdI F.FLT_IREF_Q_IREF l)

/-- The reference as R183 clamps it; held torque has no q-axis current. -/
def State.refClamped (s : State) (b : Br) (r : Int × Int) : RefClamp :=
  let c := s.clampRef (s.lead b) (r.1 : Rat) (r.2 : Rat)
  if s.torqueHeld b then { c with iq := 0 } else c

/-- The share of the reference that an engine carries (R195). -/
def State.refShare (s : State) (b : Br) : Rat :=
  if !s.lockedPair then 1
  else if s.config == 2 && s.bridges[mate b].setSafe then 1
  else (1 : Rat) / 2

/-! ## The control law (R187) -/

/-- The state of a machine: fluxes in nWb, currents in mA, and whether a map was clamped on the way to it (R186). -/
structure DqState where
  pd : Rat
  pq : Rat
  id : Rat
  iq : Rat
  clamp : Bool
  deriving DecidableEq, Repr

/-- The electrical angular speed of a trajectory at an instant, in rad/s. -/
def Traj.omega (j : Traj) (t : Rat) : Rat := radPerSec (j.speedAt t)

/-- The change of a state over a time in counts with a voltage in mV (R187); 1 mV over one count is 1/400 nWb. -/
def State.advance (s : State) (b : Br) (x : DqState) (vd vq dd dq om dt : Rat) : DqState :=
  let rs : Rat := (s.rd F.FLT_RS_RS b : Nat)
  let k := dt / 400
  let pd := x.pd + k * (vd + dd - rs * x.id / 1000000 + om * x.pq / 1000000)
  let pq := x.pq + k * (vq + dq - rs * x.iq / 1000000 - om * x.pd / 1000000)
  let i := s.amps (s.machine b) pd pq
  ⟨pd, pq, i.1, i.2.1, x.clamp || i.2.2⟩

/-- What the control law gives: the voltage, whether it was limited, and the end state. -/
structure Law where
  vd : Rat
  vq : Rat
  vlim : Bool
  fin : DqState
  deriving DecidableEq, Repr

/-- The largest scale in 0 to 1 of a flux step whose voltage v0 + s·v1 fits a limit. -/
def stepScale (v0d v0q v1d v1q lim : Rat) : Option Rat :=
  let a := v1d * v1d + v1q * v1q
  let h := v0d * v1d + v0q * v1q
  let c := v0d * v0d + v0q * v0q - lim * lim
  let disc := h * h - a * c
  if a = 0 then (if c ≤ 0 then some 1 else none)
  else if disc < 0 then none
  else
    let x := (sqrtQ disc - h) / a
    if x < 0 ∨ 1 < x then none else some x

/-- The law for a target current over `dur` counts under a voltage limit: the voltage that the flux step needs
over the one that holds the mean state, the step scaled by the largest factor that fits, or the voltage itself. -/
def State.law (s : State) (b : Br) (x : DqState) (id iq dd dq om vmax : Rat) (dur : Nat) : Law :=
  let t := s.psi (s.machine b) id iq
  let rs : Rat := (s.rd F.FLT_RS_RS b : Nat)
  let k : Rat := 400 / (dur : Rat)
  let v0d := rs * (x.id + id) / 2000000 - om * (x.pq + t.2.1) / 2000000 - dd
  let v0q := rs * (x.iq + iq) / 2000000 + om * (x.pd + t.1) / 2000000 - dq
  let v1d := k * (t.1 - x.pd)
  let v1q := k * (t.2.1 - x.pq)
  let vd := v0d + v1d
  let vq := v0q + v1q
  let done (ud uq : Rat) (lim : Bool) (pd pq : Rat) : Law :=
    let i := s.amps (s.machine b) pd pq
    ⟨ud, uq, lim, ⟨pd, pq, i.1, i.2.1, x.clamp || t.2.2 || i.2.2⟩⟩
  if vd * vd + vq * vq ≤ vmax * vmax then done vd vq false t.1 t.2.1
  else
    match stepScale v0d v0q v1d v1q vmax with
    | some z => done (v0d + z * v1d) (v0q + z * v1q) true (x.pd + z * (t.1 - x.pd)) (x.pq + z * (t.2.1 - x.pq))
    | none =>
      let mag := sqrtQ (vd * vd + vq * vq)
      let ud := vd * vmax / mag
      let uq := vq * vmax / mag
      done ud uq true (x.pd + (ud - v0d) / k) (x.pq + (uq - v0q) / k)

/-- The state of a checkpoint. -/
def Chk.dq (c : Chk) : DqState := ⟨c.psiD, c.psiQ, c.idA, c.iqA, false⟩
/-- A checkpoint with another state. -/
def Chk.put (c : Chk) (x : DqState) : Chk := { c with psiD := x.pd, psiQ := x.pq, idA := x.id, iqA := x.iq }

/-- The present disturbance estimate in mV; 0 while it is disabled (R188). -/
def State.dobNow (s : State) (b : Br) : Rat × Rat :=
  if s.flights[b].cfg.dobOn then ((s.rdI F.FLT_DOB_D_DOB b : Rat), (s.rdI F.FLT_DOB_Q_DOB b : Rat)) else (0, 0)

/-! ## Intervals (R166, R201, R211) -/

/-- The end of a synchronous stage: the next boundary k/24 turn e in the direction of motion, or the second one;
a boundary within 1/1,000 of a segment is the stage's own start. Whether its conversion failed goes with it (R160). -/
def State.syncEnd (s : State) (b : Br) (j : Traj) (start : Nat) (second : Bool) : Nat × Bool :=
  let x := j.th * 24
  let slack : Rat := (1 : Rat) / 1000
  let n : Int := if second then 2 else 1
  let target : Rat :=
    if 0 ≤ j.om then ((x + slack).floor + n : Int) / 24 else ((x - slack).ceil - n : Int) / 24
  match eventTime j target (start + 400000000) with
  | some (t, _) => if start < t then (t, false) else (start + s.rd F.MOD_CARRIER_HALF b, true)
  | none => (start + s.rd F.MOD_CARRIER_HALF b, true)

/-- The instants in a stage at which phase U's pattern angle lies at τ of its quarter wave (R211), ascending. -/
def tauTimes (j : Traj) (phi0 tau : Rat) (tEnd : Nat) : List Nat :=
  let half : Rat := (1 : Rat) / 2
  let hits := [tau, half - tau, half + tau, 1 - tau].filterMap fun c => nextAt j phi0 (fracQ c) tEnd
  (sortTime (hits.map fun t => (t, ()))).map fun x => (x.1 / 32).toNat

/-- The first transition instant that is admitted, and how many earlier ones were deferred (R211). -/
def firstTau (ok : Nat → Bool) : List Nat → Option Nat × Nat
  | [] => (none, 0)
  | t :: r => if ok t then (some t, 0) else ((firstTau ok r).1, (firstTau ok r).2 + 1)

/-! ## Computing a stage (R187, R190, R201 to R217) -/

/-- What a stage is computed from: its number, start, the stage before it (none for the first), the checkpoint
and a voltage to repeat (R171), the length of a carrier stage, and the stage of the lead engine whose boundaries it
shares (R195). -/
structure StageIn where
  num : Nat
  start : Nat
  prev : Option Slot
  chk : Chk
  fixed : Option (Rat × Rat)
  half : Nat
  follow : Option Slot
  deriving DecidableEq, Repr

/-- The pattern angle of phase U at a stage's start: the angle of the voltage vector plus a quarter (R209). -/
def phiStart (th vd vq : Rat) : Rat := th + argT vd vq + (1 : Rat) / 4

/-- What fixes the levels of a stage's legs: the family, a carrier stage's start at a valley, strategy and clamping
kind, the voltage with the DC link, the frame's trajectory, a carrier stage's length, and a pattern's toggles with the
pattern angle of phase U at the frame's origin. -/
structure LevelIn where
  sync : Bool
  valley : Bool
  strat : Nat
  kind : Nat
  vd : Rat
  vq : Rat
  vdc : Rat
  frame : Traj
  half : Nat
  ts : List Rat
  phi : Rat
  deriving DecidableEq, Repr

/-- The levels of the three legs from `start` to `tEnd` (R205, R209). -/
def State.levels (s : State) (b : Br) (l : LevelIn) (start tEnd : Nat) : List (List (Int × Bool)) :=
  let base : Int := 32 * (start : Int)
  if l.sync then
    let j := l.frame.rebase start
    let phi (ph : Nat) : Rat := l.phi + (j.th - l.frame.th) - s.phaseSense b * (ph : Rat) / 3
    (List.range 3).map fun ph => syncPat j l.ts (phi ph) base tEnd
  else
    let mid := l.frame.at_ (((start + tEnd : Nat) : Rat) / 2)
    let ds := duties (s.phaseSense b) l.strat l.kind l.vd l.vq mid l.vdc
    ds.map fun d => (carrierPat l.valley base (32 * (l.half : Int)) d).filter fun x => decide (x.1 < 32 * (tEnd : Int))

/-- How far into the next stage the levels are followed: an interval that long is kept by R207 and R214. -/
def State.lookAhead (s : State) (b : Br) : Nat := max (s.rd F.MOD_PULSE_MIN_PULSE b) (s.rd F.MOD_DEAD_DEAD_MAX b) + 1

/-- The leg plan of a stage that switches. For a change of pattern inside the stage `swap` gives the instant and the
incoming pattern; `next` is what fixes the levels after the stage, its voltage held (R207). -/
def State.stageLegs (s : State) (b : Br) (gs : List Leg) (fresh : Bool) (l next : LevelIn) (start tEnd : Nat)
    (swap : Option (Nat × LevelIn)) : LegPlan :=
  let pats := match swap with
    | none => s.levels b l start tEnd
    | some (t, l') => ((s.levels b l start t).zip (s.levels b l' t tEnd)).map fun x => x.1 ++ x.2
  let ahead := if next.sync then tEnd + s.lookAhead b else tEnd + next.half
  let base : Int := 32 * (start : Int)
  let e : Int := 32 * (tEnd : Int)
  let cap := if fresh then 3 else 4
  s.legPlan b gs fresh (some cap) base e pats (s.levels b next tEnd ahead) (s.refresh b gs cap base e)

/-- A stage gives each lane at most 4 gate edges (R172). -/
def edgesFit (b : Br) (es : List (LaneIx × Edge)) : Bool :=
  (lanesOf b).all fun k => decide ((es.filter fun x => x.1 == k).length ≤ 4)

/-- The first synchronous stage after a transition at `t`, with this stage's voltage held, gives each lane at most
4 gate edges, the toggle at `t` among them (R172, R211). -/
def State.syncRoom (s : State) (b : Br) (legs : List Leg) (next : LevelIn) (t : Nat) : Bool :=
  let e := (s.syncEnd b (next.frame.rebase t) t true).1
  let pats := s.levels b next t e
  (List.range 3).all fun ph => decide ((patMoves (legs.getD ph Leg.reset).level (pats.getD ph [])).length ≤ 4)

/-- The state that a stage predicts at an instant: the flux interpolated linearly (R187). -/
def State.predAt (s : State) (b : Br) (x y : DqState) (start dur at_ : Nat) : DqState :=
  let f : Rat := if dur = 0 then 0 else ((at_ - start : Nat) : Rat) / (dur : Rat)
  let pd := x.pd + f * (y.pd - x.pd)
  let pq := x.pq + f * (y.pq - x.pq)
  let i := s.amps (s.machine b) pd pq
  ⟨pd, pq, i.1, i.2.1, i.2.2⟩

/-- The group prediction of a stage: the dq currents at the reference instant, and each phase current at the centre
of its conversion span, or at the reference instant where it has none (R187, R239). -/
def State.groupPred (s : State) (b : Br) (j : Traj) (x y : DqState) (start dur refAt : Nat)
    (spans : List (Option (Nat × Nat))) : DqState × List Rat × Bool :=
  let mids := (List.range 3).map fun ph => match spans.getD ph none with | some w => (w.1 + w.2) / 2 | none => refAt
  let ps := mids.map fun t => (t, s.predAt b x y start dur t)
  let ph (k : Nat) : Rat := match ps[k]? with
    | some p => phaseV (s.phaseSense b) p.2.id p.2.iq (j.at_ (p.1 : Rat) - s.frameShift b) k
    | none => 0
  let r := s.predAt b x y start dur refAt
  (r, (List.range 3).map ph, r.clamp || ps.any fun p => p.2.clamp)

/-- A stage that only predicts (R192): no gate edges, no shunt group; the currents stay 0. -/
def predictStage (i : StageIn) : Slot :=
  let dur := i.half
  let om := i.chk.traj.omega (i.start : Rat)
  let x := i.chk.dq
  { Slot.reset with
    st := .speculative, num := i.num, start := i.start, dur := dur, carry := i.fixed.isSome
    valley := match i.prev with | some p => !p.valley | none => true
    chk := i.chk, endChk := i.chk
    vd := -om * x.pq / 1000000, vq := om * x.pd / 1000000
    idPred := x.id, iqPred := x.iq, refAt := i.start + dur / 2
    legs := match i.prev with | some p => p.legs | none => Slot.reset.legs }

/-- What a stage inherits from the one before it: its family, whether it is the first of the synchronous family, its
start at a valley, the strategy and pulse number in force, and whether no gate edge came before it. -/
structure Inherit where
  sync : Bool
  first : Bool
  valley : Bool
  strat : Nat
  q : Nat
  fresh : Bool
  legs : List Leg
  deriving DecidableEq, Repr

def StageIn.inherit (i : StageIn) : Inherit :=
  match i.prev with
  | some p => ⟨p.toSync, p.toSync && !p.sync, if p.sync then true else !p.valley, p.strat, p.q, !p.gates, p.legs⟩
  | none => ⟨false, false, true, 0, 0, true, Slot.reset.legs⟩

/-- The target current of a stage: its engine's share of the clamped reference (R183, R195). -/
def State.stageRef (s : State) (b : Br) (i : StageIn) : RefClamp :=
  let rc := s.refClamped b (i.chk.refD, i.chk.refQ)
  let sh := s.refShare b
  { rc with id := sh * rc.id, iq := sh * rc.iq }

/-- The law of a stage over its duration: a fixed voltage repeated, or the target reached under a limit (R171,
R187). -/
def State.stageLaw (s : State) (b : Br) (i : StageIn) (rc : RefClamp) (vmax : Rat) (dur : Nat) : Law :=
  let om := i.chk.traj.omega ((i.start : Rat) + (dur : Rat) / 2)
  let x := i.chk.dq
  match i.fixed with
  | some v => ⟨v.1, v.2, false, s.advance b x v.1 v.2 i.chk.dobD i.chk.dobQ om dur⟩
  | none => s.law b x rc.id rc.iq i.chk.dobD i.chk.dobQ om vmax dur

/-- The pattern point nearest to an index, for a strategy and pulse number (R209). -/
def State.patTs (s : State) (strat q : Nat) (m : Rat) : List Rat := toggles (s.oppAngles strat q (s.oppNearest q m))
def State.patTau (s : State) (strat q : Nat) (m : Rat) : Rat := s.oppTau strat q (s.oppNearest q m)

/-- The strategy of a stage by its demanded index: the one that runs, the family wanted, the strategy and pulse
number chosen, and those of the synchronous family that would come next (R204, R211). -/
structure StratPlan where
  strat : Nat
  q : Nat
  want : Bool
  newStrat : Nat
  newQ : Nat
  inStrat : Nat
  inQ : Nat
  deriving DecidableEq, Repr

def State.stratPlan (s : State) (b : Br) (h : Inherit) (m fe : Rat) : StratPlan :=
  let c := s.chooseStrat b h.sync h.strat m fe
  let keep := h.sync && !h.first && decide (3 ≤ h.strat)
  let six := s.bit F.MOD_OVM_SIX_EN b && decide ((s.rd F.MOD_OVM_SIX_ON b : Nat) ≤ m * 1000)
  ⟨if keep then h.strat else c.1, if keep then h.q else c.2.1, c.2.2, c.1, c.2.1,
    if six then 3 else 4, if six then 0 else s.oppQ b fe⟩

/-- What fixes the levels of a stage under a law, for a family, strategy and pulse number with the pattern of an
index. -/
def State.levelIn (s : State) (b : Br) (i : StageIn) (sync valley : Bool) (strat q : Nat) (m : Rat) (l : Law) : LevelIn :=
  let j := i.chk.traj
  let frame : Traj := { j with th := j.th - s.frameShift b }
  ⟨sync, valley, strat, s.rd F.MOD_DPWM_KIND b, l.vd, l.vq, s.vdcOf b, frame, i.half,
    if sync then s.patTs strat q m else [], phiStart frame.th l.vd l.vq⟩

/-- The transition inside a stage: its end, the family after it, the change of pattern inside it, and the deferrals
(R211). -/
structure Turn where
  tEnd : Nat
  toSync : Bool
  swap : Option Nat
  deferred : Nat
  deriving DecidableEq, Repr

/-- Where a stage that would last to `end0` changes its family or pattern (R211). The follower of a pair takes the
lead's boundary. -/
def State.stageTurn (s : State) (b : Br) (i : StageIn) (h : Inherit) (p : StratPlan) (free : Rat) (l : Law)
    (end0 : Nat) : Turn :=
  let cur := s.levelIn b i h.sync h.valley p.strat p.q (modIndex l.vd l.vq (s.vdcOf b)) l
  let m := modIndex l.vd l.vq (s.vdcOf b)
  let enter := s.levelIn b i true true p.inStrat p.inQ free l
  let patChange := h.sync && p.want && (p.strat != p.newStrat || p.q != p.newQ)
  let long (t : Nat) : Bool := decide (i.start + 2000 ≤ t)
  let plan (next : LevelIn) (tEnd : Nat) (swap : Option (Nat × LevelIn)) : LegPlan :=
    s.stageLegs b h.legs h.fresh cur next i.start tEnd swap
  let change := s.levelIn b i true true p.newStrat p.newQ m l
  let swapAt := firstTau (fun t => edgesFit b (plan change end0 (some (t, change))).edges)
    (tauTimes cur.frame cur.phi (s.patTau p.strat p.q m) end0)
  match i.follow with
  | some f =>
    let r := if patChange then swapAt else (none, 0)
    ⟨f.start + f.dur, f.toSync, r.1, r.2⟩
  | none =>
    if h.sync != p.want then
      let r := if h.sync then firstTau long (tauTimes cur.frame cur.phi (s.patTau p.strat p.q m) end0)
        else firstTau (fun t => long t && s.syncRoom b (plan enter t none).legs enter t)
          (tauTimes cur.frame cur.phi (s.patTau p.inStrat p.inQ free) end0)
      match r.1 with
      | some t => ⟨t, p.want, none, r.2⟩
      | none => ⟨end0, h.sync, none, r.2⟩
    else if patChange then ⟨end0, h.sync, swapAt.1, swapAt.2⟩
    else ⟨end0, h.sync, none, 0⟩

/-- A stage that switches (R187, R204, R211): the demanded voltage chooses the strategy, whose limit the law takes;
a stage cut at a transition takes the law over its own duration. -/
def State.switchStage (s : State) (b : Br) (i : StageIn) : Slot :=
  let vdc : Rat := s.vdcOf b
  let j := i.chk.traj
  let h := i.inherit
  let se := s.syncEnd b j i.start h.first
  let end0 := match i.follow with
    | some f => f.start + f.dur
    | none => if h.sync then se.1 else i.start + i.half
  let dur0 := end0 - i.start
  let fe := ratAbs (j.speedAt (((i.start + end0 : Nat) : Rat) / 2)) * 400000000
  let rc := s.stageRef b i
  let want := s.stageLaw b i rc 1000000000000 dur0
  let free := modIndex want.vd want.vq vdc
  let p := s.stratPlan b h free fe
  let vmax := s.vMax b h.sync p.strat p.q vdc
  let tn := s.stageTurn b i h p free (s.stageLaw b i rc vmax dur0) end0
  let dur := tn.tEnd - i.start
  let l := s.stageLaw b i rc vmax dur
  let m := modIndex l.vd l.vq vdc
  let cur := s.levelIn b i h.sync h.valley p.strat p.q m l
  let change := s.levelIn b i true true p.newStrat p.newQ m l
  let last := if tn.swap.isSome then change else cur
  let next :=
    if tn.toSync then (if h.sync then last else s.levelIn b i true true p.inStrat p.inQ free l)
    else s.levelIn b i false (h.sync || !h.valley) (if h.sync then 0 else p.strat) 0 m l
  let lp := s.stageLegs b h.legs h.fresh cur next i.start tn.tEnd (tn.swap.map fun t => (t, change))
  let spans := s.legSpans b lp.intervals
  let refAt := refInstant spans (i.start + dur / 2)
  let pr := s.groupPred b j i.chk.dq l.fin i.start dur refAt spans
  { Slot.reset with
    st := .speculative, num := i.num, start := i.start, dur := dur
    carry := i.fixed.isSome, sync := h.sync, valley := h.valley, toSync := tn.toSync
    gates := true
    chk := i.chk, vd := l.vd, vq := l.vq, endChk := i.chk.put l.fin
    idPred := pr.1.id, iqPred := pr.1.iq, refAt := refAt, phPred := pr.2.1
    strat := if h.sync then last.strat else p.strat
    q := if h.sync then (if tn.swap.isSome then p.newQ else p.q) else 0
    edges := lp.edges, windows := spans, legs := lp.legs
    samples := s.sampleEvs b i.num refAt lp.intervals lp.offsets
    marks := ⟨l.vlim, rc.clamped, rc.mapClamp || l.fin.clamp || pr.2.2, lp.dropped, tn.deferred, lp.refresh, lp.forced⟩
    limits := s.refFlags (s.lead b) rc
    refreshed := lp.refreshed
    convBad := h.sync && se.2 && i.follow.isNone }

/-- The Angle Clock's trajectory by which a bridge's stages are placed: the pair's is that of bridge A (R195). In
`DISCHARGE` an induction machine without a source in use has the angle 0 (R192). -/
def State.stageTraj (s : State) (b : Br) (start : Nat) : Traj :=
  let l := s.lead b
  if s.dst b = .discharge ∧ s.isPm b = false ∧ s.source l = 0xF then ⟨0, 0, 0, start⟩
  else s.aclks[l].traj.rebase start

/-- The checkpoint of a new stage (chapter 6): the state carried on, the trajectory drawn anew from the Angle
Clock, the present estimate and the references. -/
def State.newChk (s : State) (b : Br) (from_ : Chk) (start : Nat) : Chk :=
  let r := s.refRead b
  let d := s.dobNow b
  { from_ with traj := s.stageTraj b start, dobD := d.1, dobQ := d.2, refD := r.1, refQ := r.2 }

/-- The state before the first stage: no current. -/
def State.firstChk (s : State) (b : Br) : Chk :=
  let p := s.psi (s.machine b) 0 0
  { Chk.reset with psiD := p.1, psiQ := p.2.1 }

/-- The length of the next carrier stage: half the carrier period of the pair, and once the step by which the carrier
is phased to the angle reference (R195, R405). -/
def State.carrierHalf (s : State) (b : Br) : Nat :=
  max 2000 ((s.rd F.MOD_CARRIER_HALF (s.lead b) : Int) + s.flights[s.lead b].phase).toNat

/-- The inputs of the next stage to compute; none while the stage before it is missing. -/
def State.stageIn (s : State) (b : Br) (fixed : Option (Rat × Rat)) : Option StageIn :=
  let f := s.flights[b]
  let follow := if s.lead b = b then none else s.flights[s.lead b].stage f.next
  let half := match follow with
    | some l => if l.toSync == l.sync then l.dur else s.carrierHalf b
    | none => s.carrierHalf b
  if f.next = 0 then
    let t := f.slots[(0 : Fin 16)].start
    some ⟨0, t, none, s.newChk b (s.firstChk b) t, fixed, half, follow⟩
  else
    match f.stage (f.next - 1) with
    | some p => some ⟨f.next, p.start + p.dur, some p, s.newChk b p.endChk (p.start + p.dur), fixed, half, follow⟩
    | none => none

/-- The stage that an engine computes next. -/
def State.nextSlot (s : State) (b : Br) (fixed : Option (Rat × Rat)) : Option Slot :=
  (s.stageIn b fixed).map fun i =>
    let sl := if s.flights[b].predictOnly then predictStage i else s.switchStage b i
    let ring := match i.prev with | some p => (p.ring + p.tableEvs.length) % 2048 | none => 0
    { sl with ring := ring }

/-- The engine holds its next stage. -/
def State.takeSlot (s : State) (b : Br) (sl : Slot) : State :=
  (s.putSlot b sl).upFl b fun f => { f with next := sl.num + 1, phase := 0 }

/-! ## Commit (R169 to R171) -/

/-- The marks of a stage that commits. -/
def State.stageMarks (s : State) (b : Br) (m : Marks) : State :=
  let s := s.when m.vlim fun s => s.flag F.FLT_STATUS_VLIM b true
  let s := s.when m.clamp fun s => s.flag F.FLT_STATUS_CLAMP b true
  let s := s.when m.mapClamp fun s => (s.flag F.FLT_STATUS_MAP_CLAMP b true).evt (E.MAP_CLAMP b)
  let s := s.when (m.pulseDrop != 0) fun s =>
    (s.flag F.MOD_STATUS_PULSE_DROP b true).evtN (E.MOD_PULSE_DROP b) m.pulseDrop
  let s := s.when (m.oppDefer != 0) fun s => (s.flag F.MOD_STATUS_OPP_DEFER b true).evtN (E.OPP_DEFER b) m.oppDefer
  let s := s.when m.bstRefresh fun s => s.flag F.MOD_STATUS_BST_REFRESH b true
  s.when m.bstForced fun s => s.flag F.MOD_STATUS_BST_FORCED b true

/-- The legs refreshed are no longer forced (R217). -/
def State.refreshDone (s : State) (b : Br) (legs : List Bool) : State :=
  s.upMod b fun m => { m with bstForced := (List.range 3).map fun k => m.bstForced.getD k false && !legs.getD k false }

/-- The event conversion of a stage fails: its end was never reached by its trajectory, or the motion has reversed
against that (R121, R160). -/
def State.convFails (s : State) (b : Br) (sl : Slot) : Bool :=
  sl.convBad || decide (s.aclks[s.lead b].traj.om * sl.chk.traj.om < 0)

/-- A stage commits: its edges are sent as they come within reach, its sample events wait for their instants (R231),
its marks show. -/
def State.commitSlot (s : State) (b : Br) (sl : Slot) : State :=
  let s := s.putSlot b { sl with st := .committed }
  let s := s.upFl b fun f => { f with
    refD := sl.chk.refD, refQ := sl.chk.refQ, carryRun := if sl.carry then f.carryRun + 1 else 0 }
  let s := ((s.stageMarks b sl.marks).refreshDone b sl.refreshed).noteMoves b sl.edges
  let s := ((s.holdEdges b sl.num [] sl.edges).sendAll b).placeSamples b sl.samples
  if sl.carry then
    let s := ((s.flag F.FLT_STATUS_LATE b true).evt (E.FLIGHT_LATE b)).wr F.FLT_CNT_LATE_COUNT b
      ((s.rd F.FLT_CNT_LATE_COUNT b + 1) % 4294967296)
    if s.flights[b].carryRun = 3 then s.raiseF FC.FLIGHT_LATE (.bridge b) else s
  else s

/-- Squashes both engines of a locked pair alike (R195). -/
def State.squashGroup (s : State) (b : Br) (n : Nat) (spare mis setpt : Bool) (ev : Br → Nat) : State :=
  s.each (s.group b) fun s c => s.squash c n spare mis setpt (ev c)

/-- A misprediction at a stage: recorded for the storm rule, and the stages from `n` on are squashed. -/
def State.mispredict (s : State) (b : Br) (k n : Nat) : State :=
  let s := s.each (s.group b) fun s c => s.upFl c fun f => { f with mispred := (k :: f.mispred).take 256 }
  s.squashGroup b n false true false E.SQUASH_MISPRED

/-- A stage that is due commits; one whose event conversion fails is squashed with all after it (R160). -/
def State.commitStage (s : State) (b : Br) (sl : Slot) : State :=
  if s.convFails b sl then s.mispredict b sl.num sl.num else s.commitSlot b sl

/-- The engine completes the computation of its next stage. One whose instant (a) or (b) has passed commits at once
(R169). -/
def State.computeStage (s : State) (b : Br) : State :=
  match s.nextSlot b none with
  | some sl =>
    let s := s.takeSlot b sl
    if (sl.num != 0 && decide (sl.num ≤ s.flights[b].verified)) || decide (s.commitAt b sl ≤ s.dt) then s.commitStage b sl
    else s
  | none => s

/-- The voltage of the last committed stage. -/
def State.lastVoltage (s : State) (b : Br) : Rat × Rat :=
  let f := s.flights[b]
  match if f.next = 0 then none else f.stage (f.next - 1) with
  | some p => (p.vd, p.vq)
  | none => (0, 0)

/-- The first speculative stage of an engine. -/
def Flight.firstSpec (f : Flight) : Option Slot :=
  (f.slots.toList.filter fun sl => sl.st == .speculative).foldl (fun a sl =>
    match a with
    | none => some sl
    | some x => if sl.num < x.num then some sl else some x) none

/-- The start of the next stage to compute. -/
def State.nextStart (s : State) (b : Br) : Option Nat :=
  let f := s.flights[b]
  if f.next = 0 then some f.slots[(0 : Fin 16)].start
  else (f.stage (f.next - 1)).map fun p => p.start + p.dur

/-- A carry stage takes the place of the next stage (R171). -/
def State.carryStage (s : State) (b : Br) : State :=
  match s.nextSlot b (some (s.lastVoltage b)) with
  | some sl => (s.takeSlot b sl).commitSlot b sl
  | none => s

/-- The commit instant (a) of the next stage is reached (R169): it commits, or a carry stage in its place when
its computation is not complete (R171). -/
def State.commitDue (s : State) (b : Br) : State :=
  let f := s.flights[b]
  match f.firstSpec with
  | some sl => if s.commitAt b sl ≤ s.dt then s.commitStage b sl else s
  | none =>
    match s.nextStart b with
    | some t => if s.bit F.FLT_CTRL_ENABLE b && decide (t ≤ s.dt + f.cfg.lead) then s.carryStage b else s
    | none => s

/-! ## Verification (R174 to R176, R240, R241) -/

/-- A sample group as the phases it carries, with the value predicted for each (R239, R240). -/
structure Meas where
  i : List Int
  pred : List Rat
  recon : Nat
  single : Option Nat
  missing : Bool
  deriving DecidableEq, Repr

/-- The reconstruction of R240 for one bridge; a reconstructed phase is held against the same sum of the
predictions. -/
def measure (i : List (Option Int)) (p : List Rat) (recon0 : Nat) : Meas :=
  let pu := p.getD 0 0
  let pv := p.getD 1 0
  let pw := p.getD 2 0
  match i.getD 0 none, i.getD 1 none, i.getD 2 none with
  | some u, some v, some w => ⟨[u, v, w], p, recon0, none, false⟩
  | none, some v, some w => ⟨[-(v + w), v, w], [-(pv + pw), pv, pw], recon0 ||| 1, none, false⟩
  | some u, none, some w => ⟨[u, -(u + w), w], [pu, -(pu + pw), pw], recon0 ||| 2, none, false⟩
  | some u, some v, none => ⟨[u, v, -(u + v)], [pu, pv, -(pu + pv)], recon0 ||| 4, none, false⟩
  | some u, none, none => ⟨[u, 0, 0], p, recon0, some 0, false⟩
  | none, some v, none => ⟨[0, v, 0], p, recon0, some 1, false⟩
  | none, none, some w => ⟨[0, 0, w], p, recon0, some 2, false⟩
  | none, none, none => ⟨[0, 0, 0], p, 0, none, true⟩

/-- Two phases of a paralleled pair by bridge: one bridge's value where it has one, else the other's (R241). -/
def orOther (a c : List (Option Int)) : List (Option Int) :=
  (List.range 3).map fun k => (a.getD k none).orElse fun _ => c.getD k none

/-- A phase that is short on both bridges: the three-wire star on the sum of the pair's phase currents, of which
each bridge takes half (R241). -/
def pairStar (a c : List (Option Int)) (k : Nat) : Option Int :=
  let rest := [0, 1, 2].filter (· != k)
  let vs := (rest.flatMap fun j => [a.getD j none, c.getD j none]).filterMap id
  if (a.getD k none).isNone && decide (vs.length = 4) then some (-(divFree (vs.foldl (· + ·) 0) 2)) else none

/-- The group of a stage or period, and the phase currents that a stage predicts. -/
def Flight.groupOf (f : Flight) (num : Nat) : Group := (f.groups.find? fun g => g.num == num).getD (Group.fresh num)
def Flight.predOf (f : Flight) (num : Nat) : List Rat := match f.stage num with | some sl => sl.phPred | none => [0, 0, 0]

/-- The group of a bridge; in the paralleled configuration a phase that is short here takes the other bridge's
value, and one short on both comes from the pair's sum (R241). -/
def State.measured (s : State) (b : Br) (num : Nat) : Meas :=
  let own := (s.flights[b].groupOf num).i
  let p := s.flights[b].predOf num
  if s.config = 3 then
    let other := (s.flights[mate b].groupOf num).i
    let q := s.flights[mate b].predOf num
    let a := orOther own other
    let c := orOther other own
    let merged := (List.range 3).map fun k => (a.getD k none).orElse fun _ => pairStar a c k
    let rec0 := flagWord ((List.range 3).map fun k => (own.getD k none).isNone && (merged.getD k none).isSome)
    let pm := (List.range 3).map fun k =>
      if (own.getD k none).isSome then p.getD k 0 else if (other.getD k none).isSome then q.getD k 0
      else -(([0, 1, 2].filter (· != k)).foldl (fun x j => x + p.getD j 0 + q.getD j 0) 0) / 2
    measure merged pm rec0
  else measure own p 0

/-- A window of a group has not converted yet. -/
def State.groupOpen (s : State) (b : Br) (num : Nat) : Bool :=
  (s.flights[b].due.any fun e => e.num == num && e.entry == some 0) ||
    (lowLanes b).any fun k => s.convs[laneConv k].busy.any fun j => j.num == some num && j.entry == 0

/-- The flux that a stage predicts at its group's reference instant, interpolated linearly (R187). -/
def Slot.fluxPred (sl : Slot) : Rat × Rat :=
  let f : Rat := if sl.dur = 0 then 0 else ((sl.refAt - sl.start : Nat) : Rat) / (sl.dur : Rat)
  (sl.chk.psiD + f * (sl.endChk.psiD - sl.chk.psiD), sl.chk.psiQ + f * (sl.endChk.psiQ - sl.chk.psiQ))

/-- A map lookup was clamped (R186). -/
def State.mapClamped (s : State) (b : Br) (c : Bool) : State :=
  s.when c fun s => (s.flag F.FLT_STATUS_MAP_CLAMP b true).evt (E.MAP_CLAMP b)

/-- The disturbance estimate takes a verified group (R188), within 10 % of the DC-link voltage. -/
def State.dobUpdate (s : State) (b : Br) (sl : Slot) (id iq : Rat) : State :=
  let g0 := s.flights[b].cfg
  if g0.dobOn then
    let a := s.psi (s.machine b) id iq
    let p := sl.fluxPred
    let t : Rat := (sl.dur : Rat) / 400000000
    let g := 1 - expQ (-(2 * piQ * (g0.dobBw : Rat) * t))
    let lim : Rat := (s.vdcOf b : Int) / 10
    let d := s.dobNow b
    let k : Rat := 400 / (sl.dur : Rat)
    let nd := clampQ (-lim) lim (d.1 + g * (a.1 - p.1) * k)
    let nq := clampQ (-lim) lim (d.2 + g * (a.2.1 - p.2) * k)
    ((s.mapClamped b a.2.2).wrI F.FLT_DOB_D_DOB b (ratFree nd)).wrI F.FLT_DOB_Q_DOB b (ratFree nq)
  else s

/-- A stage retires: its status, its count, and a record to the recorder (R178, R353). -/
def State.retire (s : State) (b : Br) (sl : Slot) : State :=
  let s := s.putSlot b { sl with st := .retired }
  let s := ((s.flag F.FLT_STATUS_RETIRED b true).irq (2 + b.val)).evt (E.STAGE_RETIRED b)
  let s := s.upB (s.lead b) fun x => { x with limits := sl.limits }
  let ang := BitVec.ofNat 32 (angleOf sl.chk.traj.th)
  s.recEnter (s.stageRecord b sl.num sl.start (ratFree sl.vd) (ratFree sl.vq) ang sl.strat)

/-- A group is done with: results that come later for it are discarded. -/
def State.dropGroup (s : State) (b : Br) (num : Nat) : State :=
  s.upFl b fun f => { f with groups := f.groups.filter fun g => g.num != num }

/-- The group registers show a retired group (R253). -/
def State.showGroup (s : State) (b : Br) (num : Nat) (m : Meas) : State :=
  let o := 8 * b.val
  let s := s.each [0, 1, 2] fun s k => s.wrI (F.CONV_GRP_I_I.at (o + k)) 0 (m.i.getD k 0)
  let s := s.wr (F.CONV_GRP_FLAGS_STAGE_LO.at o) 0 (num % 65536)
  let s := s.flag (F.CONV_GRP_FLAGS_SINGLE.at o) 0 m.single.isSome
  let s := s.wr (F.CONV_GRP_FLAGS_SAT.at o) 0 (flagWord (s.flights[b].groupOf num).lost)
  let s := s.wr (F.CONV_GRP_FLAGS_RECON.at o) 0 m.recon
  let s := if m.recon = 0 then s else s.evt (E.CUR_RECON b)
  s.upFl b fun f => { f with carried := match m.single with
    | some k => [k == 0, k == 1, k == 2]
    | none => [true, true, true] }

/-- The committed stage whose group is due: the oldest one that has begun. -/
def State.groupStage (s : State) (b : Br) : Option Slot :=
  (s.flights[b].slots.toList.filter fun sl => sl.st == .committed && decide (sl.start ≤ s.dt)).foldl (fun a sl =>
    match a with
    | none => some sl
    | some x => if sl.num < x.num then some sl else some x) none

/-- A group that is not complete retires its stage without verification (R176). -/
def State.groupMissed (s : State) (b : Br) (sl : Slot) : State :=
  let s := ((s.retire b sl).flag F.FLT_STATUS_GROUP_MISS b true).evt (E.FLIGHT_GROUP_MISS b)
  let s := (s.dropGroup b sl.num).upFl b fun f => { f with missRun := f.missRun + 1 }
  if s.flights[b].missRun = 4 then s.raiseF FC.FLIGHT_SAMPLE (.bridge b) else s

/-- The source value nearest to a group's reference instant, with its stamp (R238); a pair has that of bridge A. -/
def State.groupAngle (s : State) (b : Br) (refAt : Nat) : Option (Word × Nat) :=
  let far (t : Nat) : Nat := ((t : Int) - (refAt : Int)).natAbs
  s.aclks[s.lead b].hist.foldl (fun a x => match a with
    | none => some x
    | some y => if far x.2 < far y.2 then some x else some y) none

/-- The measured angle of a group and the trajectory's at its stamp differ by more than the band (R174). -/
def State.angleOff (s : State) (b : Br) (sl : Slot) : Bool :=
  match s.groupAngle b sl.refAt with
  | some (a, ts) =>
    decide ((s.flights[b].cfg.bandA : Rat) < turnDist (turnsOf a.toNat) (sl.chk.traj.at_ (ts : Rat)) * 65536)
  | none => false

/-- What the comparison of a group gives: the measured dq currents, and whether a band is exceeded. -/
structure Verdict where
  id : Rat
  iq : Rat
  bad : Bool
  deriving DecidableEq, Repr

/-- The comparison of a group with its stage's prediction (R174, R239, R240): each phase against its own prediction;
the errors, turned into the stage's frame at the reference instant, give the measured dq currents. -/
def State.compareGroup (s : State) (b : Br) (sl : Slot) (m : Meas) : Verdict :=
  let band : Rat := (s.flights[b].cfg.bandI : Nat)
  let th := sl.chk.traj.at_ (sl.refAt : Rat) - s.frameShift b
  let err (k : Nat) : Rat := (m.i.getD k 0 : Int) - m.pred.getD k 0
  match m.single with
  | some k => ⟨sl.idPred, sl.iqPred, decide (band < ratAbs (err k)) || s.angleOff b sl⟩
  | none =>
    let e := park (s.phaseSense b) (err 0) (err 1) (err 2) th
    ⟨sl.idPred + e.1, sl.iqPred + e.2, decide (band < ratAbs e.1) || decide (band < ratAbs e.2) || s.angleOff b sl⟩

/-- After a verify failure the measured state goes from the stamp of the source value through the rest of stage k and
through stage k + 1 with their committed voltages (R174). -/
def State.propagate (s : State) (b : Br) (sl : Slot) (x : DqState) : State :=
  let d := s.dobNow b
  let from_ : Nat := match s.groupAngle b sl.refAt with | some (_, ts) => ts | none => sl.refAt
  let rest : Rat := (((sl.start + sl.dur : Nat) : Int) - (from_ : Int) : Int)
  let y := s.advance b x sl.vd sl.vq d.1 d.2 (sl.chk.traj.omega (sl.refAt : Rat)) rest
  let s := (s.putSlot b { sl with endChk := sl.endChk.put y }).mapClamped b y.clamp
  match s.flights[b].stage (sl.num + 1) with
  | some nx =>
    let mid : Rat := ((2 * nx.start + nx.dur : Nat) : Rat) / 2
    let z := s.advance b { y with clamp := false } nx.vd nx.vq d.1 d.2 (nx.chk.traj.omega mid) nx.dur
    let p := s.groupPred b nx.chk.traj y z nx.start nx.dur nx.refAt nx.windows
    (s.putSlot b { nx with
      chk := nx.chk.put y, endChk := nx.endChk.put z, idPred := p.1.id, iqPred := p.1.iq, phPred := p.2.1 }).mapClamped b
        (z.clamp || p.2.2)
  | none => s

/-- The stage after a verified one commits (R169 (b)). -/
def State.commitNext (s : State) (b : Br) (sl : Slot) : State :=
  let s := s.upFl b fun f => { f with verified := sl.num + 1 }
  match s.flights[b].stage (sl.num + 1) with
  | some nx => if nx.st = StageSt.speculative then s.commitStage b nx else s
  | none => s

/-- The end of a bridge's verification: the disturbance estimate, the reported values, the group registers and the
retirement (R174, R188). -/
def State.verifyEnd (s : State) (b : Br) (sl : Slot) (m : Meas) (v : Verdict) : State :=
  let p := s.psi (s.machine b) v.id v.iq
  let s := s.mapClamped b p.2.2
  let s := if v.bad then s.propagate b sl ⟨p.1, p.2.1, v.id, v.iq, false⟩ else s
  let s := if m.single.isSome then s else s.dobUpdate b sl v.id v.iq
  let t := s.torque b v.id v.iq
  let s := (s.mapClamped b t.2).wrI F.FLT_TORQUE_VALUE b (ratFree t.1)
  let s := (s.wrI F.FLT_ID_VALUE b (ratFree v.id)).wrI F.FLT_IQ_VALUE b (ratFree v.iq)
  let sl := match s.flights[b].stage sl.num with | some x => x | none => sl
  let s := (((s.showGroup b sl.num m).retire b sl).plausCheck b).dropGroup b sl.num
  s.upFl b fun f => { f with missRun := 0 }

/-- The bridges whose groups are verified together: both of a paralleled pair, whose phases serve each other
(R241). -/
def State.verifySet (s : State) (b : Br) : List Br := if s.config = 3 then [0, 1] else [b]

/-- The verification of the groups of a stage (R174, R240, R241): one failure squashes for the whole pair. -/
def State.verify (s : State) (b : Br) (num : Nat) : State :=
  let job (c : Br) : Option (Br × Slot × Meas × Verdict) :=
    (s.flights[c].stage num).map fun sl => (c, sl, s.measured c num, s.compareGroup c sl (s.measured c num))
  let jobs := (s.verifySet b).filterMap job
  let s := s.each jobs fun s j => s.commitNext j.1 j.2.1
  let s := s.when (jobs.any fun j => j.2.2.2.bad) fun s => s.mispredict b num (num + 2)
  s.each jobs fun s j => s.verifyEnd j.1 j.2.1 j.2.2.1 j.2.2.2

/-- A complete group is verified; one of three short windows is missing 1 µs after its stage (R176, R240). -/
def State.groupDone (s : State) (b : Br) (sl : Slot) : State :=
  if (s.verifySet b).any fun c => s.groupOpen c sl.num then s
  else if (s.verifySet b).any fun c => (s.measured c sl.num).missing then
    s.when (decide (sl.start + sl.dur + usCounts ≤ s.dt)) fun s => s.each (s.verifySet b) fun s c =>
      match s.flights[c].stage sl.num with
      | some x => s.when (x.st == .committed) fun s => s.groupMissed c x
      | none => s
  else s.verify b sl.num

/-! ## The references of Pilot release 3.4 -/

/-- A write of a current reference (R182, R184, R195). -/
def State.irefWrite (s : State) (m : Master) (b : Br) (q : Bool) (v : Word) : State :=
  let f := if q then F.FLT_IREF_Q_IREF else F.FLT_IREF_D_IREF
  if s.lockedPair && b == 1 then s.flag F.FLT_ERR_RANGE 0 true
  else if s.bit F.FLT_STATUS_HOLD_ACTIVE b && m != keeper then s
  else if s.word f b = v then s
  else (s.setWord f b v).squashGroup b 0 true false true E.SQUASH_SETPOINT

/-- The speed that a safe stop has come down to at `safety.ss1_decel` (0.1 rpm per ms). -/
def State.stopSpeed (s : State) (b : Br) : Int :=
  let x := s.bridges[b]
  let dropped : Int := s.par (P.safety_ss1_decel b.val) * ((s.now - x.ssSince : Nat) : Int) / msCounts
  let mag := max 0 (x.ssSpeed - dropped)
  if s.speed b < 0 then -mag else mag

/-- The speed that a stop of kind 1 has come down to at `drive.decel` (0.1 rpm per ms, R120). -/
def State.decelSpeed (s : State) (b : Br) (t0 : Nat) : Int :=
  let v := s.bridges[b].stopFrom
  let dropped : Int := s.par P.drive_decel * ((s.now - t0 : Nat) : Int) / msCounts
  let mag := max 0 (v.natAbs - dropped)
  if v < 0 then -mag else mag

/-- A torque within a limit of magnitude. -/
def capTorque (lim t : Int) : Int := clampI (-(lim.natAbs : Int)) lim.natAbs t

/-- A torque request under the speed limit of `TORQUE_SET` (R84): it is reduced toward 0 as the speed nears the limit
and is 0 from there on; a request against the motion is not reduced (DEDUCED, log entry 148). -/
def State.speedCapped (s : State) (b : Br) (lim t : Int) : Int :=
  let v := s.speed b
  if t * v < 0 then t
  else if lim ≤ v.natAbs then 0
  else ratFree (clampQ 0 1 (Config.speedTaper lim v s.free) * (t : Rat))

/-- The torque that the running image requests in a bridge's situation, in 0.01 N·m (R84, R119 to R121, R309). -/
def State.torqueWanted (s : State) (b : Br) : Int :=
  let x := s.bridges[b]
  let loop (set : Int) : Int := Config.speedLoop set (s.speed b) s.free
  if s.dst b = .safeStop then loop (s.stopSpeed b)
  else
    match x.stopping with
    | some (true, t0) => loop (s.decelSpeed b t0)
    | some (false, t0) => s.ramped t0 x.stopTorque
    | none =>
      match x.mode with
      | some .speed => if s.reverseHeld b x.speedSet then 0 else capTorque x.torqueLimit (loop x.speedSet)
      | _ => if s.reverseHeld b x.torqueReq then 0 else s.speedCapped b x.speedLimit x.torqueReq

/-- In current mode the setpoints are the references; a stop scales them down with the torque (R119). -/
def State.currentWanted (s : State) (b : Br) : Int × Int :=
  let x := s.bridges[b]
  match x.stopping with
  | some (_, t0) =>
    let f := if s.rampOver b t0 then 0 else 1 - s.rampDown t0 / ratAbs (s.rampFrom b)
    (ratFree (f * (x.dSet : Rat)), ratFree (f * (x.qSet : Rat)))
  | none => (x.dSet, x.qSet)

/-- The flux of an induction machine rises by a free amount toward its rated value (R117). -/
def fluxRise (free : Nat) (p : Nat) : Option Nat :=
  let q := p + Config.freeNat free
  if 100 ≤ q then none else some q

/-- Pilot release 3.4 writes the references once per stage. While the flux of an induction machine rises after a
catch, torque stays 0 (R117); how long that takes is free. -/
def State.pilotStage (s : State) (b : Br) : State :=
  if s.release34 && !s.bit F.FLT_STATUS_HOLD_ACTIVE b && s.flightRuns b && !s.flights[b].predictOnly &&
      ((s.dst b).isDriving || s.dst b == .safeStop) then
    let fluxing := s.bridges[b].imFlux.isSome
    let t := if fluxing then 0 else s.torqueWanted b
    let current := s.currentMode b
    let r : Int × Int :=
      if current then
        let r := s.currentWanted b
        (r.1, if fluxing then 0 else r.2)
      else s.refOf b (t : Rat) (s.vdcOf b : Int)
    let n := s.free
    let s := s.spend.each (s.group b) fun s c => s.upB c fun x => { x with
      imFlux := x.imFlux.bind (fluxRise n), torqueRef := if current then x.torqueRef else t }
    (s.irefWrite 0 b false (BitVec.ofInt 32 r.1)).irefWrite 0 b true (BitVec.ofInt 32 r.2)
  else s

/-! ## The boundary (R105, R106, R166, R179) -/

/-- The storm rule at a boundary, over the stages that ended before it, on the merged counts of a pair and the
parameters of bridge A (R179, R195); it rests while the engine predicts only (R192). On the return to full depth the
chain grows by one stage per stage (R180). -/
def State.stormRule (s : State) (b : Br) : State :=
  let l := s.lead b
  let f := s.flights[l]
  let n := (f.mispred.filter fun k => decide (f.cur ≤ k + f.cfg.window)).length
  let quiet := !(f.mispred.any fun k => decide (f.cur ≤ k + f.cfg.quiet)) && decide (f.quietFrom + f.cfg.quiet ≤ f.cur)
  let want := s.bit F.FLT_CTRL_FORCE_SHALLOW l ||
    (if f.shallow then !quiet else decide (f.cfg.limit < n))
  if f.predictOnly || want == f.shallow then s
  else
    s.each (s.group b) fun s c =>
      let s := s.upFl c fun f => { f with shallow := want, depth := if want then f.depth else min 2 f.depth }
      let s := ((s.flag F.FLT_STATUS_SHALLOW c want).flag F.FLT_STATUS_SHALLOW_CHG c true).irq 6
      if want then s.squash c (s.flights[c].cur + 2) false false false (E.SHALLOW_ENTER c) else s

/-- The Flight parameters follow the registers at a boundary (R200): a smaller depth drops the stages beyond it, a
larger one extends the chain by one stage, a change of the lead, the bands or the disturbance parameters squashes, and
one of the storm parameters restarts its counts. -/
def State.cfgStep (s : State) (b : Br) : State :=
  let fl := s.flights[b]
  let c := s.flightCfg b
  let d := s.rd F.FLT_CTRL_DEPTH (s.lead b).val
  let o := fl.cfg
  let redo := decide ((c.lead, c.bandI, c.bandA, c.dobOn, c.dobBw) ≠ (o.lead, o.bandI, o.bandA, o.dobOn, o.dobBw))
  let storm := decide ((c.limit, c.window, c.quiet) ≠ (o.limit, o.window, o.quiet))
  let s := if redo then s.squash b 0 true false true (E.SQUASH_SETPOINT b)
    else if d < fl.depth then s.squash b (fl.cur + d + 1) true false true (E.SQUASH_SETPOINT b) else s
  let s := s.upFl b fun f => { f with
    cfg := c, depth := if d ≤ f.depth then d else if f.shallow then f.depth else f.depth + 1
    mispred := if storm then [] else f.mispred, quietFrom := if storm then f.cur else f.quietFrom }
  if c.dobOn then s else (s.wr F.FLT_DOB_D_DOB b 0).wr F.FLT_DOB_Q_DOB b 0

/-- The present stage shows in the registers. -/
def State.showStage (s : State) (b : Br) : State :=
  let f := s.flights[b]
  let s := (s.setWord F.FLT_STAGE_STAGE b (BitVec.ofNat 32 f.cur)).wr F.FLT_STATUS_CUR_SLOT b (f.cur % 16)
  match f.present with
  | some sl => (s.wr F.MOD_STATUS_STRAT b sl.strat).wr F.MOD_STATUS_OPP_Q b (if sl.strat = 4 then sl.q else 0)
  | none => s

/-- The stages of an engine advance: the next stage becomes present; a stage that only predicted retires at its
end (R192). -/
def State.engineAdvance (s : State) (b : Br) : State :=
  let f := s.flights[b]
  if !f.begun then
    if f.slots[(0 : Fin 16)].start ≤ s.dt then
      let s := if (f.stage 0).any fun sl => sl.st == .committed then s else s.commitDue b
      s.upFl b fun f => { f with begun := true, cur := 0 }
    else s
  else
    match f.stage f.cur with
    | some sl =>
      if sl.start + sl.dur ≤ s.dt then
        let s := if (f.predictOnly || !sl.gates) && sl.st == .committed then s.retire b sl else s
        let s := match s.flights[b].stage (f.cur + 1) with
          | some nx => if nx.st = StageSt.speculative then s.commitStage b nx else s
          | none => s.commitDue b
        s.upFl b fun f => { f with cur := f.cur + 1 }
      else s
    | none => s

/-- `SAFE_STOP_REQ` is complete and waits: its bridge takes row 16 by it. -/
def State.takeStopReq (s : State) (b : Br) : State :=
  s.each (s.group b) fun s c => s.upB c fun x => { x with cmds := x.cmds.filter fun c => !(c == (.safeStop, true)) }

/-- The transitions of a bridge at a boundary, the highest-ranked cause alone (R105, R106). STO and `SS1_N` act as
long as they are asserted. -/
def State.boundaryCauses (s : State) (b : Br) : State :=
  let x := s.bridges[b]
  let stop := x.safeStopDue || s.bit F.FCR_STATUS_SS1 || x.cmds.contains (.safeStop, true)
  let s := (s.each (s.group b) fun s c =>
    s.upB c fun y => { y with safeStopDue := false, degradeDue := false }).takeStopReq b
  if s.stoOn && (s.dst b).isActive then (s.preempt b).enter b .ready
  else if stop && (s.dst b).isActive then (s.preempt b).enter b .safeStop
  else if x.degradeDue && s.dst b == .run then (s.preempt b).enter b .degraded
  else s.applyCmd b

/-- The direction of motion last seen, and the standstill of a decelerating stop (R120, R121). -/
def State.motionStep (s : State) (b : Br) : State :=
  let slow := decide (s.speedMag b < s.parN P.drive_zero_speed)
  s.each (s.group b) fun s c => s.upB c fun x => { x with
    dir := if slow || s.speed b == 0 then x.dir else if s.speed b < 0 then -1 else 1
    slowSince := if slow then (match x.slowSince with | some t => some t | none => some s.now) else none }

/-- The speed passes through zero: the speculative stages that lie ahead in the old direction are squashed, as a
failed event conversion is (R121, R160; DEDUCED, log entry 149). -/
def State.reverseSquash (s : State) (b : Br) : State :=
  match s.flights[b].firstSpec with
  | some sl => if s.convFails b sl then s.mispredict b sl.num sl.num else s
  | none => s

/-- The Lockkeeper refreshes the safe plan of a bridge by the speed band (R275, R305), and releases its forced
lanes in `STANDBY` and `READY` (R276). -/
def State.planRefresh (s : State) (b : Br) : State :=
  let s := s.setPlan b (s.bandPlan b)
  if s.dst b = .standby ∨ s.dst b = .ready then s.releaseForced b else s

/-- What a boundary does for one bridge after its engine has advanced. The causes of squashes come in the order of
R177, so that of two in one clock the first of its table squashes and counts. -/
def State.boundaryWork (s : State) (b : Br) : State :=
  let s := (((s.showStage b).parBoundary b).cfgStep b).posBoundary b
  let s := (s.motionStep b).reverseSquash b
  let s := if b = s.lead b then (s.boundaryCauses b).stormRule b else s
  let s := (s.windingStep b).envelope b
  let s := (s.ss1Monitor b).planRefresh b
  if b = s.lead b then s.pilotStage b else s

end Sys2Proof.Machine
end

