-- ==== Sys2Proof/Machine/Lock.lean ====
section
/-! DEFINITION. The Locks and their transports: host SPI (R60, R411 to R413), CAN (R62, R63), UDP (R64), UART
(R65), Towpath (R66, R407), the Lock's own timing events (R52, R54, R61), and direct setpoint frames (R67 to
R69). -/

namespace Sys2Proof.Machine

/-! ## Host SPI -/

/-- `LK_WRITE`: offset plus count within the chamber, the Lock `EMPTY` and not claimed by another transport; the
first write claims it. Over this transport the bytes delivered reach to the highest offset written, whatever lies
between (DESIGN CHOICE, log entry 144); a write to a Lock that another transport has claimed, which R52 answers
`BUSY`, is flagged as having no effect, for the frame status has no other answer (DEDUCED, log entry 144). -/
def execLkWrite (port : Fin 2) (lock : Byte) (off count : BitVec 16) (data : List Byte) (crc : Byte) (s : State) : Out :=
  .next (s.spiFrame port 0x20 lock off count data crc fun s =>
    match lockNo lock with
    | none => none
    | some lk =>
      let l := s.locks[lk]
      let fits := decide (0 < count.toNat) && decide (off.toNat + count.toNat ≤ 256)
      if l.gate = .empty ∧ (l.owner = none ∨ l.owner = some (.spi port)) ∧ fits = true then
        some (s.upLock lk fun l => { (l.put off.toNat data) with
          owner := some (.spi port)
          claimedAt := if l.owner.isNone then s.now else l.claimedAt
          got := max l.got (off.toNat + count.toNat) }, [])
      else none)

/-- `LK_SUBMIT`: the Lock `EMPTY` and claimed by this port; ignored while the Locks are not enabled (R57). -/
def execLkSubmit (port : Fin 2) (lock : Byte) (off count : BitVec 16) (crc : Byte) (s : State) : Out :=
  .next (s.spiFrame port 0x21 lock off count [] crc fun s =>
    match lockNo lock with
    | none => none
    | some lk =>
      let l := s.locks[lk]
      if off = 0 ∧ count = 0 ∧ s.lockEnabled = true ∧ l.gate = .empty ∧ l.owner = some (.spi port) then
        some (s.lockSubmit lk, [])
      else none)

/-- `LK_READ`: bytes of the response of a Lock in `REPLY`. -/
def execLkRead (port : Fin 2) (lock : Byte) (off count : BitVec 16) (crc : Byte) (s : State) : Out :=
  .next (s.spiFrame port 0x22 lock off count [] crc fun s =>
    match lockNo lock with
    | none => none
    | some lk =>
      let l := s.locks[lk]
      if l.gate = .reply ∧ 0 < count.toNat ∧ off.toNat + count.toNat ≤ 256 then
        some (s, spiOut (l.bytes off.toNat count.toNat))
      else none)

/-- A Lock is drained (R52). The response of `STANDBY_ENTER`, `DEVICE_RESET` or a patch activation has then left,
and what it announced follows (R81, R98, R99). -/
def State.lockDrain (s : State) (lk : Lk) : State :=
  let code := s.locks[lk].code
  let s := s.lockEmpty lk
  if code = 0x0103 ∧ s.sys.standbyDue = true then s.standbyEnter
  else if (code = 0x0E05 ∨ code = 0x0D05) ∧ s.sys.resetDue = true then s.warmReset F.SYS_RST_CAUSE_WARM
  else s

/-- `LK_DRAIN`: a Lock in `REPLY` returns to `EMPTY`. The frame status follows the state that the drain leaves. -/
def execLkDrain (port : Fin 2) (lock : Byte) (off count : BitVec 16) (crc : Byte) (s : State) : Out :=
  .next (s.spiFrame port 0x23 lock off count [] crc fun s =>
    match lockNo lock with
    | none => none
    | some lk =>
      if off = 0 ∧ count = 0 ∧ s.locks[lk].gate = .reply then some (s.lockDrain lk, []) else none)

/-- `LK_GATES`: the four bytes of `LOCK_GATES`, returned as `LK_READ` returns its bytes (DEDUCED, log entry 26).
-/
def execLkGates (port : Fin 2) (lock : Byte) (off count : BitVec 16) (crc : Byte) (s : State) : Out :=
  .next (s.spiFrame port 0x24 lock off count [] crc fun s =>
    if lock = 0 ∧ off = 0 ∧ count = 0 then some (s, spiOut (w32 s.gates)) else none)

/-- `ST_READ`: offset 0, count 32 (R411, R413). -/
def execStRead (port : Fin 2) (lock : Byte) (off count : BitVec 16) (crc : Byte) (s : State) : Out :=
  .next (s.spiFrame port 0x10 lock off count [] crc fun s =>
    if lock = 0 ∧ off = 0 ∧ count = 32 then some (s, spiOut (s.statusBlock (lifeCode s.trust.life))) else none)

/-! ## CAN -/

/-- A frame is one of R394: its controller carries Barges and its identifier names a Lock. -/
def State.isBarge (s : State) (c : Fin 4) (f : CanFrame) : Bool := s.canMapped c && (s.canReqLock f).isSome

/-- A CAN XL frame on a request identifier carries one Barge (R62). Any other frame is the business of
`CAN_RX_FRAME`. -/
def execCanXlBarge (can : Fin 4) (fr : CanFrame) (s : State) : Out :=
  if fr.wf then .next (if fr.fmt = .xl ∧ s.isBarge can fr = true then s.canReceive can s.stamp fr else s)
  else .fault .illFormed

/-- A CAN FD frame on a request identifier is a segment of a Barge (R63). -/
def execCanFdSegment (dt : Nat) (can : Fin 4) (fr : CanFrame) (s : State) : Out :=
  let s := s.tick dt
  if fr.wf then .next (if fr.fmt = .fd ∧ s.isBarge can fr = true then s.canReceive can s.stamp fr else s)
  else .fault .illFormed

/-- A frame on `lock.sp_can_id` of a mapped controller (R67, R68, R395). -/
def execDirectSetpointFrame (dt : Nat) (can : Fin 4) (fr : CanFrame) (s : State) : Out :=
  let s := s.tick dt
  if fr.wf then
    .next (if s.canMapped can = true ∧ s.canReqLock fr = none ∧ fr.id = s.parN P.lock_sp_can_id then
      s.canReceive can s.stamp fr else s)
  else .fault .illFormed

/-- No applicable setpoint frame for `lock.sp_timeout` while the frames are enabled (R69): the torque request of
a bridge that drives falls to 0. -/
def execSetpointTimeout (dt : Nat) (b : Br) (s : State) : Out :=
  let s := s.tick dt
  .next (if s.parN P.lock_sp_enable = 1 ∧ s.spSilent false b (s.parN P.lock_sp_timeout) = true then
      s.spTimeout b false FC.SETPOINT_TIMEOUT else s)

/-- A gap longer than `lock.seg_gap` discards the partial Barge (R63). -/
def execLockSegGapTimeout (dt : Nat) (can : Fin 4) (s : State) : Out :=
  let s := s.tick dt
  match s.cans[can].part with
  | some p => .next (if p.at_ + s.parN P.lock_seg_gap * msCounts < s.now then s.segDrop can else s)
  | none => .next s

/-! ## UDP, UART, Towpath -/

/-- The Ethernet domain and a MAC serve (R418: the setting of the last boot); with `eth.macsec` 2 a MAC without
its key neither sends nor receives (R400). -/
def State.ethOn (s : State) (mac : Fin 2) : Bool :=
  s.running && s.sys.up[5] && s.parBoot (P.eth_enable mac) == 1 &&
    (s.parBoot (P.eth_macsec mac) != 2 || s.net.macsecKey[mac])

/-- A UDP datagram to `lock.udp_port` carries one Barge (R64). -/
def execUdpBarge (mac : Fin 2) (src : Word) (sport : BitVec 16) (data : List Byte) (s : State) : Out :=
  .next (if s.ethOn mac then s.udpIn (.udp mac src sport) data else s)

/-- A byte-stuffed frame of the service UART between its delimiters (R65) is an event of `IRQ_UART` (R41): a framing error or an abort leaves it
without a response, an empty frame is ignored. -/
def execUartFrame (raw : List Byte) (framingError : Bool) (s : State) : Out :=
  .next (if s.spiUp && framingError then s.irq 22
    else if s.spiUp then
      let s := s.irq 22
      (match unstuff raw with
       | none => s
       | some [] => s
       | some bs => s.lockByFive .uart bs)
    else s)

/-- A tunnel frame (R403, R407): one that fails its check is counted; the destination device delivers a request
to the Lock named by its byte 5, a response raises `IRQ_TOW`; a frame for another device is forwarded. -/
def execTowTunnelFrame (port : TowPort) (fr : List Byte) (s : State) : Out :=
  .next (if s.spiUp && s.towOn port && u8 fr 0 == 3 && towAdmitted fr then
      (if towCheck fr then
         (if s.net.towNum = some (u16 fr 4) then
            (if u8 fr 1 % 2 = 1 then s.irq 18 else s.lockByFive (.tow port (u16 fr 2)) (towPayload fr))
          else s.towSend (towOther port) fr)
       else s.evt E.TOW_CRC)
    else s)

/-! ## The Lock's own events -/

/-- The commanded transitions that a command of a class has asked for and not yet answered: after a `TIMEOUT` they
may or may not take effect (R54), a free choice. -/
def State.cmdTimeout (s : State) (keeper : Bool) : State :=
  if Config.freeBool s.free then s.spend.cmdComplete keeper
  else s.spend.each [(0 : Br), 1] fun s b =>
    s.upB b fun x => { x with cmds := x.cmds.filter fun c => c.2 || c.1.keeper != keeper }

/-- A Lock stayed in `SERVICE` longer than `lock.timeout` (R54). -/
def execLockTimeout (dt : Nat) (lk : Lk) (s : State) : Out :=
  let s := s.tick dt
  let l := s.locks[lk]
  .next (if l.gate = .service ∧ l.svcAt + s.rd F.LOCK_CTRL_TIMEOUT_MS * msCounts < s.now then
      (let tie : LockTie := ⟨lk, s.now, l, s.bit F.LOCK_ERR_TIMEOUT, s.bridges.toList.map fun x => x.cmds⟩
       let s := ({ s with lockTie := some tie }.reply lk ST.TIMEOUT [] true).flag F.LOCK_ERR_TIMEOUT 0 true
       if l.served then s.cmdTimeout l.keeper else s)
    else s)

/-- A Lock claimed over SPI was not submitted within `lock.claim_timeout` (R61). -/
def execLockClaimTimeout (dt : Nat) (lk : Lk) (s : State) : Out :=
  let s := s.tick dt
  let l := s.locks[lk]
  .next (if l.gate = .empty ∧ l.claimedAt + s.parN P.lock_claim_timeout * msCounts ≤ s.now then
      (match l.owner with | some (.spi _) => s.lockEmpty lk | _ => s)
    else s)

/-- A transport other than SPI has sent the response of its Lock, which it drains (R52). -/
def execLockAutoDrain (lk : Lk) (s : State) : Out :=
  let l := s.locks[lk]
  .next (match l.gate, l.owner with
    | .reply, some (.spi _) => s
    | .reply, some tr => (s.respSend tr lk (l.bytes 0 (20 + l.plen))).lockDrain lk
    | _, _ => s)

end Sys2Proof.Machine
end

