-- ==== Sys2Proof/Machine/NetOps.lean ====
section
/-! DEFINITION. Ethernet, vehicle time, Towpath timing, SENT and the test port as shared operations (R399 to
R417). The formats of Ethernet, ARP, IPv4, ICMP, UDP and SAE J2716 frames are those of their standards, which the
spec names (PRESUMED). -/

namespace Sys2Proof.Machine

/-! ## Ethernet (R399, R400) -/

/-- A big-endian number. -/
def beVal (bs : List Byte) : Nat := bs.foldl (fun a b => a * 256 + b.toNat) 0
/-- A big-endian byte string. -/
def beBytes (n v : Nat) : List Byte := (leBytes n v).reverse
/-- The big-endian 16-bit value at a place. -/
def be16 (bs : List Byte) (o : Nat) : Nat := beVal (slice bs o 2)

/-- The sum of the 16-bit words of a byte string in one's complement arithmetic. -/
def onesSum : List Byte → Nat
  | a :: b :: r =>
    let x := a.toNat * 256 + b.toNat + onesSum r
    if 65535 < x then x - 65535 else x
  | [a] => a.toNat * 256
  | [] => 0

/-- The Internet checksum of a byte string. -/
def inetSum (bs : List Byte) : Nat := 65535 - onesSum bs

/-- The device's address on a MAC. -/
def State.ethIp (s : State) (mac : Fin 2) : List Byte := beBytes 4 (s.parBoot (P.eth_ip mac))

/-- Sends a frame: with `eth.vlan` tagged with it and `eth.pcp`, padded to the smallest frame. -/
def State.ethSend (s : State) (mac : Fin 2) (dst : List Byte) (type : Nat) (pl : List Byte) : State :=
  let vlan := s.parBoot (P.eth_vlan mac)
  let tag := if vlan = 0 then [] else beBytes 2 0x8100 ++ beBytes 2 (s.parBoot (P.eth_pcp mac) * 8192 + vlan)
  let pad := List.replicate (46 - pl.length - tag.length) 0
  let f := dst ++ Config.macAddr mac ++ tag ++ beBytes 2 type ++ pl ++ pad
  { s with net := { s.net with ethTx := s.net.ethTx ++ [(mac, f)] } }

/-- A received frame by its tag: its VLAN ID, its type and its payload. -/
def ethSplit (f : List Byte) : Option Nat × Nat × List Byte :=
  if be16 f 12 = 0x8100 then (some (be16 f 14 % 4096), be16 f 16, f.drop 18)
  else (none, be16 f 12, f.drop 14)

/-- The VLAN rule: with `eth.vlan` 0 untagged and priority-tagged frames, otherwise frames tagged with it. -/
def State.vlanOk (s : State) (mac : Fin 2) (id : Option Nat) : Bool :=
  match s.parBoot (P.eth_vlan mac), id with
  | 0, none => true
  | 0, some i => i == 0
  | v, some i => i == v
  | _, none => false

/-- An ARP request for the device's address is answered. -/
def State.arpIn (s : State) (mac : Fin 2) (p : List Byte) : State :=
  if p.take 8 = beBytes 2 1 ++ beBytes 2 0x0800 ++ [6, 4] ++ beBytes 2 1 ∧ slice p 24 4 = s.ethIp mac then
    s.ethSend mac (slice p 8 6) 0x0806
      (p.take 6 ++ beBytes 2 2 ++ Config.macAddr mac ++ s.ethIp mac ++ slice p 8 10)
  else s

/-- An IPv4 header without options. -/
def ipHeader (proto len : Nat) (src dst : List Byte) : List Byte :=
  let a := [0x45, 0] ++ beBytes 2 (20 + len) ++ [0, 0, 0, 0, 64, BitVec.ofNat 8 proto]
  let sum := inetSum (a ++ [0, 0] ++ src ++ dst)
  a ++ beBytes 2 sum ++ src ++ dst

/-- An ICMP echo request is answered. -/
def State.icmpIn (s : State) (mac : Fin 2) (eth src body : List Byte) : State :=
  if body.take 2 = [8, 0] ∧ onesSum body = 65535 then
    let tail := body.drop 4
    let reply := [0, 0] ++ beBytes 2 (inetSum ([0, 0, 0, 0] ++ tail)) ++ tail
    s.ethSend mac eth 0x0800 (ipHeader 1 reply.length (s.ethIp mac) src ++ reply)
  else s

/-- A datagram whose check is right or absent. -/
def udpOk (src dst body : List Byte) : Bool :=
  be16 body 6 == 0 || onesSum (src ++ dst ++ [0, 17] ++ slice body 4 2 ++ body) == 65535

/-- An IPv4 packet to the device: an echo request, or a datagram to `lock.udp_port`; fragments are dropped. -/
def State.ipIn (s : State) (mac : Fin 2) (eth p : List Byte) : State :=
  let ihl := u8 p 0 % 16 * 4
  let len := be16 p 2
  let src := slice p 12 4
  let dst := slice p 16 4
  let body := slice p ihl (len - ihl)
  if u8 p 0 / 16 = 4 ∧ 20 ≤ ihl ∧ len ≤ p.length ∧ onesSum (p.take ihl) = 65535 ∧ dst = s.ethIp mac ∧
      be16 p 6 % 16384 = 0 then
    (if u8 p 9 = 1 then s.icmpIn mac eth src body
     else if u8 p 9 = 17 ∧ be16 body 2 = s.parN P.lock_udp_port ∧ udpOk src dst body = true then
      s.udpIn (.udp mac (BitVec.ofNat 32 (beVal src)) (BitVec.ofNat 16 (be16 body 0)))
        (slice body 8 (be16 body 4 - 8))
     else s)
  else s

/-- The MACsec rule for a received frame (R400): whether it is accepted, and whether it is counted when not. -/
def macsecRx (mode : Nat) (secTag valid : Bool) : Bool × Bool :=
  match mode with
  | 0 => (!secTag, false)
  | 1 => (!secTag || valid, false)
  | _ => (secTag && valid, true)

/-- A frame reaches a MAC that serves; its bytes count the check sequence. -/
def State.ethIn (s : State) (mac : Fin 2) (fr : EthFrame) : State :=
  let s := { s with net := { s.net with rxStamp := s.net.rxStamp.set mac s.stamp } }
  let n := fr.bytes.length
  let sec := macsecRx (s.parBoot (P.eth_macsec mac)) fr.secTag fr.secValid
  if 1522 < n then s.evt (E.ETH_DROP mac)
  else if n < 64 then s
  else if !sec.1 then (if sec.2 then s.evt (E.ETH_MACSEC_DROP mac) else s)
  else
    let x := ethSplit (fr.bytes.take (n - 4))
    let dst := fr.bytes.take 6
    if s.vlanOk mac x.1 && (dst == Config.macAddr mac || dst == List.replicate 6 0xFF) then
      let s := s.irq (16 + mac.val)
      let eth := slice fr.bytes 6 6
      (if x.2.1 = 0x0806 then s.arpIn mac x.2.2
       else if x.2.1 = 0x0800 then s.ipIn mac eth x.2.2
       else s)
    else s

/-- The vault slot of a MAC's key (R342, R344). -/
def macsecSlot (mac : Fin 2) : Nat := 7 + mac.val

/-- The Lockkeeper installs the keys of a MAC (R344), or finds its slot erased (R400). -/
def State.macsecInstall (s : State) (mac : Fin 2) : State :=
  let have_ := ((s.trust.vault.lookup (macsecSlot mac)).getD []) != []
  let s := { s with net := { s.net with macsecKey := s.net.macsecKey.set mac have_ } }
  if !have_ && s.parBoot (P.eth_enable mac) == 1 && s.parBoot (P.eth_macsec mac) == 2 then
    s.raiseOn FC.ETH_MACSEC .device (fixedClass FC.ETH_MACSEC)
  else
    let other := (s.parBoot (P.eth_macsec (1 - mac.val)) == 2) && s.parBoot (P.eth_enable (1 - mac.val)) == 1 &&
      !s.net.macsecKey[1 - mac]
    if other then s else s.condition FC.ETH_MACSEC .device false

/-! ## Towpath (R402 to R408) -/

/-- A Towpath frame of a type reaches a trained port; one that fails its check is counted, one whose fields are
not admitted is discarded. -/
def State.towIn (s : State) (p : TowPort) (type : Nat) (fr : List Byte) (f : State → State) : State :=
  if s.running && s.towOn p && u8 fr 0 == type && towAdmitted fr then
    (if towCheck fr then f s else s.evt E.TOW_CRC)
  else s

/-- A frame not addressed to this device alone goes on (R403). -/
def State.towForward (s : State) (p : TowPort) (fr : List Byte) : State :=
  if s.net.towNum = some (u16 fr 4) then s else s.towSend (towOther p) fr

/-- A frame concerns this device. -/
def State.towMine (s : State) (fr : List Byte) : Bool :=
  s.net.towNum == some (u16 fr 4) || u16 fr 4 == towAll

/-- The device's own time mark goes downstream (R404). -/
def State.markSend (s : State) : State := s.towSend .dn (towFrame 0 0 (s.net.towNum.getD 0) towAll (w64 s.dt))

/-- A step of DTIME at training (R404): it reaches the lanes in a time-mark frame with its step flag (R35). -/
def State.dtimeStep (s : State) (fine : Nat) : State :=
  let s := { s with dtime := BitVec.ofNat 64 (fine / 32), net := { s.net with towFine := fine % 32 } }
  s.each allLanes fun s k => s.upLink k fun l => { l with step := true }

/-- DTIME in fine steps. -/
def State.dtFine (s : State) : Int := 32 * (s.dt : Int) + s.net.towFine

/-- DTIME slews by one fine step toward a mark (R404). -/
def State.dtSlew (s : State) (d : Int) : State :=
  let f := s.dtFine + d
  { s with dtime := BitVec.ofInt 64 (f / 32), net := { s.net with towFine := (f % 32).toNat } }

/-- A time mark: the difference from DTIME is slewed away, beyond 100 ns with `FLT_TOW_TIME`. -/
def State.markTake (s : State) (mark : Nat) : State :=
  let diff : Int := 32 * (mark : Int) + 16 * (s.net.towRtt : Int) - s.dtFine
  let s := if diff = 0 then s else s.dtSlew (if 0 < diff then 1 else -1)
  let s := if 1280 < diff.natAbs then s.raiseOn FC.TOW_TIME .device (fixedClass FC.TOW_TIME)
    else s.condition FC.TOW_TIME .device false
  s.markSend

/-- The upstream port trains (R402, R404): while every bridge of the chain is Idle the device takes its number and
steps DTIME; a device without an upstream neighbour is the root. -/
def State.trainUp (s : State) (up : TowPeer) : State :=
  let calm := up.chainIdle && s.bothIdle
  if !up.present then
    let s := { s with net := { s.net with towUp := false } }
    if calm then { s with net := { s.net with towNum := some 0 } } else s
  else
    let s := { s with net := { s.net with towUp := true, towRtt := up.roundTrip } }
    if !calm then s.raiseF FC.TOW_LINK .device
    else
      let s := s.when (s.lanes.toList.all fun l => l.st != .armed) fun s =>
        s.dtimeStep (32 * up.mark + 16 * up.roundTrip)
      if up.number < 1023 then
        ({ s with net := { s.net with towNum := some (up.number + 1) } }).condition FC.TOW_LINK .device false
      else
        ({ s with net := { s.net with towNum := none, towDn := false } }).raiseOn FC.TOW_LINK .device
          (fixedClass FC.TOW_LINK)

/-- The downstream port trains; a device without a number leaves it untrained. -/
def State.trainDn (s : State) (nb : TowPeer) : State :=
  if s.net.towUp && s.net.towNum.isNone then { s with net := { s.net with towDn := false } }
  else
    let s := { s with net := { s.net with towDn := nb.present } }
    if nb.present && !(nb.chainIdle && s.bothIdle) then s.raiseF FC.TOW_LINK .device else s

/-- An angle reference is kept for the Pilot; Pilot release 3.4 phases the carriers with `tow.carrier_lock` to it
(R405), as a write of a modulation register (R202). -/
def State.angleRefTake (s : State) (pl : List Byte) : State :=
  let x := Config.angleRefOf pl
  let j : Traj := ⟨x.1, x.2.1, x.2.2.1, x.2.2.2.1⟩
  let s := { s with net := { s.net with towRef := some j, towTurn := x.2.2.2.2 } }
  s.each [0, 1] fun s (b : Br) =>
    if s.release34 && (s.parBoot P.tow_carrier_lock).testBit b.val && s.flightRuns b then
      let start := match s.nextStart b with | some t => t | none => 0
      let d := Config.carrierPhase j.t0 (s.rd F.MOD_CARRIER_HALF b) (s.parN P.tow_carrier_shift) start
      if d = 0 then s
      else (s.squash b 0 true false true (E.SQUASH_SETPOINT b)).upFl b fun f => { f with phase := d }
    else s

/-- A fault symbol (R408): forwarded, and `FLT_TOW_REMOTE` at most once per µs. -/
def State.symbolTake (s : State) (p : TowPort) : State :=
  let s := if s.towOn (towOther p) then { s with net := { s.net with towSym := [towOther p] } } else s
  let s := s.irq 18
  let soon := match s.net.remoteAt with | some t => decide (s.now < t + usCounts) | none => false
  if soon then s
  else
    ({ s with net := { s.net with remoteAt := some s.now } }).raise FC.TOW_REMOTE .device
      (clsOf (s.parN P.tow_remote_class))

/-! ## SENT (R410) -/

/-- One nibble of the CRC-4 of SAE J2716 (polynomial x⁴+x³+x²+1). -/
def sentCrcStep (c d : Nat) : Nat := (iterN (crcStepL 4 0xD) 4 c) ^^^ d

/-- The recommended form: start value 5, the data nibbles, and a zero nibble. -/
def sentCrc (data : List Nat) : Nat := sentCrcStep (data.foldl sentCrcStep 5) 0

/-- The data nibbles of a frame: after the status nibble, before the check. -/
def sentData (n : List Nat) : List Nat := (n.drop 1).dropLast

/-- A frame is in error (R410): times in 1/64 tick. -/
def State.sentBad (s : State) (k : Fin 4) (fr : SentFrame) : Bool :=
  let off (d : Int) : Nat := d.natAbs
  let x := fr.syncLen
  decide (3584 < 4 * off ((x : Int) - 3584)) ||
    (match s.net.sent[k].sync with
     | some p => decide (p < 64 * off ((x : Int) - (p : Int)))
     | none => false) ||
    (fr.nibbleLens.any fun l => decide (l < 768) || decide (1728 < l)) ||
    decide (fr.nibbles.length < 3) || fr.nibbles.getLast?.getD 16 != sentCrc (sentData fr.nibbles)

/-- The input serves a position port. -/
def State.sentServes (s : State) (k : Fin 4) : Bool :=
  (List.finRange 4).any fun (p : PortIx) => s.portOn p && s.portMode p == 5 && s.rd F.PORT_CFG_LINK p % 4 == k.val

/-- The serial-message bits of a status nibble enter the shift register of the last 18. -/
def Sent.shift (x : Sent) (fr : SentFrame) : List Nat := ((fr.nibbles.headD 0 / 4) :: x.serial).take 18

/-- A SENT frame: delivered, or discarded in error with its interrupt (R410, R409). -/
def State.sentIn (s : State) (k : Fin 4) (fr : SentFrame) : State :=
  let bad := s.sentBad k fr
  let up (f : Sent → Sent) (s : State) : State :=
    { s with net := { s.net with sent := vupd s.net.sent k f } }
  let s := (up (fun x => { x with sync := some fr.syncLen, irq := true, bad := bad }) s).irq 19
  if bad then (if s.sentServes k then s else s.raiseF FC.SENT_FRAME .device)
  else up (fun x => { x with fast := sentData fr.nibbles, serial := x.shift fr }) s

/-! ## Auxiliary SPI (R415) and the test port (R417) -/

/-- An auxiliary SPI master serves a position port. -/
def State.aspiServes (s : State) (k : Fin 4) : Bool :=
  (List.finRange 4).any fun (p : PortIx) => s.portOn p && s.portMode p == 6 &&
    (s.rd F.PORT_CFG_LINK p + 2) % 4 == k.val

/-- A transfer completes with its CRC-8 check over the bytes before the check byte. -/
def State.aspiDone (s : State) (k : Fin 4) (rx : List Byte) : State :=
  let x := s.net.aspi[k]
  let bad := match x.crcPos with
    | some n => decide (crc8 Config.auxCrc (rx.take n) ≠ byteAt rx n)
    | none => false
  let s := { s with net := { s.net with aspi := s.net.aspi.set k { x with busy := false, rx := rx, crcBad := bad } } }
  if s.aspiServes k then s else s.irq 21

/-- The instruction that the test port takes up (R417). -/
def State.tapSelect (s : State) (ir : TapIr) : TapIr :=
  let opened := s.trust.dbgOpen || s.trust.scanOpen
  match ir with
  | .idcode => .idcode
  | .bypass => .bypass
  | .extest => if opened && s.bothStandby then .extest else .bypass
  | .sample => if opened && s.bothStandby then .sample else .bypass
  | .other c => if opened then .other c else .bypass

/-- What `IDCODE` reads (R417). -/
def tapIdcode : Word := 0x1122454B

end Sys2Proof.Machine
end

