-- ==== Sys2Proof/Machine/NvmOps.lean ====
section
/-! DEFINITION. NVM word writes as shared operations (R345, R346, R349, R358). -/

namespace Sys2Proof.Machine

/-- The word write under way is done: it completes, or keeps the previous value (R345). -/
def State.wordFinish (s : State) (keep : Bool) : State :=
  match s.recd.word with
  | none => s
  | some (a, new, _) =>
    let s := if keep then s else s.setMemW a new
    ({ s with recd := { s.recd with word := none } }.flag F.NVMC_STATUS_BUSY 0 false).nvmSync

/-- A word write starts; the bus holds it while the previous one is under way, so that one completes first.
With `INHIBIT` no word write starts, and `WFAIL` is set. -/
def State.wordStart (s : State) (a : Nat) (w : Word) : State :=
  if s.bit F.NVMC_STATUS_INHIBIT then s.flag F.NVMC_ERR_WFAIL 0 true
  else
    let s := s.wordFinish false
    { s with recd := { s.recd with word := some (a, w, s.memW a) } }.flag F.NVMC_STATUS_BUSY 0 true

/-- A master may write the NVM word at an address (R346, `NVMC_WREN`). -/
def State.nvmWritable (s : State) (m : Master) (a : Nat) : Bool :=
  let k := m == keeper
  let w := s.rd F.NVMC_WREN_BANK
  if a < 0x10C00000 then k && w.testBit 0
  else if a < 0x11800000 then k && w.testBit 1
  else if a < 0x11900000 then k && s.bit F.NVMC_WREN_PATCH
  else if a < 0x11B00000 then
    k && s.bit F.NVMC_WREN_PARAM && a != slotAt 0 && a != slotAt 1
  else if a < 0x11F00000 then k && s.bit F.NVMC_WREN_TABLE
  else if a < 0x12700000 then s.bit F.NVMC_WREN_CUST
  else false

/-- A write of `NVMC_DATA`: the word at the master's `NVMC_ADDR` is programmed and the address advances by 4; a
region not enabled for the write sets `PROT`. -/
def State.nvmData (s : State) (m : Master) (v : Word) : State :=
  let w := s.rd F.NVMC_ADDR_WORD m
  let a := 0x10000000 + 4 * w
  if !s.nvmWritable m a then s.flag F.NVMC_ERR_PROT 0 true
  else if s.bit F.NVMC_STATUS_INHIBIT then s.flag F.NVMC_ERR_WFAIL 0 true
  else (s.wordStart a v).wr F.NVMC_ADDR_WORD m (w + 1)

/-- A write of `NVMC_COMMIT` by the Lockkeeper: the slot, then `INVALIDATE`, then `GO` (R349). -/
def State.nvmCommit (s : State) (v : Word) : State :=
  let k : Fin 2 := if F.NVMC_COMMIT_SLOT.get v = 1 then 1 else 0
  let s := s.wr F.NVMC_COMMIT_SLOT 0 k.val
  let s := if F.NVMC_COMMIT_INVALIDATE.get v = 1 then s.wordStart (slotAt k) 0 else s
  if F.NVMC_COMMIT_GO.get v = 1 then s.wordStart (slotAt k) (s.word F.NVMC_GEN_NEXT_GEN 0) else s

end Sys2Proof.Machine
end

