-- ==== Sys2Proof/Machine/Nvm.lean ====
section
/-! DEFINITION. The events of the NVM and the recorder (R345, R353 to R355, R358). -/

namespace Sys2Proof.Machine

/-- `NVMC_WORD_DONE` (R345): the word write completes; with a loss of power it completes or keeps the previous
value, a free choice. -/
def execNvmcWordDone (dt : Nat) (powerLost : Bool) (s : State) : Out :=
  let s := s.tick dt
  if powerLost then
    let keep := Config.freeBool s.free
    .next ((s.spend).wordFinish keep)
  else .next (s.wordFinish false)

/-- `REC_COLLECTION_END` (R354, R355): the collection is complete and the snapshot is written; no word write
starts with `INHIBIT` set. -/
def execRecCollectionEnd (dt : Nat) (s : State) : Out :=
  let s := s.tick dt
  match s.recd.coll with
  | some c => .next (if c.quota ≤ c.after then s.recEnd else s)
  | none => .next s

/-- `REC_IDLE_RECORD` (R353): a record every 1 ms while the Flight of a configured bridge is stopped. -/
def execRecIdleRecord (dt : Nat) (b : Br) (s : State) : Out :=
  let s := s.tick dt
  .next (if s.running && s.configured b && !s.flightRuns b then
      s.recEnter (s.stageRecord b 0xFFFFFFFF s.stamp.toNat 0 0 (s.aclkAngle b) (s.rd F.MOD_STATUS_STRAT b))
    else s)

/-- `NVM_WRITE_INHIBIT` (R358): the supplies in mV against their write thresholds. -/
def execNvmWriteInhibit (dt : Nat) (vddm : Nat) (vddc : Nat) (s : State) : Out :=
  let s := s.tick dt
  let inh := decide (vddm < 1660) || decide (vddc < 750)
  .next ((s.flag F.NVMC_STATUS_INHIBIT 0 inh).flag F.SYS_PWR_STATUS_INHIBIT 0 inh)

end Sys2Proof.Machine
end

