-- ==== Sys2Proof/Machine/Pilot.lean ====
section
/-! DEFINITION. The watchdog, the release and the trial of the Pilot (R317, R332). -/

namespace Sys2Proof.Machine

/-- The answer to a challenge (R317). -/
def wdgAnswerOf (c : Word) : Word := (c <<< 7 ||| c >>> 25) ^^^ 0x5A5A5A5A

/-- The Lockkeeper issues a challenge. -/
def State.challenge (s : State) (c : Word) : State :=
  let s := s.setWord F.SYS_WDG_CHAL_VALUE 0 c
  let s := (s.setWord F.SYS_WDG_STATUS_EARLY 0 0).irq 28
  { s with pilot := { s.pilot with chal := some (c, s.now) } }

/-- The Pilot's answer: right and between 10 % and 90 % of the period it passes, and the first after a release
is the moment at which the Pilot resumes (R332); else it is a Pilot failure. -/
def State.answer (s : State) (v : Word) : State :=
  let s := (s.setWord F.SYS_WDG_ANS_VALUE 0 v).flag F.SYS_WDG_STATUS_ANSWERED 0 true
  match s.pilot.chal with
  | none => s
  | some (c, t) =>
    let p := s.parN P.safety_wdg_period * msCounts
    let early := decide ((s.now - t) * 10 < p)
    let s := s.flag F.SYS_WDG_STATUS_EARLY 0 early
    let s := { s with pilot := { s.pilot with chal := none } }
    if v = wdgAnswerOf c ∧ !early ∧ (s.now - t) * 10 ≤ p * 9 then
      (if s.pilot.first then s.pilotResume else s)
    else s.pilotFailure

/-- `WDG_CHALLENGE` (R317): none while the cluster is held in reset. -/
def execWdgChallenge (dt : Nat) (c : Word) (s : State) : Out :=
  let s := s.tick dt
  .next (if s.running && !s.bit F.SYS_RST_CTRL_PILOT_HOLD then s.challenge c else s)

/-- `WDG_ANSWER_TIMEOUT` (R317): no answer to the challenge outstanding. -/
def execWdgAnswerTimeout (dt : Nat) (s : State) : Out :=
  let s := s.tick dt
  match s.pilot.chal with
  | some (_, t) => .next (if s.parN P.safety_wdg_period * msCounts * 9 ≤ (s.now - t) * 10 then
      { s with pilot := { s.pilot with chal := none } }.pilotFailure
    else s)
  | none => .next s

/-- `PILOT_LOCKSTEP_ERROR` (R317). -/
def execPilotLockstepError (dt : Nat) (s : State) : Out := .next (s.tick dt).pilotFailure

/-- `PILOT_RELEASE` (R332 step 2): the cluster leaves reset on its bank with its first challenge; a trial bank's
10 s begin. -/
def execPilotRelease (dt : Nat) (c : Word) (s : State) : Out :=
  let s := s.tick dt
  match s.pilot.runBank with
  | some b =>
    if s.running && s.pilot.restarting && !s.pilot.heldForGood then
      let s := s.flag F.SYS_RST_CTRL_PILOT_HOLD 0 false
      let trial := (s.bank b).st == .trial
      let s := { s with pilot := { s.pilot with
        first := true, trialAt := if trial then some s.now else none } }
      .next (s.challenge c)
    else .next s
  | none => .next s

/-- `FW_TRIAL_PASS` (R332 step 3): 10 s without a Pilot failure; the trial bank becomes active, the old one
previous, and the session ends. -/
def execFwTrialPass (dt : Nat) (s : State) : Out :=
  let s := s.tick dt
  match s.pilot.trialAt, s.bankOf .trial with
  | some t, some b =>
    if t + 10000 * msCounts ≤ s.now then
      let o := mate b
      let s := if (s.bank o).st = .active then s.upBank o fun x => { x with st := .previous } else s
      let s := s.upBank b fun x => { x with st := .active }
      .next ({ s with pilot := { s.pilot with trialAt := none } }.upFw fun _ => FwSession.reset)
    else .next s
  | _, _ => .next s

end Sys2Proof.Machine
end

