-- ==== Sys2Proof/Machine/BusMap.lean ====
section
/-! DEFINITION. The bus map (R37, R38): regions, the accesses that each master may make, the registers behind an
address with the instance that a master's selects name (R17, R19), and the pause of each block (R15). A bus access
is a word; an address names the word that holds it. -/

namespace Sys2Proof.Machine

/-- The regions of R37; a register region carries its block number, a window whose registers the spec does not lay
out its number from 0x400C0000. -/
inductive Region where
  | rom | nvm | pilotSram | table | tableHole | retained | regs (block : Nat) | linkWin (k : Nat) | outside
  deriving DecidableEq, Repr

def regionOf (a : Nat) : Region :=
  if a < 0x00030000 then .rom
  else if 0x10000000 ≤ a ∧ a < 0x14000000 then .nvm
  else if 0x20000000 ≤ a ∧ a < 0x20600000 then .pilotSram
  else if 0x28000000 ≤ a ∧ a < 0x2803A000 then .table
  else if 0x2803A000 ≤ a ∧ a < 0x28040000 then .tableHole
  else if 0x29000000 ≤ a ∧ a < 0x29002000 then .retained
  else if 0x40000000 ≤ a ∧ a < 0x400C0000 ∧ a % 65536 < 4096 then .regs ((a - 0x40000000) / 65536)
  else if 0x400C0000 ≤ a ∧ a < 0x400C5000 then .linkWin ((a - 0x400C0000) / 4096)
  else .outside

/-- R37 permits a read. -/
def mayRead (m : Master) (r : Region) : Bool :=
  match r with
  | .rom => decide (4 ≤ m.val)
  | .outside => false
  | _ => true

/-- R37 permits a write: the FCR takes those of the Lockkeeper and the debug port, and `FCR_CODE_IDX` of all
(R322). -/
def mayWrite (m : Master) (a : Nat) (r : Region) : Bool :=
  match r with
  | .rom | .nvm | .outside => false
  | .regs 10 => decide (4 ≤ m.val) || a == F.FCR_CODE_IDX_CODE.addr
  | _ => true

/-- The accesses of the debug port are permitted only while debug access is open (R339). -/
def State.portOpen (s : State) (m : Master) : Bool := m != debugPort || s.trust.dbgOpen

/-- The bus runs and takes the accesses of a master. -/
def State.onBus (s : State) (m : Master) : Bool := s.running && s.portOpen m

/-- An access outside the map or not permitted (R38): bus error, and the FCR takes the master ID and address. -/
def State.busFail (s : State) (m : Master) (addr : Nat) : State :=
  { s with bus := ⟨0, true⟩, fcr := { s.fcr with decode := some (m, addr) } }.raiseF FC.BUS_DECODE .device

/-- An access that completes without error (R14, R366). -/
def State.busDone (s : State) : State := { s with bus := { s.bus with error := false } }

/-- A read is answered. -/
def State.busGive (s : State) (w : Word) : State := { s with bus := ⟨w, false⟩ }

/-- The clock domain of a block is up: a block in reset reads 0 and ignores writes (R366). -/
def State.blockUp (s : State) (block : Nat) : Bool :=
  match block with
  | 3 | 4 => s.sys.up[1]
  | 7 => s.sys.up[4]
  | 10 => true
  | _ => s.sys.up[2]

/-! ## Registers -/

/-- A register, or one of an array, stands at an address. -/
def RegDef.covers (r : RegDef) (a : Nat) : Bool :=
  if r.stride = 0 then r.addr == a
  else decide (r.addr ≤ a) && (a - r.addr) % r.stride == 0 && decide ((a - r.addr) / r.stride < r.count)

/-- The registers of a block. -/
def blockRegs : Nat → List RegDef
  | 0 => regsSys
  | 1 => regsLock
  | 2 => regsLane
  | 3 => regsMod
  | 4 => regsFlt
  | 5 => regsConv
  | 6 => regsPos
  | 7 => regsCan
  | 8 => regsCrc
  | 9 => regsEvc
  | 10 => regsFcr
  | _ => regsNvmc

/-- The register at an address, none where the map reserves it. -/
def regFind (block a : Nat) : Option RegDef :=
  if a = 0x40040058 ∨ a = 0x4004005C then none else (blockRegs block).find? fun r => r.covers a

/-! The instances that a master's selects name. -/

def State.selLock (s : State) (m : Master) : Lk := ⟨s.rd F.LOCK_CUR_CUR m % 16, by omega⟩
def State.selLane (s : State) (m : Master) : LaneIx := ⟨s.rd F.LANE_SEL_LANE m % 12, by omega⟩
def State.selMod (s : State) (m : Master) : Br := ⟨s.rd F.MOD_BRIDGE_SEL_BRIDGE m % 2, by omega⟩
def State.selFlt (s : State) (m : Master) : Br := ⟨s.rd F.FLT_BRIDGE_SEL_BRIDGE m % 2, by omega⟩
def State.selConv (s : State) (m : Master) : ConvIx := ⟨s.rd F.CONV_SEL_INST m % 15, by omega⟩
def State.selPort (s : State) (m : Master) : PortIx := ⟨s.rd F.PORT_SEL_PORT m % 4, by omega⟩
def State.selCan (s : State) (m : Master) : Fin 4 := ⟨s.rd F.CAN_SEL_CAN m % 4, by omega⟩
def State.selMb (s : State) (m : Master) : Nat := s.rd F.MB_SEL_MB m
def State.selCrc (s : State) (m : Master) : Fin 4 := ⟨s.rd F.CRC_SEL_UNIT m % 4, by omega⟩
def State.selCnt (s : State) (m : Master) : Fin 32 := ⟨s.rd F.CNT_SEL_CNT m % 32, by omega⟩

/-- The register-file instance that an access of a master reaches. -/
def State.busInst (s : State) (m : Master) (w : Win) : Nat :=
  match w with
  | .blk => 0
  | .perMaster => m.val
  | .lock => (s.selLock m).val
  | .lane => (s.selLane m).val
  | .modBridge => (s.selMod m).val
  | .fltBridge => (s.selFlt m).val
  | .conv => (s.selConv m).val
  | .port => (s.selPort m).val
  | .can => (s.selCan m).val
  | .mb => mbI (s.selCan m) (s.selMb m)
  | .crc => (s.selCrc m).val
  | .cnt => (s.selCnt m).val

/-- The `RANGE` bit of a block. -/
def rangeFld (block : Nat) : Option Fld :=
  match block with
  | 0 => some F.SYS_ERR_RANGE
  | 1 => some F.LOCK_ERR_RANGE
  | 2 => some F.LANE_ERR_RANGE
  | 3 => some F.MOD_ERR_RANGE
  | 4 => some F.FLT_ERR_RANGE
  | 5 => some F.CONV_ERR_RANGE
  | 6 => some F.POS_ERR_RANGE
  | 7 => some F.CAN_ERR_RANGE
  | 8 => some F.CRC_ERR_RANGE
  | 9 => some F.EVC_ERR_RANGE
  | 10 => some F.FCR_ERR_RANGE
  | 11 => some F.NVMC_ERR_RANGE
  | _ => none

/-- A block's `RANGE` bit is set. -/
def State.rangeErr (s : State) (block : Nat) : State :=
  match rangeFld block with
  | some f => s.flag f 0 true
  | none => s

/-! ## Pauses (R15) -/

/-- A bridge uses a machine. -/
def State.machineRuns (s : State) (m : Nat) : Bool :=
  [(0 : Br), 1].any fun b => s.machine b == m && s.bit F.FLT_CTRL_ENABLE b

/-- What a register belongs to is paused (R226, R280, R396 and the register windows of chapters 05, 06, 08). -/
def State.paused (s : State) (m : Master) (w : Win) (a : Nat) : Bool :=
  match w with
  | .lane => s.rd F.LANE_STATUS_STATE (s.selLane m) != 2
  | .modBridge => !s.bit F.FLT_CTRL_ENABLE (s.selMod m) && !s.bit F.MOD_CTRL_ARM (s.selMod m)
  | .fltBridge => !s.bit F.FLT_CTRL_ENABLE (s.selFlt m)
  | .conv => !s.bit F.CONV_CFG_ENABLE (s.selConv m)
  | .port => !s.portOn (s.selPort m)
  | .can | .mb => s.bit F.CAN_CTRL_INIT (s.selCan m)
  | _ =>
    if a = F.POS_CONV_ILV.addr then (List.finRange 4).all fun p => !s.portOn p
    else if a = F.ACLK_CTRL_ENABLE.addr then !s.aclkOn 0
    else if a = F.ACLK_CTRL_ENABLE.addr + 64 then !s.aclkOn 1
    else if 0x40040040 ≤ a ∧ a < 0x40040058 then !s.machineRuns 0
    else if 0x40040060 ≤ a ∧ a < 0x40040078 then !s.machineRuns 1
    else true

/-! ## Access codes -/

/-- The access code of a field: the backup registers 12 to 15 are guarded, and so are the settable fields of a
monitor instance (R29). -/
def State.accOf (s : State) (m : Master) (w : Win) (a : Nat) (f : FieldDef) : Acc :=
  if 0x40000130 ≤ a ∧ a < 0x40000140 then .rwg
  else if w = .conv ∧ ((s.selConv m).val = 12 ∨ (s.selConv m).val = 13) ∧ (f.acc = .rw ∨ f.acc = .rwp) then .rwg
  else f.acc

/-- The handle of a field of a register at an address. -/
def FieldDef.at (f : FieldDef) (a : Nat) : Fld := ⟨a, f.hi, f.lo⟩

end Sys2Proof.Machine
end

