-- ==== Sys2Proof/Machine/BusWrite.lean ====
section
/-! DEFINITION. The legality of a register write (R14 to R16, R18), the value it stores, and the writes into the
addressed memories (R37, R162, R186, R210, R350). -/

namespace Sys2Proof.Machine

/-! ## Ranges that the register tables give in words -/

/-- The fields whose legal range is that of a parameter (R280, R284, R281, R296), with the parameter's first ID. -/
def parFields : List (Fld × Nat) :=
  [(F.LANE_DIDT_TRIP, 0x070B), (F.LANE_DIDT_LS, 0x070A), (F.LANE_INTEG_TRIP, 0x070E),
   (F.LANE_DESAT_BLANK, 0x0710), (F.LANE_DESAT_VOLT, 0x070F), (F.LANE_OV3_VDC_OV3, 0x0712),
   (F.LANE_PROT_VEEL_TRIP, 0x0713), (F.LANE_RETRY_WAIT, 0x0714), (F.LANE_RETRY_MAX, 0x0715),
   (F.LANE_GATE_T_OFF, 0x0705), (F.LANE_GATE_T_ON, 0x0704), (F.LANE_GATE_BAND, 0x0706),
   (F.LANE_GATE_STEP_MAX, 0x0708), (F.LANE_GST_DATA_BIN_A, 0x0709), (F.LANE_OV2_VDC_OV2, 0x0809)] ++
  [(F.SYS_WEIR_START_MV, 0x0801), (F.SYS_WEIR_FULL_MV, 0x0802), (F.SYS_WEIR_CHOP_ON_MV, 0x0803),
   (F.SYS_WEIR_CHOP_OFF_MV, 0x0804), (F.SYS_WEIR_OV2_MV, 0x0809), (F.SYS_WEIR_CHOP1_LANE, 0x0805),
   (F.SYS_WEIR_CHOP0_MIN, 0x0806), (F.SYS_WEIR_CHOP0_CHECK, 0x0807), (F.SYS_WEIR_CHOP1_DROP, 0x0808),
   (F.SYS_THERM_CFG_WARN, 0x0C02), (F.SYS_THERM_CFG_DERATE, 0x0C03), (F.SYS_THERM_CFG_DERATE_MIN, 0x0C04),
   (F.MOD_DPWM_ON, 0x0506), (F.MOD_DPWM_OFF, 0x0507), (F.NVMC_REC_CLASS, 0x0B02),
   (F.NVMC_REC_AUTO_PIN, 0x0B05)]

/-- A value of a field lies in its parameter's range; a signed parameter's field is two's complement. -/
def parLegal (f : Fld) (id v : Nat) : Bool :=
  match paramFind id with
  | some (r, _) =>
    let n := f.hi + 1 - f.lo
    r.inRange (if r.vmin < 0 then (BitVec.ofNat 32 (v * 2 ^ (32 - n))).sshiftRight (32 - n) else BitVec.ofNat 32 v)
  | none => true

/-- A field's value satisfies the parameter that the field holds. -/
def fieldLegal (f : Fld) (v : Nat) : Bool :=
  parFields.all fun x => x.1 != f || parLegal f x.2 v

/-- The gains of a channel (R232): the highest gain code, by converter kind. -/
def gainMax (i : ConvIx) (ch : Nat) : Nat :=
  if i.val < 12 then (if ch = 0 then 4 else if ch = 3 then 1 else 0)
  else if i.val = 14 ∧ ch < 4 then 1 else 0

/-- A channel of R232, low-side channels on low-side lanes only. -/
def chanListed (i : ConvIx) (ch : Nat) : Bool :=
  if h : i.val < 12 then decide (ch < 8) && ((ch != 0 && ch != 2) || laneLow ⟨i.val, h⟩)
  else if i.val = 14 then decide (ch < 12) else decide (ch < 5)

/-- A channel of the external-sensor class (R232). -/
def chanExt (i : ConvIx) (ch : Nat) : Bool :=
  if i.val < 12 then ch == 3 else if i.val = 14 then decide (ch < 4) else decide (ch < 3)

/-- A sequence entry keeps R232 and R233. -/
def entryLegal (i : ConvIx) (e : Nat) (w : Word) : Bool :=
  let ch := entChan w
  let conv := w.toNat / 2 ^ 20 % 4
  let stime := w.toNat / 2 ^ 10 % 1024
  let lane := decide (i.val < 12)
  chanListed i ch && decide (entGain w ≤ gainMax i ch) &&
    (entOwc w == 0 || (entOwc w != 3 && chanExt i ch)) &&
    (if lane then conv != 3 else conv == 0) && decide (4 ≤ stime ∧ stime ≤ 512) &&
    (!entWin w || (lane && e == 0 && ch == 0))

/-- `MB_FMT.LEN` fits its format (R386). -/
def lenLegal (fmt len : Nat) : Bool :=
  match fmt with
  | 0 => decide (len ≤ 8)
  | 1 => fdLengths.contains len
  | _ => decide (1 ≤ len ∧ len ≤ 256)

/-- The width of a check value (R420). -/
def crcWidth (poly : Nat) : Nat :=
  match poly with
  | 0 => 8
  | 1 => 16
  | 4 => 64
  | _ => 32

/-- An axis bound keeps its minimum below its maximum; `k` is the register's index (chapter 06). -/
def State.axisLegal (s : State) (base k : Nat) (w : Word) : Bool :=
  let at_ (j : Nat) : Int := (s.word ⟨base + 4 * j, 31, 0⟩ 0).toInt
  match k with
  | 0 => decide (w.toInt < at_ 1)
  | 1 => decide (at_ 0 < w.toInt)
  | 3 => decide (w.toInt < at_ 4)
  | 4 => decide (at_ 3 < w.toInt)
  | _ => true

/-- A transmit buffer is `PENDING` or `ACTIVE`. -/
def State.mbBusy (s : State) (i : Nat) : Bool :=
  s.rd F.MB_CFG_DIR i == 2 && (s.rd F.MB_STATUS_STATE i == 1 || s.rd F.MB_STATUS_STATE i == 2)

/-- What the register tables say in words of a written word's legality. -/
def State.wordLegal (s : State) (m : Master) (i a : Nat) (w : Word) : Bool :=
  let g (f : Fld) : Nat := f.get w
  if a = F.SYS_IRQ_ROUTE_K_ROUTE.addr then w &&& ~~~irqMaskK == 0
  else if F.SYS_IRQ_EN_P_EN.addr ≤ a ∧ a < F.SYS_IRQ_SOFT_FLAG.addr then w &&& ~~~irqMaskP == 0
  else if a = F.LANE_CFG_BOOTSTRAP.addr then g F.LANE_CFG_BOOTSTRAP == 0 || !laneLow (s.selLane m)
  else if a = F.LANE_PLAN_PLAN.addr then decide (g F.LANE_PLAN_PLAN ≤ 2)
  else if a = F.LANE_CAP_CTRL_TRIG.addr then decide (g F.LANE_CAP_CTRL_TRIG ≤ 5)
  else if a = F.MOD_DEAD_DEAD_MIN.addr then
    decide (g F.MOD_DEAD_DEAD_MIN ≤ g F.MOD_DEAD_DEAD_MAX ∧ g F.MOD_DEAD_DEAD_MAX ≤ g F.MOD_DEAD_DEAD_MIN + 1020)
  else if a = F.MOD_DPWM_ON.addr then decide (g F.MOD_DPWM_OFF < g F.MOD_DPWM_ON)
  else if a = F.MOD_SYNC_ON.addr then g F.MOD_SYNC_ON == 0 || decide (g F.MOD_SYNC_OFF < g F.MOD_SYNC_ON)
  else if a = F.FLT_STORM_LIMIT.addr then decide (g F.FLT_STORM_LIMIT < g F.FLT_STORM_WINDOW)
  else if 0x40040040 ≤ a ∧ a < 0x40040058 then s.axisLegal 0x40040040 ((a - 0x40040040) / 4) w
  else if 0x40040060 ≤ a ∧ a < 0x40040078 then s.axisLegal 0x40040060 ((a - 0x40040060) / 4) w
  else if 0x40050140 ≤ a ∧ a < 0x40050180 then entryLegal (s.selConv m) ((a - 0x40050140) / 4) w
  else if a = F.ACLK_CTRL_REDUND.addr ∨ a = F.ACLK_CTRL_REDUND.addr + 64 then
    decide (g F.ACLK_CTRL_REDUND ≤ 4) || g F.ACLK_CTRL_REDUND == 15
  else if a = F.POS_CONV_ILV.addr then
    let ok (v : Nat) : Bool := decide (v < 4) || v == 15
    ok (g F.POS_CONV_PAIR0_PORT) && ok (g F.POS_CONV_PAIR1_PORT) &&
      (g F.POS_CONV_ILV == 0 || g F.POS_CONV_PAIR1_PORT == 15)
  else if a = F.CAN_DBT_SJW.addr ∨ a = F.CAN_XBT_SJW.addr then decide (g F.CAN_DBT_SJW ≤ g F.CAN_DBT_TSEG2)
  else if a = F.MB_CMD_REQ.addr ∨ a = F.MB_STATUS_STATE.addr then true
  else if 0x40070200 ≤ a ∧ a < 0x40071000 then
    !s.mbBusy i && (a != F.MB_FMT_LEN.addr || lenLegal (g F.MB_FMT_FMT) (g F.MB_FMT_LEN))
  else if a = F.CRC_CFG_POLY.addr then decide (g F.CRC_CFG_POLY ≤ 4)
  else if a = F.CRC_VAL_LO_VALUE.addr then decide (w.toNat < 2 ^ crcWidth s.crcs[s.selCrc m].poly)
  else if a = F.CRC_VAL_HI_VALUE.addr then crcWidth s.crcs[s.selCrc m].poly == 64 || w == 0
  else if a = F.CNT_CFG_SRC.addr then srcDefined (g F.CNT_CFG_SRC)
  else true

/-! ## The write of a register -/

/-- What a write of a master does with each field of a register. -/
structure WriteView where
  m : Master
  a : Nat
  inst : Nat
  reg : RegDef
  acc : FieldDef → Acc
  paused : Bool

def State.writeView (s : State) (m : Master) (r : RegDef) (a : Nat) : WriteView :=
  ⟨m, a, s.busInst m r.win, r, s.accOf m r.win a, s.paused m r.win a⟩

/-- The write reaches the field (R12, R14, R15). -/
def WriteView.takes (v : WriteView) (f : FieldDef) : Bool :=
  match v.acc f with
  | .rw | .wo => true
  | .rwg => v.m == keeper
  | .rwp => v.paused
  | _ => false

/-- The value written to the field is held against its range: every field that stores values, but a guarded one
of another master, whose write is ignored by itself (R14, R16). -/
def WriteView.ranged (v : WriteView) (f : FieldDef) : Bool :=
  match v.acc f with
  | .rw | .wo | .rwp => true
  | .rwg => v.m == keeper
  | _ => false

/-- Some field is guarded against the master (R14). -/
def WriteView.guards (v : WriteView) : Bool :=
  v.m != keeper && v.reg.fields.any fun f => v.acc f == .rwg

/-- Some field is written while its block is not paused (R15). -/
def WriteView.unpaused (v : WriteView) : Bool := !v.paused && v.reg.fields.any fun f => v.acc f == .rwp

/-- Every value written is in range (R16, R18). -/
def State.writeLegal (s : State) (v : WriteView) (w : Word) : Bool :=
  let fs := v.reg.fields.filter v.ranged
  (fs.all fun f =>
    let x := (f.at v.a).get w
    decide (f.vmin ≤ x ∧ x ≤ f.vmax) && fieldLegal (f.at v.a) x) &&
    (fs.isEmpty || s.wordLegal v.m v.inst v.a w)

/-- The fields whose writes do what their register's rule says and store nothing by themselves. -/
def actingFields : List Fld :=
  [F.SYS_RST_CTRL_WARM, F.SYS_RST_CTRL_PILOT_HOLD, F.SYS_STANDBY_ENTER, F.SYS_WDG_CHAL_VALUE, F.SYS_WDG_ANS_VALUE,
   F.FCR_KEEPER_BEAT, F.FCR_ACK_ACK, F.FCR_ACK_TOGGLE, F.FCR_INJECT_CODE, F.FCR_INJECT_LOC,
   F.NVMC_COMMIT_GO, F.NVMC_COMMIT_INVALIDATE, F.NVMC_COMMIT_SLOT, F.FLT_CTRL_ENABLE, F.FLT_CTRL_HOLD,
   F.FLT_IREF_D_IREF, F.FLT_IREF_Q_IREF, F.CAN_CTRL_INIT, F.PORT_STATUS_FLAGS, F.PORT_TURN_LO_TURN_LO,
   F.PORT_TURN_HI_TURN_HI, F.CONV_DIAG_FAIL, F.CNT_CFG_SRC, F.CNT_CFG_FREEZE,
   F.CRC_VAL_LO_VALUE, F.CRC_VAL_HI_VALUE] ++
  [F.ACLK_STATUS_OBS_REDUND, F.ACLK_STATUS_OBS_REDUND.at 16]

/-- The word after the write of one field. -/
def WriteView.put (v : WriteView) (w x : Word) (f : FieldDef) : Word :=
  let h := f.at v.a
  if actingFields.contains h then x
  else
    match v.acc f with
    | .rw | .rwg | .rwp => if v.takes f then h.put x (h.get w) else x
    | .w1c => h.put x (h.get (x &&& ~~~w))
    | _ => x

/-- The word that a write leaves in a register. -/
def WriteView.stored (v : WriteView) (old w : Word) : Word := v.reg.fields.foldl (v.put w) old

/-! ## The lane window (R262) -/

/-- The word that a register-write frame carries: fields not written keep what they will hold, flags to clear and
strobes go as written. -/
def WriteView.lanePut (v : WriteView) (w x : Word) (f : FieldDef) : Word :=
  let h := f.at v.a
  match v.acc f with
  | .w1c | .wo => h.put x (h.get w)
  | _ => if v.takes f then h.put x (h.get w) else x

/-- A write into the lane window: the word goes through the link; `LANE_CAP_ADDR` belongs to the copy on the
control die, and the plan travels in every header of R258 and takes effect there. -/
def State.laneBus (s : State) (v : WriteView) (w : Word) : State :=
  let k := s.selLane v.m
  let f : Fld := ⟨v.a, 31, 0⟩
  if !v.reg.fields.any fun g => v.takes g || v.acc g == .w1c then s
  else if v.a = F.LANE_CAP_ADDR_ADDR.addr then s.wr F.LANE_CAP_ADDR_ADDR k (F.LANE_CAP_ADDR_ADDR.get w)
  else
    let fresh := v.a == F.LANE_CMD_CLEAR.addr || v.a == F.LANE_STATUS_STATE.addr || v.a == F.LANE_QUEUE_COUNT.addr
    let x := v.reg.fields.foldl (v.lanePut w) (if fresh then 0 else s.laneNext k f)
    let s := s.laneSend k f x
    if v.a = F.LANE_PLAN_PLAN.addr then
      (s.wr F.LANE_PLAN_PLAN k (F.LANE_PLAN_PLAN.get w)).upLink k fun l => { l with planGiven := true }
    else s

/-! ## Memories -/

/-- A write into a table store, or into an Angle Event Table half, that the use of the table blocks (R162, R186, R210, R350). -/
def State.tableBlocked (s : State) (a : Nat) : Bool :=
  let o := a - 0x28000000
  if a < 0x28012000 then
    s.params.job.isSome || [(0 : Br), 1].any fun b => s.machine b == o / 0x9000 && s.bit F.FLT_CTRL_ENABLE b
  else if a < 0x28022000 then
    s.params.job.isSome || [(0 : Br), 1].any fun b =>
      match s.flights[b].present with
      | some sl => sl.sync && s.flightRuns b
      | none => false
  else if a < 0x28032000 then s.params.job.isSome
  else s.flightRuns (if a < 0x28036000 then 0 else 1)

/-- A word is written into an addressed memory. -/
def State.memBus (s : State) (r : Region) (a : Nat) (w : Word) : State :=
  match r with
  | .table => if s.tableBlocked a then s.evt E.TABLE_WRITE_BLOCKED else s.setMemW a w
  | .pilotSram | .retained => s.setMemW a w
  | _ => s

end Sys2Proof.Machine
end

