-- ==== Sys2Proof/Machine/FaultOps.lean ====
section
/-! DEFINITION. The FCR's own sequences as shared operations: a Lockkeeper failure (R318), the heartbeat, the
`ALIVE` conditions (R319) and the sampling of source lines (R300). -/

namespace Sys2Proof.Machine

/-- The 10 s window of R318. -/
def failWindow : Nat := 10000 * msCounts

/-- The 200 µs of a heartbeat. -/
def beatLimit : Nat := 200 * usCounts

/-- A Lockkeeper failure (R318, R364): `ALL_SAFE`, the Locks disabled, then one warm reset, or `HOLD` at a
second failure within 10 s, with `sys.keeper_retry` 0, or with reset scope `MINIMAL`. A failure that has
already been taken counts once. -/
def State.keeperFail (s : State) (code : Nat) : State :=
  if s.bit F.FCR_STATUS_KEEPER_FAIL then s
  else
    let second := match s.fcr.failAt with
      | some t => decide (s.now < t + failWindow)
      | none => false
    let retry := s.bit F.FCR_CTRL_KEEPER_RETRY && !s.bit F.SYS_RST_CTRL_SCOPE && !second
    let s := s.raiseOn code .device (fixedClass code)
    let s := (s.flag F.FCR_STATUS_KEEPER_FAIL 0 true).flag F.LOCK_CTRL_ENABLE 0 false
    let s := s.wr F.FCR_KEEPER_FAIL_COUNT 0 (min 255 (s.rd F.FCR_KEEPER_FAIL_COUNT + 1))
    let s := { s with fcr := { s.fcr with failAt := some s.now } }
    s.react .device (if retry then .resetWarm else .hold)

/-- A write of `FCR_KEEPER.BEAT` (R318): alternately 0x5A and 0xA5; a repeated or any other value is a missed
heartbeat. -/
def State.beat (s : State) (v : Nat) : State :=
  if (v = 0x5A ∨ v = 0xA5) ∧ v ≠ s.rd F.FCR_KEEPER_BEAT then
    { s.wr F.FCR_KEEPER_BEAT 0 v with fcr := { s.fcr with beatAt := s.now } }
  else s.keeperFail FC.KEEPER_HB

/-- The heartbeat is current. -/
def State.beatCurrent (s : State) : Bool :=
  !s.bit F.FCR_STATUS_KEEPER_FAIL && decide (s.now ≤ s.fcr.beatAt + beatLimit)

/-- `ALIVE` toggles (R319). -/
def State.aliveOk (s : State) : Bool :=
  s.running && s.sys.oscOk && s.bit F.FCR_CTRL_ALIVE_EN && s.beatCurrent && !s.bit F.FCR_STATUS_HOLD &&
    !(s.fcr.latched.any fun l => decide (5 ≤ clsCode l.cls)) &&
    s.dst 0 != .boot && s.dst 0 != .safeHold

/-- The class that a source line's block presents (R301): SYS presents `FLT_STATE_ECC` by the reset scope. -/
def State.sourceClass (s : State) (f : FaultSrc) : RClass :=
  if f.code = FC.STATE_ECC then (if s.bit F.SYS_RST_CTRL_SCOPE then .allSafe else .resetWarm)
  else if isPresented f.code then f.cls
  else fixedClass f.code

/-- Sources in the order of their codes (R300: `FCR_FIRST` records the lowest). -/
def srcInsert (f : FaultSrc) : List FaultSrc → List FaultSrc
  | [] => [f]
  | g :: gs => if f.code < g.code then f :: g :: gs else g :: srcInsert f gs

/-- One source line at a sample: asserted anew, it is raised; ended, its condition ends. A line of the Lockkeeper
comparator or heartbeat check is a Lockkeeper failure. -/
def State.sourceLine (s : State) (f : FaultSrc) : State :=
  if f.on then
    if f.code = FC.KEEPER_LOCKSTEP ∨ f.code = FC.KEEPER_HB then s.keeperFail f.code
    else if s.condActive f.code f.loc then s
    else if s.sourceClass f = .none then s
    else s.raiseOn f.code f.loc (s.sourceClass f)
  else s.condition f.code f.loc false

end Sys2Proof.Machine
end

