-- ==== Sys2Proof/Machine/BusHook.lean ====
section
/-! DEFINITION. What the writes of the registers do beside storing a value: the rules that the register tables of
chapters 02, 05 to 09, 11, 13 to 15 and 17 name at their fields. -/

namespace Sys2Proof.Machine

/-! ## Block reset (R372) -/

/-- A Lock is claimed by a transport that satisfies a test. -/
def State.lockHeld (s : State) (p : Transport → Bool) : Bool :=
  s.locks.toList.any fun l => match l.owner with
    | some t => p t
    | none => false

/-- Every register instance `i` with a bus address in an interval returns to its reset word. -/
def State.regsReset (s : State) (lo hi : Nat) (inst : Nat → Bool) : State :=
  { s with regs := s.regs.filter fun e =>
      !(decide (lo ≤ e.1 % 4294967296 ∧ e.1 % 4294967296 < hi) && inst (e.1 / 4294967296)) }

/-- Every master's copy of a select register returns to 0. -/
def State.selectReset (s : State) (a : Nat) : State := s.regsReset a (a + 4) fun i => decide (i < 6)

/-- The block is not idle (R372): it transmits, holds a claimed Lock, or is a position source in use. -/
def State.blockBusy (s : State) (code : Nat) : Bool :=
  if h : code < 4 then
    let c : Fin 4 := ⟨code, h⟩
    s.cans[c].tx.isSome || s.lockHeld fun t => match t with
      | .canXl d | .canFd d => d == c
      | _ => false
  else if code < 6 then s.lockHeld (fun t => match t with | .udp m _ _ => m.val + 4 == code | _ => false) ||
    s.net.ethTx.any fun x => x.1.val + 4 == code
  else if code < 8 then
    let p (t : TowPort) : Bool := (if t = .up then 6 else 7) == code
    s.lockHeld (fun t => match t with | .tow q _ => p q | _ => false) || s.net.towTx.any fun x => p x.1
  else if code < 0x0C then false
  else if code < 0x0E then s.lockHeld fun t => match t with | .spi p => p.val + 0x0C == code | _ => false
  else if h : code - 0x0E < 4 then s.net.aspi[code - 0x0E].busy
  else if code = 0x12 then s.lockHeld fun t => match t with | .uart => true | _ => false
  else if h : 0x18 ≤ code ∧ code - 0x18 < 4 then
    [(0 : Br), 1].any fun b => s.aclkOn b && s.source b == code - 0x18
  else false

/-- The reset of an idle block: its registers return to their reset values and its select copies to 0. -/
def State.blockClear (s : State) (m : Master) (code : Nat) : State :=
  let win (s : State) (base : Nat) (i : Nat) : State := s.regsReset (base + 0x100) (base + 0x1000) (· == i)
  if h : code < 4 then
    let c : Fin 4 := ⟨code, h⟩
    let s := s.regsReset 0x40070100 0x40070200 (· == code)
    let s := s.regsReset 0x40070200 0x40071000 fun i => i / 64 == code
    (((s.selectReset F.CAN_SEL_CAN.addr).selectReset F.MB_SEL_MB.addr).upCan c fun _ => Can.reset).canLevel c
  else if code < 6 then s.selectReset 0x400C0000
  else if code < 8 then s.selectReset 0x400C1000
  else if h : code - 8 < 4 then
    { s with net := { s.net with sent := s.net.sent.set (code - 8) Sent.reset } }.selectReset 0x400C2000
  else if h : code - 0x0C < 2 then
    { s with spi := vupd s.spi ⟨code - 0x0C, h⟩ fun _ => ⟨0, []⟩ }.selectReset 0x400C3000
  else if h : code - 0x0E < 4 then
    { s with net := { s.net with aspi := s.net.aspi.set (code - 0x0E) AuxSpi.reset } }.selectReset 0x400C3000
  else if code = 0x12 then s
  else if h : code - 0x13 < 4 then
    let u : Fin 4 := ⟨code - 0x13, h⟩
    let s := ((win s 0x40080000 u).upCrc u fun _ => CrcU.reset).selectReset F.CRC_SEL_UNIT.addr
    let d := BitVec.ofNat 4 (s.rd F.CRC_DONE_DONE) &&& ~~~BitVec.ofNat 4 (2 ^ u.val)
    (s.wr F.CRC_DONE_DONE 0 d.toNat).irqBy m 23 (d != 0)
  else if code = 0x17 then
    ({ s with cnts := Vector.replicate 32 Counter.reset }.regsReset 0x40090000 0x40091000 fun _ => true).irqLevel 24
      false
  else if h : code - 0x18 < 4 then
    let p : PortIx := ⟨code - 0x18, h⟩
    ((win s 0x40060000 p).upPort p fun _ => Port.reset).selectReset F.PORT_SEL_PORT.addr
  else s

/-- `SYS_BLK_RST.REQ` (R372); `open_`: a bus or link transaction of the block is outstanding. -/
def State.blockReset (s : State) (m : Master) (code : Nat) (open_ : Bool) : State :=
  let s := s.wr F.SYS_BLK_STATUS_LAST 0 code
  if open_ || s.blockBusy code then
    (s.flag F.SYS_BLK_STATUS_RST_REFUSED 0 true).flag F.SYS_BLK_STATUS_DONE 0 false
  else ((s.blockClear m code).flag F.SYS_BLK_STATUS_DONE 0 true).flag F.SYS_BLK_STATUS_RST_REFUSED 0 false

/-! ## Hooks by block; `o` is the state before the write and `w` the word written -/

/-- `PILOT_HOLD` is written: the cluster goes into reset or leaves it (R369, R317). -/
def State.pilotHoldWrite (s : State) (hold : Bool) : State :=
  if hold then
    if s.bit F.SYS_RST_CTRL_PILOT_HOLD then s
    else
      let s := s.pilotLocksOut
      { s with pilot := { s.pilot with chal := none, restarting := true } }.pilotIntoReset
  else if s.bit F.SYS_RST_CTRL_PILOT_HOLD then
    { s with pilot := { s.pilot with first := true } }.flag F.SYS_RST_CTRL_PILOT_HOLD 0 false
  else s

/-- SYS (chapter 14). -/
def State.hookSys (s : State) (m : Master) (a : Nat) (w : Word) (open_ : Bool) : State :=
  let k := m == keeper
  if a = F.SYS_RST_CTRL_WARM.addr then
    if k then
      let s := s.pilotHoldWrite (F.SYS_RST_CTRL_PILOT_HOLD.get w == 1)
      if F.SYS_RST_CTRL_WARM.get w = 1 then s.warmReset F.SYS_RST_CAUSE_WARM else s
    else s
  else if a = F.SYS_BLK_RST_REQ.addr then
    if F.SYS_BLK_RST_REQ.get w = 1 then s.blockReset m (F.SYS_BLK_RST_BLOCK.get w) open_ else s
  else if a = F.SYS_STANDBY_ENTER.addr then
    if k && F.SYS_STANDBY_ENTER.get w == 1 then s.standbyEnter else s
  else if a = F.SYS_THERM_STATUS_CHANGED.addr then s.irqBy m 30 (s.bit F.SYS_THERM_STATUS_CHANGED)
  else if a = F.SYS_WDG_CHAL_VALUE.addr then if k then s.challenge w else s
  else if a = F.SYS_WDG_ANS_VALUE.addr then s.answer w
  else if a = F.SYS_IRQ_SOFT_FLAG.addr then s.irqBy m 31 (s.bit F.SYS_IRQ_SOFT_FLAG)
  else s

/-- A Lock answered `TIMEOUT` in this very clock stands again as before it: a `LOCK_DONE` of the same clock
prevails (R54). -/
def State.lockUntie (s : State) (lk : Lk) : State :=
  match s.lockTie with
  | some t =>
    if t.lk = lk ∧ t.at_ = s.now ∧ s.locks[lk].gate = .reply then
      let old := { t.lock with buf := [] }.put 0 (t.lock.bytes 0 256)
      let s := ({ s with lockTie := none }.upLock lk fun _ => old).flag F.LOCK_ERR_TIMEOUT 0 t.err
      (s.each [(0 : Br), 1] fun s b => s.upB b fun x => { x with cmds := t.cmds.getD b.val x.cmds }).lockIrqs
    else s
  | none => s

/-- `LOCK_DONE` (R52 step 4): the response in the chamber is completed; only the class of the Barge may write it,
and the Lockkeeper for the Pilot class as well. -/
def State.lockDone (s : State) (m : Master) (lk : Lk) : State :=
  let s := s.lockUntie lk
  let l := s.locks[lk]
  if l.gate ≠ .service ∨ (if l.keeper then m == keeper else decide (m.val ≤ 4)) = false then
    s.flag F.LOCK_ERR_GATE_ERR 0 true
  else
    let s := if 236 < l.plen then (s.reply lk ST.LENGTH [] true).flag F.LOCK_ERR_RANGE 0 true
      else s.reply lk (l.byte 7) (l.bytes 16 l.plen) true
    let due := s.sys.standbyDue && l.code == 0x0103
    let s := { s with sys := { s.sys with standbyAt := if due then some s.now else s.sys.standbyAt } }
    s.cmdComplete l.keeper

/-- LOCK (chapter 02). -/
def State.hookLock (s : State) (m : Master) (a : Nat) (w : Word) : State :=
  if a = F.LOCK_DONE_LOCK.addr then s.lockDone m ⟨F.LOCK_DONE_LOCK.get w % 16, by omega⟩ else s

/-- A commit of the staged pair (R222). -/
def State.modCommit (s : State) (b : Br) : State :=
  let d (k : Nat) : Nat := s.rd (F.MOD_DUTY_STG_COUNT.at k) b * 32 + s.rd (F.MOD_DUTY_STG_FINE.at k) b
  let s := s.when (s.bit F.MOD_STATUS_PENDING b) fun s => s.flag F.MOD_STATUS_OVERWRITE b true
  (s.flag F.MOD_STATUS_PENDING b true).upMod b fun x => { x with
    buf := some (s.rd F.MOD_PERIOD_STG_PERIOD b, [d 0, d 1, d 2], s.dt) }

/-- The fields of the modulation unit that may change while it runs (R211, R226). -/
def runFields : List Fld :=
  [F.MOD_DPWM_ON, F.MOD_DPWM_OFF, F.MOD_OVM_SIX_ON, F.MOD_SYNC_ON, F.MOD_SYNC_OFF, F.MOD_OPP_FSW_MAX]

/-- MOD (chapter 07). -/
def State.hookMod (s o : State) (b : Br) (a : Nat) (w : Word) : State :=
  if a = F.MOD_CTRL_MODE.addr then
    let s := s.when (!o.bit F.MOD_CTRL_MODE b && s.bit F.MOD_CTRL_MODE b) fun s => s.directBegin b
    s.when (o.bit F.MOD_CTRL_ARM b && !s.bit F.MOD_CTRL_ARM b) fun s =>
      s.upMod b fun x => { x with legs := ModU.reset.legs, plan := [] }
  else if a = F.MOD_DEAD_DEAD_MIN.addr then
    if s.word F.MOD_DEAD_DEAD_MIN b = o.word F.MOD_DEAD_DEAD_MIN b then s else s.sendAdvance b
  else if a = F.MOD_COMMIT_COMMIT.addr then
    if F.MOD_COMMIT_COMMIT.get w = 1 then s.modCommit b else s
  else if runFields.any fun f => f.addr == a && s.rd f b != o.rd f b then
    s.squashGroup b 0 true false true E.SQUASH_SETPOINT
  else s

/-- `FLT_CTRL` by the Lockkeeper: `HOLD` (R184), then `ENABLE` (R192, R194). -/
def State.fltCtrl (s : State) (b : Br) (w : Word) : State :=
  let s := if F.FLT_CTRL_HOLD.get w = 1 then s.holdBegin b
    else s.when (s.bit F.FLT_CTRL_HOLD b) fun s => s.holdEnd b
  if F.FLT_CTRL_ENABLE.get w = 1 then
    s.flightStart b (!((s.dst b).isDriving || s.dst b == .safeStop))
  else s.flightClear b

/-- FLT (chapter 06). -/
def State.hookFlt (s : State) (m : Master) (b : Br) (a : Nat) (w : Word) : State :=
  if a = F.FLT_CTRL_ENABLE.addr then if m = keeper then s.fltCtrl b w else s
  else if a = F.FLT_IREF_D_IREF.addr then s.irefWrite m b false w
  else if a = F.FLT_IREF_Q_IREF.addr then s.irefWrite m b true w
  else if a = F.FLT_STATUS_RETIRED.addr then
    let s := (s.irqLevel (2 + b.val) (s.bit F.FLT_STATUS_RETIRED b)).irqLevel (4 + b.val)
      (s.bit F.FLT_STATUS_SQUASH b)
    s.irqBy m 6 (s.bit F.FLT_STATUS_SHALLOW_CHG 0 || s.bit F.FLT_STATUS_SHALLOW_CHG 1)
  else s

/-- CONV (chapter 08): a converter that is switched off ends its conversions; a diagnosis that persists stays. -/
def State.hookConv (s o : State) (i : ConvIx) (a : Nat) (w : Word) : State :=
  if a = F.CONV_CFG_ENABLE.addr then
    if o.bit F.CONV_CFG_ENABLE i.val && !s.bit F.CONV_CFG_ENABLE i.val then
      (s.upConv i fun c => { c with busy := [], queue := [] }).convShow i
    else s
  else if 0x40050140 ≤ a ∧ a < 0x40050180 then s.setWord ⟨a, 31, 0⟩ i.val (w &&& 0xE73FFC0F#32)
  else if a = F.CONV_DIAG_FAIL.addr then
    let keep := (List.finRange 15).foldl (fun n k => if 2 ≤ s.convs[k].badRounds then n + 2 ^ k.val else n) 0
    s.wr F.CONV_DIAG_FAIL 0 (s.word F.CONV_DIAG_FAIL 0 &&& (~~~w ||| BitVec.ofNat 32 keep)).toNat
  else s

/-- The Angle Clock of a bridge is enabled or its observer flag written (R144, R149). -/
def State.hookAclk (s o : State) (b : Br) (a : Nat) (w : Word) : State :=
  let off := 16 * b.val
  if a = (F.ACLK_CTRL_ENABLE.at off).addr then
    if !o.aclkOn b && s.aclkOn b then (s.upAclk b fun x => { x with fresh := true }).aclkSelect b false else s
  else if a = (F.ACLK_STATUS_OBS_REDUND.at off).addr then
    if w.getLsbD 5 && !s.aclks[b].obsCond then
      (s.flag (F.ACLK_STATUS_OBS_REDUND.at off) 0 false).posConds b
    else s
  else s

/-- POS (chapter 05). -/
def State.hookPos (s o : State) (p : PortIx) (a : Nat) (w : Word) : State :=
  if a < 0x40060080 ∧ 0x40060040 ≤ a then s.hookAclk o 0 a w
  else if a < 0x400600C0 ∧ 0x40060080 ≤ a then s.hookAclk o 1 a w
  else if a = F.PORT_CFG_ENABLE.addr then
    if o.portOn p then (if s.portOn p then s else s.aclkSelect (s.portBr p) false) else s.portReinit p
  else if a = F.PORT_STATUS_FLAGS.addr then
    let keep := BitVec.ofNat 16 (s.portFlags p) &&& (~~~w.setWidth 16 ||| s.ports[p].cond ||| 0x0C00)
    ((s.wr F.PORT_STATUS_FLAGS p keep.toNat).posConds (s.portBr p)).portShow p
  else if a = F.PORT_TURN_LO_TURN_LO.addr then s.upPort p fun x => { x with turnLo := w }
  else if a = F.PORT_TURN_HI_TURN_HI.addr then
    s.upPort p fun x => { x with turn := (w.setWidth 16 ++ x.turnLo : BitVec 48).toInt }
  else s

/-- `MB_CFG.DIR` has changed: the buffer is empty (DEDUCED). -/
def State.mbEmpty (s : State) (c : Fin 4) (mb : Nat) : State :=
  (s.setWord F.MB_STATUS_STATE (mbI c mb) 0).upCan c fun x => { x with
    shadows := x.shadows.filter fun e => e.1 != mb }

/-- CAN (chapter 15). -/
def State.hookCan (s o : State) (c : Fin 4) (mb a : Nat) (w : Word) : State :=
  if a = F.CAN_CTRL_INIT.addr then
    let v := F.CAN_CTRL_INIT.get w == 1
    let s := if v == o.bit F.CAN_CTRL_INIT c then s else s.canInit c v
    if F.CAN_CTRL_RECOVER.get w = 1 then s.canRecover c else s
  else if a = F.CAN_IRQ_RX.addr ∨ a = F.CAN_IRQ_EN_RX.addr then s.canLevel c
  else if a = F.MB_CMD_REQ.addr then
    let s := if F.MB_CMD_RELEASE.get w = 1 then s.mbRelease c mb else s
    let s := if F.MB_CMD_CANCEL.get w = 1 then s.mbCancel c mb else s
    if F.MB_CMD_REQ.get w = 1 then s.mbReq c mb else s
  else if a = F.MB_CFG_DIR.addr then
    if s.rd F.MB_CFG_DIR (mbI c mb) = o.rd F.MB_CFG_DIR (mbI c mb) then s else s.mbEmpty c mb
  else s

/-! ## Check values (R420 to R425) -/

/-- The polynomial of a check value. -/
def crcPoly (poly : Nat) : Nat :=
  match poly with
  | 0 => 0x1D
  | 1 => 0x1021
  | 2 => 0x04C11DB7
  | 4 => 0x42F0E1EBA9EA3693
  | _ => 0x1EDC6F41

/-- The bits of a number in reverse order over a width. -/
def revBits : Nat → Nat → Nat
  | 0, _ => 0
  | n + 1, v => v % 2 * 2 ^ n + revBits n (v / 2)

/-- One byte folded into the running value (R422). -/
def crcFold (poly : Nat) (reflect : Bool) (r : Nat) (b : Byte) : Nat :=
  let w := crcWidth poly
  if reflect then crcByteR (revBits w (crcPoly poly)) r b else crcByteL w (crcPoly poly) r b

/-- `CRC_START` (R421): the polynomial written last takes effect. -/
def State.crcStart (s : State) (u : Fin 4) : State :=
  let poly := s.rd F.CRC_CFG_POLY u
  let ones := 2 ^ crcWidth poly - 1
  let init := if s.bit F.CRC_CFG_INIT_ONES u then ones else 0
  let ctx := (s.word F.CRC_CTX_CTX u).toNat % (ones + 1)
  s.upCrc u fun c => { c with value := BitVec.ofNat 64 (init ^^^ ctx), poly := poly }

/-- The bytes of an access size. -/
def sizeBytes : AccSize → Nat
  | .byte => 1
  | .half => 2
  | .word => 4

/-- A write of `CRC_DATA` (R422, R425). -/
def State.crcData (s : State) (u : Fin 4) (size : AccSize) (v : Word) : State :=
  let n := sizeBytes size
  let en := s.bit F.CRC_COUNT_EN u
  let left := s.rd F.CRC_COUNT_COUNT u
  if en && decide (left < n) then s.flag F.CRC_ERR_RANGE 0 true
  else
    let poly := s.crcs[u].poly
    let r := (leBytes n v.toNat).foldl (crcFold poly (s.bit F.CRC_CFG_REFLECT u)) s.crcs[u].value.toNat
    let s := s.upCrc u fun c => { c with value := BitVec.ofNat 64 r }
    if !en then s
    else
      let s := s.wr F.CRC_COUNT_COUNT u (left - n)
      if left = n then
        let d := BitVec.ofNat 4 (s.rd F.CRC_DONE_DONE) ||| BitVec.ofNat 4 (2 ^ u.val)
        ((s.wr F.CRC_DONE_DONE 0 d.toNat).flag F.CRC_COUNT_EN u false).irqLevel 23 true
      else s

/-- A write of the running value (R424). -/
def State.crcLoad (s : State) (u : Fin 4) (hi : Bool) (v : Word) : State :=
  if crcWidth s.crcs[u].poly = 64 then
    if hi then s.upCrc u fun c => { c with value := v ++ c.stage }
    else s.upCrc u fun c => { c with stage := v }
  else if hi then s
  else s.upCrc u fun c => { c with value := v.setWidth 64 }

/-- CRC (chapter 17). -/
def State.hookCrc (s : State) (m : Master) (u : Fin 4) (a : Nat) (w : Word) (size : AccSize) : State :=
  if a = F.CRC_START_START.addr then if F.CRC_START_START.get w = 1 then s.crcStart u else s
  else if a = F.CRC_DATA_DATA.addr then s.crcData u size w
  else if a = F.CRC_VAL_LO_VALUE.addr then s.crcLoad u false w
  else if a = F.CRC_VAL_HI_VALUE.addr then s.crcLoad u true w
  else if a = F.CRC_DONE_DONE.addr then s.irqBy m 23 (s.bit F.CRC_DONE_DONE)
  else s

/-- EVC (chapter 17). -/
def State.hookEvc (s : State) (k : Fin 32) (a : Nat) (w : Word) : State :=
  if a = F.EVC_SNAP_SNAP.addr then
    (if F.EVC_SNAP_SNAP.get w = 1 then s.evcSnapshot else s).evcLevel
  else if a = F.CNT_CFG_SRC.addr then
    (s.cntSetup k (F.CNT_CFG_SRC.get w) (F.CNT_CFG_FREEZE.get w == 1)).evcLevel
  else if a = F.CNT_CMD_CLEAR.addr then
    if F.CNT_CMD_CLEAR.get w = 1 then (s.cntClear k).evcLevel else s
  else if a = F.EVC_FROZEN_FROZEN.addr then s.evcLevel
  else s

/-! ## FCR (chapter 11) -/

/-- The class with which an injected code of a presented class is raised: that of the rule which names it; a
position fault as from a port that is no source. -/
def State.injectClass (s : State) (code : Nat) (loc : Loc) : RClass :=
  if !isPresented code then fixedClass code
  else if code = FC.STATE_ECC then (if s.bit F.SYS_RST_CTRL_SCOPE then .allSafe else .resetWarm)
  else if code = FC.TOW_REMOTE then clsOf (s.parN P.tow_remote_class)
  else if 0x40 ≤ code then laneClass code
  else if code = FC.CUR_OFFSET ∨ code = FC.VDC_LOST ∨ code = FC.TMOD_TRIP ∨ code = FC.CUR_PLAUS then .bridgeSafe
  else if code = FC.VDC_PLAUS ∨ code = FC.MON_SUM then .degrade
  else if code = FC.SENSE_OPEN then (if loc = .device then .report else .degrade)
  else if code = FC.CONV_DIAG then (match loc with | .lane _ => .bridgeSafe | _ => .degrade)
  else .report

/-- `FCR_INJECT`: a test fault while both bridges are Idle. -/
def State.inject (s : State) (code loc : Nat) : State :=
  if code = 0 then s
  else
    match usedCode code && s.bothIdle, locOf loc with
    | true, some l => s.raise code l (s.injectClass code l)
    | _, _ => s.flag F.FCR_ERR_RANGE 0 true

/-- Guarded strobes of the FCR, written by the Lockkeeper. -/
def State.hookFcr (s : State) (m : Master) (a : Nat) (w : Word) : State :=
  if m ≠ keeper then s
  else if a = F.FCR_KEEPER_BEAT.addr then s.beat (F.FCR_KEEPER_BEAT.get w)
  else if a = F.FCR_ACK_ACK.addr then
    if F.FCR_ACK_ACK.get w = 1 then s.ackHere (F.FCR_ACK_TOGGLE.get w == 1) else s
  else if a = F.FCR_INJECT_CODE.addr then s.inject (F.FCR_INJECT_CODE.get w) (F.FCR_INJECT_LOC.get w)
  else s

/-- NVMC (chapter 13). -/
def State.hookNvmc (s : State) (m : Master) (a : Nat) (w : Word) : State :=
  if a = F.NVMC_DATA_DATA.addr then s.nvmData m w
  else if a = F.NVMC_COMMIT_GO.addr then if m = keeper then s.nvmCommit w else s
  else s

end Sys2Proof.Machine
end

