-- ==== Sys2Proof/Machine/BusRead.lean ====
section
/-! DEFINITION. What a bus read of a word answers (R12, R37, R38, R366): the register file, the registers that show
state held elsewhere, the read copies of R147, R424 and R430, and the memories. -/

namespace Sys2Proof.Machine

/-- A flag at a bit place. -/
def bitAt (n : Nat) (b : Bool) : Nat := if b then 2 ^ n else 0

/-- The numbers of a list that satisfy a test, as a bit map. -/
def bitMap (n : Nat) (p : Nat → Bool) : Nat := (List.range n).foldl (fun w k => w + bitAt k (p k)) 0

/-- Bits [31:0] and [47:32] of a signed 48-bit number. -/
def lo32 (x : Int) : Word := (BitVec.ofInt 48 x).setWidth 32
def hi16 (x : Int) : Word := ((BitVec.ofInt 48 x) >>> 32).setWidth 32

/-! ## Registers that show other state -/

/-- `LOCK_PEND`. -/
def State.lockPend (s : State) : Nat :=
  let p (kp : Bool) (k : Nat) : Bool := if h : k < 16 then s.locks[k].gate == .service && s.locks[k].keeper == kp
    else false
  bitMap 16 (p true) + 65536 * bitMap 16 (p false)

/-- `LANE_SUMMARY`. -/
def State.laneSummary (s : State) : Nat :=
  let st (k : Nat) : Nat := s.rd F.LANE_STATUS_STATE k
  bitMap 12 (fun k => st k == 2) + 65536 * bitMap 12 fun k => st k == 4 || st k == 5

/-- `EN_*_N` of a leg is driven low (R224). -/
def State.legEnabled (s : State) (b : Br) (ph : Fin 3) : Bool :=
  let ls : List LaneIx := [laneIx b ph 0, laneIx b ph 1]
  let driven := s.flightRuns b || s.directArmed b
  ls.all (fun k => !s.lanes[k].st.isOut) && ls.any fun k =>
    (driven && s.lanes[k].st == .armed && !s.lanes[k].legLock && s.gateMay k) || (s.lanes[k].onPlan && s.lanes[k].gate)

/-- `MOD_PINS` (R224, R225). -/
def State.modPins (s : State) : Nat :=
  let leg (k : Nat) : Br × Fin 3 := (if k < 3 then 0 else 1, ⟨k % 3, by omega⟩)
  bitMap 6 (fun k => s.legEnabled (leg k).1 (leg k).2) +
    256 * bitMap 6 fun k =>
      let b := (leg k).1
      s.bit F.MOD_CTRL_PLS_EN b && (s.flightRuns b || s.directArmed b) && s.pulseOut b (leg k).2

/-- A slot register of the master's slot (R166, R181): slots that hold no visible stage read 0 but for `STATUS`,
unless the master reads the speculative view. -/
def State.slotRead (s : State) (m : Master) (b : Br) (a : Nat) : Word :=
  let sl := s.flights[b].slots[slotIx (s.rd F.FLT_SLOT_SLOT m)]
  let spec := s.bit F.FLT_VIEW_SPEC m
  let see := spec || sl.st == .committed || sl.st == .retired
  let code := match sl.st with
    | .speculative => 0
    | .committed => 1
    | .retired => 2
    | .squashed | .free => 3
  let v (x : Int) : Word := if see then BitVec.ofInt 32 x else 0
  if a = 0x40040180 then v sl.dur ||| BitVec.ofNat 32 (bitAt 31 spec)
  else if a = 0x40040184 then v (sl.num / 16 * 16) ||| BitVec.ofNat 32 code
  else if a = 0x40040188 then v sl.start
  else if a = 0x4004018C then v (ratFree sl.vd)
  else if a = 0x40040190 then v (ratFree sl.vq)
  else v (ratFree sl.iqPred)

/-- `FCR_STATUS`: the stored flags with the classes active now and `ALIVE_RUN`. -/
def State.fcrStatus (s : State) : Word :=
  let w := s.word F.FCR_STATUS_HOLD 0
  let w := F.FCR_STATUS_CLASS_DEV.put w (s.activeClass (· == .device))
  let w := F.FCR_STATUS_CLASS_B.put w (s.activeClass fun l => l != .device && (s.bridgesAt l).contains 1)
  let w := F.FCR_STATUS_CLASS_A.put w (s.activeClass fun l => l != .device && (s.bridgesAt l).contains 0)
  F.FCR_STATUS_ALIVE_RUN.put w (b2n s.aliveOk)

/-- The codes 32 k to 32 k + 31 of a list, as a map. -/
def codeMap (k : Nat) (cs : List Nat) : Nat := bitMap 32 fun j => cs.contains (32 * k + j)

/-- The buffers of a controller whose state satisfies a test, of the 32 from `base`. -/
def State.mbMap (s : State) (c : Fin 4) (base : Nat) (p : Nat → Bool) : Nat :=
  bitMap 32 fun k => p (s.rd F.MB_STATUS_STATE (mbI c (base + k)))

/-- The result of a check-value unit (R421). -/
def State.crcResult (s : State) (u : Fin 4) : BitVec 64 :=
  let c := s.crcs[u]
  if s.bit F.CRC_CFG_XOROUT u then c.value ^^^ BitVec.ofNat 64 (2 ^ crcWidth c.poly - 1) else c.value

/-- The word of a register as a master reads it: computed views first, else the register file. -/
def State.regView (s : State) (m : Master) (win : Win) (a : Nat) : Word :=
  let n (v : Nat) : Word := BitVec.ofNat 32 v
  let stored : Word := s.word ⟨a, 31, 0⟩ (s.busInst m win)
  let b := s.selFlt m
  let c := s.selCan m
  let cp := s.copies[m]
  if a = F.LOCK_GATES_STATE.addr then n s.gates
  else if a = F.LOCK_PEND_PEND_K.addr then n s.lockPend
  else if a = F.LANE_SUMMARY_ARMED.addr then n s.laneSummary
  else if a = F.MOD_PINS_EN.addr then n s.modPins
  else if 0x40040180 ≤ a ∧ a < 0x40040198 then s.slotRead m b a
  else if a = F.FLT_HOLD_TIME_TIME.addr then n (s.holdMicros b)
  else if a = F.ACLK_ANGLE_ANGLE.addr then s.aclkAngle 0
  else if a = F.ACLK_ANGLE_ANGLE.addr + 64 then s.aclkAngle 1
  else if a = F.ACLK_TURN_LO_TURN_LO.addr then lo32 cp.aclkTurn[0]
  else if a = F.ACLK_TURN_HI_TURN_HI.addr then hi16 cp.aclkTurn[0]
  else if a = F.ACLK_TURN_LO_TURN_LO.addr + 64 then lo32 cp.aclkTurn[1]
  else if a = F.ACLK_TURN_HI_TURN_HI.addr + 64 then hi16 cp.aclkTurn[1]
  else if a = F.PORT_ANGLE_ANGLE.addr then s.portShown (s.selPort m)
  else if a = F.PORT_TURN_LO_TURN_LO.addr then lo32 cp.portTurn
  else if a = F.PORT_TURN_HI_TURN_HI.addr then hi16 cp.portTurn
  else if a = F.CAN_TXPEND_LO_MAP.addr then n (s.mbMap c 0 fun x => x == 1 || x == 2)
  else if a = F.CAN_TXPEND_HI_MAP.addr then n (s.mbMap c 32 fun x => x == 1 || x == 2)
  else if a = F.CAN_RXFULL_LO_MAP.addr then n (s.mbMap c 0 (· == 6))
  else if a = F.CAN_RXFULL_HI_MAP.addr then n (s.mbMap c 32 (· == 6))
  else if a = F.CRC_VAL_LO_VALUE.addr then s.crcs[s.selCrc m].value.setWidth 32
  else if a = F.CRC_RES_LO_VALUE.addr then (s.crcResult (s.selCrc m)).setWidth 32
  else if a = F.CRC_VAL_HI_VALUE.addr ∨ a = F.CRC_RES_HI_VALUE.addr then cp.crcHi
  else if a = F.CNT_VAL_LO_VALUE.addr then n (s.cnts[s.selCnt m].value % 4294967296)
  else if a = F.CNT_SNAP_LO_VALUE.addr then n (s.cnts[s.selCnt m].snap % 4294967296)
  else if a = F.CNT_VAL_HI_VALUE.addr ∨ a = F.CNT_SNAP_HI_VALUE.addr then cp.cntHi
  else if a = F.EVC_FROZEN_FROZEN.addr then
    stored ||| n (bitMap 32 fun k => if h : k < 32 then s.cnts[k].frozen else false)
  else if a = F.FCR_STATUS_HOLD.addr then s.fcrStatus
  else if a = F.FCR_KEEPER_BEAT.addr then
    F.FCR_KEEPER_WINDOW.put stored (b2n (match s.fcr.failAt with
      | some t => decide (s.now < t + failWindow)
      | none => false))
  else if a = F.FCR_CLASS_CLASS.addr then n (clsCode (fixedClass (s.rd F.FCR_CODE_IDX_CODE m)))
  else if 0x400A0020 ≤ a ∧ a < 0x400A0040 then n (codeMap ((a - 0x400A0020) / 4) (s.fcr.latched.map (·.code)))
  else if 0x400A0040 ≤ a ∧ a < 0x400A0060 then n (codeMap ((a - 0x400A0040) / 4) (s.fcr.active.map (·.1)))
  else if win = .conv ∧ 0x40050180 ≤ a ∧ a < 0x400501C0 ∧ m ≠ keeper ∧
      ((s.selConv m).val = 12 ∨ (s.selConv m).val = 13) then 0
  else if win = .conv ∧ 0x40050180 ≤ a ∧ a < 0x400501C0 ∧ s.bit F.CONV_CFG_ENABLE (s.selConv m).val = false then
    stored &&& 0x7FFFFFFF#32
  else stored

/-! ## Reads that act -/

/-- The high word of a counter or of its snapshot (R430). -/
def State.cntHigh (s : State) (k : Fin 32) (snap : Bool) : Word :=
  let c := s.cnts[k]
  let v := if snap then c.snap else c.value
  BitVec.ofNat 32 (v / 4294967296 + bitAt 16 c.frozen +
    bitAt 17 (if snap then c.snapSat else c.sat))

/-- The captures that a read makes into the master's read copies (R147, R424, R430). -/
def State.readCapture (s : State) (m : Master) (a : Nat) : State :=
  if a = F.ACLK_ANGLE_ANGLE.addr then s.upCopy m fun c => { c with aclkTurn := c.aclkTurn.set 0 (s.aclkTurn 0) }
  else if a = F.ACLK_ANGLE_ANGLE.addr + 64 then s.upCopy m fun c => { c with aclkTurn := c.aclkTurn.set 1 (s.aclkTurn 1) }
  else if a = F.PORT_ANGLE_ANGLE.addr then s.upCopy m fun c => { c with portTurn := s.ports[s.selPort m].turn }
  else if a = F.CRC_VAL_LO_VALUE.addr then
    s.upCopy m fun c => { c with crcHi := (s.crcs[s.selCrc m].value >>> 32).setWidth 32 }
  else if a = F.CRC_RES_LO_VALUE.addr then
    s.upCopy m fun c => { c with crcHi := (s.crcResult (s.selCrc m) >>> 32).setWidth 32 }
  else if a = F.CNT_VAL_LO_VALUE.addr then s.upCopy m fun c => { c with cntHi := s.cntHigh (s.selCnt m) false }
  else if a = F.CNT_SNAP_LO_VALUE.addr then s.upCopy m fun c => { c with cntHi := s.cntHigh (s.selCnt m) true }
  else s

/-- A read of `LANE_CAP_DATA` (R278, R279): the copy word, oldest first, and the address advances; 0 before the
copy is complete. The estimate's history and words that the lane never produced are free. -/
def State.capRead (s : State) (k : LaneIx) : State :=
  let l := s.lanes[k]
  let i := s.rd F.LANE_CAP_ADDR_ADDR k
  let s' := s.wr F.LANE_CAP_ADDR_ADDR k ((i + 1) % 16384)
  if l.cap ≠ .copied then s'.busGive 0
  else
    match (if s.own k F.LANE_CAP_CTRL_SRC = 0 then l.ring.reverse[i]? else none) with
    | some w => s'.busGive (w.setWidth 32)
    | none => s'.spend.busGive ((Config.freeWord s.free).extractLsb' 0 16 |>.setWidth 32)

/-- A Lock window access by R71: a chamber in `SERVICE` or `REPLY`. -/
def State.chamberRead (s : State) (m : Master) (off : Nat) : State :=
  let l := s.locks[s.selLock m]
  if l.gate = .service ∨ l.gate = .reply then
    if l.keeper && isPilot m then s.busGive 0 else s.busGive (BitVec.ofNat 32 (leVal (l.bytes off 4)))
  else (s.flag F.LOCK_ERR_GATE_ERR 0 true).busGive 0

/-- A read of a register. -/
def State.regRead (s : State) (m : Master) (block a : Nat) : State :=
  if !s.blockUp block then s.busGive 0
  else if block = 1 ∧ 0x40010100 ≤ a ∧ a < 0x40010200 then s.chamberRead m (a - 0x40010100)
  else if a = F.LANE_CAP_DATA_WORD.addr then s.capRead (s.selLane m)
  else
    match regFind block a with
    | some r => (s.readCapture m a).busGive (s.regView m r.win a)
    | none => s.busGive 0

/-- The stage that holds an entry of the ring, with the entry's place in the stage: a live one, else a squashed one. A
stage's sample events exist from its commit (R161, R163, R168, R231). -/
def State.tableSlot (s : State) (b : Br) (ix : Nat) : Option (Slot × TableEv) :=
  let evs (sl : Slot) : List TableEv :=
    if sl.st == .committed || sl.st == .retired then sl.tableEvs else { sl with samples := [] }.tableEvs
  let at_ (sl : Slot) : Option (Slot × TableEv) := ((evs sl)[(ix + 2048 - sl.ring) % 2048]?).map fun e => (sl, e)
  let live := s.flights[b].slots.toList.filter fun sl => sl.st == .speculative || sl.st == .committed ||
    (sl.st == .retired && decide (s.dt < sl.start + sl.dur))
  let gone := s.flights[b].slots.toList.filter fun sl => sl.st == .squashed
  (live ++ gone).findSome? at_

/-- An entry of the Angle Event Table (R161): `TURN_LO`, `STATUS`, `STAGE`, `KIND`, `TARGET`, `ARG` and `ANGLE` of an
event of a stage. -/
def State.tableWord (s : State) (b : Br) (sl : Slot) (e : TableEv) : BitVec 64 :=
  let th := sl.chk.traj.at_ (e.at_ : Rat)
  let turn := s.aclks[s.lead b].turn + th.floor
  let st := match sl.st with
    | .speculative => 0
    | .committed => 1
    | .retired => 2
    | .squashed | .free => 3
  BitVec.ofNat 64 ((turn % 256).toNat * 2 ^ 56 + st * 2 ^ 54 + sl.num % 16 * 2 ^ 50 + e.kind * 2 ^ 44 + e.target * 2 ^ 40 +
    e.arg * 2 ^ 32 + angleOf th)

/-- A word of the table SRAM. While a Flight runs, its half of the Angle Event Table shows the entries of its stages,
those `SPECULATIVE` or `SQUASHED` only through the speculative view (R161, R162, R181), and 0 where no stage has one. -/
def State.tableRead (s : State) (m : Master) (a : Nat) : State :=
  let b : Br := if a < 0x28036000 then 0 else 1
  if 0x28032000 ≤ a ∧ s.flightRuns b = true then
    match s.tableSlot b ((a - tableHalf b) / 8) with
    | some (sl, e) =>
      if sl.st == .committed || sl.st == .retired || s.bit F.FLT_VIEW_SPEC m then
        s.busGive ((s.tableWord b sl e >>> (if a % 8 = 0 then 0 else 32)).setWidth 32)
      else s.busGive 0
    | none => s.busGive 0
  else s.busGive (s.memW a)

/-- A bus read of the word that holds an address. -/
def State.busRead (s : State) (m : Master) (addr : Nat) : State :=
  if !s.running then s
  else
    let a := addr / 4 * 4
    let r := regionOf a
    if !s.portOpen m || !mayRead m r then s.busFail m addr
    else
      match r with
      | .rom => s.busGive (BitVec.ofNat 32 (leVal ((List.range 4).map fun i => Config.rom (a + i))))
      | .nvm | .pilotSram | .retained => s.busGive (s.memW a)
      | .table => s.tableRead m a
      | .tableHole | .outside => s.busGive 0
      | .regs block => s.regRead m block a
      | .linkWin k => if a % 4096 = 0 ∧ k < 4 then s.busGive (s.word ⟨a, 31, 0⟩ m)
        else s.spend.busGive (Config.freeWord s.free)

/-- A read of the NVM that finds an ECC error (R347): a single-bit error, or one of two bits, is a free choice. -/
def State.eccRead (s : State) (m : Master) (addr : Nat) : State :=
  let two := Config.freeBool s.free
  let s := s.spend
  if two then
    let s := { s with bus := ⟨0, true⟩ }.flag F.NVMC_ERR_ECC2 0 true
    let s := (s.wr F.NVMC_ECC_ECC2_COUNT 0 (min 65535 (s.rd F.NVMC_ECC_ECC2_COUNT + 1))).evt E.NVM_ECC2
    let run := s.pilot.runBank.any fun b => decide (bankBase b ≤ addr ∧ addr < bankBase b + 0xC00000)
    if isPilot m && run then s.pilotFailure else s
  else
    (((s.busGive (s.memW (addr / 4 * 4))).wr F.NVMC_ECC_ECC1_COUNT 0
      (min 65535 (s.rd F.NVMC_ECC_ECC1_COUNT + 1))).evt E.ECC_CORR)

end Sys2Proof.Machine
end

