-- ==== Sys2Proof/Machine/Bus.lean ====
section
/-! DEFINITION. The bus accesses of the block's masters: a write of a word with the checks of R14 to R18, R37, R38
and R366, and one command for each write and read that the opcode table names. -/

namespace Sys2Proof.Machine

/-- What a register's write does beside storing (see the hooks). -/
def State.busHook (s o : State) (m : Master) (block inst a : Nat) (w : Word) (size : AccSize) (open_ : Bool) : State :=
  match block with
  | 0 => s.hookSys m a w open_
  | 1 => s.hookLock m a w
  | 3 => s.hookMod o (o.selMod m) a w
  | 4 => s.hookFlt m (o.selFlt m) a w
  | 5 => s.hookConv o (o.selConv m) a w
  | 6 => s.hookPos o (o.selPort m) a w
  | 7 => s.hookCan o (o.selCan m) (inst % 64) a w
  | 8 => s.hookCrc m (o.selCrc m) a w size
  | 9 => s.hookEvc (o.selCnt m) a w
  | 10 => s.hookFcr m a w
  | 11 => s.hookNvmc m a w
  | _ => s

/-- A write of a word into a chamber (R71): in `SERVICE`, by a master of the Barge's class, the Lockkeeper for
both. -/
def State.chamberWrite (s : State) (m : Master) (off : Nat) (w : Word) : State :=
  let lk := s.selLock m
  let l := s.locks[lk]
  if l.gate = .service ∧ (m = keeper ∨ (isPilot m = true ∧ l.keeper = false)) then
    s.upLock lk fun l => l.put off (leBytes 4 w.toNat)
  else s.flag F.LOCK_ERR_GATE_ERR 0 true

/-- A write of a register with its view: guard (R14), range (R16, R18), pause (R15), then its effect. -/
def State.viewWrite (s : State) (v : WriteView) (block : Nat) (w : Word) (size : AccSize) (open_ : Bool) : State :=
  let f : Fld := ⟨v.a, 31, 0⟩
  let s := s.when v.guards fun s => s.raiseF FC.GUARD_WRITE .device
  if !s.writeLegal v w then s.rangeErr block
  else
    let s := s.when v.unpaused fun s => s.rangeErr block
    if v.reg.win = .lane then s.laneBus v w
    else (s.setWord f v.inst (v.stored (s.word f v.inst) w)).busHook s v.m block v.inst v.a w size open_

/-- A write of a register: a block in reset and a reserved address ignore it, and so does a receive buffer's data. -/
def State.regWrite (s : State) (m : Master) (block a : Nat) (w : Word) (size : AccSize) (open_ : Bool) : State :=
  if !s.blockUp block then s
  else if block = 1 ∧ 0x40010100 ≤ a ∧ a < 0x40010200 then s.chamberWrite m (a - 0x40010100) w
  else
    match regFind block a with
    | some r =>
      if r.win = .mb ∧ 0x40070300 ≤ a ∧ s.rd F.MB_CFG_DIR (s.busInst m .mb) = 1 then s
      else s.viewWrite (s.writeView m r a) block w size open_
    | none => s

/-- The highest number of each select register of the link windows (R37). -/
def linkLast : Nat → Nat
  | 0 | 1 => 1
  | 2 => 3
  | _ => 5

/-- A write of a select register of a link window; a number beyond the last instance is ignored and sets the
block's `RANGE` bit (R18). -/
def State.linkSelect (s : State) (m : Master) (k a : Nat) (w : Word) : State :=
  if w.toNat ≤ linkLast k then s.setWord ⟨a, 31, 0⟩ m w
  else if h : k < 4 then { s with net := { s.net with linkRange := s.net.linkRange.set k true } }
  else s

/-- A write falls into a link window beside its select register: no rule lays out the register there. -/
def State.linkHole (s : State) (m : Master) (addr : Nat) : Bool :=
  s.onBus m && match regionOf (addr / 4 * 4) with
    | .linkWin k => addr / 4 * 4 % 4096 != 0 || k == 4
    | _ => false

/-- A bus write of the word that holds an address. -/
def State.busWriteX (s : State) (m : Master) (addr : Nat) (w : Word) (size : AccSize) (open_ : Bool) : State :=
  if !s.running then s
  else
    let a := addr / 4 * 4
    let r := regionOf a
    if !s.portOpen m || !mayWrite m a r then s.busFail m addr
    else
      let s := s.busDone
      match r with
      | .regs block => s.regWrite m block a w size open_
      | .linkWin k => s.linkSelect m k a w
      | _ => s.memBus r a w

/-- A write of a word with no transaction outstanding. -/
def State.busWrite (s : State) (m : Master) (addr : Nat) (w : Word) : State := s.busWriteX m addr w .word false

/-! ## Writes with a row of their own -/

/-- `LOCK_DONE` (R52). -/
def execLockDone (m : Master) (v : Word) (s : State) : Out := .next (s.busWrite m F.LOCK_DONE_LOCK.addr v)
/-- `LOCK_CTRL` (R57). -/
def execLockCtrlWrite (m : Master) (v : Word) (s : State) : Out := .next (s.busWrite m F.LOCK_CTRL_ENABLE.addr v)
/-- `SYS_RST_CTRL.WARM` (R363). -/
def execDeviceWarmReset (m : Master) (v : Word) (s : State) : Out := .next (s.busWrite m F.SYS_RST_CTRL_WARM.addr v)
/-- `SYS_RST_CTRL.PILOT_HOLD` (R369). -/
def execPilotHoldWrite (m : Master) (v : Word) (s : State) : Out :=
  .next (s.busWrite m F.SYS_RST_CTRL_PILOT_HOLD.addr v)
/-- `SYS_BLK_RST` (R372); `open_`: a transaction of the block is outstanding. -/
def execSysBlkRst (m : Master) (v : Word) (open_ : Bool) (s : State) : Out :=
  .next (s.busWriteX m F.SYS_BLK_RST_REQ.addr v .word open_)
/-- `SYS_STANDBY` (R373), with the level of `WAKE` at that moment (R374). -/
def execSysStandbyEnter (m : Master) (v : Word) (wake : Bool) (s : State) : Out :=
  .next ({ s with pins := { s.pins with wake := wake } }.busWrite m F.SYS_STANDBY_ENTER.addr v)
/-- `FCR_KEEPER.BEAT` (R318). -/
def execKeeperBeat (dt : Nat) (m : Master) (v : Word) (s : State) : Out :=
  .next ((s.tick dt).busWrite m F.FCR_KEEPER_BEAT.addr v)
/-- `FCR_ACK` (R94, R304). -/
def execFcrAckWrite (dt : Nat) (m : Master) (v : Word) (s : State) : Out :=
  .next ((s.tick dt).busWrite m F.FCR_ACK_ACK.addr v)
/-- `FCR_INJECT` (chapter 11). -/
def execFcrInject (dt : Nat) (m : Master) (v : Word) (s : State) : Out :=
  .next ((s.tick dt).busWrite m F.FCR_INJECT_CODE.addr v)
/-- `SYS_WDG_ANS` (R317). -/
def execWdgAnswer (dt : Nat) (m : Master) (v : Word) (s : State) : Out :=
  .next ((s.tick dt).busWrite m F.SYS_WDG_ANS_VALUE.addr v)
/-- `FLT_IREF_D` or `FLT_IREF_Q` (R182, R184). -/
def execFltIrefWrite (dt : Nat) (m : Master) (q : Bool) (v : Word) (s : State) : Out :=
  .next ((s.tick dt).busWrite m (if q then F.FLT_IREF_Q_IREF.addr else F.FLT_IREF_D_IREF.addr) v)
/-- `FLT_CTRL` with `ENABLE` 1 (R192). -/
def execFltEnableSet (dt : Nat) (m : Master) (v : Word) (s : State) : Out :=
  .next ((s.tick dt).busWrite m F.FLT_CTRL_ENABLE.addr (F.FLT_CTRL_ENABLE.put v 1))
/-- `FLT_CTRL` with `ENABLE` 0 (R194). -/
def execFltEnableClear (dt : Nat) (m : Master) (v : Word) (s : State) : Out :=
  .next ((s.tick dt).busWrite m F.FLT_CTRL_ENABLE.addr (F.FLT_CTRL_ENABLE.put v 0))
/-- `FLT_CTRL` with its `HOLD` (R184). -/
def execFltHoldWrite (dt : Nat) (m : Master) (v : Word) (s : State) : Out :=
  .next ((s.tick dt).busWrite m F.FLT_CTRL_HOLD.addr v)
/-- A register of the modulation window (R200, R226), by its offset. -/
def execModFieldWrite (dt : Nat) (m : Master) (off : BitVec 12) (v : Word) (s : State) : Out :=
  .next ((s.tick dt).busWrite m (0x40030000 + off.toNat) v)
/-- `MOD_COMMIT` (R222). -/
def execModCommit (dt : Nat) (m : Master) (v : Word) (s : State) : Out :=
  .next ((s.tick dt).busWrite m F.MOD_COMMIT_COMMIT.addr v)
/-- `MOD_CTRL` with its `ARM` (R219). -/
def execModArmWrite (dt : Nat) (m : Master) (v : Word) (s : State) : Out :=
  .next ((s.tick dt).busWrite m F.MOD_CTRL_ARM.addr v)
/-- `PORT_CFG` (R139). -/
def execPortCfgWrite (m : Master) (v : Word) (s : State) : Out := .next (s.busWrite m F.PORT_CFG_ENABLE.addr v)
/-- `PORT_TURN_LO` (R147). -/
def execPortTurnLoWrite (m : Master) (v : Word) (s : State) : Out :=
  .next (s.busWrite m F.PORT_TURN_LO_TURN_LO.addr v)
/-- `PORT_TURN_HI` (R147). -/
def execPortTurnHiWrite (m : Master) (v : Word) (s : State) : Out :=
  .next (s.busWrite m F.PORT_TURN_HI_TURN_HI.addr v)
/-- `LANE_CTRL` (R257). -/
def execLaneCtrlArmWrite (dt : Nat) (m : Master) (v : Word) (s : State) : Out :=
  .next ((s.tick dt).busWrite m F.LANE_CTRL_ARM.addr v)
/-- `LANE_PLAN` (R274). -/
def execLanePlanWrite (dt : Nat) (m : Master) (v : Word) (s : State) : Out :=
  .next ((s.tick dt).busWrite m F.LANE_PLAN_PLAN.addr v)
/-- `LANE_CMD` with `RELEASE` (R276). -/
def execLaneCmdRelease (dt : Nat) (m : Master) (v : Word) (s : State) : Out :=
  .next ((s.tick dt).busWrite m F.LANE_CMD_RELEASE.addr v)
/-- `LANE_CMD` with `CLEAR` (R273). -/
def execLaneCmdClear (dt : Nat) (m : Master) (v : Word) (s : State) : Out :=
  .next ((s.tick dt).busWrite m F.LANE_CMD_CLEAR.addr v)
/-- `LANE_CAP_CTRL` with `ARM` (R278). -/
def execLaneCapArm (dt : Nat) (m : Master) (v : Word) (s : State) : Out :=
  .next ((s.tick dt).busWrite m F.LANE_CAP_CTRL_ARM.addr v)
/-- `LANE_CAP_CTRL` with `FIRE` (R278). -/
def execLaneCapFire (dt : Nat) (m : Master) (v : Word) (s : State) : Out :=
  .next ((s.tick dt).busWrite m F.LANE_CAP_CTRL_FIRE.addr v)
/-- `NVMC_DATA` (R345, R346). -/
def execNvmcDataWrite (dt : Nat) (m : Master) (v : Word) (s : State) : Out :=
  .next ((s.tick dt).busWrite m F.NVMC_DATA_DATA.addr v)
/-- `NVMC_COMMIT` with `INVALIDATE` (R349). -/
def execNvmcInvalidate (dt : Nat) (m : Master) (v : Word) (s : State) : Out :=
  .next ((s.tick dt).busWrite m F.NVMC_COMMIT_INVALIDATE.addr v)
/-- `NVMC_COMMIT` with `GO` (R349). -/
def execNvmcGo (dt : Nat) (m : Master) (v : Word) (s : State) : Out :=
  .next ((s.tick dt).busWrite m F.NVMC_COMMIT_GO.addr v)
/-- `MB_CMD` with `REQ` (R387). -/
def execMbReq (dt : Nat) (m : Master) (v : Word) (s : State) : Out :=
  .next ((s.tick dt).busWrite m F.MB_CMD_REQ.addr v)
/-- `MB_CMD` with `CANCEL` (R389). -/
def execMbCancel (dt : Nat) (m : Master) (v : Word) (s : State) : Out :=
  .next ((s.tick dt).busWrite m F.MB_CMD_CANCEL.addr v)
/-- `MB_CMD` with `RELEASE` (R385). -/
def execMbRelease (dt : Nat) (m : Master) (v : Word) (s : State) : Out :=
  .next ((s.tick dt).busWrite m F.MB_CMD_RELEASE.addr v)
/-- `CAN_CTRL` with `RECOVER` (R391). -/
def execCanRecoverWrite (dt : Nat) (m : Master) (v : Word) (s : State) : Out :=
  .next ((s.tick dt).busWrite m F.CAN_CTRL_RECOVER.addr v)
/-- `CAN_CTRL` with its `INIT` (R392). -/
def execCanInitWrite (dt : Nat) (m : Master) (v : Word) (s : State) : Out :=
  .next ((s.tick dt).busWrite m F.CAN_CTRL_INIT.addr v)
/-- `CRC_START` (R421). -/
def execCrcStart (m : Master) (v : Word) (s : State) : Out := .next (s.busWrite m F.CRC_START_START.addr v)
/-- `CRC_DATA` (R422, R425). -/
def execCrcData (m : Master) (v : Word) (size : AccSize) (s : State) : Out :=
  .next (s.busWriteX m F.CRC_DATA_DATA.addr v size false)
/-- `CRC_VAL_LO` or `CRC_VAL_HI` (R424). -/
def execCrcValWrite (m : Master) (hi : Bool) (v : Word) (s : State) : Out :=
  .next (s.busWrite m (if hi then F.CRC_VAL_HI_VALUE.addr else F.CRC_VAL_LO_VALUE.addr) v)
/-- `CNT_CMD.CLEAR` (R429). -/
def execCntClear (m : Master) (v : Word) (s : State) : Out := .next (s.busWrite m F.CNT_CMD_CLEAR.addr v)
/-- `CNT_CFG` (R426, R429). -/
def execCntCfgWrite (m : Master) (v : Word) (s : State) : Out := .next (s.busWrite m F.CNT_CFG_SRC.addr v)
/-- `EVC_SNAP.SNAP` (R430). -/
def execEvcSnap (m : Master) (v : Word) (s : State) : Out := .next (s.busWrite m F.EVC_SNAP_SNAP.addr v)

/-! ## Reads with a row of their own -/

/-- `PORT_ANGLE` (R147). -/
def execPortAngleRead (m : Master) (s : State) : Out := .next (s.busRead m F.PORT_ANGLE_ANGLE.addr)
/-- `ACLK_ANGLE` of a bridge (R147). -/
def execAclkAngleRead (m : Master) (b : Br) (s : State) : Out :=
  .next (s.busRead m (F.ACLK_ANGLE_ANGLE.addr + 64 * b.val))
/-- `LANE_CAP_DATA` (R279). -/
def execLaneCapDataRead (m : Master) (s : State) : Out := .next (s.busRead m F.LANE_CAP_DATA_WORD.addr)
/-- `CRC_VAL_LO` or `CRC_RES_LO` (R424). -/
def execCrcValRead (m : Master) (res : Bool) (s : State) : Out :=
  .next (s.busRead m (if res then F.CRC_RES_LO_VALUE.addr else F.CRC_VAL_LO_VALUE.addr))
/-- `CNT_VAL_LO` or `CNT_SNAP_LO` (R430). -/
def execCntValRead (m : Master) (snap : Bool) (s : State) : Out :=
  .next (s.busRead m (if snap then F.CNT_SNAP_LO_VALUE.addr else F.CNT_VAL_LO_VALUE.addr))

/-! ## Any other access -/

/-- `REGISTER_WRITE`: a write to any address; a register of the link windows that no rule lays out refuses. -/
def execRegisterWrite (dt : Nat) (m : Master) (addr v : Word) (s : State) : Out :=
  let s := s.tick dt
  if s.linkHole m addr.toNat then .refused .linkWindow else .next (s.busWrite m addr.toNat v)

/-- `BUS_READ_ERROR`: a read at any address; in the NVM window one that finds an ECC error (R347). -/
def execBusReadError (dt : Nat) (m : Master) (addr : Word) (s : State) : Out :=
  let s := s.tick dt
  .next (if s.onBus m && regionOf (addr.toNat / 4 * 4) == .nvm then s.eccRead m addr.toNat
    else s.busRead m addr.toNat)

end Sys2Proof.Machine
end

