-- ==== Sys2Proof/Machine/DcLink.lean ====
section
/-! DEFINITION. The events of the DC link: precharge, discharge, contactors, Weir and chopper (R283 to
R294). -/

namespace Sys2Proof.Machine

/-- `PRECHARGE_FEEDBACK` (R291 steps 2 and 5): the feedback of the requested contactor has closed. -/
def execPrechargeFeedback (dt : Nat) (b : Br) (s : State) : Out :=
  let s := s.tick dt
  let b := s.lead b
  match s.bridges[b].pre with
  | .negRequested =>
    .next (if s.roleShows 2 true then
        (s.each (s.group b) fun s c => s.upB c fun x => { x with
          reqPre := true, pre := .preRequested, preSince := s.now, settleSince := none
          settleV := s.vLink, settleAt := s.now }).contactors
      else s)
  | .posRequested =>
    .next (if s.roleShows 1 true then
        (s.each (s.group b) fun s c => s.upB c fun x =>
          { x with reqPre := false, pre := .conditions, preSince := s.now }).contactors
      else s)
  | _ => .next s

/-- `PRECHARGE_SETTLED` (R291 steps 3 and 4): main positive and auxiliary are requested. -/
def execPrechargeSettled (dt : Nat) (b : Br) (s : State) : Out :=
  let s := s.tick dt
  let b := s.lead b
  .next (if s.bridges[b].pre = .preRequested ∧ s.settled b then
      (s.each (s.group b) fun s c => s.upB c fun x =>
        { x with reqPos := true, pre := .posRequested, preSince := s.now }).contactors
    else s)

/-- `PRECHARGE_TIMEOUT` (R291): step 3 not met within `dcl.pre_time`. -/
def execPrechargeTimeout (dt : Nat) (b : Br) (s : State) : Out :=
  let s := s.tick dt
  let b := s.lead b
  .next (if s.bridges[b].pre = .preRequested ∧ s.bridges[b].preSince + s.parN P.dcl_pre_time * msCounts ≤ s.now then
      ((s.group b).foldl State.withdraw s).raiseF FC.PRECHARGE (.bridge b)
    else s)

/-- `PRECHARGE_COMPLETE` (R104 row 6, R90, R109, R316): a failing parameter check keeps the bridge in
`PRECHARGE` with `FLT_PARAM_CHECK`. -/
def execPrechargeComplete (dt : Nat) (b : Br) (s : State) : Out :=
  let s := s.tick dt
  let b := s.lead b
  .next (if s.bridges[b].pre = .conditions ∧ s.preClosed ∧ (s.group b).all s.lanesTrained ∧ s.stoPassed then
      if s.paramCheck = 0 then ((s.group b).foldl State.gstRestore (s.enter b .ready)).guardCheck
      else s.raiseF FC.PARAM_CHECK (.bridge b)
    else s)

/-- `DISCHARGE_CONTACTORS_OPEN` (R293): every main feedback shows open; the method acts. -/
def execDischargeContactorsOpen (dt : Nat) (b : Br) (s : State) : Out :=
  let s := s.tick dt
  let b := s.lead b
  .next (if s.dst b = .discharge ∧ s.roleShows 1 false ∧ s.roleShows 2 false then
      let s := s.each (s.group b) fun s c =>
        s.upB c fun x => { x with dis := x.dis.map fun d => { d with acting := true } }
      s.each (s.group b) State.windingStep
    else s)

/-- `DISCHARGE_COMPLETE` (R293, R104 row 9). -/
def execDischargeComplete (dt : Nat) (b : Br) (s : State) : Out :=
  let s := s.tick dt
  let b := s.lead b
  .next (if s.dst b = .discharge ∧ s.vLink < s.par P.dcl_safe_v then s.enter b .standby else s)

/-- `DISCHARGE_TIMEOUT` (R293): the link is not below `dcl.safe_v` within `dcl.dis_time`. -/
def execDischargeTimeout (dt : Nat) (b : Br) (s : State) : Out :=
  let s := s.tick dt
  let b := s.lead b
  .next (match s.bridges[b].dis with
    | some d =>
      if s.dst b = .discharge ∧ d.since + s.parN P.dcl_dis_time * msCounts ≤ s.now ∧ s.par P.dcl_safe_v ≤ s.vLink then
        s.raiseF FC.DISCHARGE (.bridge b)
      else s
    | none => s)

/-- `AUTO_DISCHARGE_START` (R294): every configured bridge that is Idle discharges; one that is not does so
at a later such event, while the main positive feedback is still open. -/
def execAutoDischargeStart (dt : Nat) (s : State) : Out :=
  let s := s.tick dt
  .next (match s.autoMethod with
    | some w =>
      if s.parN P.dcl_auto_enable = 1 ∧ s.dcl.openedAlone ∧ s.mainOpen then
        s.each (s.leads.filter fun b => (s.dst b).isIdle) fun s b => s.dischargeBegin b w
      else s
    | none => s)

/-- `SHUTDOWN_NEG_RELEASE` (R291): 20 ms after the main positive request the main negative one is withdrawn, and the
bridge enters `STANDBY`. -/
def execShutdownNegRelease (dt : Nat) (b : Br) (s : State) : Out :=
  let s := s.tick dt
  let b := s.lead b
  .next (match s.bridges[b].shutAt with
    | some t => if t + 20 * msCounts ≤ s.now then s.enter b .standby else s
    | none => s)

/-- `CONTACTOR_FEEDBACK_CHANGE` (R292). -/
def execContactorFeedbackChange (dt : Nat) (k : Fin 6) (level : Bool) (s : State) : Out :=
  .next ((s.tick dt).feedbackSet k level)

/-- `CONTACTOR_MISMATCH` (R292): the feedback of output `k` differs from its request, later than `dcl.fb_time` after
the request last changed. -/
def execContactorMismatch (dt : Nat) (k : Fin 4) (s : State) : Out :=
  let s := s.tick dt
  let req := s.dcl.req[k]
  let bad := s.parN (P.dcl_ctr_role k.val) != 0 && decide (s.dcl.reqAt[k] + s.parN P.dcl_fb_time * msCounts < s.now) &&
    ((s.fbClosed k false).getD req != req || (s.fbClosed k true).getD req != req)
  .next (if bad then
      let s := s.withdrawAll
      (s.raiseOn FC.CONTACTOR .device (fixedClass FC.CONTACTOR)).contactorSettle
    else s)

/-- `WEIR_EVALUATE` (R283, R289): a new link value. -/
def execWeirEvaluate (dt : Nat) (s : State) : Out :=
  let s := s.tick dt
  .next (s.leads.foldl State.settleWatch s.weirEval)

/-- `CHOPPER_CHECK_EXPIRY` (R288): no fall at `weir.chop_check` after an engagement; with an OV2 decision on the same
value the check is left to the next value (R290). -/
def execChopperCheckExpiry (dt : Nat) (s : State) : Out :=
  let s := s.tick dt
  .next (if s.chopEnabled && s.chopLate && s.chopNoFall && !s.ov2 then s.chopFault else s)

end Sys2Proof.Machine
end

