-- ==== Sys2Proof/Machine/Fault.lean ====
section
/-! DEFINITION. The FCR's events (R299, R300, R318, R319). -/

namespace Sys2Proof.Machine

/-- `FAULT_SOURCE_ASSERT` (R300, R301): the lines that changed at one sample. -/
def execFaultSourceAssert (dt : Nat) (srcs : List FaultSrc) (s : State) : Out :=
  if !srcs.all FaultSrc.wf then .fault .illFormed
  else
    let s := s.tick dt
    .next (if s.running && s.sys.oscOk then s.each (srcs.foldr srcInsert []) State.sourceLine else s)

/-- `FCR_WARM_RESET_TIMER` (R299): 100 µs after a `RESET_WARM` reaction. -/
def execFcrWarmResetTimer (dt : Nat) (s : State) : Out :=
  let s := s.tick dt
  let cause := if s.bit F.FCR_STATUS_KEEPER_FAIL then F.SYS_RST_CAUSE_KEEPER
    else if s.fcr.latched.any fun l => l.code == FC.STATE_ECC && l.cls == .resetWarm then F.SYS_RST_CAUSE_STATE
    else F.SYS_RST_CAUSE_WARM
  match s.fcr.warmAt with
  | some t => .next (if s.running && decide (t + 100 * usCounts ≤ s.now) then s.warmReset cause else s)
  | none => .next s

/-- `KEEPER_HB_TIMEOUT` (R318): no heartbeat for 200 µs. -/
def execKeeperHbTimeout (dt : Nat) (s : State) : Out :=
  let s := s.tick dt
  .next (if s.running && s.sys.oscOk && decide (s.fcr.beatAt + beatLimit ≤ s.now) then s.keeperFail FC.KEEPER_HB
    else s)

/-- `KEEPER_LOCKSTEP` (R318). -/
def execKeeperLockstep (dt : Nat) (s : State) : Out :=
  let s := s.tick dt
  .next (if s.running && s.sys.oscOk then s.keeperFail FC.KEEPER_LOCKSTEP else s)

/-- `ALIVE_TOGGLE` (R319): a half-period of `ALIVE` ends; the pin toggles while every condition holds. -/
def execAliveToggle (dt : Nat) (s : State) : Out :=
  let s := s.tick dt
  .next (if s.aliveOk then { s with pins := { s.pins with alive := !s.pins.alive } } else s)

end Sys2Proof.Machine
end

