-- ==== Sys2Proof/Machine/Flight.lean ====
section
/-! DEFINITION. The Flight rows that are events: boundaries, plan refreshes, computations, commits, groups, and
the end of an engine. In a locked pair an event of either bridge is the pair's (R195). -/

namespace Sys2Proof.Machine

/-- A stage boundary (R166): the next stage becomes present in every engine of the pair. -/
def execStageBoundary (dt : Nat) (b : Br) (s : State) : Out :=
  let s := s.tick dt
  .next (if s.flightRuns b then
      (s.each (s.group b) fun s c => s.engineAdvance c).each (s.group b) fun s c => s.boundaryWork c
    else s)

/-- The refresh of the safe plans while the Flight is stopped (R275), the winding discharge's step, an entry into
`CATCH` that waits (R243), and a standby entry that is due (R81). -/
def execPlanRefresh (dt : Nat) (b : Br) (s : State) : Out :=
  let s := (s.tick dt).standbyTimer
  .next (if s.running then ((s.planRefresh b).windingStep b).startRetry b else s)

/-- A stage reaches its commit instant (R169, R171). -/
def execStageCommit (dt : Nat) (b : Br) (s : State) : Out :=
  let s := s.tick dt
  .next (s.each (s.group b) fun s c => if s.flightRuns c then s.commitDue c else s)

/-- The engine completes the computation of its next stage (R187). -/
def execStageCompute (dt : Nat) (b : Br) (s : State) : Out :=
  let s := s.tick dt
  .next (s.each (s.group b) fun s c => if s.mayCompute c then s.computeStage c else s)

/-- A sample group is complete (R174); in direct modulation mode that of the latest boundary shows, and its currents
are compared alone (R251). -/
def execGroupVerify (dt : Nat) (b : Br) (s : State) : Out :=
  let s := s.tick dt
  .next (if s.flightRuns b && !s.flights[b].predictOnly then
      match s.groupStage b with
      | some sl => s.groupDone b sl
      | none => s
    else if s.directArmed b then
      let n := s.rd F.MOD_PERIOD_CNT_COUNT b
      let m := s.measured b n
      if m.missing || s.groupOpen b n then s else ((s.showGroup b n m).plausCheck b).dropGroup b n
    else s)

/-- A group is not complete 1 µs after the end of its stage (R176). -/
def execGroupMissing (dt : Nat) (b : Br) (s : State) : Out :=
  let s := s.tick dt
  .next (if s.flightRuns b && !s.flights[b].predictOnly then
      match s.groupStage b with
      | some sl => if sl.start + sl.dur + usCounts ≤ s.dt then s.groupMissed b sl else s
      | none => s
    else s)

/-- The engine stops at the end of its last committed stage (R194). -/
def execFlightStopEnd (dt : Nat) (b : Br) (s : State) : Out :=
  let s := s.tick dt
  .next (if s.flights[b].ending && !s.hasCommitted b then
      s.flightStopped b
    else s)

end Sys2Proof.Machine
end

