-- ==== Sys2Proof/Machine/Fw.lean ====
section
/-! DEFINITION. The firmware update commands 0x0D01 to 0x0D07 (R97, R98, R330 to R334). -/

namespace Sys2Proof.Machine

/-- The session codes of `FW_STATUS` (R97). -/
def phaseCode : FwPhase → Nat
  | .none => 0
  | .loading => 1
  | .verifying => 2
  | .verified => 3
  | .failed => 4
  | .activating => 5

/-- No session is open: none, or the last one failed (R330, R331; log entry 17). -/
def State.fwIdle (s : State) : Bool := s.trust.fw.phase == .none || s.trust.fw.phase == .failed

/-- `FW_BEGIN` (R97, R331, R333): writes the bank that is not trial or active, or the patch area. -/
def execFwBegin (lk : Lk) (s : State) : Out :=
  s.serveCode lk 0x0D01 fun s p =>
    let patch := u8 p 0 == 1
    let size := u32 p 4
    let busy := s.trust.bankA.st == .active || s.trust.bankA.st == .trial
    let bank : Br := if busy then 1 else 0
    checked s [(p.length != 8 || decide ((if patch then 0x100000 else 0xC00000) < size), ST.LENGTH),
      (decide (1 < u8 p 0) || !zeros p 1 3, ST.RANGE), (!s.fwIdle, ST.STATE)] fun s =>
        let fw : FwSession := { FwSession.reset with phase := .loading, patch := patch, bank := bank, size := size }
        let s := if patch then { s with trust := { s.trust with patchActive := false } }
          else s.upBank bank fun x => { x with st := .loading }
        okWith (w8 (if patch then 2 else bank.val) ++ [0, 0, 0]) (s.upFw fun _ => fw)

/-- `FW_DATA` (R97): bytes at an offset of the image under load. -/
def execFwData (lk : Lk) (s : State) : Out :=
  s.serveCode lk 0x0D02 fun s p =>
    let o := u32 p 0
    let n := p.length - 4
    checked s [(decide (p.length < 5) || (s.trust.fw.phase == .loading && decide (s.trust.fw.size < o + n)), ST.LENGTH),
      (s.trust.fw.phase != .loading, ST.STATE)] fun s =>
        okWith [] ((s.setMemBytes (s.fwBase + o) (p.drop 4)).upFw fun f => { f with received := f.received + n })

/-- `FW_VERIFY` (R97): starts the verification. -/
def execFwVerify (lk : Lk) (s : State) : Out :=
  s.serveCode lk 0x0D03 fun s p =>
    checked s [(p.length != 0, ST.LENGTH), (s.trust.fw.phase != .loading, ST.STATE)] fun s =>
      okWith [] (s.upFw fun f => { f with phase := .verifying })

/-- `FW_STATUS` (R97). -/
def execFwStatus (lk : Lk) (s : State) : Out :=
  s.serveCode lk 0x0D04 fun s p =>
    checked s [(p.length != 0, ST.LENGTH)] fun s =>
      let a := s.activeBank
      let va := if a = 1 then s.trust.bankB.version else if a = 0 then s.trust.bankA.version else 0
      let vi := if a = 1 then s.trust.bankA.version else s.trust.bankB.version
      okWith (w8 (phaseCode s.trust.fw.phase) ++ w8 a ++ w8 s.trust.fw.reason ++ [0] ++ w32 s.trust.fw.received ++
        w32 va.toNat ++ w32 vi.toNat) s

/-- `FW_ACTIVATE` (R97, R98, R332, R333, R334): a Pilot image restarts the Pilot on its bank as a trial, a
patch is marked activated and the warm reset follows the response, a key record is applied all or
nothing. R75 gives no place to `BUSY` of a restart, which comes before the state here, nor to the `REFUSED` of a held
cluster or of a key record that is not permitted, which comes after it (DESIGN CHOICE, log entry 150). -/
def execFwActivate (lk : Lk) (s : State) : Out :=
  s.serveCode lk 0x0D05 fun s p =>
    let fw := s.trust.fw
    let image := !fw.patch && fw.kind == 0
    let record := !fw.patch && fw.kind == 2
    let es := s.keyRecord
    let refused := (image && s.pilot.heldForGood) ||
      (record && !(match es with | some l => l.all s.entryPermitted | none => false))
    checked s [(p.length != 0, ST.LENGTH), (s.pilot.restarting, ST.BUSY), (fw.phase != .verified, ST.STATE),
      (image && !s.restartAllowed, ST.STATE), (fw.patch && !s.bothIdle, ST.STATE),
      (record && !s.bothStandby, ST.STATE), (refused, ST.REFUSED)] fun s =>
        if fw.patch then
          let s := { s with trust := { s.trust with patchActive := true, patchVersion := fw.version } }
          okWith [] ({ s with sys := { s.sys with resetDue := true } }.upFw fun f => { f with phase := .activating })
        else if record then
          let s := s.each (es.getD []) State.applyEntry
          okWith [] ((s.upBank fw.bank fun x => { x with st := .empty }).upFw fun _ => FwSession.reset)
        else
          let s := (s.upBank fw.bank fun x => { x with st := .trial }).upFw fun f => { f with phase := .activating }
          okWith [] (s.pilotRestartBegin (some fw.bank))

/-- `PILOT_RESTART` (R97, R98, R332): `BUSY` while one is in progress stands between `REFUSED` and `STATE` (DESIGN
CHOICE, log entry 150). -/
def execPilotRestart (lk : Lk) (s : State) : Out :=
  s.serveCode lk 0x0D06 fun s p =>
    checked s [(p.length != 0, ST.LENGTH), (s.pilot.heldForGood, ST.REFUSED), (s.pilot.restarting, ST.BUSY),
      (!s.restartAllowed, ST.STATE)] fun s => okWith [] (s.pilotRestartBegin s.restartBank)

/-- `FW_ABORT` (R97, R331): the session ends and its bank is marked empty. -/
def execFwAbort (lk : Lk) (s : State) : Out :=
  s.serveCode lk 0x0D07 fun s p =>
    let ph := s.trust.fw.phase
    checked s [(p.length != 0, ST.LENGTH), (ph != .loading && ph != .verifying && ph != .verified, ST.STATE)] fun s =>
      let fw := s.trust.fw
      let s := if fw.patch then s else s.upBank fw.bank fun x => { x with st := .empty }
      okWith [] (s.upFw fun _ => FwSession.reset)

end Sys2Proof.Machine
end

