-- ==== Sys2Proof/Machine/LifeCycle.lean ====
section
/-! DEFINITION. The life-cycle and security commands 0x0E00 to 0x0E05 (R99 to R101, R337 to R341), and
the answer to a code that the running image does not define (R102). -/

namespace Sys2Proof.Machine

/-- `DEVICE_IDENT` (R99). -/
def execDeviceIdent (lk : Lk) (s : State) : Out :=
  s.serveCode lk 0x0E00 fun s p =>
    checked s [(p.length != 0, ST.LENGTH)] fun s =>
      okWith (w16 0x1224 ++ w8 0xB0 ++ w8 3 ++ w16 0x0201 ++ w16 s.trust.patchLevel.toNat ++ w16 0x0304 ++
        w8 (b2n s.pilotCustomer) ++ w8 (lifeCode s.trust.life) ++ w64 Config.serial.toNat) s

/-- `LC_STATUS` (R99, R340). -/
def execLcStatus (lk : Lk) (s : State) : Out :=
  s.serveCode lk 0x0E01 fun s p =>
    checked s [(p.length != 0, ST.LENGTH)] fun s =>
      okWith (w8 (lifeCode s.trust.life) ++ w8 (b2n (s.trust.dbgOpen || s.trust.scanOpen)) ++ w8 s.trust.vaultSt ++ [0]) s

/-- `AUTH_CHALLENGE` (R99, R101): a fresh nonce of 16 bytes from the internal random source replaces the
previous one. -/
def execAuthChallenge (lk : Lk) (s : State) : Out :=
  s.serveCode lk 0x0E02 fun s p =>
    checked s [(p.length != 0, ST.LENGTH)] fun s =>
      let n := (Config.freeBytes s.free ++ List.replicate 16 0).take 16
      okWith n { s.spend with trust := { s.trust with nonce := some (n, s.now) } }

/-- The transition is permitted by R337. -/
def lifePermitted : Life → Nat → Bool
  | .manufacture, 1 => true
  | .provisioned, 2 => true
  | .provisioned, 3 => true
  | .opened, 3 => true
  | .scrapped, _ => false
  | _, 5 => true
  | _, _ => false

/-- The keys that may sign a transition (R337): the Tolvoma root key or the customer authority key. -/
def State.lifeKeys (s : State) (target : Nat) : List (List Byte) :=
  if target = 1 then [Config.tolvomaKey]
  else if target = 5 ∧ s.hasAuthority = false then [Config.tolvomaKey]
  else [s.slot 1]

/-- The state that a life-cycle code names. -/
def lifeOf : Nat → Life
  | 0 => .manufacture
  | 1 => .provisioned
  | 2 => .opened
  | 3 => .sealed
  | 4 => .returned
  | _ => .scrapped

/-- `LC_ADVANCE` (R99, R337): both bridges in `STANDBY`. -/
def execLcAdvance (lk : Lk) (s : State) : Out :=
  s.serveCode lk 0x0E03 fun s p =>
    let t := u8 p 0
    if p.length != 68 then failWith ST.LENGTH s
    else if decide (5 < t) || !zeros p 1 3 then failWith ST.RANGE s
    else if s.authLocked || !lifePermitted s.trust.life t then failWith ST.REFUSED s
    else if !s.bothStandby then failWith ST.STATE s
    else if s.authOk 0x0E03 p (s.lifeKeys t) then
      let s := s.useNonce
      let s := { s with trust := { s.trust with life := lifeOf t } }
      let s := if t = 3 then { s with trust := { s.trust with dbgOpen := false, scanOpen := false } } else s
      okWith [] (if t = 5 then s.scrap else s)
    else failWith ST.AUTH s.useNonce.authFail

/-- The keys that may open a debug port in a life-cycle state (R339). -/
def State.debugKeys (s : State) : List (List Byte) :=
  match s.trust.life with
  | .manufacture => [Config.tolvomaKey]
  | .provisioned | .returned => [Config.tolvomaKey, s.slot 1]
  | .opened | .sealed => [s.slot 1]
  | .scrapped => []

/-- `DEBUG_OPEN` (R99, R339, R340): scan needs an erase of the whole vault; in `SEALED` an erase comes first
and the device moves to `RETURNED`. With the wrapping key destroyed the slots under erase hold nothing from here on
(R342; DEDUCED, log entry 185). Without an erase the access opens at once. -/
def execDebugOpen (lk : Lk) (s : State) : Out :=
  s.serveCode lk 0x0E04 fun s p =>
    let scan := u8 p 0 == 1
    if p.length != 68 then failWith ST.LENGTH s
    else if decide (1 < u8 p 0) || !zeros p 1 3 then failWith ST.RANGE s
    else if s.authLocked || s.trust.life == .scrapped then failWith ST.REFUSED s
    else if !s.bothStandby then failWith ST.STATE s
    else if s.authOk 0x0E04 p s.debugKeys then
      let s := s.useNonce
      let sealed := s.trust.life == .sealed
      let s := if sealed then { s with trust := { s.trust with life := .returned } } else s
      okWith [] (if scan || sealed then
          ({ s with trust := { s.trust with erase := some (scan, scan) } }).eraseVault scan
        else s.openAccess false)
    else failWith ST.AUTH s.useNonce.authFail

/-- `DEVICE_RESET` (R99): both bridges Idle; the warm reset follows the response. -/
def execDeviceReset (lk : Lk) (s : State) : Out :=
  s.serveCode lk 0x0E05 fun s p =>
    checked s [(p.length != 0, ST.LENGTH), (!s.bothIdle, ST.STATE)] fun s =>
      okWith [] { s with sys := { s.sys with resetDue := true } }

/-- A code that Pilot release 3.4 or the Lockkeeper does not define is answered `UNKNOWN` (R102). -/
def execUnknownCommand (lk : Lk) (s : State) : Out :=
  s.serve lk (fun c => !commandCodes.contains c) fun s _ => failWith ST.UNKNOWN s

end Sys2Proof.Machine
end

