-- ==== Sys2Proof/Machine/Link.lean ====
section
/-! DEFINITION. The lane link rows: the downlink slot, the frames in both directions, the loss of an uplink
and the two uplink symbols. -/

namespace Sys2Proof.Machine

/-- A downlink slot begins (R33, R258): each link sends what its slot carries. DTIME stands at the slot's
first bit, the next multiple of 500 ns. -/
def execDownlinkSlot (dt : Nat) (s : State) : Out :=
  let s := (s.tick dt).slotAlign
  .next (if s.linksRun then s.each allLanes State.sendSlot else s)

/-- A lane receives a time mark (R34). -/
def execLaneTimeMark (dt : Nat) (lane : LaneIx) (fr : DownFrame) (s : State) : Out :=
  .next ((s.tick dt).laneRx lane fr)

/-- A lane receives a time mark with the step flag (R35). -/
def execLaneTimeStep (dt : Nat) (lane : LaneIx) (fr : DownFrame) (s : State) : Out :=
  .next ((s.tick dt).laneRx lane fr)

/-- A lane receives an edge frame (R263). -/
def execLaneEdgeFrame (dt : Nat) (lane : LaneIx) (fr : DownFrame) (s : State) : Out :=
  .next ((s.tick dt).laneRx lane fr)

/-- A lane receives a register write (R262). -/
def execLaneRegWriteFrame (dt : Nat) (lane : LaneIx) (fr : DownFrame) (s : State) : Out :=
  .next ((s.tick dt).laneRx lane fr)

/-- The toggle of a write has not been reported within 1.5 µs: the write is sent again (R262). -/
def execLaneWriteRetry (dt : Nat) (lane : LaneIx) (s : State) : Out :=
  let s := s.tick dt
  .next (match s.links[lane].sentAt with
    | some t => if t + 600 ≤ s.now then s.upLink lane fun l => { l with sentAt := none } else s
    | none => s)

/-- The control die receives a status frame (R258); a frame that fails its check is counted. -/
def execLaneStatusFrame (dt : Nat) (lane : LaneIx) (rd : LaneReading) (crcOk : Bool) (s : State) : Out :=
  let s := s.tick dt
  .next (if !crcOk then s.evt (E.LINK_CRC lane)
    else if s.lanes[lane].st = .unlinked then s
    else s.statusFrame lane rd)

/-- No uplink frame has come from a trained lane for 2 µs (R261): `FLT_LANE_LINK`, and the bridge takes
`PLAN_NOW`. -/
def execLaneUplinkLoss (dt : Nat) (lane : LaneIx) (s : State) : Out :=
  let s := s.tick dt
  .next (if s.links[lane].trained && !s.condActive FC.LANE_LINK (.lane lane) &&
        decide (s.links[lane].upAt + 2 * usCounts ≤ s.now) then
      let s := s.upLink lane fun l => { l with trained := false }
      (s.raiseOn FC.LANE_LINK (.lane lane) (laneClass FC.LANE_LINK)).planNow (laneBr lane)
    else s)

/-- The relay receives `TRIP` (R272). -/
def execTripSymbol (dt : Nat) (lane : LaneIx) (s : State) : Out := .next ((s.tick dt).tripRelay lane)

/-- The relay receives `OV3` from a low-side lane (R271): `ASC_NOW` to the bridge, and `FLT_VDC_OV3`. -/
def execOv3Symbol (dt : Nat) (lane : LaneIx) (s : State) : Out :=
  let s := s.tick dt
  .next (if laneLow lane && s.lanes[lane].ov3 then
      (s.ascNow (laneBr lane)).raiseOn FC.VDC_OV3 (.bridge (laneBr lane)) (fixedClass FC.VDC_OV3)
    else s)

end Sys2Proof.Machine
end

