-- ==== Sys2Proof/Machine/Mod.lean ====
section
/-! DEFINITION. The modulation rows that are events: the sending of edges (R212), and the load points and period
boundaries of direct modulation mode (R219 to R223). -/

namespace Sys2Proof.Machine

/-- Edges that come within 1.2 ms are sent (R212); in direct mode only while `ARM` is 1 (R219). -/
def execEdgeSend (dt : Nat) (lane : LaneIx) (s : State) : Out :=
  let s := s.tick dt
  let b := laneBr lane
  .next (if s.bit F.MOD_CTRL_MODE b && !s.bit F.MOD_CTRL_ARM b then s else s.sendEdges lane)

/-- A load point of direct modulation mode (R222, R223); while `ARM` is 1 the Lockkeeper refreshes the safe plan
there (R219). -/
def execModLoadPoint (dt : Nat) (b : Br) (s : State) : Out :=
  let s := s.tick dt
  .next (if s.bit F.MOD_CTRL_MODE b && decide (s.loadPoint b ≤ 32 * s.dt) then
      let s := if s.bit F.MOD_CTRL_LOAD_MID b then s.midLoad b else s.loadBuffer b
      if s.bit F.MOD_CTRL_ARM b then s.planRefresh b else s
    else s)

/-- A period boundary of direct modulation mode (R219, R221): a load point that is the boundary is taken with
it. -/
def execDirectPeriodBoundary (dt : Nat) (b : Br) (s : State) : Out :=
  let s := s.tick dt
  .next (if s.bit F.MOD_CTRL_MODE b && decide (s.mods[b].perEnd ≤ 32 * s.dt) then
      let s := if s.bit F.MOD_CTRL_LOAD_MID b then s else s.loadBuffer b
      let s := s.directPeriod b (s.bit F.MOD_CTRL_ARM b)
      let s := if s.bit F.MOD_CTRL_ARM b then s.planRefresh b else s
      (s.motionStep b).boundaryCauses b
    else s)

end Sys2Proof.Machine
end

