-- ==== Sys2Proof/Machine/Net.lean ====
section
/-! DEFINITION. The rows of Ethernet, vehicle time, Towpath, SENT, auxiliary SPI and the test port (R399 to
R417). -/

namespace Sys2Proof.Machine

/-- An Ethernet frame is received (R399, R400). -/
def execEthFrameRx (dt : Nat) (mac : Fin 2) (fr : EthFrame) (s : State) : Out :=
  let s := s.tick dt
  .next (if s.ethOn mac then s.ethIn mac fr else s)

/-- An 802.1AS synchronisation message on the MAC of `eth.gptp` (R401). -/
def execGptpSync (dt : Nat) (mac : Fin 2) (ns : Nat) (ratio : Rat) (s : State) : Out :=
  let s := s.tick dt
  .next (if s.ethOn mac && s.parBoot P.eth_gptp == mac.val then
      ({ s with net := { s.net with sync := 1, vehNs := ns, vehAt := s.dt, vehRatio := ratio } }).condition
        FC.TIME_SYNC .device false
    else s)

/-- The holdover ends (R401). -/
def execTimeHoldoverEnd (dt : Nat) (s : State) : Out :=
  let s := s.tick dt
  .next (if s.net.sync = 1 ∧ s.net.vehAt + s.parBoot P.eth_holdover * msCounts ≤ s.dt then
      ({ s with net := { s.net with sync := 0 } }).raiseOn FC.TIME_SYNC .device (fixedClass FC.TIME_SYNC)
    else s)

/-- At link start or a change of the key slot the keys are derived and installed (R344). -/
def execMacsecKeyInstall (dt : Nat) (mac : Fin 2) (s : State) : Out :=
  let s := s.tick dt
  .next (if s.running then s.macsecInstall mac else s)

/-- The PHY reports the link down or up (R409). -/
def execEthLinkChange (dt : Nat) (mac : Fin 2) (up : Bool) (s : State) : Out :=
  let s := s.tick dt
  .next (if s.ethOn mac then
      let s := ({ s with net := { s.net with ethUp := s.net.ethUp.set mac up } }).irq (16 + mac.val)
      if up then
        (if s.net.ethUp[1 - mac] || s.parBoot (P.eth_enable (1 - mac.val)) != 1 then
          s.condition FC.ETH_LINK .device false else s)
      else s.raiseOn FC.ETH_LINK .device (fixedClass FC.ETH_LINK)
    else s)

/-- A Towpath port trains (R402, R404). -/
def execTowTraining (dt : Nat) (port : TowPort) (up : TowPeer) (s : State) : Out :=
  let s := s.tick dt
  .next (if s.running && s.parBoot P.tow_enable == 1 then
      (match port with
       | .up => s.trainUp up
       | .dn => s.trainDn up).irq 18
    else s)

/-- A time mark arrives from upstream (R404). -/
def execTowTimeMark (dt : Nat) (fr : List Byte) (s : State) : Out :=
  .next ((s.tick dt).towIn .up 0 fr fun s => if towLen fr = 8 then s.markTake (leVal (towPayload fr)) else s)

/-- Every 10 µs the root sends its DTIME downstream (R404). -/
def execTowRootTimeMark (dt : Nat) (s : State) : Out :=
  let s := s.tick dt
  .next (if s.running && s.parBoot P.tow_enable == 1 && s.net.towNum == some 0 && !s.net.towUp then s.markSend else s)

/-- Every 10 µs the device named by `tow.angle_src` sends the trajectory of its bridge A (R405). -/
def execTowAngleRefSend (dt : Nat) (s : State) : Out :=
  let s := s.tick dt
  let j := s.aclks[(0 : Fin 2)].traj
  .next (if s.running && s.parBoot P.tow_enable == 1 && s.net.towNum == some (s.parBoot P.tow_angle_src) then
      s.towRoute (towFrame 1 0 (s.net.towNum.getD 0) towAll
        (Config.angleRef j.th j.om j.al j.t0 s.aclks[(0 : Fin 2)].turn))
    else s)

/-- An angle reference arrives (R405). -/
def execTowAngleRef (dt : Nat) (port : TowPort) (fr : List Byte) (s : State) : Out :=
  .next ((s.tick dt).towIn port 1 fr fun s =>
    let s := s.towForward port fr
    if s.towMine fr then s.angleRefTake (towPayload fr) else s)

/-- A torque share arrives (R406): it follows R68 with the torque scaled by `tow.share`. -/
def execTowTorqueShare (dt : Nat) (port : TowPort) (fr : List Byte) (s : State) : Out :=
  .next ((s.tick dt).towIn port 2 fr fun s =>
    let s := s.towForward port fr
    if s.towMine fr && s.parBoot P.tow_share_enable == 1 && towLen fr == 16 then
      s.spApply true (s.parN P.tow_share) (towPayload fr)
    else s)

/-- No applicable share for `tow.share_timeout` (R406): the torque request becomes 0 and `FLT_TOW_SHARE` is
raised at the bridge. -/
def execTowShareTimeout (dt : Nat) (b : Br) (s : State) : Out :=
  let s := s.tick dt
  .next (if s.parBoot P.tow_share_enable = 1 ∧ s.spSilent true b (s.parBoot P.tow_share_timeout) = true then
      s.spTimeout b true FC.TOW_SHARE else s)

/-- A fault symbol arrives (R408). -/
def execTowFaultSymbol (dt : Nat) (port : TowPort) (s : State) : Out :=
  let s := s.tick dt
  .next (if s.running && s.towOn port then s.symbolTake port else s)

/-- `TOW_UP` is lost (R404): the PLLs return to the crystal, DTIME runs free, and `FLT_TOW_LINK` is raised; without
a crystal the PLL domains are lost with it (R361). -/
def execTowUpLost (dt : Nat) (s : State) : Out :=
  let s := s.tick dt
  .next (if s.net.towUp then
      let s := (({ s with net := { s.net with towUp := false } }).irq 18).raiseOn FC.TOW_LINK .device
        (fixedClass FC.TOW_LINK)
      if s.sys.up[0] then s else s.domainsLost ((List.finRange 6).drop 1)
    else s)

/-- A SENT frame is received (R410); one that no wire carries is a fault of the command. -/
def execSentFrame (dt : Nat) (k : Fin 4) (fr : SentFrame) (s : State) : Out :=
  let s := s.tick dt
  if !fr.wf then .fault .illFormed
  else .next (if s.running then s.sentIn k fr else s)

/-- A Pilot-started auxiliary SPI transfer completes (R415). -/
def execAuxSpiTransferDone (dt : Nat) (k : Fin 4) (rx : List Byte) (s : State) : Out :=
  let s := s.tick dt
  .next (if s.running then s.aspiDone k rx else s)

/-- A test port instruction is served, or selects `BYPASS` (R417). -/
def execTapInstruction (ir : TapIr) (s : State) : Out :=
  .next { s with net := { s.net with tapIr := s.tapSelect ir } }

end Sys2Proof.Machine
end

