-- ==== Sys2Proof/Machine/Param.lean ====
section
/-! DEFINITION. The parameter commands 0x0B01 to 0x0B07 (R88 to R91, R349 to R351). -/

namespace Sys2Proof.Machine

/-- The count of a command that carries 1 to 29 entries. -/
def badCount (n : Nat) : Bool := n == 0 || decide (29 < n)

/-- One entry of a `PARAM_GET` response (R88). -/
def State.parEntry (s : State) (id : Nat) : List Byte :=
  if (paramFind id).isSome then w16 id ++ w8 ST.OK ++ [0] ++ w32 (s.parN id) else w16 id ++ w8 ST.UNKNOWN ++ [0] ++ w32 0

/-- `PARAM_GET` (R88). -/
def execParamGet (lk : Lk) (s : State) : Out :=
  s.serveCode lk 0x0B01 fun s p =>
    let n := u8 p 0
    checked s [(p.length != 2 + 2 * n, ST.LENGTH), (badCount n || !zeros p 1 1, ST.RANGE)] fun s =>
      okWith (w8 n ++ [0, 0, 0] ++ (List.range n).flatMap fun k => s.parEntry (u16 p (2 + 2 * k))) s

/-- The entries of a `PARAM_SET` payload: ID and value. -/
def setEntries (p : List Byte) (n : Nat) : List (Nat × Word) :=
  (List.range n).map fun k => (u16 p (4 + 8 * k), BitVec.ofNat 32 (u32 p (8 + 8 * k)))

/-- An entry fails `RANGE`: an unknown ID, a value outside its range, or an ID named before (R89). -/
def entryRange (seen : List Nat) (e : Nat × Word) : Bool :=
  match paramFind e.1 with
  | none => true
  | some (r, _) => !r.inRange e.2 || seen.contains e.1

/-- The index of the first entry that fails `RANGE`. -/
def firstRange : List (Nat × Word) → List Nat → Nat → Option Nat
  | [], _, _ => none
  | e :: es, seen, i => if entryRange seen e then some i else firstRange es (e.1 :: seen) (i + 1)

/-- The index of the first entry that fails a test. -/
def firstBad {α : Type} (bad : α → Bool) : List α → Nat → Option Nat
  | [], _ => none
  | e :: es, i => if bad e then some i else firstBad bad es (i + 1)

/-- `PARAM_SET` (R88, R89): atomic; the failing index is returned with `RANGE` and `STATE`. -/
def execParamSet (lk : Lk) (s : State) : Out :=
  s.serveCode lk 0x0B02 fun s p =>
    let n := u8 p 0
    let es := setEntries p n
    if p.length != 4 + 8 * n then failWith ST.LENGTH s
    else if badCount n || !zeros p 1 3 then (ST.RANGE, [0xFF, 0, 0, 0], s)
    else
      let reserved := firstBad (fun k => !zeros p (6 + 8 * k) 2) (List.range n) 0
      match (match firstRange es [] 0, reserved with
        | some i, some j => some (min i j)
        | some i, none => some i
        | none, j => j) with
      | some i => (ST.RANGE, w8 i ++ [0, 0, 0], s)
      | none =>
        match firstBad (fun e => !s.parStateOk e.1 e.2) es 0 with
        | some i => (ST.STATE, w8 i ++ [0, 0, 0], s)
        | none => okWith [0xFF, 0, 0, 0] (s.each es fun s e => s.parAccept e.1 e.2)

/-- `PARAM_CHECK` (R88, R90). -/
def execParamCheck (lk : Lk) (s : State) : Out :=
  s.serveCode lk 0x0B04 fun s p =>
    checked s [(p.length != 0, ST.LENGTH)] fun s =>
      let id := s.paramCheck
      if id = 0 then okWith [0, 0, 0, 0] s else (ST.RANGE, w16 id ++ [0, 0], s)

/-- `PARAM_STORE` (R88, R91, R349, R351). -/
def execParamStore (lk : Lk) (s : State) : Out :=
  s.serveCode lk 0x0B03 fun s p =>
    let differs := s.safetyDiffers
    checked s [(p.length != 4, ST.LENGTH), (s.params.job.isSome, ST.BUSY), (s.paramCheck != 0, ST.RANGE),
      (decide (0xFFFFFFFE < s.validGen + 1), ST.REFUSED),
      (differs && !s.params.confirmed, ST.UNCONFIRMED),
      (differs && u32 p 0 != s.params.confCheck.toNat, ST.CHECK),
      (s.bit F.NVMC_STATUS_INHIBIT, ST.STORE_FAIL)] fun s => okWith [] s.storeBegin

/-- `STORE_STATUS` (R88). -/
def execStoreStatus (lk : Lk) (s : State) : Out :=
  s.serveCode lk 0x0B05 fun s p =>
    checked s [(p.length != 0, ST.LENGTH)] fun s =>
      let chk : Nat := match s.validSlot with | some k => (s.slotHeader k 2).toNat | none => 0
      okWith (w8 (s.rd F.NVMC_STATUS_STORE_STATE) ++ [0, 0, 0] ++ w32 s.validGen ++ w32 chk) s

/-- `PARAM_DEFAULTS` (R88, R350): legal in Idle; every default enters the active set, and the safety
configuration becomes unconfirmed. -/
def execParamDefaults (lk : Lk) (s : State) : Out :=
  s.serveCode lk 0x0B06 fun s p =>
    checked s [(p.length != 0, ST.LENGTH), (s.params.job.isSome, ST.BUSY), (!s.bothIdle, ST.STATE)] fun s =>
      let s := { s with params := { s.params with act := [], staged := [], confirmed := false } }
      okWith [] s.parAll

/-- `PARAM_REVERT` (R88, R350): legal in Idle; the valid generation becomes the active set with its
confirmation. -/
def execParamRevert (lk : Lk) (s : State) : Out :=
  s.serveCode lk 0x0B07 fun s p =>
    checked s [(p.length != 0, ST.LENGTH), (s.params.job.isSome, ST.BUSY), (!s.bothIdle, ST.STATE)] fun s =>
      okWith [] (s.takeSet s.validSlot)

end Sys2Proof.Machine
end

