-- ==== Sys2Proof/Machine/PosIn.lean ====
section
/-! DEFINITION. What arrives at the position ports, as shared operations (R128 to R148): counted edges, Hall
codes, sampled values, analog pairs, reference marks. -/

namespace Sys2Proof.Machine

/-- The port's direction is reversed. -/
def State.portInv (s : State) (p : PortIx) : Bool := s.bit F.PORT_CFG_INVERT p

/-- The signed way from one count to another on a circle of `n` counts, at most half round. -/
def wayRound (n : Nat) (old new : Nat) : Int :=
  let d := ((new : Int) - old) % (n : Int)
  if (n : Int) < 2 * d then d - n else d

/-- A digital port that reports `ZERO_TIMEOUT` or `REVERSING` holds the Angle Clock at its last edge angle
(R150). -/
def State.holdIfStill (s : State) (p : PortIx) (th : Word) : State :=
  let b := s.portBr p
  let q := s.rd F.PORT_STATUS_QUALITY p
  if s.source b = p.val ∧ s.aclkOn b = true ∧ (q = 2 ∨ q = 3) then s.holdAngle b (turnsOf th.toNat) else s

/-- A counted edge of a digital port: position, speed and the Angle Clock. -/
def State.countEdge (s : State) (p : PortIx) (d : Int) (edge : Option Nat) : State :=
  let s := s.countMove p d
  let t := s.posStamp p
  let s := s.speedEdge p d t
  let th := match edge with | some c => s.countAngle p c | none => s.portAngle p
  (s.portValue p th t).holdIfStill p th

/-- The place of the levels of A and B in the forward sequence 00, 10, 11, 01. -/
def quadPlace (a bb : Bool) : Nat :=
  match a, bb with
  | false, false => 0
  | true, false => 1
  | true, true => 2
  | false, true => 3

/-- The quadrant of the levels of the sin and cos comparators. -/
def sinPlace (a bb : Bool) : Nat :=
  match a, bb with
  | true, true => 0
  | true, false => 1
  | false, false => 2
  | false, true => 3

/-- An edge of A or B (R136): both at once, or faster than 20 MHz, is `SEQ`. The edge lies at the boundary below
the higher of the two counts (R149). -/
def State.incEdge (s : State) (p : PortIx) (old new : Nat) : State :=
  let d := wayRound 4 old new
  if d = 0 then s
  else if d.natAbs = 2 then s.portCond p 3 true
  else
    let fast := decide (s.posStamp p < s.ports[p].lastT + 20)
    let up := if s.portInv p then -d else d
    (s.portCond p 3 fast).countEdge p up (if 0 < up then none else some s.ports[p].count)

/-- The interval of a coarse count above which fine interpolation is used (R133). -/
def State.fineMin (s : State) : Nat := if s.bit F.POS_CONV_ILV 0 then 200 else 400

/-- An edge of the sin and cos comparators (R133): the coarse count moves by one; above the limit of fine
interpolation the edge itself is the value. -/
def State.coarseEdge (s : State) (p : PortIx) (old new : Nat) : State :=
  let d := wayRound 4 old new
  if d = 0 then s
  else if d.natAbs = 2 then s.portCond p 3 true
  else
    let up := if s.portInv p then -d else d
    let t := s.posStamp p
    let iv := t - s.ports[p].lastT
    let s := s.portCond p 3 (decide (iv < 20))
    let f : Nat := s.ports[p].count % 1024
    let back : Nat := if iv < s.fineMin then 1024 else 1
    let s := s.countMove p (if 0 < up then 1024 - (f : Int) else -((f + back : Nat) : Int))
    let s := s.upPort p fun x => { x with lastT := t, lastDir := up, intervals := [iv] }
    if iv < s.fineMin then s.portValue p (s.countAngle p (s.ports[p].count / 1024 * 1024)) t else s.portSee p t

/-- A Hall code (R139, R140): the first valid one clears `UNREF`, an adjacent one is a count, another is `SEQ`. -/
def State.hallCode (s : State) (p : PortIx) (code : Nat) : State :=
  match hallPlace code with
  | none => s.portCond p 4 true
  | some i =>
    let i := if s.portInv p then 5 - i else i
    let s := s.portCond p 4 false
    if s.unref p then
      let s := (s.upPort p fun x => { x with count := i }).unrefClear p
      s.portValue p (s.portAngle p) (s.posStamp p)
    else
      let d := wayRound 6 s.ports[p].count i
      if d = 0 then s
      else if d.natAbs = 1 then
        let s := s.portCond p 3 false
        s.countEdge p d (some (if 0 < d then i else s.ports[p].count))
      else ((s.portCond p 3 true).upPort p fun x => { x with count := i }).portSee p (s.posStamp p)

/-- The levels of the three inputs change at a port: those of the _P wires, which count, and of the _N wires, which
the comparators of R135 watch. -/
def State.portEdge (s : State) (p : PortIx) (a bb c an bn cn : Bool) : State :=
  let old := s.ports[p].levels
  let new := b2n c * 4 + b2n bb * 2 + b2n a
  let oa := old % 2 == 1
  let ob := old / 2 % 2 == 1
  let s := s.upPort p fun x => { x with levels := new, nlev := b2n cn * 4 + b2n bn * 2 + b2n an }
  let s := s.portCond p 0 (s.wireBad p)
  if s.portOn p then
    match s.portMode p with
    | 1 => s.coarseEdge p (sinPlace oa ob) (sinPlace a bb)
    | 2 => s.incEdge p (quadPlace oa ob) (quadPlace a bb)
    | 3 => s.hallCode p new
    | _ => s
  else s

/-! ## Sampled positions (R141) -/

/-- A Gray code as binary. -/
def grayVal : Nat → Nat → Nat
  | 0, g => g
  | n + 1, g => g ^^^ grayVal n (g / 2)

/-- A new count of a port that holds an absolute position. -/
def State.absCount (s : State) (p : PortIx) (c : Nat) : State :=
  match s.ports[p].lastVal with
  | none => s.upPort p fun x => { x with count := c, lastVal := some c }
  | some _ => (s.countMove p (wayRound (s.portN p) s.ports[p].count c)).upPort p fun x => { x with lastVal := some c }

/-- A sampled position arrives, or a transfer whose frame is faulty (R139, R141). -/
def State.posSample (s : State) (p : PortIx) (w : Option Nat) : State :=
  let s := s.upPort p fun x => { x with busy := false }
  match w with
  | none => s.portCond p 6 true
  | some raw =>
    let n := s.portN p
    let bits := s.rd F.PORT_FRAME_BITS p
    let v := if s.portMode p = 4 ∧ s.bit F.PORT_FRAME_GRAY p = true then grayVal bits (raw % n) else raw % n
    let c := if s.portInv p then (n - v) % n else v
    let s := ((s.portCond p 6 false).portCond p 7 false).upPort p fun x => { x with lastSampleAt := s.now }
    let s := if s.unref p then s.unrefClear p else s
    let d := if s.ports[p].lastVal.isSome then wayRound n s.ports[p].count c else 0
    let t := s.ports[p].startAt
    let s := s.absCount p c
    let s := if d = 0 then s else s.speedEdge p (if d < 0 then -1 else 1) t
    let th := s.portAngle p
    (s.portValue p th t).holdIfStill p th

/-- The position that the SENT input of a port holds: fast channel 1 in three nibbles, or four (R141). -/
def State.sentWord (s : State) (p : PortIx) : Option Nat :=
  let k : Fin 4 := ⟨s.rd F.PORT_CFG_LINK p % 4, by omega⟩
  let x := s.net.sent[k]
  if x.bad then none
  else some ((x.fast.take (if s.rd F.PORT_FRAME_BITS p = 16 then 4 else 3)).foldl (fun a d => a * 16 + d) 0)

/-- The position in the response of a port's SPI master: its last bits; none with a CRC mismatch. -/
def State.spiWord (s : State) (p : PortIx) : Option Nat :=
  let k : Fin 4 := ⟨(s.rd F.PORT_CFG_LINK p + 2) % 4, by omega⟩
  let x := s.net.aspi[k]
  if x.crcBad then none else some (x.rx.foldl (fun a d => a * 256 + d.toNat) 0 % s.portN p)

/-! ## Analog ports -/

/-- The square of the amplitude of a pair relative to nominal (R134). -/
def State.ampSq (s : State) (p : PortIx) (sn cs : Int) : Rat :=
  let nom := s.rd F.PORT_EXC_AMP_NOM p
  ((sn * sn + cs * cs : Int) : Rat) / ((nom * nom : Nat) : Rat)

/-- The amplitude whose square is given is shown, and checked in percent of nominal. -/
def State.ampCheck (s : State) (p : PortIx) (a2 : Rat) : State :=
  let s := s.wr F.PORT_AMP_AMP p (min 131071 (rootFree (a2 * 4294836225)))
  let lo := s.rd F.PORT_LIMITS_AMP_MIN p
  let hi := s.rd F.PORT_LIMITS_AMP_MAX p
  let s := s.portCond p 1 (decide (a2 * 10000 < ((lo * lo : Nat) : Rat)))
  s.portCond p 2 (decide (((hi * hi : Nat) : Rat) < a2 * 10000))

/-- The amplitude passes its checks. -/
def State.ampOk (s : State) (p : PortIx) : Bool := !s.ports[p].cond.getLsbD 1 && !s.ports[p].cond.getLsbD 2

/-- The speed of an analog port, `VALID` while the amplitude passes (R148): that of the tracked angle, which is the
Angle Clock's for the source in use and the port's own otherwise (DEDUCED, log entry 152). -/
def State.analogSpeed (s : State) (p : PortIx) : State :=
  let b := s.portBr p
  let s := s.upPort p fun x => { x with
    trk := s.trackStep b x.trk x.trkOn false (turnsOf (s.portAngle p).toNat) (s.posStamp p), trkOn := true }
  let v := if s.source b = p.val then s.speed b else ratFree (s.rpmOf b s.ports[p].trk.om)
  (s.upPort p fun x => { x with spd := v, q := if s.ampOk p then 0 else x.q }).portShow p

/-- The place of a pair on a circle of n steps (R128, R133). -/
def pairPlace (n : Nat) (sn cs : Int) : Rat :=
  let a := argT (cs : Rat) (sn : Rat)
  (a - a.floor) * (n : Rat)

/-- A demodulated resolver pair (R132, R134, R139). -/
def State.resolverPair (s : State) (p : PortIx) (sn cs : Int) : State :=
  let s := s.ampCheck p (s.ampSq p sn cs)
  let v := (ratFree (pairPlace 65536 sn cs)).toNat % 65536
  let s := if s.unref p && s.ampOk p then s.unrefClear p else s
  let s := s.absCount p (if s.portInv p then (65536 - v) % 65536 else v)
  (s.portValue p (s.portAngle p) (s.posStamp p)).analogSpeed p

/-- A sampled sin/cos pair (R133, R134): the fine position within the coarse count, whose quadrant must agree;
the first pair after an enable gives the coarse count its quadrant. -/
def State.sincosPair (s : State) (p : PortIx) (sn cs : Int) : State :=
  let s := s.ampCheck p (s.ampSq p sn cs)
  let f := floorN (pairPlace 4096 sn cs) % 4096
  let f := if s.portInv p then 4095 - f else f
  let x := s.ports[p]
  let coarse := x.count / 1024
  let fast := match x.intervals with | [iv] => decide (iv < s.fineMin ∧ s.posStamp p < x.lastT + s.fineMin) | _ => false
  let s :=
    if fast then s.countMove p (-((x.count % 1024 : Nat) : Int))
    else if x.lastVal.isNone then
      (s.upPort p fun y => { y with count := coarse / 4 * 4096 + f, lastVal := some f }).portSee p (s.posStamp p)
    else if f / 1024 = coarse % 4 then
      let s := (s.portCond p 3 false).countMove p ((f % 1024 : Nat) - (x.count % 1024 : Nat))
      s.portValue p (s.portAngle p) (s.posStamp p)
    else s.portCond p 3 true
  s.analogSpeed p

/-! ## Reference marks (R137) -/

/-- The tolerance of a reference mark: one coarse count. -/
def State.markTol (s : State) (p : PortIx) : Nat := if s.portMode p = 1 then 1024 else 1

/-- A reference mark of an incremental or sin/cos port: the first loads the count, later ones are checked. -/
def State.indexMark (s : State) (p : PortIx) : State :=
  match s.ports[p].refCount with
  | none =>
    let s := (s.upPort p fun x => { x with count := 0, refCount := some 0 }).unrefClear p
    s.portValue p (s.portAngle p) (s.posStamp p)
  | some r =>
    let d := wayRound (s.portN p) r s.ports[p].count
    s.portCond p 5 (decide (s.markTol p < d.natAbs))

end Sys2Proof.Machine
end

