-- ==== Sys2Proof/Machine/Pos.lean ====
section
/-! DEFINITION. The position event rows: edges, samples, timeouts, marks, filters, the redundancy timeout and the
end of an alignment. -/

namespace Sys2Proof.Machine

/-- The inputs of a port change their levels (R133, R135, R136, R140, R148). -/
def execPosEdge (dt : Nat) (p : PortIx) (a bb c : WirePair) (s : State) : Out :=
  .next ((s.tick dt).portEdge p a.p bb.p c.p a.n bb.n c.n)

/-- No edge of a digital port for `pos.zero_timeout` (R148). -/
def execPosZeroTimeout (dt : Nat) (p : PortIx) (s : State) : Out :=
  let s := s.tick dt
  let x := s.ports[p]
  .next (if s.portOn p && decide (2 ≤ s.portMode p ∧ x.q ≠ 2 ∧
        x.lastT + s.rd F.PORT_LIMITS_ZERO_TIMEOUT p * msCounts ≤ s.dt) then
      let s := (s.upPort p fun y => { y with spd := 0, q := 2, intervals := [] }).portShow p
      s.holdIfStill p (s.lastEdgeAngle p)
    else s)

/-- A sampled port begins a transfer (R141, R142). -/
def execPosSamplePeriod (dt : Nat) (p : PortIx) (s : State) : Out :=
  let s := s.tick dt
  .next (if s.portOn p && decide (4 ≤ s.portMode p) then
      s.upPort p fun x => { x with busy := true, startAt := s.posStamp p }
    else s)

/-- A sampled port's transfer ends (R141): in serial mode with the word given, none for a set error bit; in SENT
and SPI modes with what the input or the master holds. -/
def execPosSample (dt : Nat) (p : PortIx) (word : Option Nat) (s : State) : Out :=
  let s := s.tick dt
  .next (if s.portOn p then
      match s.portMode p with
      | 4 => s.posSample p word
      | 5 => s.posSample p (s.sentWord p)
      | 6 => s.posSample p (s.spiWord p)
      | _ => s
    else s)

/-- No valid sample for two periods (R141): the condition of `STALE` begins. -/
def execPosStale (dt : Nat) (p : PortIx) (s : State) : Out :=
  let s := s.tick dt
  .next (if s.portOn p && decide (4 ≤ s.portMode p ∧
        s.ports[p].lastSampleAt + 2 * 40 * s.rd F.PORT_FRAME_PERIOD p ≤ s.now) then
      s.portCond p 7 true
    else s)

/-- The second sample of an excitation period is there (R132): the differences of the two samples of sin and of cos
are the demodulated pair. Each period gives one. -/
def execPosResolverSample (dt : Nat) (p : PortIx) (sn cs : TwoSamples) (s : State) : Out :=
  let s := s.tick dt
  .next (if s.portOn p && s.convAssigned p && s.portMode p == 0 && decide (s.ports[p].excN < s.excPairs p) then
      (s.upPort p fun x => { x with excN := s.excPairs p }).resolverPair p (sn.first - sn.second)
        (cs.first - cs.second)
    else s)

/-- A sin/cos pair is sampled (R133). -/
def execPosSincosSample (dt : Nat) (p : PortIx) (sn cs : Int) (s : State) : Out :=
  let s := s.tick dt
  .next (if s.portOn p && s.convAssigned p && s.portMode p == 1 then s.sincosPair p sn cs else s)

/-- A reference mark (R137). -/
def execPosIndexMark (dt : Nat) (p : PortIx) (s : State) : Out :=
  let s := s.tick dt
  .next (if s.portOn p && (s.portMode p == 1 || s.portMode p == 2) then s.indexMark p else s)

/-- An implausibility condition that is present has persisted for `pos.fault_filter`, or has ended (R143, R144).
`REDUND` has its own time. -/
def execPosFaultFilter (dt : Nat) (p : PortIx) (f : PosFlag) (on : Bool) (s : State) : Out :=
  let s := s.tick dt
  .next (if f.val < 9 then
      if on then (if s.ports[p].cond.getLsbD f.val then s.portFlag p f.val else s)
      else s.portCond p f.val (f.val == 0 && s.wireBad p)
    else s)

/-- Primary and redundant source have differed for `pos.redund_time` (R151): both set `REDUND`. -/
def execPosRedundTimeout (dt : Nat) (b : Br) (s : State) : Out :=
  let s := s.tick dt
  .next (match s.aclks[b].diffSince with
    | some t =>
      if t + s.parN (P.pos_redund_time b.val) * usCounts ≤ s.now then
        let obs := s.primary b == 4 || s.redundant b == 4
        let s := if obs then
            (s.upAclk b fun a => { a with obsCond := true }).flag (F.ACLK_STATUS_OBS_REDUND.at (16 * b.val)) 0 true
          else s
        let s := s.each (s.pairPorts b) fun s p => (s.putCond p 9 true).putFlag p 9 true
        let s := s.each (s.pairPorts b) fun s p => (s.portShow p).irq 7
        let s := (s.upAclk b fun a => { a with diffSince := none }).posConds b
        let s := if (s.choose b).2 = .report then s.raise FC.POS_REDUND (.bridge b) .report else s
        s.aclkSelect b false
      else s
    | none => s)

/-- The alignment has learned the offset of the primary source (R86): it is written to the active set. With the
observer as the primary source no port holds an offset, and none is written (DESIGN CHOICE, log entry 153). -/
def execPosAlignDone (dt : Nat) (b : Br) (offset : Word) (s : State) : Out :=
  let s := s.tick dt
  .next (match s.bridges[b].align with
    | some _ =>
      let s := s.upB b fun x => { x with align := none }
      if s.primary b < 4 then s.parApply (P.pos_offset (s.primary b)) offset else s
    | none => s)

end Sys2Proof.Machine
end

