-- ==== Sys2Proof/Machine/PosCmd.lean ====
section
/-! DEFINITION. The position commands 0x0301 to 0x0304 (R86). -/

namespace Sys2Proof.Machine

/-- The port that a payload byte names. -/
def portOf (n : Nat) : PortIx := ⟨n % 4, by omega⟩

/-- The amplitude field of `POS_STATUS`: saturated at 65,535, 0 in digital modes (R134). -/
def State.posAmp (s : State) (p : PortIx) : Nat :=
  if s.portMode p ≤ 1 then min (s.rd F.PORT_AMP_AMP p) 65535 else 0

/-- The record of `POS_STATUS` (R86). -/
def State.posRecord (s : State) (p : PortIx) : List Byte :=
  w32 (s.portShown p).toNat ++ wi48 s.ports[p].turn ++ w8 (s.rd F.PORT_STATUS_QUALITY p) ++
  w8 (s.source (s.portBr p)) ++ wi32 (s.rdI F.PORT_SPEED_SPEED p) ++ w16 (s.posAmp p) ++ w16 (s.portFlags p)

/-- `POS_STATUS` (R86). -/
def execPosStatus (lk : Lk) (s : State) : Out :=
  s.serveCode lk 0x0301 fun s p =>
    checked s [(p.length != 4, ST.LENGTH), (decide (3 < u8 p 0) || !zeros p 1 3, ST.RANGE)] fun s =>
      okWith (s.posRecord (portOf (u8 p 0))) s

/-- A source that `POS_SOURCE_SET` refuses: a port not configured for the bridge's machine, or the
bridge's redundant source (R86). -/
def State.sourceRefused (s : State) (b : Br) (src : Nat) : Bool :=
  (decide (src < 4) && (s.parN (P.pos_mode src) == 7 || !(s.group b).contains (s.parPortBr src))) ||
    s.parN (P.pos_redundant b.val) == src

/-- `POS_SOURCE_SET` (R86): legal in `READY`; writes `pos.primary` of the bridge. -/
def execPosSourceSet (lk : Lk) (s : State) : Out :=
  s.serveCode lk 0x0302 fun s p =>
    let sel := u8 p 0
    let src := u8 p 1
    let b := s.selBr sel
    checked s [(p.length != 4, ST.LENGTH), (selBad sel || decide (4 < src) || !zeros p 2 2, ST.RANGE),
      (s.selRefused sel || s.sourceRefused b src, ST.REFUSED), (s.dst b != .ready, ST.STATE)] fun s =>
        let s := s.parApply (P.pos_primary b.val) (BitVec.ofNat 32 src)
        okWith (w8 (s.source b) ++ [0, 0, 0]) s

/-- `POS_ALIGN` (R86): legal in `READY`; starts the alignment with a current above 0. -/
def execPosAlign (lk : Lk) (s : State) : Out :=
  s.serveCode lk 0x0303 fun s p =>
    let sel := u8 p 0
    let b := s.selBr sel
    checked s [(p.length != 8, ST.LENGTH), (selBad sel || !zeros p 1 3 || decide (i32 p 4 ≤ 0), ST.RANGE),
      (s.selRefused sel, ST.REFUSED), (s.dst b != .ready, ST.STATE)] fun s =>
        okWith [] (s.upB b fun x => { x with align := some (i32 p 4) })

/-- `TURNS_SET` (R86, R146): legal while the port's bridge is in `STANDBY` or `READY`; loads the counter
and clears `TURN_SAT`. -/
def execTurnsSet (lk : Lk) (s : State) : Out :=
  s.serveCode lk 0x0304 fun s p =>
    let q := portOf (u8 p 0)
    let st := s.dst (s.portBr q)
    checked s [(p.length != 8, ST.LENGTH), (decide (3 < u8 p 0) || !zeros p 1 1, ST.RANGE),
      (st != .standby && st != .ready, ST.STATE)] fun s =>
        okWith [] ((s.upPort q fun x => { x with turn := i48 p 2 }).putFlag q 10 false)

end Sys2Proof.Machine
end

