-- ==== Sys2Proof/Machine/Rec.lean ====
section
/-! DEFINITION. The recorder and counter commands 0x0B10 to 0x0B15 (R95, R96, R354 to R356). -/

namespace Sys2Proof.Machine

/-- One entry of a `REC_LIST` response (R95). -/
def State.snapEntry (s : State) (i : Nat) : List Byte :=
  w16 i ++ s.memBytes (snapAt i + 6) 1 ++ w8 (b2n (s.recd.pins.contains i)) ++ s.memBytes (snapAt i + 8) 8

/-- `REC_LIST` (R95): the snapshots from the first index on, ascending (DEDUCED, log entry 19). -/
def execRecList (lk : Lk) (s : State) : Out :=
  s.serveCode lk 0x0B10 fun s p =>
    checked s [(p.length != 4, ST.LENGTH), (!zeros p 2 2, ST.RANGE)] fun s =>
      let l := ((s.snaps).filter fun i => decide (u16 p 0 ≤ i)).take 19
      okWith (w16 s.snaps.length ++ w8 l.length ++ [0] ++ l.flatMap s.snapEntry) s

/-- `REC_READ` (R95, R96). -/
def execRecRead (lk : Lk) (s : State) : Out :=
  s.serveCode lk 0x0B11 fun s p =>
    let i := u16 p 0
    let o := u16 p 2
    let n := u8 p 4
    checked s [(p.length != 8 || decide (65536 < o + n), ST.LENGTH),
      (n == 0 || decide (228 < n) || !zeros p 5 3 || !s.hasSnap i, ST.RANGE)] fun s =>
        okWith (w16 i ++ w16 o ++ w8 n ++ [0, 0, 0] ++ s.memBytes (snapAt i + o) n) s

/-- `REC_TRIGGER` (R95, R354): the index of the new snapshot, or of the one under collection. With
`rec.enable` 0 no trigger takes effect, and the index is free (log entry 20). -/
def execRecTrigger (lk : Lk) (s : State) : Out :=
  s.serveCode lk 0x0B12 fun s p =>
    checked s [(p.length != 0, ST.LENGTH)] fun s =>
      let t := s.recTrigger 0 none
      match t.recd.coll with
      | some c => okWith (w16 c.slot ++ [0, 0]) t
      | none => okWith (w16 (Config.freeNat t.free) ++ [0, 0]) t.spend

/-- `REC_PIN` (R95, R96, R356). -/
def execRecPin (lk : Lk) (s : State) : Out :=
  s.serveCode lk 0x0B13 fun s p =>
    let i := u16 p 0
    let on := u8 p 2 == 1
    checked s [(p.length != 4, ST.LENGTH), (decide (1 < u8 p 2) || !zeros p 3 1 || !s.hasSnap i, ST.RANGE),
      (on && !s.recd.pins.contains i && s.pinFull, ST.REFUSED)] fun s => okWith [] (s.recPinSet i on)

/-- A counter number. -/
def cntOf (n : Nat) : Fin 32 := ⟨n % 32, by omega⟩

/-- One entry of a `CNT_READ` response (R95). -/
def State.cntEntry (s : State) (k : Fin 32) : List Byte :=
  w48 s.cnts[k].value ++ w8 (s.rd F.CNT_CFG_SRC k) ++ w8 (b2n (s.frozen k))

/-- `CNT_READ` (R95, R96). -/
def execCntRead (lk : Lk) (s : State) : Out :=
  s.serveCode lk 0x0B14 fun s p =>
    let a := u8 p 0
    let n := u8 p 1
    checked s [(p.length != 4 || decide (32 < a + n), ST.LENGTH),
      (n == 0 || decide (28 < n) || !zeros p 2 2, ST.RANGE)] fun s =>
        okWith (w8 n ++ [0, 0, 0] ++ (List.range n).flatMap fun k => s.cntEntry (cntOf (a + k))) s

/-- `CNT_CONFIG` (R95): an undefined source code is `RANGE`; so is a flag bit that R95 does not define
(DEDUCED, log entry 21). -/
def execCntConfig (lk : Lk) (s : State) : Out :=
  s.serveCode lk 0x0B15 fun s p =>
    let k := cntOf (u8 p 0)
    let fl := u8 p 2
    checked s [(p.length != 4, ST.LENGTH),
      (decide (31 < u8 p 0) || !srcDefined (u8 p 1) || decide (3 < fl) || !zeros p 3 1, ST.RANGE)] fun s =>
        let s := s.cntSetup k (u8 p 1) (fl.testBit 0)
        okWith [] (if fl.testBit 1 then s.cntClear k else s)

end Sys2Proof.Machine
end

