-- ==== Sys2Proof/Machine/Reset.lean ====
section
/-! DEFINITION. Resets, clocks and supplies as events (R359 to R374). -/

namespace Sys2Proof.Machine

/-- `WAKE_PIN` (R374): a high level of 50 µs sets the wake latch; in standby the wake reset follows. -/
def execWakePin (dt : Nat) (s : State) : Out :=
  let s := s.tick dt
  let s := { s with pins := { s.pins with wake := true }, sys := { s.sys with wakeLatch := true } }
  .next (if s.sys.standby then s.wakeReset else s)

/-- `RST_N_PIN` (R363): a pulse under 200 ns is ignored, one of 1 µs resets; between the two the spec is
silent, a free choice. In standby the main domains have no power to reset (R373). -/
def execRstNPin (dt : Nat) (ns : Nat) (s : State) : Out :=
  let s := s.tick dt
  if s.sys.standby ∨ ns < 200 then .next s
  else if 1000 ≤ ns then .next (s.coreReset .pin F.SYS_RST_CAUSE_PIN)
  else
    let go := Config.freeBool s.free
    let s := s.spend
    .next (if go then s.coreReset .pin F.SYS_RST_CAUSE_PIN else s)

/-- `POWER_ON` (R363): `VSTBY` falls below its threshold; every domain is reset. -/
def execPowerOn (dt : Nat) (s : State) : Out :=
  .next ((s.tick dt).coreReset .powerOn F.SYS_RST_CAUSE_POR)

/-- `BROWN_OUT` (R359): a main supply below its threshold for 1 µs. In standby the main supplies may be
removed (R373). -/
def execBrownOut (dt : Nat) (_sup : MainSupply) (ns : Nat) (s : State) : Out :=
  let s := s.tick dt
  .next (if s.sys.standby ∨ ns < 1000 then s else s.coreReset .brownOut F.SYS_RST_CAUSE_BROWNOUT)

/-- `RESET_RELEASE` (R366, R367, R335). -/
def execResetRelease (dt : Nat) (env : BootEnv) (s : State) : Out := .next ((s.tick dt).release env)

/-- `BLOCK_RELEASE` (R366): the clock of a domain has been qualified; its blocks are released. -/
def execBlockRelease (dt : Nat) (d : ClkDom) (s : State) : Out :=
  let s := s.tick dt
  if s.running then
    let s := s.clkSet (clkBit d) true
    .next (if s.rd F.SYS_CLK_STATUS_CLK_OK = 63 then s.condition FC.CLOCK .device false else s)
  else .next s

/-- `BLOCK_CLOCK_TIMEOUT` (R366): the clock is not stable within 1 ms; the blocks stay in reset. -/
def execBlockClockTimeout (dt : Nat) (d : ClkDom) (s : State) : Out :=
  let s := s.tick dt
  .next (if s.running && !s.sys.up[clkBit d] then s.raiseOn FC.CLOCK .device (fixedClass FC.CLOCK) else s)

/-- The PLL domains derive from the clock recovered from `TOW_UP`, as on a trained non-root device (R26, R360,
R404), and not from the crystal. -/
def State.towClocked (s : State) : Bool := s.net.towUp

/-- The domains that a loss takes: the crystal takes every PLL domain with it (R361), but on a device whose PLLs
run from the recovered clock only itself. -/
def State.lossOf (s : State) : ClkDom → List (Fin 6)
  | .xtal => if s.towClocked then [clkBit .xtal] else List.finRange 6
  | d => [clkBit d]

/-- `CLOCK_LOSS` (R361): `CLK_OK` falls, `LOST` is set, `FLT_CLOCK` is raised, and with scope `FULL` a device
warm reset is armed. -/
def execClockLoss (dt : Nat) (d : ClkDom) (s : State) : Out :=
  let s := s.tick dt
  if s.running && s.sys.up[clkBit d] then
    .next (s.domainsLost (s.lossOf d))
  else .next s

/-- `CLOCK_LOSS_RESET` (R361): 100 µs after the detection. -/
def execClockLossReset (dt : Nat) (s : State) : Out :=
  let s := s.tick dt
  match s.sys.clockRst with
  | some t => .next (if s.running && decide (t + 100 * usCounts ≤ s.now) then s.warmReset F.SYS_RST_CAUSE_CLOCK else s)
  | none => .next s

/-- `OSC_FAIL` (R362): `PLAN_NOW` to all lanes; the Lockkeeper carries out the actions of class `HOLD`, and both
bridges stay in `SAFE_HOLD` until power cycle. -/
def execOscFail (dt : Nat) (s : State) : Out :=
  let s := s.tick dt
  if s.running && s.sys.oscOk then
    let s := (s.flag F.SYS_CLK_STATUS_OSC_FAIL 0 true)
    let s := { s with sys := { s.sys with oscOk := false } }
    let s := s.raiseOn FC.CLOCK .device (fixedClass FC.CLOCK)
    .next ((((s.preempt 0).preempt 1).enterOne 0 .safeHold).enterOne 1 .safeHold)
  else .next s

end Sys2Proof.Machine
end

