-- ==== Sys2Proof/Machine/Safety.lean ====
section
/-! DEFINITION. The safety inputs and the acknowledge pin (R304 to R310). -/

namespace Sys2Proof.Machine

/-- `STO_INPUT_CHANGE` (R306, R108, R110): a filtered input changes; `low` is asserted. -/
def execStoInputChange (dt : Nat) (ch : StoCh) (low : Bool) (s : State) : Out :=
  .next ((s.tick dt).stoSettle.stoChange ch low)

/-- `STO_DISCREPANCY` (R306): the inputs differ for longer than `safety.sto_disc`. -/
def execStoDiscrepancy (dt : Nat) (s : State) : Out :=
  let s := s.tick dt
  match s.sto.diffSince with
  | some t => .next (if t + s.parN P.safety_sto_disc * msCounts < s.now then
      (s.flag F.FCR_STATUS_STO_DISC 0 true).raiseOn FC.STO_DISC .device (fixedClass FC.STO_DISC)
    else s)
  | none => .next s

/-- `SS1_INPUT` (R309, R354): the filtered `SS1_N` changes; low starts a safe stop of every Active bridge. -/
def execSs1Input (dt : Nat) (low : Bool) (s : State) : Out :=
  let s := s.tick dt
  if s.bit F.FCR_STATUS_SS1 = low then .next s
  else
    let s := (s.flag F.FCR_STATUS_SS1 0 low).irq 29
    .next (if low then s.leads.foldl State.safeStopCause (s.recTrigger 3 none) else s)

/-- `FAULT_ACK_PIN_EDGE` (R304, R94): an acknowledge whose toggle differs from the last one. -/
def execFaultAckPinEdge (dt : Nat) (s : State) : Out :=
  let s := ((s.tick dt).flag F.FCR_STATUS_ACK_PIN 0 true).irq 29
  .next (s.ackHere (!s.bit F.FCR_ACK_LAST_TOGGLE))

end Sys2Proof.Machine
end

