-- ==== Sys2Proof/Machine/SafetyCmd.lean ====
section
/-! DEFINITION. The safety commands 0x0901 to 0x0906 (R92, R94, R309). -/

namespace Sys2Proof.Machine

/-- The degraded time remaining of `SAFETY_STATUS`: the shortest among the bridges in `DEGRADED`. -/
def State.shortestDeg (s : State) : Nat :=
  match s.bridgesUsed.filter fun b => s.dst b == .degraded with
  | [] => 0
  | b :: bs => bs.foldl (fun a c => min a (s.degMicros c)) (s.degMicros b)

/-- `SAFETY_STATUS` (R92). -/
def execSafetyStatus (lk : Lk) (s : State) : Out :=
  s.serveCode lk 0x0901 fun s p => checked s [(p.length != 0, ST.LENGTH)] fun s =>
    okWith (w16 s.safetyInputs ++ w8 (s.activeClass fun _ => true) ++ w8 (s.rd F.FCR_ACK_LAST_TOGGLE) ++
      w32 (safetyCheck s.params.act).toNat ++ w32 s.params.confCheck.toNat ++ w32 s.shortestDeg) s

/-- `SAFETY_CONFIRM` (R92): both bridges Idle; `CHECK` when the value is not that of the active set. -/
def execSafetyConfirm (lk : Lk) (s : State) : Out :=
  s.serveCode lk 0x0902 fun s p =>
    let v := BitVec.ofNat 32 (u32 p 0)
    checked s [(p.length != 4, ST.LENGTH), (!s.bothIdle, ST.STATE),
      (v != safetyCheck s.params.act, ST.CHECK)] fun s =>
        okWith (w32 v.toNat) { s with params := { s.params with confirmed := true, confCheck := v } }

/-- `FAULT_ACK` (R92, R94). -/
def execFaultAck (lk : Lk) (s : State) : Out :=
  s.serveCode lk 0x0903 fun s p =>
    checked s [(p.length != 4, ST.LENGTH), (decide (1 < u8 p 0) || !zeros p 1 3, ST.RANGE)] fun s =>
      match s.ackRun (u8 p 0 == 1) with
      | (.accepted, t) => okWith [] (t.ackWaits false)
      | (.refused c, t) => (ST.REFUSED, w8 c ++ [0, 0, 0], t)

/-- The lanes of a mask. -/
def maskLanes (m : Nat) : List LaneIx := allLanes.filter fun k => m.testBit k.val

/-- A lane is still faulty: it is out by a supply trip whose supply is still beyond its threshold (R265;
log entry 16). -/
def State.laneFaulty (s : State) (k : LaneIx) : Bool :=
  let l := s.lanes[k]
  l.st.isOut &&
    ((l.cause == some .vddl && decide (l.vddl < 11500)) ||
     (l.cause == some .veel && decide (s.rdI F.LANE_PROT_VEEL_TRIP (laneOwn k) - 500 < l.veel)))

/-- `LANE_CLEAR` (R92, R94, R273). -/
def execLaneClear (lk : Lk) (s : State) : Out :=
  s.serveCode lk 0x0904 fun s p =>
    let m := u16 p 0
    let ks := maskLanes m
    checked s [(p.length != 4, ST.LENGTH), (decide (0x0FFF < m) || !zeros p 2 2, ST.RANGE),
      (ks.any fun k => !s.idle (laneBr k), ST.STATE)] fun s =>
        match ks.find? s.laneFaulty with
        | some k => (ST.REFUSED, w8 k.val ++ [0, 0, 0], s)
        | none => okWith [] (s.each ks State.laneClearDie)

/-- `SAFE_STOP_REQ` (R92, R309): legal in an Active state; R104 row 16. -/
def execSafeStopReq (lk : Lk) (s : State) : Out :=
  s.serveCode lk 0x0905 fun s p =>
    let sel := u8 p 0
    let b := s.selBr sel
    checked s [(p.length != 4, ST.LENGTH), (selBad sel || !zeros p 1 3, ST.RANGE),
      (s.selRefused sel, ST.REFUSED), (!(s.dst b).isActive, ST.STATE)] fun s => okWith [] (s.command b .safeStop)

/-- An entry of `FAULT_LIST` (R92). -/
def State.faultBytes (s : State) (e : FaultEntry) : List Byte :=
  w8 e.code ++ w8 (clsCode e.cls) ++ w8 (locCode e.loc) ++ w8 (s.entryFlags e) ++ w32 e.stamp.toNat

/-- `FAULT_LIST` (R92, R302): up to 29 entries (R45). -/
def execFaultList (lk : Lk) (s : State) : Out :=
  s.serveCode lk 0x0906 fun s p =>
    checked s [(p.length != 4, ST.LENGTH), (!zeros p 1 3, ST.RANGE)] fun s =>
      let s := s.stoSettle
      let es := (s.fcr.list.drop (u8 p 0)).take 29
      okWith (w8 s.fcr.list.length ++ w8 es.length ++ [0, 0] ++ es.flatMap s.faultBytes) s

end Sys2Proof.Machine
end

