-- ==== Sys2Proof/Machine/Sys.lean ====
section
/-! DEFINITION. The system commands `SYS_STATUS`, `SYS_TIME` and `STANDBY_ENTER` (R81, R82). -/

namespace Sys2Proof.Machine

/-- R81: state codes, configuration, DC-link voltage of bridge A (R244), flags, temperatures and the
count of active faults. -/
def execSysStatus (lk : Lk) (s : State) : Out :=
  s.serveCode lk 0x0101 fun s p => checked s [(p.length != 0, ST.LENGTH)] fun s =>
    okWith (w8 (s.stCode 0) ++ w8 (s.stCode 1) ++ w8 s.config ++ [0] ++ wi32 (s.vdcOf 0) ++
      w32 s.sysFlags ++ wi16 (s.rdI F.SYS_THERM_STATUS_TJ) ++ wi16 s.hottest ++
      w16 s.activeFaults ++ w16 0) s

/-- Vehicle time in ns now: the time last set plus the time since, at the rate ratio of the grandmaster
(R401). -/
def State.vehicleNow (s : State) : Nat :=
  ((s.net.vehNs : Int) + ((((s.dt : Int) - (s.net.vehAt : Int) : Int) : Rat) * 5 / 2 * s.net.vehRatio).floor).toNat

/-- The `sync` code (R401): 1 while messages arrive, 2 in holdover, 0 without synchronisation. -/
def State.syncCode (s : State) : Nat :=
  if s.net.sync = 0 then 0 else if s.dt - s.net.vehAt ≤ Config.syncGap then 1 else 2

/-- R81: DTIME, vehicle time and its synchronisation. -/
def execSysTime (lk : Lk) (s : State) : Out :=
  s.serveCode lk 0x0102 fun s p => checked s [(p.length != 0, ST.LENGTH)] fun s =>
    okWith (w64 s.dt ++ w64 s.vehicleNow ++ w8 s.syncCode ++ [0, 0, 0]) s

/-- R81: legal with both bridges in `STANDBY`; the device enters standby once the response has been
sent. -/
def execStandbyEnter (lk : Lk) (s : State) : Out :=
  s.serveCode lk 0x0103 fun s p =>
    checked s [(p.length != 0, ST.LENGTH), (!s.bothStandby, ST.STATE)] fun s =>
      okWith [] { s with sys := { s.sys with standbyDue := true } }

end Sys2Proof.Machine
end

