-- ==== Sys2Proof/Machine/Trust.lean ====
section
/-! DEFINITION. The ends of verification, store, erase, nonce and lock-out, and the guard readback (R101, R316,
R330, R340, R349). -/

namespace Sys2Proof.Machine

/-- The checks of R330 in their order: the reason of the first that fails, 0 for none. -/
def State.verifyReason (s : State) (v : FwVerdict) : Nat :=
  let kind := s.hdr8 4
  let enc := s.hdr8 6 % 2 == 1
  let floor := if kind = 0 then s.floor 0 else if kind = 1 then s.floor 1 else 0
  (firstFail [(!s.headerOk, 1),
    (!s.keyPermitted kind (s.hdr8 16) || (kind == 0 && s.vaultPolicy.testBit 1 && !enc), 2),
    (!v.sigOk, 3), (!v.hashOk, 4), (decide (s.hdr32 8 < floor), 5), (enc && !v.tagOk, 6), (!v.writeOk, 7)]).getD 0

/-- A key record's body has the form of R343. -/
def State.recordOk (s : State) : Bool :=
  match s.keyRecord with
  | some es => es.all KeyEntry.ok
  | none => false

/-- The verification fails: the bank is empty (R331). -/
def State.verifyFail (s : State) (reason : Nat) : State :=
  let fw := s.trust.fw
  let s := if fw.patch then s else s.upBank fw.bank fun x => { x with st := .empty }
  s.upFw fun f => { f with phase := .failed, reason := reason }

/-- `FW_VERIFY_DONE` (R330): an encrypted body is stored decrypted. -/
def execFwVerifyDone (dt : Nat) (v : FwVerdict) (s : State) : Out :=
  let s := s.tick dt
  if s.trust.fw.phase = .verifying then
    let r := s.verifyReason v
    if r = 0 then
      let kind := s.hdr8 4
      let key := s.hdr8 16
      let ver := BitVec.ofNat 32 (s.hdr32 8)
      let s := if s.hdr8 6 % 2 = 1 then s.setMemBytes (s.fwBase + 128) (v.plain.take (s.hdr32 12)) else s
      if kind = 2 ∧ !s.recordOk then .next (s.verifyFail 1)
      else
        let fw := s.trust.fw
        let s := if fw.patch then s
          else s.upBank fw.bank fun _ => { st := .verified, version := ver, customer := key != 0 }
        .next (s.upFw fun f => { f with phase := .verified, reason := 0, kind := kind, version := ver })
    else .next (s.verifyFail r)
  else .next s

/-- `PARAM_STORE_DONE` (R349): the parts and the `GO` word are written, or the store failed; the
command does not say whether by a write error, so `WFAIL` is free then. -/
def execParamStoreDone (dt : Nat) (ok : Bool) (s : State) : Out :=
  let s := s.tick dt
  match s.params.job with
  | none => .next s
  | some j =>
    let s := { s with params := { s.params with job := none } }
    let s := if ok then
        let s := s.storeWrite j
        let s := s.setWord F.NVMC_GEN_NEXT_GEN 0 (BitVec.ofNat 32 j.gen)
        (s.setMemW (slotAt j.slot) (BitVec.ofNat 32 j.gen)).wr F.NVMC_STATUS_STORE_STATE 0 2
      else
        let s := if Config.freeBool s.free then s.spend.flag F.NVMC_ERR_WFAIL 0 true else s.spend
        s.wr F.NVMC_STATUS_STORE_STATE 0 3
    .next (s.nvmSync.irq 25)

/-- `VAULT_ERASE_DONE` (R340 steps 3 and 4). -/
def execVaultEraseDone (dt : Nat) (s : State) : Out := .next (s.tick dt).eraseDone

/-- `NONCE_EXPIRY` (R101): after 10 s. -/
def execNonceExpiry (dt : Nat) (s : State) : Out :=
  let s := s.tick dt
  match s.trust.nonce with
  | some (_, t) =>
    .next (if t + 10000 * msCounts ≤ s.now then s.useNonce else s)
  | none => .next s

/-- `AUTH_LOCKOUT_END` (R101): after 60 s. -/
def execAuthLockoutEnd (dt : Nat) (s : State) : Out :=
  let s := s.tick dt
  match s.trust.lockedOut with
  | some t =>
    .next (if t + 60000 * msCounts ≤ s.now then
        { s with trust := { s.trust with lockedOut := none, authFails := [] } }
      else s)
  | none => .next s

/-- `GUARD_READBACK` (R316): every 100 ms. -/
def execGuardReadback (dt : Nat) (s : State) : Out :=
  let s := s.tick dt
  .next (if s.running && !s.inBoot then s.guardCheck else s)

end Sys2Proof.Machine
end

