-- ==== Sys2Proof/Machine/Dispatch.lean ====
section
/-! DEFINITION. The dispatch: one arm per command, each a direct call of its meaning. -/

namespace Sys2Proof.Machine

def exec (i : Instr) (s : State) : Host.Outcome State Fault Refusal :=
  match i with
  | .sysStatus lk => Sys2Proof.Machine.execSysStatus lk s
  | .sysTime lk => Sys2Proof.Machine.execSysTime lk s
  | .standbyEnter lk => Sys2Proof.Machine.execStandbyEnter lk s
  | .driveStart lk => Sys2Proof.Machine.execDriveStart lk s
  | .driveStop lk => Sys2Proof.Machine.execDriveStop lk s
  | .torqueSet lk => Sys2Proof.Machine.execTorqueSet lk s
  | .speedSet lk => Sys2Proof.Machine.execSpeedSet lk s
  | .currentSet lk => Sys2Proof.Machine.execCurrentSet lk s
  | .driveStatus lk => Sys2Proof.Machine.execDriveStatus lk s
  | .prechargeStart lk => Sys2Proof.Machine.execPrechargeStart lk s
  | .driveShutdown lk => Sys2Proof.Machine.execDriveShutdown lk s
  | .dischargeStart lk => Sys2Proof.Machine.execDischargeStart lk s
  | .posStatus lk => Sys2Proof.Machine.execPosStatus lk s
  | .posSourceSet lk => Sys2Proof.Machine.execPosSourceSet lk s
  | .posAlign lk => Sys2Proof.Machine.execPosAlign lk s
  | .turnsSet lk => Sys2Proof.Machine.execTurnsSet lk s
  | .paramGet lk => Sys2Proof.Machine.execParamGet lk s
  | .paramSet lk => Sys2Proof.Machine.execParamSet lk s
  | .paramStore lk => Sys2Proof.Machine.execParamStore lk s
  | .paramCheck lk => Sys2Proof.Machine.execParamCheck lk s
  | .storeStatus lk => Sys2Proof.Machine.execStoreStatus lk s
  | .paramDefaults lk => Sys2Proof.Machine.execParamDefaults lk s
  | .paramRevert lk => Sys2Proof.Machine.execParamRevert lk s
  | .safetyStatus lk => Sys2Proof.Machine.execSafetyStatus lk s
  | .safetyConfirm lk => Sys2Proof.Machine.execSafetyConfirm lk s
  | .faultAck lk => Sys2Proof.Machine.execFaultAck lk s
  | .laneClear lk => Sys2Proof.Machine.execLaneClear lk s
  | .safeStopReq lk => Sys2Proof.Machine.execSafeStopReq lk s
  | .faultList lk => Sys2Proof.Machine.execFaultList lk s
  | .recList lk => Sys2Proof.Machine.execRecList lk s
  | .recRead lk => Sys2Proof.Machine.execRecRead lk s
  | .recTrigger lk => Sys2Proof.Machine.execRecTrigger lk s
  | .recPin lk => Sys2Proof.Machine.execRecPin lk s
  | .cntRead lk => Sys2Proof.Machine.execCntRead lk s
  | .cntConfig lk => Sys2Proof.Machine.execCntConfig lk s
  | .fwBegin lk => Sys2Proof.Machine.execFwBegin lk s
  | .fwData lk => Sys2Proof.Machine.execFwData lk s
  | .fwVerify lk => Sys2Proof.Machine.execFwVerify lk s
  | .fwStatus lk => Sys2Proof.Machine.execFwStatus lk s
  | .fwActivate lk => Sys2Proof.Machine.execFwActivate lk s
  | .pilotRestart lk => Sys2Proof.Machine.execPilotRestart lk s
  | .fwAbort lk => Sys2Proof.Machine.execFwAbort lk s
  | .deviceIdent lk => Sys2Proof.Machine.execDeviceIdent lk s
  | .lcStatus lk => Sys2Proof.Machine.execLcStatus lk s
  | .authChallenge lk => Sys2Proof.Machine.execAuthChallenge lk s
  | .lcAdvance lk => Sys2Proof.Machine.execLcAdvance lk s
  | .debugOpen lk => Sys2Proof.Machine.execDebugOpen lk s
  | .deviceReset lk => Sys2Proof.Machine.execDeviceReset lk s
  | .unknownCommand lk => Sys2Proof.Machine.execUnknownCommand lk s
  | .lkWrite port lock off count data crc => Sys2Proof.Machine.execLkWrite port lock off count data crc s
  | .lkSubmit port lock off count crc => Sys2Proof.Machine.execLkSubmit port lock off count crc s
  | .lkRead port lock off count crc => Sys2Proof.Machine.execLkRead port lock off count crc s
  | .lkDrain port lock off count crc => Sys2Proof.Machine.execLkDrain port lock off count crc s
  | .lkGates port lock off count crc => Sys2Proof.Machine.execLkGates port lock off count crc s
  | .stRead port lock off count crc => Sys2Proof.Machine.execStRead port lock off count crc s
  | .canXlBarge can fr => Sys2Proof.Machine.execCanXlBarge can fr s
  | .canFdSegment dt can fr => Sys2Proof.Machine.execCanFdSegment dt can fr s
  | .udpBarge mac src sport data => Sys2Proof.Machine.execUdpBarge mac src sport data s
  | .uartFrame raw framingError => Sys2Proof.Machine.execUartFrame raw framingError s
  | .towTunnelFrame port fr => Sys2Proof.Machine.execTowTunnelFrame port fr s
  | .lockDone m v => Sys2Proof.Machine.execLockDone m v s
  | .lockTimeout dt lk => Sys2Proof.Machine.execLockTimeout dt lk s
  | .lockClaimTimeout dt lk => Sys2Proof.Machine.execLockClaimTimeout dt lk s
  | .lockSegGapTimeout dt can => Sys2Proof.Machine.execLockSegGapTimeout dt can s
  | .lockAutoDrain lk => Sys2Proof.Machine.execLockAutoDrain lk s
  | .lockCtrlWrite m v => Sys2Proof.Machine.execLockCtrlWrite m v s
  | .directSetpointFrame dt can fr => Sys2Proof.Machine.execDirectSetpointFrame dt can fr s
  | .setpointTimeout dt b => Sys2Proof.Machine.execSetpointTimeout dt b s
  | .catchDecision dt b => Sys2Proof.Machine.execCatchDecision dt b s
  | .catchImSearchEnd dt b found => Sys2Proof.Machine.execCatchImSearchEnd dt b found s
  | .initialPositionDetection dt b found => Sys2Proof.Machine.execInitialPositionDetection dt b found s
  | .driveStopRampDone dt b => Sys2Proof.Machine.execDriveStopRampDone dt b s
  | .driveStopStandstill dt b => Sys2Proof.Machine.execDriveStopStandstill dt b s
  | .driveStopTimeout dt b => Sys2Proof.Machine.execDriveStopTimeout dt b s
  | .safeStopComplete dt b => Sys2Proof.Machine.execSafeStopComplete dt b s
  | .degradedTimerExpiry dt b => Sys2Proof.Machine.execDegradedTimerExpiry dt b s
  | .pilotHoldTimeout dt b => Sys2Proof.Machine.execPilotHoldTimeout dt b s
  | .prechargeFeedback dt b => Sys2Proof.Machine.execPrechargeFeedback dt b s
  | .prechargeSettled dt b => Sys2Proof.Machine.execPrechargeSettled dt b s
  | .prechargeTimeout dt b => Sys2Proof.Machine.execPrechargeTimeout dt b s
  | .prechargeComplete dt b => Sys2Proof.Machine.execPrechargeComplete dt b s
  | .dischargeContactorsOpen dt b => Sys2Proof.Machine.execDischargeContactorsOpen dt b s
  | .dischargeComplete dt b => Sys2Proof.Machine.execDischargeComplete dt b s
  | .dischargeTimeout dt b => Sys2Proof.Machine.execDischargeTimeout dt b s
  | .autoDischargeStart dt => Sys2Proof.Machine.execAutoDischargeStart dt s
  | .shutdownNegRelease dt b => Sys2Proof.Machine.execShutdownNegRelease dt b s
  | .contactorFeedbackChange dt k level => Sys2Proof.Machine.execContactorFeedbackChange dt k level s
  | .contactorMismatch dt k => Sys2Proof.Machine.execContactorMismatch dt k s
  | .stoInputChange dt ch low => Sys2Proof.Machine.execStoInputChange dt ch low s
  | .stoDiscrepancy dt => Sys2Proof.Machine.execStoDiscrepancy dt s
  | .ss1Input dt low => Sys2Proof.Machine.execSs1Input dt low s
  | .faultAckPinEdge dt => Sys2Proof.Machine.execFaultAckPinEdge dt s
  | .wakePin dt => Sys2Proof.Machine.execWakePin dt s
  | .rstNPin dt ns => Sys2Proof.Machine.execRstNPin dt ns s
  | .powerOn dt => Sys2Proof.Machine.execPowerOn dt s
  | .brownOut dt sup ns => Sys2Proof.Machine.execBrownOut dt sup ns s
  | .resetRelease dt env => Sys2Proof.Machine.execResetRelease dt env s
  | .blockRelease dt d => Sys2Proof.Machine.execBlockRelease dt d s
  | .blockClockTimeout dt d => Sys2Proof.Machine.execBlockClockTimeout dt d s
  | .deviceWarmReset m v => Sys2Proof.Machine.execDeviceWarmReset m v s
  | .pilotHoldWrite m v => Sys2Proof.Machine.execPilotHoldWrite m v s
  | .sysBlkRst m v open_ => Sys2Proof.Machine.execSysBlkRst m v open_ s
  | .sysStandbyEnter m v wake => Sys2Proof.Machine.execSysStandbyEnter m v wake s
  | .clockLoss dt d => Sys2Proof.Machine.execClockLoss dt d s
  | .clockLossReset dt => Sys2Proof.Machine.execClockLossReset dt s
  | .oscFail dt => Sys2Proof.Machine.execOscFail dt s
  | .housekeepingRound dt hk => Sys2Proof.Machine.execHousekeepingRound dt hk s
  | .faultSourceAssert dt srcs => Sys2Proof.Machine.execFaultSourceAssert dt srcs s
  | .fcrWarmResetTimer dt => Sys2Proof.Machine.execFcrWarmResetTimer dt s
  | .keeperBeat dt m v => Sys2Proof.Machine.execKeeperBeat dt m v s
  | .keeperHbTimeout dt => Sys2Proof.Machine.execKeeperHbTimeout dt s
  | .keeperLockstep dt => Sys2Proof.Machine.execKeeperLockstep dt s
  | .fcrAckWrite dt m v => Sys2Proof.Machine.execFcrAckWrite dt m v s
  | .fcrInject dt m v => Sys2Proof.Machine.execFcrInject dt m v s
  | .aliveToggle dt => Sys2Proof.Machine.execAliveToggle dt s
  | .wdgChallenge dt c => Sys2Proof.Machine.execWdgChallenge dt c s
  | .wdgAnswer dt m v => Sys2Proof.Machine.execWdgAnswer dt m v s
  | .wdgAnswerTimeout dt => Sys2Proof.Machine.execWdgAnswerTimeout dt s
  | .pilotLockstepError dt => Sys2Proof.Machine.execPilotLockstepError dt s
  | .pilotRelease dt c => Sys2Proof.Machine.execPilotRelease dt c s
  | .fwTrialPass dt => Sys2Proof.Machine.execFwTrialPass dt s
  | .fwVerifyDone dt v => Sys2Proof.Machine.execFwVerifyDone dt v s
  | .paramStoreDone dt ok => Sys2Proof.Machine.execParamStoreDone dt ok s
  | .vaultEraseDone dt => Sys2Proof.Machine.execVaultEraseDone dt s
  | .nonceExpiry dt => Sys2Proof.Machine.execNonceExpiry dt s
  | .authLockoutEnd dt => Sys2Proof.Machine.execAuthLockoutEnd dt s
  | .guardReadback dt => Sys2Proof.Machine.execGuardReadback dt s
  | .stageBoundary dt b => Sys2Proof.Machine.execStageBoundary dt b s
  | .planRefresh dt b => Sys2Proof.Machine.execPlanRefresh dt b s
  | .stageCommit dt b => Sys2Proof.Machine.execStageCommit dt b s
  | .stageCompute dt b => Sys2Proof.Machine.execStageCompute dt b s
  | .groupVerify dt b => Sys2Proof.Machine.execGroupVerify dt b s
  | .groupMissing dt b => Sys2Proof.Machine.execGroupMissing dt b s
  | .fltIrefWrite dt m q v => Sys2Proof.Machine.execFltIrefWrite dt m q v s
  | .fltEnableSet dt m v => Sys2Proof.Machine.execFltEnableSet dt m v s
  | .fltEnableClear dt m v => Sys2Proof.Machine.execFltEnableClear dt m v s
  | .flightStopEnd dt b => Sys2Proof.Machine.execFlightStopEnd dt b s
  | .fltHoldWrite dt m v => Sys2Proof.Machine.execFltHoldWrite dt m v s
  | .edgeSend dt lane => Sys2Proof.Machine.execEdgeSend dt lane s
  | .modFieldWrite dt m off v => Sys2Proof.Machine.execModFieldWrite dt m off v s
  | .modCommit dt m v => Sys2Proof.Machine.execModCommit dt m v s
  | .modLoadPoint dt b => Sys2Proof.Machine.execModLoadPoint dt b s
  | .modArmWrite dt m v => Sys2Proof.Machine.execModArmWrite dt m v s
  | .posEdge dt p a bb c => Sys2Proof.Machine.execPosEdge dt p a bb c s
  | .posZeroTimeout dt p => Sys2Proof.Machine.execPosZeroTimeout dt p s
  | .posSamplePeriod dt p => Sys2Proof.Machine.execPosSamplePeriod dt p s
  | .posSample dt p word => Sys2Proof.Machine.execPosSample dt p word s
  | .posStale dt p => Sys2Proof.Machine.execPosStale dt p s
  | .posResolverSample dt p sn cs => Sys2Proof.Machine.execPosResolverSample dt p sn cs s
  | .posSincosSample dt p sn cs => Sys2Proof.Machine.execPosSincosSample dt p sn cs s
  | .posIndexMark dt p => Sys2Proof.Machine.execPosIndexMark dt p s
  | .posFaultFilter dt p f on => Sys2Proof.Machine.execPosFaultFilter dt p f on s
  | .posRedundTimeout dt b => Sys2Proof.Machine.execPosRedundTimeout dt b s
  | .portCfgWrite m v => Sys2Proof.Machine.execPortCfgWrite m v s
  | .portTurnLoWrite m v => Sys2Proof.Machine.execPortTurnLoWrite m v s
  | .portTurnHiWrite m v => Sys2Proof.Machine.execPortTurnHiWrite m v s
  | .portAngleRead m => Sys2Proof.Machine.execPortAngleRead m s
  | .aclkAngleRead m b => Sys2Proof.Machine.execAclkAngleRead m b s
  | .convSequenceStart dt n => Sys2Proof.Machine.execConvSequenceStart dt n s
  | .convSample dt n e => Sys2Proof.Machine.execConvSample dt n e s
  | .convResult dt n r => Sys2Proof.Machine.execConvResult dt n r s
  | .vdcConversion dt v => Sys2Proof.Machine.execVdcConversion dt v s
  | .monitorRound dt b iu iv iw => Sys2Proof.Machine.execMonitorRound dt b iu iv iw s
  | .weirEvaluate dt => Sys2Proof.Machine.execWeirEvaluate dt s
  | .chopperCheckExpiry dt => Sys2Proof.Machine.execChopperCheckExpiry dt s
  | .downlinkSlot dt => Sys2Proof.Machine.execDownlinkSlot dt s
  | .laneTimeMark dt lane fr => Sys2Proof.Machine.execLaneTimeMark dt lane fr s
  | .laneTimeStep dt lane fr => Sys2Proof.Machine.execLaneTimeStep dt lane fr s
  | .laneEdgeFrame dt lane fr => Sys2Proof.Machine.execLaneEdgeFrame dt lane fr s
  | .laneRegWriteFrame dt lane fr => Sys2Proof.Machine.execLaneRegWriteFrame dt lane fr s
  | .laneWriteRetry dt lane => Sys2Proof.Machine.execLaneWriteRetry dt lane s
  | .laneEdgeExecute dt lane env => Sys2Proof.Machine.execLaneEdgeExecute dt lane env s
  | .laneEdgeComplete dt lane t => Sys2Proof.Machine.execLaneEdgeComplete dt lane t s
  | .laneHeartbeatLoss dt lane => Sys2Proof.Machine.execLaneHeartbeatLoss dt lane s
  | .laneTrained dt lane rt => Sys2Proof.Machine.execLaneTrained dt lane rt s
  | .lanePowerUp dt lane pass => Sys2Proof.Machine.execLanePowerUp dt lane pass s
  | .laneStatusFrame dt lane rd crcOk => Sys2Proof.Machine.execLaneStatusFrame dt lane rd crcOk s
  | .laneUplinkLoss dt lane => Sys2Proof.Machine.execLaneUplinkLoss dt lane s
  | .tripSymbol dt lane => Sys2Proof.Machine.execTripSymbol dt lane s
  | .ov3Symbol dt lane => Sys2Proof.Machine.execOv3Symbol dt lane s
  | .planNowSymbol dt lane => Sys2Proof.Machine.execPlanNowSymbol dt lane s
  | .ascNowSymbol dt lane => Sys2Proof.Machine.execAscNowSymbol dt lane s
  | .legLockSymbol dt lane => Sys2Proof.Machine.execLegLockSymbol dt lane s
  | .legFreeSymbol dt lane => Sys2Proof.Machine.execLegFreeSymbol dt lane s
  | .laneShortCircuit dt lane r => Sys2Proof.Machine.execLaneShortCircuit dt lane r s
  | .laneDesat dt v => Sys2Proof.Machine.execLaneDesat dt v s
  | .laneVddlTrip dt lane mv => Sys2Proof.Machine.execLaneVddlTrip dt lane mv s
  | .laneVeelTrip dt lane mv => Sys2Proof.Machine.execLaneVeelTrip dt lane mv s
  | .laneVddlWarn dt lane mv => Sys2Proof.Machine.execLaneVddlWarn dt lane mv s
  | .laneSupplyLoss dt lane mv hvs => Sys2Proof.Machine.execLaneSupplyLoss dt lane mv hvs s
  | .laneOv3 dt lane mv => Sys2Proof.Machine.execLaneOv3 dt lane mv s
  | .laneRetryWaitEnd dt lane active => Sys2Proof.Machine.execLaneRetryWaitEnd dt lane active s
  | .laneAscWaitTimeout dt lane => Sys2Proof.Machine.execLaneAscWaitTimeout dt lane s
  | .laneChopMismatch dt v => Sys2Proof.Machine.execLaneChopMismatch dt v s
  | .laneCtrlArmWrite dt m v => Sys2Proof.Machine.execLaneCtrlArmWrite dt m v s
  | .lanePlanWrite dt m v => Sys2Proof.Machine.execLanePlanWrite dt m v s
  | .laneCmdRelease dt m v => Sys2Proof.Machine.execLaneCmdRelease dt m v s
  | .laneCmdClear dt m v => Sys2Proof.Machine.execLaneCmdClear dt m v s
  | .laneCapArm dt m v => Sys2Proof.Machine.execLaneCapArm dt m v s
  | .laneCapFire dt m v => Sys2Proof.Machine.execLaneCapFire dt m v s
  | .laneCapStop dt lane => Sys2Proof.Machine.execLaneCapStop dt lane s
  | .laneCapCopied dt lane => Sys2Proof.Machine.execLaneCapCopied dt lane s
  | .laneCapDataRead m => Sys2Proof.Machine.execLaneCapDataRead m s
  | .laneAutoDischarge dt lane mv => Sys2Proof.Machine.execLaneAutoDischarge dt lane mv s
  | .laneAutoDischargeEnd dt lane cause => Sys2Proof.Machine.execLaneAutoDischargeEnd dt lane cause s
  | .nvmcDataWrite dt m v => Sys2Proof.Machine.execNvmcDataWrite dt m v s
  | .nvmcWordDone dt powerLost => Sys2Proof.Machine.execNvmcWordDone dt powerLost s
  | .nvmcInvalidate dt m v => Sys2Proof.Machine.execNvmcInvalidate dt m v s
  | .nvmcGo dt m v => Sys2Proof.Machine.execNvmcGo dt m v s
  | .recCollectionEnd dt => Sys2Proof.Machine.execRecCollectionEnd dt s
  | .recIdleRecord dt b => Sys2Proof.Machine.execRecIdleRecord dt b s
  | .canRxFrame dt can ago fr => Sys2Proof.Machine.execCanRxFrame dt can ago fr s
  | .mbReq dt m v => Sys2Proof.Machine.execMbReq dt m v s
  | .mbCancel dt m v => Sys2Proof.Machine.execMbCancel dt m v s
  | .mbRelease dt m v => Sys2Proof.Machine.execMbRelease dt m v s
  | .canTxSelect dt can => Sys2Proof.Machine.execCanTxSelect dt can s
  | .canTxEnd dt can e => Sys2Proof.Machine.execCanTxEnd dt can e s
  | .canBusOff dt can => Sys2Proof.Machine.execCanBusOff dt can s
  | .canRecoverWrite dt m v => Sys2Proof.Machine.execCanRecoverWrite dt m v s
  | .canRecoveryDone dt can => Sys2Proof.Machine.execCanRecoveryDone dt can s
  | .canInitWrite dt m v => Sys2Proof.Machine.execCanInitWrite dt m v s
  | .canIntegrated dt can => Sys2Proof.Machine.execCanIntegrated dt can s
  | .ethFrameRx dt mac fr => Sys2Proof.Machine.execEthFrameRx dt mac fr s
  | .gptpSync dt mac ns ratio => Sys2Proof.Machine.execGptpSync dt mac ns ratio s
  | .timeHoldoverEnd dt => Sys2Proof.Machine.execTimeHoldoverEnd dt s
  | .macsecKeyInstall dt mac => Sys2Proof.Machine.execMacsecKeyInstall dt mac s
  | .towTraining dt port up => Sys2Proof.Machine.execTowTraining dt port up s
  | .towTimeMark dt fr => Sys2Proof.Machine.execTowTimeMark dt fr s
  | .towAngleRef dt port fr => Sys2Proof.Machine.execTowAngleRef dt port fr s
  | .towTorqueShare dt port fr => Sys2Proof.Machine.execTowTorqueShare dt port fr s
  | .towShareTimeout dt b => Sys2Proof.Machine.execTowShareTimeout dt b s
  | .towFaultSymbol dt port => Sys2Proof.Machine.execTowFaultSymbol dt port s
  | .towUpLost dt => Sys2Proof.Machine.execTowUpLost dt s
  | .sentFrame dt k fr => Sys2Proof.Machine.execSentFrame dt k fr s
  | .tapInstruction ir => Sys2Proof.Machine.execTapInstruction ir s
  | .crcStart m v => Sys2Proof.Machine.execCrcStart m v s
  | .crcData m v size => Sys2Proof.Machine.execCrcData m v size s
  | .crcValWrite m hi v => Sys2Proof.Machine.execCrcValWrite m hi v s
  | .crcValRead m res => Sys2Proof.Machine.execCrcValRead m res s
  | .cntClear m v => Sys2Proof.Machine.execCntClear m v s
  | .cntCfgWrite m v => Sys2Proof.Machine.execCntCfgWrite m v s
  | .evcSnap m v => Sys2Proof.Machine.execEvcSnap m v s
  | .cntValRead m snap => Sys2Proof.Machine.execCntValRead m snap s
  | .registerWrite dt m addr v => Sys2Proof.Machine.execRegisterWrite dt m addr v s
  | .posAlignDone dt b offset => Sys2Proof.Machine.execPosAlignDone dt b offset s
  | .directPeriodBoundary dt b => Sys2Proof.Machine.execDirectPeriodBoundary dt b s
  | .ethLinkChange dt mac up => Sys2Proof.Machine.execEthLinkChange dt mac up s
  | .towRootTimeMark dt => Sys2Proof.Machine.execTowRootTimeMark dt s
  | .towAngleRefSend dt => Sys2Proof.Machine.execTowAngleRefSend dt s
  | .auxSpiTransferDone dt k rx => Sys2Proof.Machine.execAuxSpiTransferDone dt k rx s
  | .nvmWriteInhibit dt vddm vddc => Sys2Proof.Machine.execNvmWriteInhibit dt vddm vddc s
  | .busReadError dt m addr => Sys2Proof.Machine.execBusReadError dt m addr s

end Sys2Proof.Machine
end

