-- ==== Sys2Proof/Machine/Step.lean ====
section
/-! DEFINITION. One step of the block: the command at the front of the queue, or one count of time. -/

namespace Sys2Proof.Machine

/-- The front command is taken and executed on the state with the queue's rest. On an empty queue one DTIME
count passes (DESIGN CHOICE, log entry 24). -/
def step (s : State) : Host.Outcome State Fault Refusal :=
  match s.pending with
  | [] => .next (s.tick 1)
  | c :: rest => exec c { s with pending := rest }

/-- The state with a table word's command at the front of the queue; no word spells one. -/
def State.withFetchWord (s : State) (nbits w : Nat) : State :=
  match decodeTableWord nbits w with
  | some c => { s with pending := c :: s.pending }
  | none => s

end Sys2Proof.Machine
end

