-- ==== Sys2Proof/Safety.lean ====
section
/-! DEFINITION. What a sound state is, in the terms that claims use: the canonical forms of the sparse maps, the
range of the event counters (R427), and what every command keeps: the queue it was not given, and time. -/

namespace Sys2Proof.Machine

/-- Memory is in canonical form: addresses strictly rising, no byte listed at what an unlisted one reads as. -/
def Memory.wf (m : List Host.Cell) : Bool := swf memDflt m

/-- A Lock's chamber is in canonical form. -/
def Lock.wf (l : Lock) : Bool := swf (fun _ => (0 : Byte)) l.buf

/-- A counter has not passed its end, 2^48 − 1 (R427). -/
def Counter.wf (c : Counter) : Bool := decide (c.value ≤ 281474976710655)

/-- The sound contents of the parts of a state that have a form to keep. -/
structure Sound (regs : List (Nat × Word)) (mem : List Host.Cell) (act boot : List (Nat × Word))
    (locks : Vector Lock 16) (cnts : Vector Counter 32) : Prop where
  regs : swf regReset regs = true
  mem : Memory.wf mem = true
  act : swf paramDefault act = true
  boot : swf paramDefault boot = true
  locks : ∀ k : Lk, locks[k].wf = true
  cnts : ∀ k : Fin 32, cnts[k].wf = true

/-- A sound state. -/
def State.Wf (s : State) : Prop := Sound s.regs s.mem s.params.act s.params.boot s.locks s.cnts

/-- A sound state with the queue `q`, at the moment `n` of the model's clock or later. -/
structure Keeps (q : List Instr) (n : Nat) (s : State) : Prop where
  queue : s.pending = q
  time : n ≤ s.now
  wf : s.Wf

/-- An outcome that goes on, does so in such a state. -/
def KeepsOut (q : List Instr) (n : Nat) : Out → Prop
  | .next t => Keeps q n t
  | .fault _ => True
  | .refused _ => True

/-- A safe run stops by no fault and no refusal: every outcome is a next state. -/
def Goes : Out → Prop
  | .next _ => True
  | .fault _ => False
  | .refused _ => False

/-- The payload of the Barge in a Lock. -/
def State.payload (s : State) (lk : Lk) : List Byte := s.locks[lk].payload

/-- A Barge of a code stands in `SERVICE`, unserved and first of its class (R77), and the firmware of its class
serves: the Lockkeeper always, the Pilot unless it restarts or is held (R58). -/
structure State.Serves (s : State) (lk : Lk) (code : Nat) : Prop where
  gate : s.locks[lk].gate = .service
  served : s.locks[lk].served = false
  code : s.locks[lk].code = code
  first : s.firstOfClass lk = true
  firm : (s.pilotOut && !s.locks[lk].keeper) = false

/-- An answer stands in the chamber of a Lock: the status at byte 7, the length at byte 4, the payload from byte
16 on (R45, R52 step 4); nothing else of the state changes. -/
def State.answered (s : State) (lk : Lk) (st : Nat) (pl : List Byte) : State :=
  s.upLock lk fun l => { ((l.put 7 (w8 st)).put 4 (w8 pl.length)).put 16 pl with served := true }

/-- A payload of a given length whose bridge selector stands (R76) with a configuration that admits it, and
whose reserved bytes from `o` to the end are 0 (R74). -/
def State.selects (s : State) (p : List Byte) (len o : Nat) : Bool :=
  p.length == len && !selBad (u8 p 0) && !s.selRefused (u8 p 0) && zeros p o (len - o)

/-- A write of `w` by master `m` to the word at `a` in block `k` reaches register `r` whole: the master is on the
bus and R37 permits its write, the block is out of reset (R366), the register is there, every value is in range
(R16, R18), no field is guarded against the master (R14) and none waits for a pause (R15). -/
structure State.Reaches (t : State) (m : Master) (k a : Nat) (r : RegDef) (w : Word) : Prop where
  bus : t.onBus m = true
  may : mayWrite m a (.regs k) = true
  up : t.blockUp k = true
  reg : regFind k a = some r
  legal : t.writeLegal (t.writeView m r a) w = true
  guards : (t.writeView m r a).guards = false
  paused : (t.writeView m r a).unpaused = false

/-- The state in which such a write has stored its word in the register's instance. -/
def State.wrote (t : State) (m : Master) (a : Nat) (r : RegDef) (w : Word) : State :=
  t.setWord ⟨a, 31, 0⟩ (t.busInst m r.win)
    ((t.writeView m r a).stored (t.word ⟨a, 31, 0⟩ (t.busInst m r.win)) w)

/-- The same, but some field of the register waits for a pause (R15): those fields keep their values and the
block's `RANGE` is set. -/
structure State.ReachesUnpaused (t : State) (m : Master) (k a : Nat) (r : RegDef) (w : Word) : Prop where
  bus : t.onBus m = true
  may : mayWrite m a (.regs k) = true
  up : t.blockUp k = true
  reg : regFind k a = some r
  legal : t.writeLegal (t.writeView m r a) w = true
  guards : (t.writeView m r a).guards = false
  unpaused : (t.writeView m r a).unpaused = true

/-- The state in which such a write has stored its word, `p` being the state with `RANGE` set. -/
def State.wroteUnpaused (t p : State) (m : Master) (a : Nat) (r : RegDef) (w : Word) : State :=
  p.setWord ⟨a, 31, 0⟩ (t.busInst m r.win)
    ((t.writeView m r a).stored (p.word ⟨a, 31, 0⟩ (t.busInst m r.win)) w)

/-- The word that a write in the lane window sends over the link: on a word of zeros where the register holds
flags or strobes, else on what the lane's register will hold. -/
def State.laneWord (t : State) (m : Master) (a : Nat) (r : RegDef) (zero : Bool) (w : Word) : Word :=
  r.fields.foldl ((t.writeView m r a).lanePut w) (if zero then 0 else t.laneNext (t.selLane m) ⟨a, 31, 0⟩)

end Sys2Proof.Machine
end

