-- ==== Sys2Proof/Certificates/Slice0/Obligations.lean ====
section
/-! DEFINITION. The statements for the provers, one per family of commands and kind of state, then those about the
whole block. Each equation gives the whole next state, so it says that the command completes, what it does and what
it leaves as it was; `s.tick dt = t` is the state at the moment of the event. -/

open Sys2Proof Sys2Proof.Machine

/-! ### Commands in the Locks -/

/-- R81 and R82: the system commands answer `OK`. `SYS_STATUS` and `SYS_TIME` change nothing but the chamber;
`STANDBY_ENTER`, with both bridges in `STANDBY`, also marks the standby that follows the response. -/
def Obligations.SystemCommands : Prop :=
  (∀ (s : State) (lk : Lk), s.Serves lk 0x0101 → s.payload lk = [] →
    exec (.sysStatus lk) s = .next (s.answered lk ST.OK
      (w8 (s.stCode 0) ++ w8 (s.stCode 1) ++ w8 s.config ++ [0] ++ wi32 (s.vdcOf 0) ++ w32 s.sysFlags ++
        wi16 (s.rdI F.SYS_THERM_STATUS_TJ) ++ wi16 s.hottest ++ w16 s.activeFaults ++ w16 0))) ∧
  (∀ (s : State) (lk : Lk), s.Serves lk 0x0102 → s.payload lk = [] →
    exec (.sysTime lk) s = .next (s.answered lk ST.OK
      (w64 s.dtime.toNat ++ w64 s.vehicleNow ++ w8 s.syncCode ++ [0, 0, 0]))) ∧
  (∀ (s : State) (lk : Lk), s.Serves lk 0x0103 → s.payload lk = [] → s.bothStandby = true →
    exec (.standbyEnter lk) s =
      .next ({ s with sys := { s.sys with standbyDue := true } }.answered lk ST.OK []))

/-- R83, R106, R291, R293: the commands that cause a transition. In a state that the command allows, with a
selector and configuration that admit it, the command answers `OK` with no payload, and the transition waits
at the bridge, or at both of a locked pair, until the response is complete (R106). -/
def Obligations.DriveTransitionCommands : Prop :=
  (∀ (s : State) (lk : Lk) (p : List Byte), s.Serves lk 0x0201 → s.payload lk = p → s.selects p 4 2 = true → u8 p 1 ≤ 2 →
    s.dst (s.selBr (u8 p 0)) = .ready → s.stoOn = false → s.params.confirmed = true →
    exec (.driveStart lk) s = .next ((s.command (s.selBr (u8 p 0))
      (.start (if u8 p 1 = 0 then .torque else if u8 p 1 = 1 then .speed else .current))).answered
        lk ST.OK [])) ∧
  (∀ (s : State) (lk : Lk) (p : List Byte), s.Serves lk 0x0202 → s.payload lk = p → s.selects p 4 2 = true → u8 p 1 ≤ 1 →
    (s.dst (s.selBr (u8 p 0))).isActive = true →
    exec (.driveStop lk) s = .next ((s.command (s.selBr (u8 p 0))
      (.stop (u8 p 1 == 1))).answered lk ST.OK [])) ∧
  (∀ (s : State) (lk : Lk) (p : List Byte), s.Serves lk 0x0207 → s.payload lk = p → s.selects p 4 1 = true →
    s.dst (s.selBr (u8 p 0)) = .standby → s.welded = false →
    exec (.prechargeStart lk) s =
      .next ((s.command (s.selBr (u8 p 0)) .precharge).answered lk ST.OK [])) ∧
  (∀ (s : State) (lk : Lk) (p : List Byte), s.Serves lk 0x0208 → s.payload lk = p → s.selects p 4 1 = true →
    (s.dst (s.selBr (u8 p 0)) = .ready ∨ s.dst (s.selBr (u8 p 0)) = .fault) →
    exec (.driveShutdown lk) s =
      .next ((s.command (s.selBr (u8 p 0)) .shutdown).answered lk ST.OK [])) ∧
  (∀ (s : State) (lk : Lk) (p : List Byte), s.Serves lk 0x0209 → s.payload lk = p → s.selects p 4 2 = true → u8 p 1 ≤ 1 →
    (s.parN P.dcl_dis_method).testBit (u8 p 1) = true →
    (u8 p 1 = 1 → s.bit F.MOD_CTRL_MODE (s.selBr (u8 p 0)).val = false) →
    (s.dst (s.selBr (u8 p 0))).isIdle = true →
    (s.lockedPair = true ∨ s.configured (mate (s.selBr (u8 p 0))) = false ∨
      ((s.dst (mate (s.selBr (u8 p 0)))).isActive = false ∧
        s.dst (mate (s.selBr (u8 p 0))) ≠ .precharge)) →
    exec (.dischargeStart lk) s = .next ((s.command (s.selBr (u8 p 0))
      (.discharge (u8 p 1 == 1))).answered lk ST.OK []))

/-- R83, R84, R85: setpoints and status of a driving bridge. A setpoint is stored at the bridge, or at both of a
locked pair, and the response says what is applied: the clamped torque, the speed, the clamped current pair, and
the limit flags; a setpoint against the motion at zero speed is held at 0 (R121). `DRIVE_STATUS` changes nothing
but the chamber. -/
def Obligations.SetpointCommands : Prop :=
  (∀ (s : State) (lk : Lk) (p : List Byte) (b : Br) (t : Int), s.Serves lk 0x0203 → s.payload lk = p → p.length = 12 →
    zeros p 1 3 = true → u8 p 0 ≤ 2 → s.selRefused (u8 p 0) = false →
    s.selBr (u8 p 0) = b → i32 p 4 = t → 0 ≤ i32 p 8 →
    s.parN P.lock_sp_enable ≠ 1 → s.parBoot P.tow_share_enable ≠ 1 → (s.dst b).isDriving = true →
    s.bridges[b].mode = some .torque →
    exec (.torqueSet lk) s = .next ((s.takeTorque b t (i32 p 8)).answered lk ST.OK
      (if s.reverseHeld b t then wi32 0 ++ w8 0 ++ [0, 0, 0]
       else wi32 (s.applyTorque b t).1 ++ w8 (s.applyTorque b t).2 ++ [0, 0, 0]))) ∧
  (∀ (s : State) (lk : Lk) (p : List Byte) (b : Br) (v : Int), s.Serves lk 0x0204 → s.payload lk = p → p.length = 12 →
    zeros p 1 3 = true → u8 p 0 ≤ 2 → s.selRefused (u8 p 0) = false →
    s.selBr (u8 p 0) = b → i32 p 4 = v → 0 ≤ i32 p 8 →
    (s.dst b).isDriving = true → s.bridges[b].mode = some .speed →
    exec (.speedSet lk) s = .next ((s.each (s.group b) fun t c => t.upB c fun x =>
        { x with speedSet := v, torqueLimit := i32 p 8 }).answered lk ST.OK
      (wi32 (if s.reverseHeld b v then 0 else v) ++ w8 (s.bridges[b].limits % 8) ++ [0, 0, 0]))) ∧
  (∀ (s : State) (lk : Lk) (p : List Byte) (b : Br) (d q : Int), s.Serves lk 0x0205 → s.payload lk = p → p.length = 12 →
    zeros p 1 3 = true → u8 p 0 ≤ 2 → s.selRefused (u8 p 0) = false →
    s.selBr (u8 p 0) = b → i32 p 4 = d → i32 p 8 = q →
    s.dst b = .run → s.bridges[b].mode = some .current →
    exec (.currentSet lk) s = .next ((s.each (s.group b) fun t c => t.upB c fun x =>
        { x with dSet := d, qSet := q }).answered lk ST.OK
      (wi32 (ratFree (s.clampRef b d q).id) ++ wi32 (ratFree (s.clampRef b d q).iq) ++
        w8 (s.refFlags b (s.clampRef b d q) % 8) ++ [0, 0, 0]))) ∧
  (∀ (s : State) (lk : Lk) (p : List Byte) (b : Br), s.Serves lk 0x0206 → s.payload lk = p → p.length = 4 →
    u8 p 0 = b.val → zeros p 1 3 = true → s.configured b = true →
    exec (.driveStatus lk) s = .next (s.answered lk ST.OK (s.driveRecord b)))

/-- R86: the position commands. `POS_STATUS` changes nothing but the chamber; `POS_SOURCE_SET` writes
`pos.primary` and answers the source in use; `POS_ALIGN` starts the alignment with its current; `TURNS_SET`
loads the turn counter and clears `TURN_SAT` (bit 10). -/
def Obligations.PositionCommands : Prop :=
  (∀ (s : State) (lk : Lk) (p : List Byte) (k : PortIx), s.Serves lk 0x0301 → s.payload lk = p → p.length = 4 →
    u8 p 0 = k.val → zeros p 1 3 = true →
    exec (.posStatus lk) s = .next (s.answered lk ST.OK (s.posRecord k))) ∧
  (∀ (s : State) (lk : Lk) (p : List Byte) (b : Br), s.Serves lk 0x0302 → s.payload lk = p → s.selects p 4 2 = true →
    s.selBr (u8 p 0) = b → u8 p 1 ≤ 4 →
    s.sourceRefused b (u8 p 1) = false → s.dst b = .ready →
    exec (.posSourceSet lk) s =
      .next ((s.parApply (P.pos_primary b.val) (BitVec.ofNat 32 (u8 p 1))).answered lk ST.OK
        (w8 ((s.parApply (P.pos_primary b.val) (BitVec.ofNat 32 (u8 p 1))).source b) ++ [0, 0, 0]))) ∧
  (∀ (s : State) (lk : Lk) (p : List Byte) (b : Br), s.Serves lk 0x0303 → s.payload lk = p → p.length = 8 →
    u8 p 0 ≤ 2 → s.selRefused (u8 p 0) = false → zeros p 1 3 = true →
    s.selBr (u8 p 0) = b → 0 < i32 p 4 → s.dst b = .ready →
    exec (.posAlign lk) s =
      .next ((s.upB b fun x => { x with align := some (i32 p 4) }).answered lk ST.OK [])) ∧
  (∀ (s : State) (lk : Lk) (p : List Byte) (k : PortIx), s.Serves lk 0x0304 → s.payload lk = p → p.length = 8 →
    u8 p 0 = k.val → zeros p 1 1 = true →
    (s.dst (s.portBr k) = .standby ∨ s.dst (s.portBr k) = .ready) →
    exec (.turnsSet lk) s =
      .next (((s.upPort k fun x => { x with turn := i48 p 2 }).putFlag k 10 false).answered lk ST.OK []))

/-- R88, R90, R349, R350: the parameter commands. The reads change nothing but the chamber; `PARAM_SET` accepts
every entry in its order; `PARAM_STORE` begins the store; `PARAM_DEFAULTS` empties the active set of its changes
and unconfirms the safety configuration; `PARAM_REVERT` takes the valid generation. -/
def Obligations.ParameterCommands : Prop :=
  (∀ (s : State) (lk : Lk) (p : List Byte) (n : Nat), s.Serves lk 0x0B01 → s.payload lk = p → u8 p 0 = n → 1 ≤ n → n ≤ 29 →
    p.length = 2 + 2 * n → zeros p 1 1 = true →
    exec (.paramGet lk) s = .next (s.answered lk ST.OK (w8 n ++ [0, 0, 0] ++
      (List.range n).flatMap fun k => s.parEntry (u16 p (2 + 2 * k))))) ∧
  (∀ (s : State) (lk : Lk) (p : List Byte) (n : Nat), s.Serves lk 0x0B02 → s.payload lk = p → u8 p 0 = n → 1 ≤ n → n ≤ 29 →
    p.length = 4 + 8 * n → zeros p 1 3 = true →
    firstBad (fun k => !zeros p (6 + 8 * k) 2) (List.range n) 0 = none →
    firstRange (setEntries p n) [] 0 = none →
    firstBad (fun e => !s.parStateOk e.1 e.2) (setEntries p n) 0 = none →
    exec (.paramSet lk) s = .next ((s.each (setEntries p n) fun t e =>
      t.parAccept e.1 e.2).answered lk ST.OK [0xFF, 0, 0, 0])) ∧
  (∀ (s : State) (lk : Lk), s.Serves lk 0x0B04 → s.payload lk = [] →
    exec (.paramCheck lk) s = .next (if s.paramCheck = 0 then s.answered lk ST.OK [0, 0, 0, 0]
      else s.answered lk ST.RANGE (w16 s.paramCheck ++ [0, 0]))) ∧
  (∀ (s : State) (lk : Lk) (p : List Byte), s.Serves lk 0x0B03 → s.payload lk = p → p.length = 4 → s.params.job = none →
    s.paramCheck = 0 → s.validGen < 0xFFFFFFFE →
    (s.safetyDiffers = true → s.params.confirmed = true ∧ u32 p 0 = s.params.confCheck.toNat) →
    s.bit F.NVMC_STATUS_INHIBIT = false →
    exec (.paramStore lk) s = .next (s.storeBegin.answered lk ST.OK [])) ∧
  (∀ (s : State) (lk : Lk), s.Serves lk 0x0B05 → s.payload lk = [] →
    exec (.storeStatus lk) s = .next (s.answered lk ST.OK
      (w8 (s.rd F.NVMC_STATUS_STORE_STATE) ++ ([0, 0, 0] : List Byte) ++ w32 s.validGen ++
        w32 (match s.validSlot with | some k => (s.slotHeader k 2).toNat | none => 0 : Nat)))) ∧
  (∀ (s : State) (lk : Lk), s.Serves lk 0x0B06 → s.payload lk = [] → s.params.job = none → s.bothIdle = true →
    exec (.paramDefaults lk) s =
      .next ({ s with params := { s.params with act := [], staged := [], confirmed := false } }.parAll.answered
        lk ST.OK [])) ∧
  (∀ (s : State) (lk : Lk), s.Serves lk 0x0B07 → s.payload lk = [] → s.params.job = none → s.bothIdle = true →
    exec (.paramRevert lk) s = .next ((s.takeSet s.validSlot).answered lk ST.OK []))

/-- R92, R94, R309: the safety commands. `SAFETY_STATUS` changes nothing but the chamber; `SAFETY_CONFIRM` of the
check value of the active set confirms it; `FAULT_ACK` answers what the acknowledge does, the states it
changes waiting for its response; `LANE_CLEAR` clears the lanes of its mask; `SAFE_STOP_REQ` leaves a safe stop
(R104 row 16) waiting at the bridge; `FAULT_LIST` lists the entries from an index on. -/
def Obligations.SafetyCommands : Prop :=
  (∀ (s : State) (lk : Lk), s.Serves lk 0x0901 → s.payload lk = [] →
    exec (.safetyStatus lk) s = .next (s.answered lk ST.OK
      (w16 s.safetyInputs ++ w8 (s.activeClass fun _ => true) ++ w8 (s.rd F.FCR_ACK_LAST_TOGGLE) ++
        w32 (safetyCheck s.params.act).toNat ++ w32 s.params.confCheck.toNat ++ w32 s.shortestDeg))) ∧
  (∀ (s : State) (lk : Lk) (p : List Byte), s.Serves lk 0x0902 → s.payload lk = p → p.length = 4 →
    s.bothIdle = true → BitVec.ofNat 32 (u32 p 0) = safetyCheck s.params.act →
    exec (.safetyConfirm lk) s = .next ({ s with params := { s.params with
      confirmed := true, confCheck := safetyCheck s.params.act } }.answered lk ST.OK
        (w32 (safetyCheck s.params.act).toNat))) ∧
  (∀ (s : State) (lk : Lk) (p : List Byte) (t : State), s.Serves lk 0x0903 → s.payload lk = p → p.length = 4 →
    u8 p 0 ≤ 1 → zeros p 1 3 = true → s.ackRun (u8 p 0 == 1) = (.accepted, t) →
    exec (.faultAck lk) s = .next ((t.ackWaits false).answered lk ST.OK [])) ∧
  (∀ (s : State) (lk : Lk) (p : List Byte) (c : Nat) (t : State), s.Serves lk 0x0903 → s.payload lk = p →
    p.length = 4 → u8 p 0 ≤ 1 → zeros p 1 3 = true → s.ackRun (u8 p 0 == 1) = (.refused c, t) →
    exec (.faultAck lk) s = .next (t.answered lk ST.REFUSED (w8 c ++ [0, 0, 0]))) ∧
  (∀ (s : State) (lk : Lk) (p : List Byte), s.Serves lk 0x0904 → s.payload lk = p → p.length = 4 →
    u16 p 0 ≤ 0x0FFF → zeros p 2 2 = true → (∀ k ∈ maskLanes (u16 p 0), s.idle (laneBr k) = true) →
    (∀ k ∈ maskLanes (u16 p 0), s.laneFaulty k = false) →
    exec (.laneClear lk) s = .next ((s.each (maskLanes (u16 p 0)) State.laneClearDie).answered lk ST.OK [])) ∧
  (∀ (s : State) (lk : Lk) (p : List Byte), s.Serves lk 0x0905 → s.payload lk = p → s.selects p 4 1 = true →
    (s.dst (s.selBr (u8 p 0))).isActive = true →
    exec (.safeStopReq lk) s = .next ((s.command (s.selBr (u8 p 0)) .safeStop).answered lk ST.OK [])) ∧
  (∀ (s : State) (lk : Lk) (p : List Byte) (t : State), s.Serves lk 0x0906 → s.payload lk = p → p.length = 4 →
    zeros p 1 3 = true → s.stoSettle = t →
    exec (.faultList lk) s = .next (t.answered lk ST.OK
      (w8 t.fcr.list.length ++ w8 ((t.fcr.list.drop (u8 p 0)).take 29).length ++ [0, 0] ++
        ((t.fcr.list.drop (u8 p 0)).take 29).flatMap t.faultBytes)))

/-- R95, R96, R354 to R356, R429: the recorder and counter commands. The reads change nothing but the chamber;
`REC_TRIGGER` answers the slot of the collection it starts or finds; `REC_PIN` pins or releases; `CNT_CONFIG` sets
up a counter and, with flag bit 1, clears it. -/
def Obligations.RecorderCommands : Prop :=
  (∀ (s : State) (lk : Lk) (p : List Byte) (l : List Nat), s.Serves lk 0x0B10 → s.payload lk = p → p.length = 4 →
    zeros p 2 2 = true → (s.snaps.filter fun i => decide (u16 p 0 ≤ i)).take 19 = l →
    exec (.recList lk) s = .next (s.answered lk ST.OK
      (w16 s.snaps.length ++ w8 l.length ++ [0] ++ l.flatMap s.snapEntry))) ∧
  (∀ (s : State) (lk : Lk) (p : List Byte), s.Serves lk 0x0B11 → s.payload lk = p → p.length = 8 →
    u16 p 2 + u8 p 4 ≤ 65536 → 1 ≤ u8 p 4 → u8 p 4 ≤ 228 → zeros p 5 3 = true → s.hasSnap (u16 p 0) = true →
    exec (.recRead lk) s = .next (s.answered lk ST.OK (w16 (u16 p 0) ++ w16 (u16 p 2) ++ w8 (u8 p 4) ++ [0, 0, 0] ++
      s.memBytes (snapAt (u16 p 0) + u16 p 2) (u8 p 4)))) ∧
  (∀ (s : State) (lk : Lk) (c : Collect), s.Serves lk 0x0B12 → s.payload lk = [] →
    (s.recTrigger 0 none).recd.coll = some c →
    exec (.recTrigger lk) s = .next ((s.recTrigger 0 none).answered lk ST.OK (w16 c.slot ++ [0, 0]))) ∧
  (∀ (s : State) (lk : Lk), s.Serves lk 0x0B12 → s.payload lk = [] → (s.recTrigger 0 none).recd.coll = none →
    ∃ i : Nat, exec (.recTrigger lk) s = .next ((s.recTrigger 0 none).spend.answered lk ST.OK (w16 i ++ [0, 0]))) ∧
  (∀ (s : State) (lk : Lk) (p : List Byte), s.Serves lk 0x0B13 → s.payload lk = p → p.length = 4 → u8 p 2 ≤ 1 →
    zeros p 3 1 = true → s.hasSnap (u16 p 0) = true →
    (u8 p 2 = 1 → s.recd.pins.contains (u16 p 0) = true ∨ s.pinFull = false) →
    exec (.recPin lk) s = .next ((s.recPinSet (u16 p 0) (u8 p 2 == 1)).answered lk ST.OK [])) ∧
  (∀ (s : State) (lk : Lk) (p : List Byte), s.Serves lk 0x0B14 → s.payload lk = p → p.length = 4 →
    u8 p 0 + u8 p 1 ≤ 32 → 1 ≤ u8 p 1 → u8 p 1 ≤ 28 → zeros p 2 2 = true →
    exec (.cntRead lk) s = .next (s.answered lk ST.OK (w8 (u8 p 1) ++ [0, 0, 0] ++
      (List.range (u8 p 1)).flatMap fun k => s.cntEntry (cntOf (u8 p 0 + k))))) ∧
  (∀ (s : State) (lk : Lk) (p : List Byte) (k : Fin 32), s.Serves lk 0x0B15 → s.payload lk = p → p.length = 4 →
    u8 p 0 = k.val → srcDefined (u8 p 1) = true → u8 p 2 ≤ 3 → zeros p 3 1 = true →
    exec (.cntConfig lk) s = .next ((if (u8 p 2).testBit 1 then
      (s.cntSetup k (u8 p 1) ((u8 p 2).testBit 0)).cntClear k
      else s.cntSetup k (u8 p 1) ((u8 p 2).testBit 0)).answered lk ST.OK []))

/-- R97, R98, R331 to R334: the firmware commands. A session loads into the bank that is neither active nor trial,
or into the patch area; its data go where they say; a verification starts; the status is read; an image becomes
the trial of a Pilot restart, a patch waits for the warm reset, a key record is applied entry by entry; a restart
starts; an abort empties the bank and ends the session. -/
def Obligations.FirmwareCommands : Prop :=
  (∀ (s : State) (lk : Lk) (p : List Byte) (bank : Br), s.Serves lk 0x0D01 → s.payload lk = p → p.length = 8 →
    u8 p 0 = 0 → u32 p 4 ≤ 0xC00000 → zeros p 1 3 = true → s.fwIdle = true →
    (if s.trust.bankA.st = .active ∨ s.trust.bankA.st = .trial then 1 else 0) = bank →
    exec (.fwBegin lk) s = .next (((s.upBank bank fun x => { x with st := .loading }).upFw fun _ =>
      { FwSession.reset with phase := .loading, patch := false, bank := bank, size := u32 p 4 }).answered
        lk ST.OK (w8 bank.val ++ [0, 0, 0]))) ∧
  (∀ (s : State) (lk : Lk) (p : List Byte) (bank : Br), s.Serves lk 0x0D01 → s.payload lk = p → p.length = 8 →
    u8 p 0 = 1 → u32 p 4 ≤ 0x100000 → zeros p 1 3 = true → s.fwIdle = true →
    (if s.trust.bankA.st = .active ∨ s.trust.bankA.st = .trial then 1 else 0) = bank →
    exec (.fwBegin lk) s = .next (({ s with trust := { s.trust with patchActive := false } }.upFw fun _ =>
      { FwSession.reset with phase := .loading, patch := true, bank := bank, size := u32 p 4 }).answered
        lk ST.OK (w8 2 ++ [0, 0, 0]))) ∧
  (∀ (s : State) (lk : Lk) (p : List Byte), s.Serves lk 0x0D02 → s.payload lk = p → 5 ≤ p.length →
    s.trust.fw.phase = .loading → u32 p 0 + (p.length - 4) ≤ s.trust.fw.size →
    exec (.fwData lk) s = .next (((s.setMemBytes (s.fwBase + u32 p 0) (p.drop 4)).upFw fun f =>
      { f with received := f.received + (p.length - 4) }).answered lk ST.OK [])) ∧
  (∀ (s : State) (lk : Lk), s.Serves lk 0x0D03 → s.payload lk = [] → s.trust.fw.phase = .loading →
    exec (.fwVerify lk) s = .next ((s.upFw fun f => { f with phase := .verifying }).answered lk ST.OK [])) ∧
  (∀ (s : State) (lk : Lk) (va vi : Word), s.Serves lk 0x0D04 → s.payload lk = [] →
    (if s.activeBank = 1 then s.trust.bankB.version
      else if s.activeBank = 0 then s.trust.bankA.version else 0) = va →
    (if s.activeBank = 1 then s.trust.bankA.version else s.trust.bankB.version) = vi →
    exec (.fwStatus lk) s = .next (s.answered lk ST.OK (w8 (phaseCode s.trust.fw.phase) ++ w8 s.activeBank ++
      w8 s.trust.fw.reason ++ [0] ++ w32 s.trust.fw.received ++ w32 va.toNat ++ w32 vi.toNat))) ∧
  (∀ (s : State) (lk : Lk), s.Serves lk 0x0D05 → s.payload lk = [] → s.pilot.restarting = false →
    s.trust.fw.phase = .verified → s.trust.fw.patch = false → s.trust.fw.kind = 0 → s.restartAllowed = true →
    s.pilot.heldForGood = false →
    exec (.fwActivate lk) s = .next ((((s.upBank s.trust.fw.bank fun x => { x with st := .trial }).upFw fun f =>
      { f with phase := .activating }).pilotRestartBegin (some s.trust.fw.bank)).answered lk ST.OK [])) ∧
  (∀ (s : State) (lk : Lk), s.Serves lk 0x0D05 → s.payload lk = [] → s.pilot.restarting = false →
    s.trust.fw.phase = .verified → s.trust.fw.patch = true → s.bothIdle = true →
    exec (.fwActivate lk) s = .next (({ s with
      trust := { s.trust with patchActive := true, patchVersion := s.trust.fw.version }
      sys := { s.sys with resetDue := true } }.upFw fun f => { f with phase := .activating }).answered lk ST.OK [])) ∧
  (∀ (s : State) (lk : Lk) (es : List KeyEntry), s.Serves lk 0x0D05 → s.payload lk = [] →
    s.pilot.restarting = false → s.trust.fw.phase = .verified → s.trust.fw.patch = false → s.trust.fw.kind = 2 →
    s.bothStandby = true → s.keyRecord = some es → (∀ e ∈ es, s.entryPermitted e = true) →
    exec (.fwActivate lk) s = .next ((((s.each es State.applyEntry).upBank s.trust.fw.bank fun x =>
      { x with st := .empty }).upFw fun _ => FwSession.reset).answered lk ST.OK [])) ∧
  (∀ (s : State) (lk : Lk), s.Serves lk 0x0D06 → s.payload lk = [] → s.pilot.heldForGood = false →
    s.pilot.restarting = false → s.restartAllowed = true →
    exec (.pilotRestart lk) s = .next ((s.pilotRestartBegin s.restartBank).answered lk ST.OK [])) ∧
  (∀ (s : State) (lk : Lk), s.Serves lk 0x0D07 → s.payload lk = [] → s.trust.fw.phase = .loading ∨
    s.trust.fw.phase = .verifying ∨ s.trust.fw.phase = .verified →
    exec (.fwAbort lk) s = .next (((if s.trust.fw.patch then s
      else s.upBank s.trust.fw.bank fun x => { x with st := .empty }).upFw fun _ => FwSession.reset).answered
        lk ST.OK []))

/-- R99 to R102, R337 to R341: the life-cycle commands. The identity and the life-cycle status are read; a fresh
nonce, free but for its length of 16 bytes, replaces the previous one; an advance that R337 permits and its keys
sign uses the nonce up and takes the new state, which in `SEALED` closes the open ports and in `SCRAPPED` erases the
banks and the vault; a debug port opens at once in a state that needs no erase first, and an erase is pending before
scan or, with the move to `RETURNED`, before an opening in `SEALED`; a signature that does not verify uses the nonce up and
answers `AUTH`; a device reset follows its response; and a code of no command is answered `UNKNOWN`. -/
def Obligations.LifeCycleCommands : Prop :=
  (∀ (s : State) (lk : Lk), s.Serves lk 0x0E00 → s.payload lk = [] →
    exec (.deviceIdent lk) s = .next (s.answered lk ST.OK (w16 0x1224 ++ w8 0xB0 ++ w8 3 ++ w16 0x0201 ++
      w16 s.trust.patchLevel.toNat ++ w16 0x0304 ++ w8 (b2n s.pilotCustomer) ++ w8 (lifeCode s.trust.life) ++
      w64 Config.serial.toNat))) ∧
  (∀ (s : State) (lk : Lk), s.Serves lk 0x0E01 → s.payload lk = [] →
    exec (.lcStatus lk) s = .next (s.answered lk ST.OK (w8 (lifeCode s.trust.life) ++
      w8 (b2n (s.trust.dbgOpen || s.trust.scanOpen)) ++ w8 s.trust.vaultSt ++ [0]))) ∧
  (∀ (s : State) (lk : Lk), s.Serves lk 0x0E02 → s.payload lk = [] →
    ∃ n : List Byte, n.length = 16 ∧
      exec (.authChallenge lk) s = .next ({ s with
        free := s.free + 1, trust := { s.trust with nonce := some (n, s.now) } }.answered lk ST.OK n)) ∧
  (∀ (s : State) (lk : Lk) (p : List Byte) (t : Nat), s.Serves lk 0x0E03 → s.payload lk = p → p.length = 68 →
    u8 p 0 = t → t ≤ 4 → zeros p 1 3 = true → s.authLocked = false → lifePermitted s.trust.life t = true →
    s.bothStandby = true →
    exec (.lcAdvance lk) s = .next (if s.authOk 0x0E03 p (s.lifeKeys t) then { s with trust := { s.trust with
        nonce := none, life := lifeOf t, dbgOpen := if t = 3 then false else s.trust.dbgOpen
        scanOpen := if t = 3 then false else s.trust.scanOpen } }.answered lk ST.OK []
      else s.useNonce.authFail.answered lk ST.AUTH [])) ∧
  (∀ (s : State) (lk : Lk) (p : List Byte), s.Serves lk 0x0E03 → s.payload lk = p → p.length = 68 →
    u8 p 0 = 5 → zeros p 1 3 = true → s.authLocked = false → s.trust.life ≠ .scrapped → s.bothStandby = true →
    exec (.lcAdvance lk) s = .next (if s.authOk 0x0E03 p (s.lifeKeys 5) then
        { s with trust := { s.trust with nonce := none, life := .scrapped } }.scrap.answered lk ST.OK []
      else s.useNonce.authFail.answered lk ST.AUTH [])) ∧
  (∀ (s : State) (lk : Lk) (p : List Byte), s.Serves lk 0x0E04 → s.payload lk = p → p.length = 68 →
    u8 p 0 = 0 → zeros p 1 3 = true → s.authLocked = false → s.trust.life ≠ .scrapped → s.trust.life ≠ .sealed →
    s.bothStandby = true →
    exec (.debugOpen lk) s = .next (if s.authOk 0x0E04 p s.debugKeys then
        { s with trust := { s.trust with nonce := none, dbgOpen := true } }.answered lk ST.OK []
      else s.useNonce.authFail.answered lk ST.AUTH [])) ∧
  (∀ (s : State) (lk : Lk) (p : List Byte), s.Serves lk 0x0E04 → s.payload lk = p → p.length = 68 →
    u8 p 0 ≤ 1 → zeros p 1 3 = true → s.authLocked = false → s.trust.life ≠ .scrapped →
    (u8 p 0 = 1 ∨ s.trust.life = .sealed) → s.bothStandby = true →
    exec (.debugOpen lk) s = .next (if s.authOk 0x0E04 p s.debugKeys then { s with
        net := { s.net with macsecKey := Vector.replicate 2 false }
        trust := { s.trust with
          nonce := none, life := if s.trust.life = Life.sealed then Life.returned else s.trust.life
          erase := some (u8 p 0 == 1, u8 p 0 == 1)
          vault := if u8 p 0 = 1 then [] else s.trust.vault.filter (fun e => e.1 == 0)
          revoked := [] } }.answered lk ST.OK []
      else s.useNonce.authFail.answered lk ST.AUTH [])) ∧
  (∀ (s : State) (lk : Lk), s.Serves lk 0x0E05 → s.payload lk = [] → s.bothIdle = true →
    exec (.deviceReset lk) s = .next ({ s with sys := { s.sys with resetDue := true } }.answered lk ST.OK [])) ∧
  (∀ (s : State) (lk : Lk) (c : Nat), s.Serves lk c → commandCodes.contains c = false →
    exec (.unknownCommand lk) s = .next (s.answered lk ST.UNKNOWN []))

/-! ### Transports of the Locks -/

/-- R60, R411 to R413: the host SPI frames with a right check value, in a device that serves them outside
`SAFE_HOLD`. Each ends with the status of R412 and the bytes it returns. `LK_WRITE` claims a free Lock and fills the
chamber; `LK_SUBMIT` of a Barge that passes the checks of R53 brings the Lock to `SERVICE`; `LK_READ`, `LK_GATES` and
`ST_READ` only return bytes; `LK_DRAIN` empties a Lock in `REPLY` whose response announces nothing. -/
def Obligations.HostSpiFrames : Prop :=
  (∀ (s : State) (port : Fin 2) (k : Lk) (lock : Byte) (off count : BitVec 16) (data : List Byte) (crc : Byte),
    s.spiUp = true → s.safeHeld = false → lockNo lock = some k → crc = spiCrc (spiHead 0x20 lock off count ++ data) →
    data.length = count.toNat → 0 < count.toNat → off.toNat + count.toNat ≤ 256 → s.locks[k].gate = .empty →
    (s.locks[k].owner = none ∨ s.locks[k].owner = some (.spi port)) →
    exec (.lkWrite port lock off count data crc) s = .next ((s.upLock k fun l => { (l.put off.toNat data) with
      owner := some (.spi port), claimedAt := if l.owner.isNone then s.now else l.claimedAt
      got := max l.got (off.toNat + count.toNat) }).spiEnd port .done [])) ∧
  (∀ (s : State) (port : Fin 2) (k : Lk) (lock : Byte) (crc : Byte), s.spiUp = true → s.safeHeld = false →
    lockNo lock = some k → crc = spiCrc (spiHead 0x21 lock 0 0) → s.lockEnabled = true → s.locks[k].gate = .empty →
    s.locks[k].owner = some (.spi port) → s.locks[k].plen ≤ 236 → s.locks[k].got = 20 + s.locks[k].plen →
    s.locks[k].crcOk k = true → s.locks[k].headZero = true →
    (s.locks[k].last = none ∨ ∃ q t, s.locks[k].last = some (q, t) ∧ s.locks[k].seq = (q + 1) % 65536 ∧
      s.locks[k].toggle ≠ t) →
    exec (.lkSubmit port lock 0 0 crc) s = .next (((s.lockNote k).lockServe k).spiEnd port .done [])) ∧
  (∀ (s : State) (port : Fin 2) (k : Lk) (lock : Byte) (off count : BitVec 16) (crc : Byte), s.spiUp = true →
    s.safeHeld = false → lockNo lock = some k → crc = spiCrc (spiHead 0x22 lock off count) →
    s.locks[k].gate = .reply → 0 < count.toNat → off.toNat + count.toNat ≤ 256 →
    exec (.lkRead port lock off count crc) s =
      .next (s.spiEnd port .done (spiOut (s.locks[k].bytes off.toNat count.toNat)))) ∧
  (∀ (s : State) (port : Fin 2) (k : Lk) (lock : Byte) (crc : Byte), s.spiUp = true → s.safeHeld = false →
    lockNo lock = some k → crc = spiCrc (spiHead 0x23 lock 0 0) → s.locks[k].gate = .reply →
    s.sys.standbyDue = false → s.sys.resetDue = false →
    exec (.lkDrain port lock 0 0 crc) s = .next ((s.lockEmpty k).spiEnd port .done [])) ∧
  (∀ (s : State) (port : Fin 2) (crc : Byte), s.spiUp = true → s.safeHeld = false →
    crc = spiCrc (spiHead 0x24 0 0 0) →
    exec (.lkGates port 0 0 0 crc) s = .next (s.spiEnd port .done (spiOut (w32 s.gates)))) ∧
  (∀ (s : State) (port : Fin 2) (crc : Byte), s.spiUp = true → crc = spiCrc (spiHead 0x10 0 0 32) →
    exec (.stRead port 0 0 32 crc) s = .next (s.spiEnd port .done (spiOut (s.statusBlock (lifeCode s.trust.life)))))

/-- R411 and R412: a host SPI frame whose check value is wrong changes nothing but the port's frame status, which
shows the CRC error, whatever its instruction. -/
def Obligations.SpiFrameCrcError : Prop :=
  ∀ (s : State) (port : Fin 2) (lock : Byte) (off count : BitVec 16) (data : List Byte) (crc : Byte), s.spiUp = true →
    (crc ≠ spiCrc (spiHead 0x20 lock off count ++ data) →
      exec (.lkWrite port lock off count data crc) s = .next (s.spiEnd port .crc [])) ∧
    (crc ≠ spiCrc (spiHead 0x21 lock off count) →
      exec (.lkSubmit port lock off count crc) s = .next (s.spiEnd port .crc [])) ∧
    (crc ≠ spiCrc (spiHead 0x22 lock off count) →
      exec (.lkRead port lock off count crc) s = .next (s.spiEnd port .crc [])) ∧
    (crc ≠ spiCrc (spiHead 0x23 lock off count) →
      exec (.lkDrain port lock off count crc) s = .next (s.spiEnd port .crc [])) ∧
    (crc ≠ spiCrc (spiHead 0x24 lock off count) →
      exec (.lkGates port lock off count crc) s = .next (s.spiEnd port .crc [])) ∧
    (crc ≠ spiCrc (spiHead 0x10 lock off count) →
      exec (.stRead port lock off count crc) s = .next (s.spiEnd port .crc []))

/-- R59, R62 to R65, R68, R407: what the other transports deliver. A CAN XL Barge, a CAN FD segment and a setpoint frame
reach an accepting controller; a UDP datagram and a UART frame go to the Lock that byte 5 names, and a datagram of
another length that names none is answered `LENGTH` (model choice, log entry 141); a tunnel frame for
this device likewise. -/
def Obligations.TransportDelivery : Prop :=
  (∀ (s : State) (c : Fin 4) (f : CanFrame) (k : Lk), f.wf = true → f.fmt = .xl → f.data.length ≤ 256 →
    s.canMapped c = true → s.canReqLock f = some k → s.canOn c = true → s.rd F.CAN_CTRL_MODE c ≠ 2 →
    s.canRefuse c f = none → (s.canRxGood c).canMapped c = true → (s.canRxGood c).canReqLock f = some k →
    exec (.canXlBarge c f) s = .next ((s.canRxGood c).lockDeliver (.canXl c) k f.data)) ∧
  (∀ (s : State) (dt : Nat) (c : Fin 4) (f : CanFrame) (k : Lk), f.wf = true → f.fmt = .fd → f.ext = false →
    (s.tick dt).canMapped c = true → (s.tick dt).canReqLock f = some k → (s.tick dt).canOn c = true →
    (s.tick dt).rd F.CAN_CTRL_MODE c ≠ 2 → (s.tick dt).canRefuse c f = none →
    ((s.tick dt).canRxGood c).canMapped c = true → ((s.tick dt).canRxGood c).canReqLock f = some k →
    exec (.canFdSegment dt c f) s = .next (((s.tick dt).canRxGood c).segIn c k f)) ∧
  (∀ (s : State) (dt : Nat) (c : Fin 4) (f : CanFrame), f.wf = true → f.fmt ≠ .classical → f.data.length = 16 →
    (s.tick dt).canMapped c = true → (s.tick dt).canReqLock f = none → f.id = s.parN P.lock_sp_can_id →
    (s.tick dt).canOn c = true → (s.tick dt).rd F.CAN_CTRL_MODE c ≠ 2 → (s.tick dt).canRefuse c f = none →
    ((s.tick dt).canRxGood c).canMapped c = true → ((s.tick dt).canRxGood c).canReqLock f = none →
    f.id = ((s.tick dt).canRxGood c).parN P.lock_sp_can_id →
    ((s.tick dt).canRxGood c).parN P.lock_sp_enable = 1 →
    exec (.directSetpointFrame dt c f) s = .next (((s.tick dt).canRxGood c).spApply false 1000 f.data)) ∧
  (∀ (s : State) (mac : Fin 2) (src : Word) (sport : BitVec 16) (bs : List Byte) (k : Lk), s.ethOn mac = true →
    lockOf bs = some k →
    exec (.udpBarge mac src sport bs) s = .next (s.lockDeliver (.udp mac src sport) k bs)) ∧
  (∀ (s : State) (mac : Fin 2) (src : Word) (sport : BitVec 16) (bs : List Byte) (k : Lk), s.ethOn mac = true →
    lockOf bs = none → s.lockEnabled = true → bs.length ≠ 20 + u8 bs 4 → k.val = u8 bs 5 % 16 →
    exec (.udpBarge mac src sport bs) s = .next ((s.respSend (.udp mac src sport) k
      (s.response k bs ST.LENGTH [])).evt E.LOCK_REJECT)) ∧
  (∀ (s : State) (raw bs : List Byte) (k : Lk), s.spiUp = true → unstuff raw = some bs → lockOf bs = some k →
    exec (.uartFrame raw false) s = .next ((s.irq 22).lockDeliver .uart k bs)) ∧
  (∀ (s : State) (port : TowPort) (fr : List Byte) (k : Lk), s.spiUp = true → s.towOn port = true → u8 fr 0 = 3 →
    u8 fr 1 % 2 = 0 → towAdmitted fr = true → towCheck fr = true → s.net.towNum = some (u16 fr 4) →
    lockOf (towPayload fr) = some k →
    exec (.towTunnelFrame port fr) s = .next (s.lockDeliver (.tow port (u16 fr 2)) k (towPayload fr)))

/-- R53, R55, R57, R59: what a delivered Barge meets. In an enabled block a free Lock takes it and checks it, a Lock that
is not free answers `BUSY` without storing the answer, and with `ENABLE` 0 nothing happens. The checks stand in their
order: payload length, extent, check value, reserved bytes, sequence. -/
def Obligations.BargeChecks : Prop :=
  (∀ (s : State) (tr : Transport) (k : Lk) (bs : List Byte), s.lockEnabled = false → s.lockDeliver tr k bs = s) ∧
  (∀ (s : State) (tr : Transport) (k : Lk) (bs : List Byte), s.lockEnabled = true → s.locks[k].free = false →
    s.lockDeliver tr k bs = s.respSend tr k (s.response k bs ST.BUSY [])) ∧
  (∀ (s : State) (k : Lk), 236 < s.locks[k].plen → s.lockSubmit k = (s.lockNote k).lockReject k ST.LENGTH) ∧
  (∀ (s : State) (k : Lk), s.locks[k].plen ≤ 236 → s.locks[k].got ≠ 20 + s.locks[k].plen →
    s.lockSubmit k = (s.lockNote k).lockReject k ST.LENGTH) ∧
  (∀ (s : State) (k : Lk), s.locks[k].plen ≤ 236 → s.locks[k].got = 20 + s.locks[k].plen →
    s.locks[k].crcOk k = false → s.lockSubmit k = (s.lockNote k).lockReject k ST.CHECK) ∧
  (∀ (s : State) (k : Lk), s.locks[k].plen ≤ 236 → s.locks[k].got = 20 + s.locks[k].plen →
    s.locks[k].crcOk k = true → s.locks[k].headZero = false → s.lockSubmit k = (s.lockNote k).lockReject k ST.RANGE) ∧
  (∀ (s : State) (k : Lk) (q : Nat) (t : Bool), s.locks[k].plen ≤ 236 → s.locks[k].got = 20 + s.locks[k].plen →
    s.locks[k].crcOk k = true → s.locks[k].headZero = true → s.locks[k].last = some (q, t) →
    ¬ (s.locks[k].seq = (q + 1) % 65536 ∧ s.locks[k].toggle ≠ t) → ¬ (s.locks[k].seq = q ∧ s.locks[k].toggle = t) →
    s.lockSubmit k = (s.lockNote k).lockReject k ST.SEQUENCE)

/-- R52, R54, R63, R69: the Lock's own events. A Lock past its time in `SERVICE` answers `TIMEOUT`, stored, and
`LOCK_ERR.TIMEOUT` is set, while a response of the same count may still stand; a segment gap drops the partial
Barge; a transport that sends the response drains its Lock; without setpoint frames the torque request falls to 0
with `FLT_SETPOINT_TIMEOUT`. -/
def Obligations.LockEvents : Prop :=
  (∀ (s : State) (dt : Nat) (k : Lk) (t u : State), s.tick dt = t → t.locks[k].gate = .service →
    t.locks[k].svcAt + t.rd F.LOCK_CTRL_TIMEOUT_MS * msCounts < t.now →
    ({ t with lockTie := some ⟨k, t.now, t.locks[k], t.bit F.LOCK_ERR_TIMEOUT,
        t.bridges.toList.map fun x : Bridge => x.cmds⟩ }.reply k ST.TIMEOUT [] true).flag F.LOCK_ERR_TIMEOUT 0 true = u →
    exec (.lockTimeout dt k) s = .next (if t.locks[k].served then u.cmdTimeout t.locks[k].keeper else u)) ∧
  (∀ (s : State) (dt : Nat) (c : Fin 4) (p : SegPart), (s.tick dt).cans[c].part = some p →
    p.at_ + (s.tick dt).parN P.lock_seg_gap * msCounts < (s.tick dt).now →
    exec (.lockSegGapTimeout dt c) s =
      .next (((s.tick dt).upCan c fun x => { x with part := none }).evt E.LOCK_SEG_DROP)) ∧
  (∀ (s : State) (k : Lk) (mac : Fin 2) (ip : Word) (port : BitVec 16) (bs : List Byte), s.locks[k].gate = .reply →
    s.locks[k].owner = some (.udp mac ip port) → s.locks[k].bytes 0 (20 + s.locks[k].plen) = bs →
    exec (.lockAutoDrain k) s = .next (({ s with net := { s.net with
      respTx := s.net.respTx ++ [(Transport.udp mac ip port, k, bs)] } }).lockDrain k)) ∧
  (∀ (s t u : State) (dt : Nat) (b c : Br), s.tick dt = t → t.lead b = c → t.parN P.lock_sp_enable = 1 →
    t.bridges[c].spAt + t.parN P.lock_sp_timeout * msCounts ≤ t.now → (t.dst b).isDriving = true →
    (t.each (t.group b) fun v d => v.upB d fun x => { x with spAt := v.now }) = u →
    exec (.setpointTimeout dt b) s =
      .next (((u.takeTorque b 0 t.bridges[b].speedLimit).spPut false b none).raiseF
        FC.SETPOINT_TIMEOUT (.bridge c)))

/-! ### Drive states -/

/-- R119, R120, R124, R125, R309: the ends of stops and of the degraded time, for the bridge or the lead of its
locked pair. A ramp that has reached 0 N·m, or a standstill held for `drive.zero_hold`, leads to `READY`; no
standstill in `drive.stop_max` turns the stop into a ramp from the present torque with `FLT_STOP_TIMEOUT`; a safe stop below `safety.ss1_zero` completes; an expired degraded timer is a cause of
a safe stop; a Pilot that does not resume raises `FLT_PILOT_HOLD`. -/
def Obligations.StopEvents : Prop :=
  (∀ (s t : State) (dt : Nat) (b c : Br) (n : Nat), s.tick dt = t → t.lead b = c →
    t.bridges[c].stopping = some (false, n) → (t.dst c).isDriving = true →
    ratAbs (t.rampFrom c) ≤ t.rampDown n →
    exec (.driveStopRampDone dt b) s = .next (t.enter c .ready)) ∧
  (∀ (s t : State) (dt : Nat) (b c : Br) (n m : Nat), s.tick dt = t → t.lead b = c →
    t.bridges[c].stopping = some (true, n) → (t.dst c).isDriving = true → t.bridges[c].slowSince = some m →
    m + t.parN P.drive_zero_hold * msCounts ≤ t.now →
    exec (.driveStopStandstill dt b) s = .next (t.enter c .ready)) ∧
  (∀ (s t : State) (dt : Nat) (b c : Br) (n : Nat), s.tick dt = t → t.lead b = c →
    t.bridges[c].stopping = some (true, n) → (t.dst c).isDriving = true →
    n + t.parN P.drive_stop_max * msCounts ≤ t.now →
    exec (.driveStopTimeout dt b) s = .next ((t.each (t.group c) fun u d => u.upB d fun x =>
      { x with stopping := some (false, u.now), stopTorque := x.torqueRef
               dSet := u.rdI F.FLT_IREF_D_IREF (u.lead d), qSet := u.rdI F.FLT_IREF_Q_IREF (u.lead d) }).raiseF
        FC.STOP_TIMEOUT (.bridge c))) ∧
  (∀ (s t : State) (dt : Nat) (b c : Br), s.tick dt = t → t.lead b = c → t.dst c = .safeStop →
    t.speedMag c < t.parN P.safety_ss1_zero →
    exec (.safeStopComplete dt b) s = .next (t.enter c (if t.noLatched then .ready else .fault))) ∧
  (∀ (s t : State) (dt : Nat) (b c : Br), s.tick dt = t → t.lead b = c → t.dst c = .degraded →
    t.bridges[c].degLeft = 0 → exec (.degradedTimerExpiry dt b) s = .next (t.safeStopCause c)) ∧
  (∀ (s t : State) (dt n : Nat) (b c : Br), s.tick dt = t → t.lead b = c → t.bit F.FLT_CTRL_HOLD c = true →
    (t.dst c).isDriving = true → t.flights[c].holdAt = some n → n + 50 * msCounts ≤ t.now →
    exec (.pilotHoldTimeout dt b) s = .next (t.raiseOn FC.PILOT_HOLD (.bridge c) (fixedClass FC.PILOT_HOLD)))

/-- R115 to R117, R157, R220: how a catch ends. An induction machine in direct modulation mode goes on at once. A
permanent-magnet machine's bridge does what the procedure of R116 chooses from the measured angle and speed: it
fails, disagrees with the sensor, is over the voltage, is weakened, or starts from zero current, once the measuring
window is over. A frequency search ends in the run at the frequency found, its flux to rise, or after
`drive.im_search_time` or with nothing found in `FLT_CATCH_FAIL`; an initial position detection ends with the
angle found, or with `FLT_CATCH_FAIL` when the saliency is below 1.05 or the polarity stays open. -/
def Obligations.CatchEvents : Prop :=
  (∀ (s t : State) (dt : Nat) (b c : Br), s.tick dt = t → t.lead b = c → t.dst c = .catching → t.isPm c = false →
    t.bit F.MOD_CTRL_MODE c = true → exec (.catchDecision dt b) s = .next (t.catchRun c 0 0)) ∧
  (∀ (s t u : State) (dt : Nat) (b c : Br) (d : Int) (om th : Rat), s.tick dt = t → t.spend = u → t.lead b = c →
    t.dst c = .catching → t.isPm c = true → t.windowOver c = true → t.bridges[c].catchRec.dir = some d →
    t.bridges[c].catchRec.freq * (d : Rat) * u.phaseSense c = om →
    t.bridges[c].catchRec.angle (u.phaseSense c) om t.now = th →
    (u.catchChoose c th om = .fail → exec (.catchDecision dt b) s = .next (u.catchFail c FC.CATCH_FAIL)) ∧
    (u.catchChoose c th om = .pos → exec (.catchDecision dt b) s = .next (u.catchFail c FC.CATCH_POS)) ∧
    (u.catchChoose c th om = .high → exec (.catchDecision dt b) s = .next (u.catchOver c)) ∧
    (u.catchChoose c th om = .weaken → t.bit F.MOD_CTRL_MODE c = true →
      exec (.catchDecision dt b) s = .next (u.catchOver c)) ∧
    (u.catchChoose c th om = .weaken → t.bit F.MOD_CTRL_MODE c = false → u.sensorPresent c = true →
      exec (.catchDecision dt b) s = .next (u.catchRun c (u.weakenD c om) 0)) ∧
    (u.catchChoose c th om = .zero → u.sensorPresent c = true →
      exec (.catchDecision dt b) s = .next (u.catchRun c 0 0))) ∧
  (∀ (s t u : State) (dt : Nat) (b c : Br) (f : Int) (n : Nat), s.tick dt = t → t.lead b = c → t.dst c = .catching →
    t.bridges[c].imSearch = some n → t.now ≤ n + t.parN P.drive_im_search_time * msCounts →
    (if t.sensorPresent c then t
      else t.observerStart c (t.trackedAt c t.dt) ((f : Rat) / 400000000000)).catchRun c 0 0 = u →
    exec (.catchImSearchEnd dt b (some f)) s = .next (u.each (u.group c)
      fun v d => v.upB d fun x => { x with imFlux := some (v.parN P.drive_im_search_flux) })) ∧
  (∀ (s t : State) (dt : Nat) (b c : Br) (f : Option Int) (n : Nat), s.tick dt = t → t.lead b = c →
    t.dst c = .catching → t.bridges[c].imSearch = some n →
    (f = none ∨ n + t.parN P.drive_im_search_time * msCounts < t.now) →
    exec (.catchImSearchEnd dt b f) s = .next (t.catchFail c FC.CATCH_FAIL)) ∧
  (∀ (s t : State) (dt : Nat) (b c : Br) (w : Word) (n : Nat), s.tick dt = t → t.lead b = c →
    t.bridges[c].ipd = true → 1050 ≤ n → exec (.initialPositionDetection dt b ⟨w, n, true⟩) s = .next ((t.each (t.group c) fun u d => u.upB d fun x =>
      { x with ipd := false, dis := x.dis.map fun y => { y with located := true } }).observerStart c
        (turnsOf w.toNat) 0)) ∧
  (∀ (s t : State) (dt : Nat) (b c : Br) (w : Word) (n : Nat) (o : Bool), s.tick dt = t → t.lead b = c →
    t.bridges[c].ipd = true → (n < 1050 ∨ o = false) → exec (.initialPositionDetection dt b ⟨w, n, o⟩) s = .next ((t.each (t.group c) fun u d => u.upB d fun x =>
      { x with ipd := false, dis := x.dis.map fun y => { y with located := false } }).catchFail c FC.CATCH_FAIL))

/-! ### The DC link -/

/-- R90, R104, R291: the steps of a precharge, in their order, for the bridge or the lead of its locked pair. The main
negative contactor shown closed requests the precharge contactor; a link that has settled requests the main positive
contactor; that one shown closed withdraws the precharge contactor; with all conditions met the bridge enters
`READY`, its gate-strength tables restored and its guard checked, or with a failing parameter check raises
`FLT_PARAM_CHECK`; a step that lasts too long withdraws the requests and raises `FLT_PRECHARGE`. -/
def Obligations.PrechargeSequence : Prop :=
  (∀ (s t : State) (dt : Nat) (b c : Br), s.tick dt = t → t.lead b = c → t.bridges[c].pre = .negRequested →
    t.roleShows 2 true = true →
    exec (.prechargeFeedback dt b) s = .next (t.each (t.group c) fun u d => u.upB d fun x => { x with
      reqPre := true, pre := .preRequested, preSince := u.now, settleSince := none
      settleV := u.vLink, settleAt := u.now }).contactors) ∧
  (∀ (s t : State) (dt : Nat) (b c : Br), s.tick dt = t → t.lead b = c → t.bridges[c].pre = .preRequested →
    t.settled c = true →
    exec (.prechargeSettled dt b) s = .next (t.each (t.group c) fun u d => u.upB d fun x =>
      { x with reqPos := true, pre := .posRequested, preSince := u.now }).contactors) ∧
  (∀ (s t : State) (dt : Nat) (b c : Br), s.tick dt = t → t.lead b = c → t.bridges[c].pre = .posRequested →
    t.roleShows 1 true = true →
    exec (.prechargeFeedback dt b) s = .next (t.each (t.group c) fun u d => u.upB d fun x =>
      { x with reqPre := false, pre := .conditions, preSince := u.now }).contactors) ∧
  (∀ (s t : State) (dt : Nat) (b c : Br), s.tick dt = t → t.lead b = c → t.bridges[c].pre = .conditions →
    t.preClosed = true → (t.group c).all t.lanesTrained = true → t.stoPassed = true → t.paramCheck = 0 →
    exec (.prechargeComplete dt b) s =
      .next ((t.group c).foldl State.gstRestore (t.enter c .ready)).guardCheck) ∧
  (∀ (s t : State) (dt : Nat) (b c : Br), s.tick dt = t → t.lead b = c → t.bridges[c].pre = .conditions →
    t.preClosed = true → (t.group c).all t.lanesTrained = true → t.stoPassed = true → t.paramCheck ≠ 0 →
    exec (.prechargeComplete dt b) s = .next (t.raiseF FC.PARAM_CHECK (.bridge c))) ∧
  (∀ (s t : State) (dt : Nat) (b c : Br), s.tick dt = t → t.lead b = c → t.bridges[c].pre = .preRequested →
    t.bridges[c].preSince + t.parN P.dcl_pre_time * msCounts ≤ t.now →
    exec (.prechargeTimeout dt b) s =
      .next (((t.group c).foldl State.withdraw t).raiseF FC.PRECHARGE (.bridge c)))

/-- R104, R291, R293, R294: a discharge and a shutdown. With the main contacts open the method acts; below
`dcl.safe_v` the bridge enters `STANDBY`, and at or above it in `dcl.dis_time` `FLT_DISCHARGE` is raised; a main
contact that opened alone discharges the Idle bridges; the main negative release ends a shutdown. -/
def Obligations.DischargeSequence : Prop :=
  (∀ (s t u : State) (dt : Nat) (b c : Br), s.tick dt = t → t.lead b = c → t.dst c = .discharge →
    t.roleShows 1 false = true → t.roleShows 2 false = true →
    (t.each (t.group c) fun v d => v.upB d fun x =>
      { x with dis := x.dis.map fun y => { y with acting := true } }) = u →
    exec (.dischargeContactorsOpen dt b) s = .next (u.each (u.group c) State.windingStep)) ∧
  (∀ (s t : State) (dt : Nat) (b c : Br), s.tick dt = t → t.lead b = c → t.dst c = .discharge →
    t.vLink < t.par P.dcl_safe_v → exec (.dischargeComplete dt b) s = .next (t.enter c .standby)) ∧
  (∀ (s t : State) (dt : Nat) (b c : Br) (d : Discharge), s.tick dt = t → t.lead b = c → t.dst c = .discharge →
    t.bridges[c].dis = some d → d.since + t.parN P.dcl_dis_time * msCounts ≤ t.now → t.par P.dcl_safe_v ≤ t.vLink →
    exec (.dischargeTimeout dt b) s = .next (t.raiseF FC.DISCHARGE (.bridge c))) ∧
  (∀ (s t : State) (dt : Nat) (w : Bool), s.tick dt = t → t.autoMethod = some w →
    t.parN P.dcl_auto_enable = 1 → t.dcl.openedAlone = true → t.mainOpen = true →
    exec (.autoDischargeStart dt) s =
      .next (t.each (t.leads.filter fun b => (t.dst b).isIdle) fun u b => u.dischargeBegin b w)) ∧
  (∀ (s t : State) (dt n : Nat) (b c : Br), s.tick dt = t → t.lead b = c → t.bridges[c].shutAt = some n →
    n + 20 * msCounts ≤ t.now →
    exec (.shutdownNegRelease dt b) s = .next (t.enter c .standby))

/-- R283 to R289, R292: a contactor feedback is taken, and an opening of the main contacts under their request is
remembered until they close; a feedback that differs from its request withdraws every request, so that all four
outputs are off, and raises `FLT_CONTACTOR`, and one that agrees changes nothing. At a new link value the Weir
decides OV2, else sets the braking limits and switches the chopper by its hysteresis; a chopper that is on too
long without a fall is declared faulty: off, `CHOP_FAULTY` set, the braking limits 0, `FLT_CHOP` raised; its check
changes nothing where the link has fallen. -/
def Obligations.ContactorsAndWeir : Prop :=
  (∀ (s t u : State) (dt : Nat) (k : Fin 6) (level : Bool), s.tick dt = t →
    { t with dcl := { t.dcl with fb := t.dcl.fb.set k level } } = u →
    (u.mainOpen = false → exec (.contactorFeedbackChange dt k level) s =
      .next ({ u with dcl := { u.dcl with openedAlone := false } }.contactorSettle)) ∧
    (u.mainOpen = true → t.mainOpen = true →
      exec (.contactorFeedbackChange dt k level) s = .next u.contactorSettle) ∧
    (∀ j : Fin 4, u.mainOpen = true → t.mainOpen = false → u.parN (P.dcl_ctr_role j.val) = 1 → u.dcl.req[j] = true →
      exec (.contactorFeedbackChange dt k level) s =
        .next ({ u with dcl := { u.dcl with openedAlone := true } }.contactorSettle))) ∧
  (∀ (s t u : State) (dt : Nat) (k : Fin 4), s.tick dt = t → (t.withdraw 0).withdraw 1 = u →
    t.parN (P.dcl_ctr_role k.val) ≠ 0 → t.dcl.reqAt[k] + t.parN P.dcl_fb_time * msCounts < t.now →
    ((t.fbClosed k false).getD t.dcl.req[k] ≠ t.dcl.req[k] ∨ (t.fbClosed k true).getD t.dcl.req[k] ≠ t.dcl.req[k]) →
    (∀ j : Fin 4, u.dcl.req[j] = false) ∧
    exec (.contactorMismatch dt k) s =
      .next (u.raiseOn FC.CONTACTOR .device (fixedClass FC.CONTACTOR)).contactorSettle) ∧
  (∀ (s t : State) (dt : Nat) (k : Fin 4), s.tick dt = t →
    (t.fbClosed k false).getD t.dcl.req[k] = t.dcl.req[k] → (t.fbClosed k true).getD t.dcl.req[k] = t.dcl.req[k] →
    exec (.contactorMismatch dt k) s = .next t) ∧
  (∀ (s t u : State) (dt : Nat), s.tick dt = t → t.ov2Settle = u → u.ov2 = true →
    exec (.weirEvaluate dt) s = .next (t.leads.foldl State.settleWatch u.ov2Decide)) ∧
  (∀ (s t u : State) (dt : Nat), s.tick dt = t → t.ov2Settle.weirLimit State.weirGen = u → t.ov2Settle.ov2 = false →
    (u.chopEnabled = false → u.dcl.chopOn = false →
      exec (.weirEvaluate dt) s = .next (t.leads.foldl State.settleWatch u)) ∧
    (u.chopEnabled = false → u.dcl.chopOn = true →
      exec (.weirEvaluate dt) s = .next (t.leads.foldl State.settleWatch (u.chopSet false))) ∧
    (∀ v : State, u.chopEnabled = true → u.chopSwitch = v → v.dcl.mismatch = false →
      (v.chopLate = false ∨ v.chopNoFall = false) →
      exec (.weirEvaluate dt) s = .next (t.leads.foldl State.settleWatch v)) ∧
    (∀ v : State, u.chopEnabled = true → u.chopSwitch = v → v.dcl.mismatch = true →
      exec (.weirEvaluate dt) s = .next (t.leads.foldl State.settleWatch v.chopFault))) ∧
  (∀ (u : State), u.dcl.chopAt + u.rd F.SYS_WEIR_CHOP0_MIN * usCounts ≤ u.now →
    (u.dcl.chopOn = false → (u.rd F.SYS_WEIR_CHOP_ON_MV : Int) < u.vLink → u.chopSwitch = u.chopSet true) ∧
    (u.dcl.chopOn = true → u.vLink < u.rd F.SYS_WEIR_CHOP_OFF_MV → u.chopSwitch = u.chopSet false)) ∧
  (∀ (s t u : State) (dt : Nat), s.tick dt = t → t.chopEnabled = true → t.dcl.chopOn = true →
    t.dcl.engAt + t.rd F.SYS_WEIR_CHOP0_CHECK * usCounts ≤ t.now → t.ov2 = false →
    t.dcl.vEng - t.rd F.SYS_WEIR_CHOP1_DROP ≤ t.vLink → (t.rd F.SYS_WEIR_CHOP_OFF_MV : Int) ≤ t.vLink →
    (t.chopSet false).flag F.SYS_WEIR_STATUS_CHOP_FAULTY 0 true = u →
    exec (.chopperCheckExpiry dt) s =
      .next (({ u with dcl := { u.dcl with mismatch := false } }.weirLimit fun _ _ => 0).raiseF FC.CHOP .device)) ∧
  (∀ (s t : State) (dt : Nat), s.tick dt = t →
    (t.dcl.chopOn = false ∨ t.vLink < t.dcl.vEng - t.rd F.SYS_WEIR_CHOP1_DROP) →
    exec (.chopperCheckExpiry dt) s = .next t)

/-! ### Safety inputs, resets, clocks -/

/-- R94, R304, R306, R309: the safety inputs. A filtered STO input and the discrepancy of the two, `SS1_N` with its
interrupt and the safe stop of every Active bridge, and the acknowledge pin, whose toggle differs from the last: an
accepted acknowledge moves the states it frees at once or at the next stage boundary. -/
def Obligations.SafetyInputs : Prop :=
  (∀ (s : State) (dt : Nat) (ch : StoCh) (low : Bool),
    exec (.stoInputChange dt ch low) s = .next ((s.tick dt).stoSettle.stoChange ch low)) ∧
  (∀ (s t : State) (dt n : Nat), s.tick dt = t → t.sto.diffSince = some n →
    n + t.parN P.safety_sto_disc * msCounts < t.now →
    exec (.stoDiscrepancy dt) s =
      .next ((t.flag F.FCR_STATUS_STO_DISC 0 true).raiseOn FC.STO_DISC .device (fixedClass FC.STO_DISC))) ∧
  (∀ (s t u : State) (dt : Nat), s.tick dt = t → t.bit F.FCR_STATUS_SS1 = false →
    ((t.flag F.FCR_STATUS_SS1 0 true).irq 29) = u →
    exec (.ss1Input dt true) s = .next (u.leads.foldl State.safeStopCause (u.recTrigger 3 none))) ∧
  (∀ (s t : State) (dt : Nat), s.tick dt = t → t.bit F.FCR_STATUS_SS1 = true →
    exec (.ss1Input dt false) s = .next ((t.flag F.FCR_STATUS_SS1 0 false).irq 29)) ∧
  (∀ (s t u : State) (dt : Nat), ((s.tick dt).flag F.FCR_STATUS_ACK_PIN 0 true).irq 29 = t →
    t.ackRun (!t.bit F.FCR_ACK_LAST_TOGGLE) = (.accepted, u) →
    exec (.faultAckPinEdge dt) s = .next (u.ackWaits true)) ∧
  (∀ (s t u : State) (dt n : Nat), ((s.tick dt).flag F.FCR_STATUS_ACK_PIN 0 true).irq 29 = t →
    t.ackRun (!t.bit F.FCR_ACK_LAST_TOGGLE) = (.refused n, u) →
    exec (.faultAckPinEdge dt) s = .next u)

/-- R359, R363, R366, R367, R374: power-on, brown-out, the reset pin, the wake pin in standby and out of it, and
the releases. A brown-out shorter than 1 µs and a reset pulse shorter than 200 ns are ignored. -/
def Obligations.ResetEvents : Prop :=
  (∀ (s : State) (dt : Nat),
    exec (.powerOn dt) s = .next ((s.tick dt).coreReset .powerOn F.SYS_RST_CAUSE_POR)) ∧
  (∀ (s : State) (dt : Nat) (sup : MainSupply) (ns : Nat), (s.tick dt).sys.standby = false → 1000 ≤ ns →
    exec (.brownOut dt sup ns) s = .next ((s.tick dt).coreReset .brownOut F.SYS_RST_CAUSE_BROWNOUT)) ∧
  (∀ (s : State) (dt : Nat) (sup : MainSupply) (ns : Nat), ns < 1000 →
    exec (.brownOut dt sup ns) s = .next (s.tick dt)) ∧
  (∀ (s : State) (dt ns : Nat), (s.tick dt).sys.standby = false → 1000 ≤ ns →
    exec (.rstNPin dt ns) s = .next ((s.tick dt).coreReset .pin F.SYS_RST_CAUSE_PIN)) ∧
  (∀ (s : State) (dt ns : Nat), ns < 200 → exec (.rstNPin dt ns) s = .next (s.tick dt)) ∧
  (∀ (s t : State) (dt : Nat), s.tick dt = t → t.sys.standby = false →
    exec (.wakePin dt) s =
      .next { t with pins := { t.pins with wake := true }, sys := { t.sys with wakeLatch := true } }) ∧
  (∀ (s t : State) (dt : Nat), s.tick dt = t → t.sys.standby = true →
    exec (.wakePin dt) s =
      .next { t with pins := { t.pins with wake := true }, sys := { t.sys with wakeLatch := true } }.wakeReset) ∧
  (∀ (s : State) (dt : Nat) (env : BootEnv), exec (.resetRelease dt env) s = .next ((s.tick dt).release env)) ∧
  (∀ (s t : State) (dt : Nat) (d : ClkDom), (s.tick dt).running = true → (s.tick dt).clkSet (clkBit d) true = t →
    exec (.blockRelease dt d) s =
      .next (if t.rd F.SYS_CLK_STATUS_CLK_OK = 63 then t.condition FC.CLOCK .device false else t)) ∧
  (∀ (s t : State) (dt : Nat) (d : ClkDom), s.tick dt = t → t.running = true → t.sys.up[clkBit d] = false →
    exec (.blockClockTimeout dt d) s = .next (t.raiseOn FC.CLOCK .device (fixedClass FC.CLOCK)))

/-- R361, R362: a clock loss marks its domain, and with the crystal every domain unless the clocks derive from the Towpath, lost, raises `FLT_CLOCK` and with
scope `FULL` arms a warm reset, which follows; a failure of the safety oscillator sets `OSC_FAIL`, raises
`FLT_CLOCK`, sends both bridges to their plans and holds them in `SAFE_HOLD`. -/
def Obligations.ClockEvents : Prop :=
  (∀ (s t u : State) (dt : Nat) (d : ClkDom), s.tick dt = t → t.running = true → t.sys.up[clkBit d] = true →
    (t.each (t.lossOf d) fun v i => (v.clkSet i false).clkLost i) = u →
    exec (.clockLoss dt d) s =
      .next ({ u with sys := { u.sys with clockRst := if u.bit F.SYS_RST_CTRL_SCOPE then none
          else (match u.sys.clockRst with
            | some n => some n
            | none => some u.now) } }.raiseOn FC.CLOCK .device
        (fixedClass FC.CLOCK))) ∧
  (∀ (s t : State) (dt n : Nat), s.tick dt = t → t.running = true → t.sys.clockRst = some n → n + 40000 ≤ t.now →
    exec (.clockLossReset dt) s = .next (t.warmReset F.SYS_RST_CAUSE_CLOCK)) ∧
  (∀ (s t u : State) (dt : Nat), s.tick dt = t → t.running = true → t.sys.oscOk = true →
    t.flag F.SYS_CLK_STATUS_OSC_FAIL 0 true = u →
    exec (.oscFail dt) s = .next (((({ u with sys := { u.sys with oscOk := false } }.raiseOn FC.CLOCK .device
      (fixedClass FC.CLOCK)).preempt 0).preempt 1).enterOne 0 .safeHold |>.enterOne 1 .safeHold))

/-! ### Faults and the Pilot -/

/-- R299 to R301, R318, R319: the FCR's events. The lines of one sample act in the order of their codes; an armed
warm reset follows with its cause; a Lockkeeper failure by heartbeat or comparator; and `ALIVE` toggles while its
conditions hold. -/
def Obligations.FaultEvents : Prop :=
  (∀ (s t : State) (dt : Nat) (srcs : List FaultSrc), srcs.all FaultSrc.wf = true → s.tick dt = t →
    t.running = true → t.sys.oscOk = true →
    exec (.faultSourceAssert dt srcs) s = .next (t.each (srcs.foldr srcInsert []) State.sourceLine)) ∧
  (∀ (s : State) (dt : Nat) (srcs : List FaultSrc), srcs.all FaultSrc.wf = false →
    exec (.faultSourceAssert dt srcs) s = .fault .illFormed) ∧
  (∀ (s t : State) (dt n : Nat), s.tick dt = t → t.running = true → t.fcr.warmAt = some n → n + 40000 ≤ t.now →
    exec (.fcrWarmResetTimer dt) s = .next (t.warmReset
      (if t.bit F.FCR_STATUS_KEEPER_FAIL then F.SYS_RST_CAUSE_KEEPER
       else if t.fcr.latched.any fun l => l.code == FC.STATE_ECC && l.cls == .resetWarm then F.SYS_RST_CAUSE_STATE
       else F.SYS_RST_CAUSE_WARM))) ∧
  (∀ (s t : State) (dt : Nat), s.tick dt = t → t.running = true → t.sys.oscOk = true →
    t.fcr.beatAt + 80000 ≤ t.now → exec (.keeperHbTimeout dt) s = .next (t.keeperFail FC.KEEPER_HB)) ∧
  (∀ (s t : State) (dt : Nat), s.tick dt = t → t.running = true → t.sys.oscOk = true →
    exec (.keeperLockstep dt) s = .next (t.keeperFail FC.KEEPER_LOCKSTEP)) ∧
  (∀ (s t : State) (dt : Nat), s.tick dt = t → t.aliveOk = true →
    exec (.aliveToggle dt) s = .next { t with pins := { t.pins with alive := !t.pins.alive } })

/-- R317, R332: a challenge to a Pilot that is not held starts its answer time; an answer that does not come, or a
lockstep error, is a Pilot failure; the release lets the cluster run on its bank with a first challenge and starts
the 10 s of a trial bank; a trial passed after them makes the trial bank active, the old active bank previous, and
ends the firmware session. -/
def Obligations.PilotEvents : Prop :=
  (∀ (s t : State) (dt : Nat) (c : Word), s.tick dt = t → t.running = true → t.bit F.SYS_RST_CTRL_PILOT_HOLD = false →
    exec (.wdgChallenge dt c) s = .next (t.challenge c)) ∧
  (∀ (s t : State) (dt n : Nat) (c : Word), s.tick dt = t → t.pilot.chal = some (c, n) →
    t.parN P.safety_wdg_period * msCounts * 9 ≤ (t.now - n) * 10 →
    exec (.wdgAnswerTimeout dt) s = .next { t with pilot := { t.pilot with chal := none } }.pilotFailure) ∧
  (∀ (s : State) (dt : Nat), exec (.pilotLockstepError dt) s = .next (s.tick dt).pilotFailure) ∧
  (∀ (s t u : State) (dt : Nat) (c : Word) (b : Br), s.tick dt = t → t.pilot.runBank = some b → t.running = true →
    t.pilot.restarting = true → t.pilot.heldForGood = false → t.flag F.SYS_RST_CTRL_PILOT_HOLD 0 false = u →
    exec (.pilotRelease dt c) s = .next ({ u with pilot := { u.pilot with
      first := true, trialAt := if (t.bank b).st = BankSt.trial then some t.now else none } }.challenge c)) ∧
  (∀ (s t u v : State) (dt n : Nat) (b : Br), s.tick dt = t → t.pilot.trialAt = some n → t.bankOf .trial = some b →
    n + 4000000000 ≤ t.now →
    (if (t.bank (mate b)).st = BankSt.active then t.upBank (mate b) fun x => { x with st := .previous } else t) = u →
    u.upBank b (fun x => { x with st := .active }) = v →
    exec (.fwTrialPass dt) s =
      .next ({ v with pilot := { v.pilot with trialAt := none } }.upFw fun _ => FwSession.reset))

/-- R101, R316, R330, R340, R349: the end of a verification gives the failure's reason, or a verified firmware image
in its bank, decrypted where it is encrypted, or a verified patch; the end of a parameter store counts its generation
and marks it stored, or failed; the end of an erase follows R340; a nonce ends after 10 s and a lock-out after 60 s;
and every 100 ms the guarded registers are compared with their copies. -/
def Obligations.TrustEvents : Prop :=
  (∀ (s t : State) (dt : Nat) (v : FwVerdict), s.tick dt = t → t.trust.fw.phase = .verifying → t.verifyReason v ≠ 0 →
    exec (.fwVerifyDone dt v) s = .next (t.verifyFail (t.verifyReason v))) ∧
  (∀ (s t : State) (dt : Nat) (v : FwVerdict), s.tick dt = t → t.trust.fw.phase = .verifying → t.verifyReason v = 0 →
    t.hdr8 4 = 0 → t.hdr8 6 % 2 = 0 → t.trust.fw.patch = false →
    exec (.fwVerifyDone dt v) s = .next ((t.upBank t.trust.fw.bank fun _ =>
      { st := .verified, version := BitVec.ofNat 32 (t.hdr32 8), customer := t.hdr8 16 != 0 }).upFw fun f =>
        { f with phase := .verified, reason := 0, kind := 0, version := BitVec.ofNat 32 (t.hdr32 8) })) ∧
  (∀ (s t u : State) (dt : Nat) (v : FwVerdict), s.tick dt = t → t.trust.fw.phase = .verifying →
    t.verifyReason v = 0 → t.hdr8 4 = 0 → t.hdr8 6 % 2 = 1 → t.trust.fw.patch = false →
    t.setMemBytes (t.fwBase + 128) (v.plain.take (t.hdr32 12)) = u →
    exec (.fwVerifyDone dt v) s = .next ((u.upBank u.trust.fw.bank fun _ =>
      { st := .verified, version := BitVec.ofNat 32 (t.hdr32 8), customer := t.hdr8 16 != 0 }).upFw fun f =>
        { f with phase := .verified, reason := 0, kind := 0, version := BitVec.ofNat 32 (t.hdr32 8) })) ∧
  (∀ (s t : State) (dt : Nat) (v : FwVerdict), s.tick dt = t → t.trust.fw.phase = .verifying → t.verifyReason v = 0 →
    t.hdr8 4 = 1 → t.hdr8 6 % 2 = 0 → t.trust.fw.patch = true →
    exec (.fwVerifyDone dt v) s = .next (t.upFw fun f =>
      { f with phase := .verified, reason := 0, kind := 1, version := BitVec.ofNat 32 (t.hdr32 8) })) ∧
  (∀ (s t u v : State) (dt : Nat) (j : StoreJob), s.tick dt = t → t.params.job = some j →
    { t with params := { t.params with job := none } }.storeWrite j = u →
    u.setWord F.NVMC_GEN_NEXT_GEN 0 (BitVec.ofNat 32 j.gen) = v →
    exec (.paramStoreDone dt true) s = .next
      ((((v.setMemW (slotAt j.slot) (BitVec.ofNat 32 j.gen)).wr F.NVMC_STATUS_STORE_STATE 0 2).nvmSync).irq 25)) ∧
  (∀ (s t : State) (dt : Nat) (j : StoreJob), s.tick dt = t → t.params.job = some j →
    ∃ u : State, (u = { t with params := { t.params with job := none } }.spend ∨
      u = { t with params := { t.params with job := none } }.spend.flag F.NVMC_ERR_WFAIL 0 true) ∧
    exec (.paramStoreDone dt false) s = .next (((u.wr F.NVMC_STATUS_STORE_STATE 0 3).nvmSync).irq 25)) ∧
  (∀ (s t : State) (dt : Nat), s.tick dt = t → exec (.vaultEraseDone dt) s = .next t.eraseDone) ∧
  (∀ (s t : State) (dt : Nat) (n : List Byte) (at_ : Nat), s.tick dt = t → t.trust.nonce = some (n, at_) →
    at_ + 4000000000 ≤ t.now →
    exec (.nonceExpiry dt) s = .next { t with trust := { t.trust with nonce := none } }) ∧
  (∀ (s t : State) (dt at_ : Nat), s.tick dt = t → t.trust.lockedOut = some at_ → at_ + 24000000000 ≤ t.now →
    exec (.authLockoutEnd dt) s =
      .next { t with trust := { t.trust with lockedOut := none, authFails := [] } }) ∧
  (∀ (s t : State) (dt : Nat), s.tick dt = t → t.running = true → t.inBoot = false →
    exec (.guardReadback dt) s = .next t.guardCheck)

/-- R345, R353 to R355, R358: the NVM and the recorder. A word write completes, or with a loss of power completes or
keeps the previous value; a complete collection is written as a snapshot, and with `INHIBIT` ends as a failed write;
a record every 1 ms while the Flight is stopped; and a supply below its threshold inhibits writes. -/
def Obligations.NvmEvents : Prop :=
  (∀ (s : State) (dt : Nat), exec (.nvmcWordDone dt false) s = .next ((s.tick dt).wordFinish false)) ∧
  (∀ (s : State) (dt : Nat), ∃ keep : Bool,
    exec (.nvmcWordDone dt true) s = .next ((s.tick dt).spend.wordFinish keep)) ∧
  (∀ (s t : State) (dt : Nat) (c : Collect), s.tick dt = t → t.recd.coll = some c → c.quota ≤ c.after →
    t.bit F.NVMC_STATUS_INHIBIT = false →
    exec (.recCollectionEnd dt) s = .next t.recWrite) ∧
  (∀ (s t : State) (dt : Nat) (c : Collect), s.tick dt = t → t.recd.coll = some c → c.quota ≤ c.after →
    t.bit F.NVMC_STATUS_INHIBIT = true →
    exec (.recCollectionEnd dt) s = .next (({ t with recd := { t.recd with coll := none } }.flag
      F.NVMC_STATUS_REC_CAPTURE 0 false).flag F.NVMC_ERR_WFAIL 0 true)) ∧
  (∀ (s t : State) (dt : Nat) (b : Br), s.tick dt = t → t.running = true → t.configured b = true →
    t.flightRuns b = false →
    exec (.recIdleRecord dt b) s = .next (t.recEnter
      (t.stageRecord b 0xFFFFFFFF t.stamp.toNat 0 0 (t.aclkAngle b) (t.rd F.MOD_STATUS_STRAT b)))) ∧
  (∀ (s t : State) (dt vddm vddc : Nat) (inh : Bool), s.tick dt = t → (decide (vddm < 1660) || decide (vddc < 750)) = inh →
    exec (.nvmWriteInhibit dt vddm vddc) s =
      .next ((t.flag F.NVMC_STATUS_INHIBIT 0 inh).flag F.SYS_PWR_STATUS_INHIBIT 0 inh))

/-! ### Flight and modulation -/

/-- R166, R169, R171, R174, R176, R187, R194, R195, R275: the Flight's events, each for every engine of the bridge's
pair or for its own engine. At a boundary every running engine advances, then the boundary's work is done. A stopped
engine's periodic refresh renews the safe plans, steps the winding discharge and tries a waiting start again. At its
commit instant the next stage commits, or a carry stage in its place. A completed computation takes its slot, and
commits at once when its instant has passed. A complete group is verified, a group still open is left, and one with
a missing current 1 µs after its stage is missed, as is one not complete then: its stage retires with `GROUP_MISS` and
its event, the fourth in a row raising `FLT_FLIGHT_SAMPLE`. In direct mode the currents are only compared. An engine
ends with its last committed stage. Where the condition does not hold, nothing changes. -/
def Obligations.FlightEvents : Prop :=
  (∀ (s t u : State) (dt : Nat) (b : Br), s.tick dt = t → (t.each (t.group b) fun v c => v.engineAdvance c) = u →
    (t.flightRuns b = true →
      exec (.stageBoundary dt b) s = .next (u.each (t.group b) fun v c => v.boundaryWork c)) ∧
    (t.flightRuns b = false → exec (.stageBoundary dt b) s = .next t)) ∧
  (∀ (s t : State) (dt : Nat) (b : Br), (s.tick dt).standbyTimer = t →
    (t.running = true → exec (.planRefresh dt b) s = .next (((t.planRefresh b).windingStep b).startRetry b)) ∧
    (t.running = false → exec (.planRefresh dt b) s = .next t)) ∧
  (∀ (s t : State) (dt : Nat) (b : Br), s.tick dt = t →
    exec (.stageCommit dt b) s =
      .next (t.each (t.group b) fun v c => if v.flightRuns c then v.commitDue c else v)) ∧
  (∀ (v : State) (c : Br) (sl : Slot), v.flights[c].firstSpec = some sl →
    (v.commitAt c sl ≤ v.dt → v.commitDue c = v.commitStage c sl) ∧ (v.dt < v.commitAt c sl → v.commitDue c = v)) ∧
  (∀ (v : State) (c : Br) (n : Nat), v.flights[c].firstSpec = none → v.nextStart c = some n →
    v.bit F.FLT_CTRL_ENABLE c = true → n ≤ v.dt + v.flights[c].cfg.lead → v.commitDue c = v.carryStage c) ∧
  (∀ (s t : State) (dt : Nat) (b : Br), s.tick dt = t →
    exec (.stageCompute dt b) s =
      .next (t.each (t.group b) fun v c => if v.mayCompute c then v.computeStage c else v)) ∧
  (∀ (v : State) (c : Br) (sl : Slot), v.nextSlot c none = some sl →
    ((v.takeSlot c sl).dt < (v.takeSlot c sl).commitAt c sl → (v.takeSlot c sl).flights[c].verified < sl.num →
      v.computeStage c = v.takeSlot c sl) ∧
    ((v.takeSlot c sl).commitAt c sl ≤ (v.takeSlot c sl).dt →
      v.computeStage c = (v.takeSlot c sl).commitStage c sl)) ∧
  (∀ (s t : State) (dt : Nat) (b : Br) (sl : Slot), s.tick dt = t → t.flightRuns b = true →
    t.flights[b].predictOnly = false → t.groupStage b = some sl →
    ((∀ c ∈ t.verifySet b, t.groupOpen c sl.num = false ∧ (t.measured c sl.num).missing = false) →
      exec (.groupVerify dt b) s = .next (t.verify b sl.num)) ∧
    ((∃ c ∈ t.verifySet b, t.groupOpen c sl.num = true) → exec (.groupVerify dt b) s = .next t) ∧
    ((∀ c ∈ t.verifySet b, t.groupOpen c sl.num = false) →
      (∃ c ∈ t.verifySet b, (t.measured c sl.num).missing = true) → sl.start + sl.dur + 400 ≤ t.dt →
      exec (.groupVerify dt b) s = .next (t.each (t.verifySet b) fun v c =>
        match v.flights[c].stage sl.num with
        | some x => if x.st = .committed then v.groupMissed c x else v
        | none => v))) ∧
  (∀ (s t : State) (dt n : Nat) (b : Br), s.tick dt = t → (t.flightRuns b && !t.flights[b].predictOnly) = false →
    t.rd F.MOD_PERIOD_CNT_COUNT b = n →
    (t.directArmed b = true → (t.measured b n).missing = false → t.groupOpen b n = false →
      exec (.groupVerify dt b) s = .next (((t.showGroup b n (t.measured b n)).plausCheck b).dropGroup b n)) ∧
    (t.directArmed b = false → exec (.groupVerify dt b) s = .next t)) ∧
  (∀ (s t : State) (dt : Nat) (b : Br) (sl : Slot), s.tick dt = t → t.flightRuns b = true →
    t.flights[b].predictOnly = false → t.groupStage b = some sl →
    (sl.start + sl.dur + 400 ≤ t.dt → exec (.groupMissing dt b) s = .next (t.groupMissed b sl)) ∧
    (t.dt < sl.start + sl.dur + 400 → exec (.groupMissing dt b) s = .next t)) ∧
  (∀ (t u : State) (b : Br) (sl : Slot),
    (((((t.retire b sl).flag F.FLT_STATUS_GROUP_MISS b true).evt (E.FLIGHT_GROUP_MISS b)).dropGroup b sl.num).upFl b
      fun f => { f with missRun := f.missRun + 1 }) = u →
    t.groupMissed b sl = if u.flights[b].missRun = 4 then u.raiseF FC.FLIGHT_SAMPLE (.bridge b) else u) ∧
  (∀ (s t : State) (dt : Nat) (b : Br), s.tick dt = t →
    (t.flights[b].ending = true → t.hasCommitted b = false →
      exec (.flightStopEnd dt b) s = .next (((t.upFl b fun f => { f with
        ending := false, begun := false, groups := [], due := [] }).flag F.FLT_STATUS_RUNNING b false).stagedFlush b)) ∧
    ((t.flights[b].ending = false ∨ t.hasCommitted b = true) → exec (.flightStopEnd dt b) s = .next t))

/-- R212, R219 to R223: the modulation's events. Edges are sent, in direct mode only under `ARM`; a load point reached
takes the commit buffer, in the middle of the period with its second half, and under `ARM` the safe plan is
refreshed; a period boundary reached begins the next period, with its load point where that is the boundary, and
acts on what waits for a boundary. Outside direct mode, or before its time, a load point or boundary changes
nothing. -/
def Obligations.ModulationEvents : Prop :=
  (∀ (s t : State) (dt : Nat) (k : LaneIx), s.tick dt = t →
    (t.bit F.MOD_CTRL_MODE (laneBr k) = false ∨ t.bit F.MOD_CTRL_ARM (laneBr k) = true) →
    exec (.edgeSend dt k) s = .next (t.sendEdges k)) ∧
  (∀ (s t : State) (dt : Nat) (k : LaneIx), s.tick dt = t → t.bit F.MOD_CTRL_MODE (laneBr k) = true →
    t.bit F.MOD_CTRL_ARM (laneBr k) = false → exec (.edgeSend dt k) s = .next t) ∧
  (∀ (s t u : State) (dt : Nat) (b : Br), s.tick dt = t → t.bit F.MOD_CTRL_MODE b = true →
    t.loadPoint b ≤ 32 * t.dt →
    (if t.bit F.MOD_CTRL_LOAD_MID b then t.midLoad b else t.loadBuffer b) = u →
    exec (.modLoadPoint dt b) s = .next (if u.bit F.MOD_CTRL_ARM b then u.planRefresh b else u)) ∧
  (∀ (s t : State) (dt : Nat) (b : Br), s.tick dt = t →
    (t.bit F.MOD_CTRL_MODE b = false ∨ 32 * t.dt < t.loadPoint b) → exec (.modLoadPoint dt b) s = .next t) ∧
  (∀ (s t u v w : State) (dt : Nat) (b : Br), s.tick dt = t → t.bit F.MOD_CTRL_MODE b = true →
    t.mods[b].perEnd ≤ 32 * t.dt →
    (if t.bit F.MOD_CTRL_LOAD_MID b then t else t.loadBuffer b) = u → u.directPeriod b (u.bit F.MOD_CTRL_ARM b) = v →
    (if v.bit F.MOD_CTRL_ARM b then v.planRefresh b else v) = w →
    exec (.directPeriodBoundary dt b) s = .next ((w.motionStep b).boundaryCauses b)) ∧
  (∀ (s t : State) (dt : Nat) (b : Br), s.tick dt = t →
    (t.bit F.MOD_CTRL_MODE b = false ∨ 32 * t.dt < t.mods[b].perEnd) →
    exec (.directPeriodBoundary dt b) s = .next t)

/-! ### Position and conversion -/

/-- R86, R132, R133, R135, R136, R137, R140, R141, R143, R148, R151: the position events at a port that is on, in the modes
they belong to: edges of its inputs, a standstill, the beginning and the end of a transfer, a stale position, analog
pairs, a reference mark, a filtered condition, the redundancy timeout, and the end of an alignment. -/
def Obligations.PositionEvents : Prop :=
  (∀ (s t : State) (dt : Nat) (p : PortIx) (a bb c an bn cn : Bool) (old : Nat), (s.tick dt).ports[p].levels = old →
    ((s.tick dt).upPort p fun x => { x with
      levels := b2n c * 4 + b2n bb * 2 + b2n a, nlev := b2n cn * 4 + b2n bn * 2 + b2n an }) = t →
    (t.portCond p 0 (t.wireBad p)).portOn p = true →
    ((t.portCond p 0 (t.wireBad p)).portMode p = 1 → exec (.posEdge dt p ⟨a, an⟩ ⟨bb, bn⟩ ⟨c, cn⟩) s =
      .next ((t.portCond p 0 (t.wireBad p)).coarseEdge p (sinPlace (old % 2 == 1) (old / 2 % 2 == 1)) (sinPlace a bb))) ∧
    ((t.portCond p 0 (t.wireBad p)).portMode p = 2 → exec (.posEdge dt p ⟨a, an⟩ ⟨bb, bn⟩ ⟨c, cn⟩) s =
      .next ((t.portCond p 0 (t.wireBad p)).incEdge p (quadPlace (old % 2 == 1) (old / 2 % 2 == 1)) (quadPlace a bb))) ∧
    ((t.portCond p 0 (t.wireBad p)).portMode p = 3 → exec (.posEdge dt p ⟨a, an⟩ ⟨bb, bn⟩ ⟨c, cn⟩) s =
      .next ((t.portCond p 0 (t.wireBad p)).hallCode p (b2n c * 4 + b2n bb * 2 + b2n a)))) ∧
  (∀ (s t u : State) (dt : Nat) (p : PortIx), s.tick dt = t → t.portOn p = true → 2 ≤ t.portMode p →
    t.ports[p].q ≠ 2 → t.ports[p].lastT + t.rd F.PORT_LIMITS_ZERO_TIMEOUT p * 400000 ≤ t.dt →
    (t.upPort p fun y => { y with spd := 0, q := 2, intervals := [] }).portShow p = u →
    exec (.posZeroTimeout dt p) s = .next (u.holdIfStill p (u.lastEdgeAngle p))) ∧
  (∀ (s t : State) (dt : Nat) (p : PortIx), s.tick dt = t → t.portOn p = true → 4 ≤ t.portMode p →
    exec (.posSamplePeriod dt p) s = .next (t.upPort p fun x => { x with busy := true, startAt := t.posStamp p })) ∧
  (∀ (s t : State) (dt : Nat) (p : PortIx) (w : Option Nat), s.tick dt = t → t.portOn p = true →
    (t.portMode p = 4 → exec (.posSample dt p w) s = .next (t.posSample p w)) ∧
    (t.portMode p = 5 → exec (.posSample dt p w) s = .next (t.posSample p (t.sentWord p))) ∧
    (t.portMode p = 6 → exec (.posSample dt p w) s = .next (t.posSample p (t.spiWord p)))) ∧
  (∀ (s t : State) (dt : Nat) (p : PortIx), s.tick dt = t → t.portOn p = true → 4 ≤ t.portMode p →
    t.ports[p].lastSampleAt + 80 * t.rd F.PORT_FRAME_PERIOD p ≤ t.now →
    exec (.posStale dt p) s = .next (t.portCond p 7 true)) ∧
  (∀ (s t : State) (dt : Nat) (p : PortIx) (s1 c1 s2 c2 : Int), s.tick dt = t → t.portOn p = true →
    t.convAssigned p = true → t.portMode p = 0 → t.ports[p].excN < t.excPairs p →
    exec (.posResolverSample dt p ⟨s1, s2⟩ ⟨c1, c2⟩) s =
      .next ((t.upPort p fun x => { x with excN := t.excPairs p }).resolverPair p (s1 - s2) (c1 - c2))) ∧
  (∀ (s t : State) (dt : Nat) (p : PortIx) (sn cs : Int), s.tick dt = t → t.portOn p = true →
    t.convAssigned p = true → t.portMode p = 1 →
    exec (.posSincosSample dt p sn cs) s = .next (t.sincosPair p sn cs)) ∧
  (∀ (s t : State) (dt : Nat) (p : PortIx), s.tick dt = t → t.portOn p = true →
    (t.portMode p = 1 ∨ t.portMode p = 2) → exec (.posIndexMark dt p) s = .next (t.indexMark p)) ∧
  (∀ (s t : State) (dt : Nat) (p : PortIx) (f : PosFlag), s.tick dt = t → f.val < 9 →
    t.ports[p].cond.getLsbD f.val = true →
    exec (.posFaultFilter dt p f true) s = .next (t.portFlag p f.val)) ∧
  (∀ (s t : State) (dt : Nat) (p : PortIx) (f : PosFlag), s.tick dt = t → f.val < 9 →
    exec (.posFaultFilter dt p f false) s = .next (t.portCond p f.val (f.val == 0 && t.wireBad p))) ∧
  (∀ (s t u v w : State) (dt n : Nat) (b : Br), s.tick dt = t → t.aclks[b].diffSince = some n →
    n + t.parN (P.pos_redund_time b.val) * 400 ≤ t.now →
    (if t.primary b = 4 ∨ t.redundant b = 4 then
      (t.upAclk b fun a => { a with obsCond := true }).flag (F.ACLK_STATUS_OBS_REDUND.at (16 * b.val)) 0 true
      else t) = u →
    (u.each (u.pairPorts b) fun x p => (x.putCond p 9 true).putFlag p 9 true) = v →
    (((v.each (v.pairPorts b) fun x p => (x.portShow p).irq 7).upAclk b fun a =>
      { a with diffSince := none }).posConds b) = w →
    exec (.posRedundTimeout dt b) s = .next
      ((if (w.choose b).2 = .report then w.raise FC.POS_REDUND (.bridge b) .report else w).aclkSelect b false)) ∧
  (∀ (s t : State) (dt : Nat) (b : Br) (offset : Word) (i : Int), s.tick dt = t → t.bridges[b].align = some i →
    (t.upB b fun x => { x with align := none }).primary b < 4 →
    exec (.posAlignDone dt b offset) s = .next ((t.upB b fun x => { x with align := none }).parApply
      (P.pos_offset ((t.upB b fun x => { x with align := none }).primary b)) offset))

/-- R31, R230, R231, R234, R235, R237, R243, R244, R246 to R251, R375 to R377: conversions. A sequence start converts
the entries in use, by an event that a stage or a period has placed or by the clock, and a converter sample its one
entry. A conversion due takes its converter, waits for one that is busy, or is lost to an earlier one of its kind. A
result goes to the conversion that awaits it, and none to any other; one whose check fails is discarded and counted;
a start that waits for offsets is tried again. A bridge whose Flight is stopped takes its three lanes' results and
forms its DC-link value. A monitor round stores its codes and checks the currents and the torque. A housekeeping round
takes the readings of both dies, the modules and the diode, cross-checks them, and does what the temperature asks. -/
def Obligations.ConversionEvents : Prop :=
  (∀ (s t u : State) (dt : Nat) (i : ConvIx), s.tick dt = t → t.convOn i = true →
    ((∃ (b : Br) (v : SampleEv), t.eventFor i none = some (b, v) ∧ t.takeEvent b v = u) ∨
      (t.eventFor i none = none ∧ (t.byClock i = true ∨ i.val < 12) ∧ t = u)) →
    exec (.convSequenceStart dt i) s = .next (u.each (t.convUsed i) fun v e => v.convDue i
      ⟨e, entWin (v.convEntry i e), v.dt + entStime (v.convEntry i e) * convClock i, 1, none⟩)) ∧
  (∀ (s t : State) (dt : Nat) (i : ConvIx) (e : Fin 16), s.tick dt = t → t.convOn i = true →
    (∀ (b : Br) (v : SampleEv), t.eventFor i (some e) = some (b, v) →
      exec (.convSample dt i e) s = .next ((t.takeEvent b v).convDue i ⟨e, true, v.at_, v.n, some v.num⟩)) ∧
    (t.eventFor i (some e) = none → t.byClock i = true →
      exec (.convSample dt i e) s = .next (t.convDue i ⟨e, true, t.dt, 1, none⟩)) ∧
    (t.eventFor i (some e) = none → t.byClock i = false → exec (.convSample dt i e) s = .next t)) ∧
  (∀ (t : State) (i : ConvIx) (j : Job) (l : List Job),
    t.convs[i].busy.filter (t.jobMeets i (t.convEntry i j.entry)) = l →
    (l = [] → t.convDue i j = (t.upConv i fun c => { c with busy := c.busy ++ [j] }).convShow i) ∧
    (l ≠ [] → j.prio = false → t.convDue i j = t.upConv i fun c => { c with queue := c.queue ++ [j.entry] }) ∧
    ((∃ x ∈ l, x.prio = true) → j.prio = true →
      t.convDue i j = ((t.wr (F.CONV_RES_VALID.at j.entry.val) i.val 0).flag F.CONV_STATUS_OVERLAP i.val true).evt
        (E.CONV_OVERLAP i)) ∧
    (l ≠ [] → (∀ x ∈ l, x.prio = false) → j.prio = true → t.convDue i j = t.upConv i fun c => { c with
      busy := (c.busy.filter fun x => !l.contains x) ++ [j], queue := (l.map fun x => x.entry) ++ c.queue })) ∧
  (∀ (s t : State) (dt : Nat) (i : ConvIx) (r : ConvRes), r.wf = true → s.tick dt = t → t.convOn i = true →
    exec (.convResult dt i r) s = .next (match convBr i with
      | some x => (t.convResult i r).startRetry x.1
      | none => t.convResult i r)) ∧
  (∀ (t : State) (i : ConvIx) (r : ConvRes) (j : Job), (t.convs[i].busy.find? fun j => j.entry == r.entry) = some j →
    (r.crcOk = true → t.convResult i r = (t.upHeard i).convStore i j r.codes) ∧
    (∀ k : LaneIx, r.crcOk = false → i.val = k.val →
      t.convResult i r = (t.convFinish i j).evt (E.LINK_CRC k))) ∧
  (∀ (t : State) (i : ConvIx) (r : ConvRes), (t.convs[i].busy.find? fun j => j.entry == r.entry) = none →
    t.convResult i r = t) ∧
  (∀ (s : State) (dt : Nat) (i : ConvIx) (r : ConvRes), r.wf = false →
    exec (.convResult dt i r) s = .fault .illFormed) ∧
  (∀ (s t : State) (dt : Nat) (b : Br) (cu cv cw : Int), s.tick dt = t →
    (t.flightRuns b = false → exec (.vdcConversion dt ⟨b, cu, cv, cw⟩) s =
      .next ((t.each ((lowLanes b).zip [cu, cv, cw]) fun u x =>
        if u.convOn (laneConv x.1) = true ∧ u.convs[laneConv x.1].badRounds < 2 then
          u.vdcTake x.1 (clampI 0 65535 x.2) else u).vdcForm b)) ∧
    (t.flightRuns b = true → exec (.vdcConversion dt ⟨b, cu, cv, cw⟩) s = .next t)) ∧
  (∀ (s t u v w : State) (dt : Nat) (b : Br) (iu iv iw : Int) (l : List Int), s.tick dt = t →
    t.convOn (monConv b) = true → t.convs[monConv b].badRounds < 2 → [iu, iv, iw].map (clampI 0 4095) = l →
    ((t.scheduled b = false ∧ t = u) ∨
      ∃ x : Br × SampleEv, t.scheduled b = true ∧ t.eventFor (monConv b) none = some x ∧ t.takeEvent b x.2 = u) →
    u.monStore b l = v →
    (v.upB b fun x => { x with mon := l.map fun c => v.monAmps b c }).irq 9 = w →
    exec (.monitorRound dt b iu iv iw) s =
      .next ((if w.flightRuns b || w.directArmed b then w else w.plausCheck b).torqueMonitor b)) ∧
  (∀ (s t u v w : State) (dt : Nat) (hk : HkRound), hk.wf = true → (s.tick dt).standbyTimer = t → t.running = true →
    ((t.stoSettle.each (List.finRange 15) fun x i => x.convDiag hk.checks i).each allLanes fun x k =>
      x.tmodLane (clampI 0 65535 (hk.tmod.getD k.val 0)) k).modFactors = u →
    ((u.each (List.range 4) fun x k => (x.wrI (F.SYS_TEMP_EVEN.at k) 0 (hk.die.getD (2 * k) 0)).wrI
      (F.SYS_TEMP_ODD.at k) 0 (hk.die.getD (2 * k + 1) 0)).wrI F.CONV_TEMP_TEMP 14 hk.diode) = v →
    ((v.crossCheck (v.tempPairs hk)).thermStep
      (((v.crossCheck (v.tempPairs hk)).dieReadings hk (v.tempPairs hk)).foldl max (hk.die.headD 0))).thermShut
        ((v.crossCheck (v.tempPairs hk)).dieReadings hk (v.tempPairs hk)) = w →
    exec (.housekeepingRound dt hk) s = .next ((w.each w.bridgesUsed State.envelope).irq 10)) ∧
  (∀ (s : State) (dt : Nat) (hk : HkRound), hk.wf = false → exec (.housekeepingRound dt hk) s = .fault .illFormed)

/-! ### Lane links and lanes -/

/-- R31, R33 to R35, R258, R262, R263: the downlink. A slot sends a frame on every running link: edges first, then
at the latest after 15 slots a time mark, then a waiting write, else a time mark, and nothing where the lane's link is
stopped. A trained lane acts on a frame that passes its check by its kind: a time mark disciplines its clock, one with
the step flag loads it, an edge frame queues its edges, a register write is applied. A write whose toggle has not come
back in 1.5 µs is free to be sent again; before that nothing changes. -/
def Obligations.DownlinkFrames : Prop :=
  (∀ (s t : State) (dt : Nat), (s.tick dt).slotAlign = t →
    (t.linksRun = true → exec (.downlinkSlot dt) s = .next (t.each allLanes State.sendSlot)) ∧
    (t.linksRun = false → exec (.downlinkSlot dt) s = .next t)) ∧
  (∀ (t : State) (k : LaneIx) (f : DownFrame), t.links[k].stopped = false →
    (∀ es, t.links[k].edges ≠ [] → frameEdges t.links[k].edges = es →
      t.downFrame k 1 (es.any fun e => e.2.2) (edgePayload es) = f →
      t.sendSlot k = t.upLink k fun l => { l.sentFrame f with edges := l.edges.drop es.length }) ∧
    (t.links[k].edges = [] → 15 ≤ t.links[k].sinceMark → t.sendSlot k = t.sendMark k) ∧
    (∀ off w ws, t.links[k].edges = [] → t.links[k].sinceMark < 15 → t.links[k].writes = (off, w) :: ws →
      t.links[k].sentAt = none →
      t.downFrame k 2 false (off + w.toNat * 2 ^ 8 + b2n t.links[k].toggle * 2 ^ 48) = f →
      t.sendSlot k = t.upLink k fun l => { l.sentFrame f with sentAt := some t.now }) ∧
    (t.links[k].edges = [] → (t.links[k].writes = [] ∨ t.links[k].sentAt.isSome = true) →
      t.sendSlot k = t.sendMark k)) ∧
  (∀ (t : State) (k : LaneIx), t.links[k].stopped = true → t.sendSlot k = t) ∧
  (∀ (s t : State) (dt : Nat) (k : LaneIx) (f : DownFrame), s.tick dt = t → t.laneHears k = true → downOk f = true →
    downKind f = 0 → downFlag f = false →
    exec (.laneTimeMark dt k f) s = .next ((t.laneHeader k f).laneMark k f)) ∧
  (∀ (s t : State) (dt : Nat) (k : LaneIx) (f : DownFrame), s.tick dt = t → t.laneHears k = true → downOk f = true →
    downKind f = 0 → downFlag f = true →
    exec (.laneTimeStep dt k f) s = .next ((t.laneHeader k f).laneStep k f)) ∧
  (∀ (s t : State) (dt : Nat) (k : LaneIx) (f : DownFrame), s.tick dt = t → t.laneHears k = true → downOk f = true →
    downKind f = 1 → exec (.laneEdgeFrame dt k f) s = .next ((t.laneHeader k f).laneEdges k f)) ∧
  (∀ (s t : State) (dt : Nat) (k : LaneIx) (f : DownFrame), s.tick dt = t → t.laneHears k = true → downOk f = true →
    downKind f = 2 → exec (.laneRegWriteFrame dt k f) s = .next ((t.laneHeader k f).laneWrite k f)) ∧
  (∀ (s t : State) (dt n : Nat) (k : LaneIx), s.tick dt = t → t.links[k].sentAt = some n →
    (n + 600 ≤ t.now → exec (.laneWriteRetry dt k) s = .next (t.upLink k fun l => { l with sentAt := none })) ∧
    (t.now < n + 600 → exec (.laneWriteRetry dt k) s = .next t)) ∧
  (∀ (s t : State) (dt : Nat) (k : LaneIx), s.tick dt = t → t.links[k].sentAt = none →
    exec (.laneWriteRetry dt k) s = .next t)

/-- R31: a downlink frame that fails its check, whatever its row, changes nothing but the event counters of
`LINK_CRC`. -/
def Obligations.DownlinkCrcError : Prop :=
  ∀ (s t : State) (dt : Nat) (k : LaneIx) (f : DownFrame), s.tick dt = t → t.laneHears k = true → downOk f = false →
    exec (.laneTimeMark dt k f) s = .next (t.evt (E.LINK_CRC k)) ∧
    exec (.laneTimeStep dt k f) s = .next (t.evt (E.LINK_CRC k)) ∧
    exec (.laneEdgeFrame dt k f) s = .next (t.evt (E.LINK_CRC k)) ∧
    exec (.laneRegWriteFrame dt k f) s = .next (t.evt (E.LINK_CRC k))

/-- R31, R257 to R261, R271, R272: the uplink and the relay. A status frame that passes its check refreshes the
shadow copies, with `IRQ_LANE` where the lane's status changes, and its reports act; from a lane in `UNLINKED` it
changes nothing, and one that fails is only counted. An uplink lost while the link is trained raises `FLT_LANE_LINK` and
takes the bridge to its plan, once no uplink frame has come for 2 µs. The relay answers the first `TRIP` of a lane that is out with `LEG_LOCK` to its partner,
finds a shoot-through when the partner tripped within the window, and a second leg of the bridge out; a `TRIP`
handled already, or of a lane that is not out, changes nothing. `OV3` of a low-side lane takes its bridge to `ASC_LOW`
and raises `FLT_VDC_OV3`. -/
def Obligations.UplinkAndRelay : Prop :=
  (∀ (s t u v w : State) (dt : Nat) (k : LaneIx) (rd : LaneReading) (two three : Int), s.tick dt = t →
    t.lanes[k].st ≠ .unlinked → t.own k F.LANE_OV2_VDC_OV2 = two → t.own k F.LANE_OV3_VDC_OV3 = three →
    (t.upLane k fun l => { l with
      ov2 := laneLow k && (decide (two < rd.vdc) || (l.ov2 && decide (98 * two ≤ 100 * rd.vdc)))
      ov3 := laneLow k && l.ov3 && decide (98 * three ≤ 100 * rd.vdc) }).shadow k rd = u →
    (if u.statusShown k = t.statusShown k then u else u.irq 11) = v →
    (v.upLink k fun l => { l with
      upAt := v.now, trained := v.lanes[k].trained && !v.lanes[k].hbLost }).condition FC.LANE_LINK (.lane k) false = w →
    exec (.laneStatusFrame dt k rd true) s = .next (((((((if 13000 ≤ rd.vddl then
      w.condition FC.LANE_UV_WARN (.lane k) false else w).writeConfirm k).beatReport k v.lanes[k].hbLost).ovReport
        k).chopReport k).stoReadback k rd.gateEnabledA rd.gateEnabledB).deadReport k)) ∧
  (∀ (s t : State) (dt : Nat) (k : LaneIx) (rd : LaneReading), s.tick dt = t → t.lanes[k].st = .unlinked →
    exec (.laneStatusFrame dt k rd true) s = .next t) ∧
  (∀ (s : State) (dt : Nat) (k : LaneIx) (rd : LaneReading),
    exec (.laneStatusFrame dt k rd false) s = .next ((s.tick dt).evt (E.LINK_CRC k))) ∧
  (∀ (s t : State) (dt : Nat) (k : LaneIx), s.tick dt = t →
    (t.links[k].trained = true → t.condActive FC.LANE_LINK (.lane k) = false → t.links[k].upAt + 800 ≤ t.now →
      exec (.laneUplinkLoss dt k) s = .next (((t.upLink k fun l => { l with trained := false }).raiseOn FC.LANE_LINK
        (.lane k) (laneClass FC.LANE_LINK)).planNow (laneBr k))) ∧
    ((t.links[k].trained = false ∨ t.condActive FC.LANE_LINK (.lane k) = true ∨ t.now < t.links[k].upAt + 800) →
      exec (.laneUplinkLoss dt k) s = .next t)) ∧
  (∀ (s t u : State) (dt n w : Nat) (k : LaneIx) (near : List (LaneIx × Nat)), s.tick dt = t →
    t.lanes[k].st.isOut = true → t.lanes[k].tripAt = n → t.trips.contains (k, n) = false →
    t.parN (P.lane_pair_window (laneBr k).val) * usCounts = w →
    (t.trips.filter fun x => laneBr x.1 == laneBr k && decide (x.2 ≤ n + w ∧ n ≤ x.2 + w)) = near →
    { t with trips := (k, n) :: t.trips.filter fun x => x.1 != k }.urgent (lanePartner k) .legLock = u →
    (near = [] → exec (.tripSymbol dt k) s = .next u) ∧
    (∀ x : LaneIx × Nat, near.find? (fun y => y.1 == lanePartner k) = some x →
      near.find? (fun y => y.1.val / 2 != k.val / 2) = none →
      exec (.tripSymbol dt k) s = .next (u.shootThrough k n x.2)) ∧
    (∀ x : LaneIx × Nat, near.find? (fun y => y.1 == lanePartner k) = none →
      near.find? (fun y => y.1.val / 2 != k.val / 2) = some x →
      exec (.tripSymbol dt k) s = .next (u.legPair k x.1)) ∧
    (∀ x y : LaneIx × Nat, near.find? (fun y => y.1 == lanePartner k) = some x →
      near.find? (fun y => y.1.val / 2 != k.val / 2) = some y →
      exec (.tripSymbol dt k) s = .next ((u.shootThrough k n x.2).legPair k y.1))) ∧
  (∀ (s t : State) (dt : Nat) (k : LaneIx), s.tick dt = t →
    (t.lanes[k].st.isOut = false ∨ t.trips.contains (k, t.lanes[k].tripAt) = true) →
    exec (.tripSymbol dt k) s = .next t) ∧
  (∀ (s t : State) (dt : Nat) (k : LaneIx), s.tick dt = t →
    (laneLow k = true → t.lanes[k].ov3 = true → exec (.ov3Symbol dt k) s =
      .next ((t.ascNow (laneBr k)).raiseOn FC.VDC_OV3 (.bridge (laneBr k)) (fixedClass FC.VDC_OV3))) ∧
    ((laneLow k = false ∨ t.lanes[k].ov3 = false) → exec (.ov3Symbol dt k) s = .next t))

/-- R256, R257, R259, R260, R272, R274, R432: the link of a lane and the downlink symbols. A lane that has lost its
heartbeat, two slots without a frame (model's reading of the time, log entry 165), is forced; a lane that trains takes its half round trip, loads its clock from a mark that left that half
earlier (model's reading, log entry 140) and, from `UNLINKED`, enters `PLAN` with
`FREEWHEEL`; one that powers up is blank, and a failed self-test raises `FLT_LANE_LINK`; `PLAN_NOW` and `ASC_NOW`
force it; `LEG_LOCK` and `LEG_FREE` set and clear its lock. -/
def Obligations.LaneLinkEvents : Prop :=
  (∀ (s t u : State) (dt : Nat) (k : LaneIx), s.tick dt = t → t.lanes[k].trained = true →
    t.lanes[k].lastFrameAt + 260 ≤ t.now →
    (t.upLane k fun l => { l with
      hbLost := true, trained := false
      auxBlocked := l.auxBlocked || t.own k F.LANE_PLAN_AUX_MODE == 1 }) = u →
    exec (.laneHeartbeatLoss dt k) s =
      .next (((u.ownFlag k F.LANE_STATUS_HB_LOST).laneForce k false).auxApply k)) ∧
  (∀ (s t u v : State) (dt rt : Nat) (k : LaneIx), s.tick dt = t → t.lanes[k].selfTestBad = false →
    t.lanes[k].st = .unlinked → t.links[k].sentAt.isSome = true →
    (t.upLink k fun l => { l with trained := true, upAt := t.now }) = u →
    (u.upLane k fun l => { l with
      trained := true, half := divFree rt 2, slip := false, hbLost := false, lastFrameAt := u.now
      st := .plan, plan := 0, planGiven := false }) = v →
    exec (.laneTrained dt k rt) s =
      .next (((v.markLoad k (32 * (v.dt : Int) - divFree rt 2)).laneApply k).laneWelcome k)) ∧
  (∀ (s t u v w : State) (dt rt : Nat) (k : LaneIx), s.tick dt = t → t.lanes[k].selfTestBad = false →
    t.lanes[k].st ≠ .unlinked → t.links[k].sentAt = none →
    (t.upLink k fun l => { l with toggle := t.lanes[k].toggle != some true }) = u →
    (u.upLink k fun l => { l with trained := true, upAt := u.now }) = v →
    (v.upLane k fun l => { l with
      trained := true, half := divFree rt 2, slip := false, hbLost := false, lastFrameAt := v.now }) = w →
    exec (.laneTrained dt k rt) s =
      .next (((w.markLoad k (32 * (w.dt : Int) - divFree rt 2)).laneApply k).laneWelcome k)) ∧
  (∀ (s t : State) (dt : Nat) (k : LaneIx), (s.tick dt).laneBlank k = t →
    exec (.lanePowerUp dt k true) s = .next ((t.upLane k fun l => { l with selfTestBad := false }).upLink k fun l =>
      { l with trained := false }) ∧
    exec (.lanePowerUp dt k false) s = .next (((t.upLane k fun l => { l with selfTestBad := true }).upLink k fun l =>
      { l with trained := false }).raiseOn FC.LANE_LINK (.lane k) (laneClass FC.LANE_LINK))) ∧
  (∀ (s : State) (dt : Nat) (k : LaneIx),
    exec (.planNowSymbol dt k) s = .next (((s.tick dt).urgentDone k .planNow).laneForce k false) ∧
    exec (.ascNowSymbol dt k) s = .next (((s.tick dt).urgentDone k .ascNow).laneForce k true) ∧
    exec (.legLockSymbol dt k) s = .next (((((s.tick dt).urgentDone k .legLock).upLane k fun l =>
      { l with legLock := true }).latchTake k).laneApply k) ∧
    exec (.legFreeSymbol dt k) s = .next ((((s.tick dt).urgentDone k .legFree).upLane k fun l =>
      { l with legLock := false }).laneApply k))

/-- R264 to R269, R271, R273, R274: a lane's protection. A rising di/dt above its threshold for the filter time outside
the edge mask, an integrated current above its threshold in an armed lane whose switch conducts, a voltage across the
conducting switch above its threshold for 100 ns after the blanking time, and a supply beyond its threshold are trip
decisions with their causes, and below their thresholds nothing changes; a warning is counted and reported, and on bootstrap forces a refresh; a low-side lane
whose supply is lost goes on from `HVS`, another one is `UNLINKED`; OV3 forces `ASC_LOW`; a retry wait ends in a
retry, or with the condition active in a latch; and a late plan turn-on is reported. -/
def Obligations.LaneProtection : Prop :=
  (∀ (s t : State) (dt n : Nat) (k : LaneIx) (r : ShortReading), s.tick dt = t →
    100 + 25 * t.own k F.LANE_DIDT_FILT_FILTER = n →
    ((t.own k F.LANE_DIDT_TRIP : Int) < r.didt → n ≤ r.held →
      n + (300 + 25 * t.own k F.LANE_DIDT_MASK) ≤ 25 * (t.dt - t.lanes[k].gateAt) →
      exec (.laneShortCircuit dt k r) s = .next (t.laneTrip k .didt)) ∧
    (r.didt ≤ t.own k F.LANE_DIDT_TRIP ∨ r.held < n → t.lanes[k].gate = true → t.lanes[k].st = .armed →
      t.own k F.LANE_INTEG_TRIP < r.amps.natAbs →
      exec (.laneShortCircuit dt k r) s = .next (t.laneTrip k .integ)) ∧
    (r.didt ≤ t.own k F.LANE_DIDT_TRIP → (t.lanes[k].st ≠ .armed ∨ r.amps.natAbs ≤ t.own k F.LANE_INTEG_TRIP) →
      exec (.laneShortCircuit dt k r) s = .next t)) ∧
  (∀ (s t : State) (dt held : Nat) (k : LaneIx) (mv : Int), s.tick dt = t →
    (t.lanes[k].gate = true → (t.own k F.LANE_DESAT_VOLT : Int) < mv → 1000 ≤ held →
      1000 + 10 * t.own k F.LANE_DESAT_BLANK ≤ 25 * (t.dt - t.lanes[k].gateAt) →
      exec (.laneDesat dt ⟨k, mv, held⟩) s = .next (t.laneTrip k .desat)) ∧
    ((t.lanes[k].gate = false ∨ mv ≤ t.own k F.LANE_DESAT_VOLT ∨ held < 1000) →
      exec (.laneDesat dt ⟨k, mv, held⟩) s = .next t)) ∧
  (∀ (s t : State) (dt : Nat) (k : LaneIx) (mv : Int), ((s.tick dt).upLane k fun l => { l with vddl := mv }) = t →
    mv < 11000 → exec (.laneVddlTrip dt k mv) s = .next (t.laneTrip k .vddl)) ∧
  (∀ (s t : State) (dt : Nat) (k : LaneIx) (mv : Int), ((s.tick dt).upLane k fun l => { l with veel := mv }) = t →
    t.rdI F.LANE_PROT_VEEL_TRIP (laneOwn k) ≠ 0 → t.rdI F.LANE_PROT_VEEL_TRIP (laneOwn k) < mv →
    exec (.laneVeelTrip dt k mv) s = .next (t.laneTrip k .veel)) ∧
  (∀ (s t u : State) (dt : Nat) (k : LaneIx) (mv : Int), ((s.tick dt).upLane k fun l => { l with vddl := mv }) = t →
    mv < 12500 → t.lanes[k].st ≠ .unlinked →
    ((t.ownFlag k F.LANE_STATUS_VDDL_WARN).evt (E.LANE_UV_WARN k)).raiseOn FC.LANE_UV_WARN (.lane k) .report = u →
    exec (.laneVddlWarn dt k mv) s = .next (if u.own k F.LANE_CFG_BOOTSTRAP = 1 then
      u.upMod (laneBr k) fun m => { m with bstForced := m.bstForced.set (lanePhase k).val true } else u)) ∧
  (∀ (s t : State) (dt : Nat) (k : LaneIx) (mv hvs : Int), ((s.tick dt).upLane k fun l => { l with vddl := mv }) = t →
    mv < 9000 →
    (laneLow k = true → 45000 ≤ hvs → t.lanes[k].st ≠ .unlinked →
      exec (.laneSupplyLoss dt k mv hvs) s = .next ((t.gateDrop k).upLane k fun l => { l with hvs := true })) ∧
    ((laneLow k = false ∨ hvs < 45000) →
      exec (.laneSupplyLoss dt k mv hvs) s = .next ((t.upLane k fun l => { l.gateOff false l.strength with
        st := .unlinked, trained := false, autoDis := false, clamp := false, queue := [] }).auxApply k))) ∧
  (∀ (s t : State) (dt : Nat) (k : LaneIx) (mv : Int), s.tick dt = t → laneLow k = true → t.lanes[k].ov3 = false →
    t.lanes[k].st ≠ .unlinked → (t.own k F.LANE_OV3_VDC_OV3 : Int) < mv →
    exec (.laneOv3 dt k mv) s = .next
      (((t.upLane k fun x => { x with ov3 := true }).ownFlag k F.LANE_STATUS_OV3).laneForce k true)) ∧
  (∀ (s t u : State) (dt : Nat) (k : LaneIx), s.tick dt = t → t.lanes[k].st = .tripped →
    t.lanes[k].retryAt + t.own k F.LANE_RETRY_WAIT * 400000 ≤ t.now →
    (t.laneHome k).evt (E.LANE_RETRY k) = u →
    (∀ active, (active = true ∨ t.supplyBad k = true) →
      exec (.laneRetryWaitEnd dt k active) s = .next ((t.laneLatch k).laneLatchedFault k)) ∧
    (t.supplyBad k = false →
      exec (.laneRetryWaitEnd dt k false) s = .next ((u.urgent (lanePartner k) .legFree).laneConds k))) ∧
  (∀ (s t : State) (dt : Nat) (k : LaneIx), s.tick dt = t → t.lanes[k].ascWait = true → t.lanes[k].onPlan = true →
    t.lanes[k].ascAt + 800 < t.dt →
    exec (.laneAscWaitTimeout dt k) s = .next (t.raise FC.LANE_ASC (.lane k) (laneClass FC.LANE_ASC)))

/-- R213, R263, R266, R267, R274, R278, R279, R287, R288, R295: edges, auxiliary output and capture of a lane. The
first due edge is executed; a measured switching time is stored, saturated, and learned from; a chopper lane reports
its mismatch; an autonomous discharge starts and ends; a capture stops and is copied with its interrupt. -/
def Obligations.LaneEdgesAndCapture : Prop :=
  (∀ (s t : State) (dt : Nat) (k : LaneIx) (env : EdgeEnv), s.tick dt = t →
    (∀ e, t.edgeFirst k env = some e → exec (.laneEdgeExecute dt k env) s = .next (t.edgeRun k env e)) ∧
    (t.edgeFirst k env = none → exec (.laneEdgeExecute dt k env) s = .next (t.planTurnOn k env))) ∧
  (∀ (s t : State) (dt : Nat) (k : LaneIx) (off : Bool) (ts : Nat), s.tick dt = t →
    exec (.laneEdgeComplete dt k ⟨off, some ts⟩) s = .next
      ((t.ownPut k (if off then F.LANE_MEAS_T_OFF else F.LANE_MEAS_T_ON) (min 65535 ts)).learn k off ts) ∧
    exec (.laneEdgeComplete dt k ⟨off, none⟩) s = .next t) ∧
  (∀ (s t : State) (dt ns : Nat) (k : LaneIx) (level : Bool), s.tick dt = t → t.own k F.LANE_PLAN_AUX_MODE = 1 →
    (t.lanes[k].aux ≠ level → 1000 < ns →
      exec (.laneChopMismatch dt ⟨k, level, ns⟩) s = .next (t.upLane k fun l => { l with mismatch := true })) ∧
    ((t.lanes[k].aux = level ∨ ns ≤ 1000) → exec (.laneChopMismatch dt ⟨k, level, ns⟩) s = .next t)) ∧
  (∀ (s t : State) (dt : Nat) (k : LaneIx) (mv : Int), s.tick dt = t → t.own k F.LANE_PLAN_AUX_MODE = 2 →
    t.lanes[k].lastFrameAt + 80000000 ≤ t.now → 50000 < mv → t.lanes[k].auxBlocked = false →
    t.lanes[k].st ≠ .unlinked →
    exec (.laneAutoDischarge dt k mv) s = .next ((t.upLane k fun x => { x with autoDis := true }).auxApply k)) ∧
  (∀ (s t u : State) (dt : Nat) (k : LaneIx) (cause : AutoDisEnd), s.tick dt = t → t.lanes[k].autoDis = true →
    (t.upLane k fun l => { l with autoDis := false, auxBlocked := true }) = u →
    exec (.laneAutoDischargeEnd dt k cause) s = .next
      ((if cause = .selfSupply ∧ u.lanes[k].hvs = true then
        u.upLane k fun l => { l with st := .unlinked, trained := false, clamp := false } else u).auxApply k)) ∧
  (∀ (s t : State) (dt : Nat) (k : LaneIx), s.tick dt = t → t.lanes[k].cap = .post →
    t.capFull k = true →
    exec (.laneCapStop dt k) s = .next (t.upLane k fun l => { l with cap := .stopped })) ∧
  (∀ (s t : State) (dt : Nat) (k : LaneIx), s.tick dt = t → t.lanes[k].cap = .stopped →
    exec (.laneCapCopied dt k) s = .next
      (((t.upLane k fun l => { l with cap := .copied }).flag F.LANE_CAP_STATUS_COPIED k true).irq 11))

/-! ### CAN, Ethernet, Towpath, SENT, auxiliary SPI, the test port -/

/-- R384 to R393: the events of the CAN controllers. A frame that a controller receives while it takes part and that
is no Barge and no setpoint goes to the message buffers, its stamp the DTIME of its start of frame; the pending
frame that wins starts; a transmission ends, well (its counter falls by one, its buffer is done) or in an error (its
counter rises by eight, its buffer fails); past 255 the controller goes bus-off; it recovers; and it joins the bus. -/
def Obligations.CanEvents : Prop :=
  (∀ (s t : State) (dt ago : Nat) (c : Fin 4) (f : CanFrame), f.wf = true → s.tick dt = t → t.canOn c = true →
    t.rd F.CAN_CTRL_MODE c ≠ 2 → t.canRefuse c f = none → (f.fmt = .xl → f.data.length ≤ 256) →
    (t.canRxGood c).canMapped c = false →
    exec (.canRxFrame dt c ago f) s =
      .next ((t.canRxGood c).mbStore c f (BitVec.ofNat 32 (t.dtime.toNat - ago)))) ∧
  (∀ (s t : State) (dt k : Nat) (c : Fin 4), s.tick dt = t → t.canMaySend c = true → t.canChoice c = some k →
    exec (.canTxSelect dt c) s = .next (t.canStart c k)) ∧
  (∀ (s t u v : State) (dt k : Nat) (c : Fin 4), s.tick dt = t → t.cans[c].tx = some k → k < 64 →
    t.wr F.CAN_ECR_TEC c (t.rd F.CAN_ECR_TEC c - 1) = u →
    (u.canMeasure c (t.mbFrame (mbI c k))).canSent c k = v → v.rd F.CAN_CTRL_MODE c ≠ 2 →
    exec (.canTxEnd dt c .ok) s = .next ((v.canIdle c).canConf c)) ∧
  (∀ (s t : State) (dt k n : Nat) (c : Fin 4), s.tick dt = t → t.cans[c].tx = some k → k < 64 →
    exec (.canTxEnd dt c (.error n)) s = .next (((((t.wr F.CAN_ECR_TEC c (min 511 (t.rd F.CAN_ECR_TEC c + 8))).canFailed
      c k)).canIdle c).canConf c)) ∧
  (∀ (s t : State) (dt k : Nat) (c : Fin 4), s.tick dt = t → t.cans[c].tx = some k → k < 64 →
    exec (.canTxEnd dt c .lostArbitration) s = .next (((t.canFailed c k).canIdle c).canConf c)) ∧
  (∀ (s t : State) (dt : Nat) (c : Fin 4), s.tick dt = t → 255 < t.rd F.CAN_ECR_TEC c → t.cans[c].bus = .on →
    exec (.canBusOff dt c) s = .next (t.canBusOff c)) ∧
  (∀ (s t u : State) (dt : Nat) (c : Fin 4), s.tick dt = t → t.cans[c].bus = .recovering →
    (((((t.upCan c fun x => { x with bus := .on }).flag F.CAN_STATUS_SYNC c true).wr F.CAN_ECR_TEC c 0).wr
      F.CAN_ECR_REC c 0).canConf c) = u →
    exec (.canRecoveryDone dt c) s = .next (u.condition FC.CAN_BUSOFF .device ((List.finRange 4).any fun d =>
      u.cans[d].bus == .busOff || u.cans[d].bus == .recovering))) ∧
  (∀ (s t : State) (dt : Nat) (c : Fin 4), s.tick dt = t → t.cans[c].bus = .integrating → t.canUp = true →
    exec (.canIntegrated dt c) s =
      .next (((t.upCan c fun x => { x with bus := .on }).flag F.CAN_STATUS_SYNC c true).canConf c))

/-- R344, R399 to R401, R409: Ethernet and vehicle time. A frame longer than 1,522 bytes is counted and dropped, one of
at least 64 to the device's address raises its interrupt and is served by its type; a synchronisation message sets
the vehicle time and ends `FLT_TIME_SYNC`; the holdover's end raises it; keys are installed; the link goes down and up
with its interrupt and `FLT_ETH_LINK`. -/
def Obligations.EthernetEvents : Prop :=
  (∀ (s t : State) (dt : Nat) (mac : Fin 2) (fr : EthFrame), s.tick dt = t → t.ethOn mac = true →
    1522 < fr.bytes.length →
    exec (.ethFrameRx dt mac fr) s = .next
      ({ t with net := { t.net with rxStamp := t.net.rxStamp.set mac (t.dtime.setWidth 32) } }.evt (E.ETH_DROP mac))) ∧
  (∀ (s t u : State) (dt : Nat) (mac : Fin 2) (fr : EthFrame) (id : Option Nat) (pl : List Byte), s.tick dt = t →
    t.ethOn mac = true → 64 ≤ fr.bytes.length → fr.bytes.length ≤ 1522 →
    { t with net := { t.net with rxStamp := t.net.rxStamp.set mac (t.dtime.setWidth 32) } } = u →
    (macsecRx (u.parBoot (P.eth_macsec mac)) fr.secTag fr.secValid).1 = true →
    ethSplit (fr.bytes.take (fr.bytes.length - 4)) = (id, 0x0806, pl) → u.vlanOk mac id = true →
    fr.bytes.take 6 = Config.macAddr mac →
    exec (.ethFrameRx dt mac fr) s = .next ((u.irq (16 + mac.val)).arpIn mac pl)) ∧
  (∀ (s t u : State) (dt : Nat) (mac : Fin 2) (fr : EthFrame) (id : Option Nat) (pl : List Byte), s.tick dt = t →
    t.ethOn mac = true → 64 ≤ fr.bytes.length → fr.bytes.length ≤ 1522 →
    { t with net := { t.net with rxStamp := t.net.rxStamp.set mac (t.dtime.setWidth 32) } } = u →
    (macsecRx (u.parBoot (P.eth_macsec mac)) fr.secTag fr.secValid).1 = true →
    ethSplit (fr.bytes.take (fr.bytes.length - 4)) = (id, 0x0800, pl) → u.vlanOk mac id = true →
    fr.bytes.take 6 = Config.macAddr mac →
    exec (.ethFrameRx dt mac fr) s = .next ((u.irq (16 + mac.val)).ipIn mac (slice fr.bytes 6 6) pl)) ∧
  (∀ (s t : State) (dt ns : Nat) (mac : Fin 2) (r : Rat), s.tick dt = t → t.ethOn mac = true →
    t.parBoot P.eth_gptp = mac.val →
    exec (.gptpSync dt mac ns r) s = .next ({ t with net := { t.net with
      sync := 1, vehNs := ns, vehAt := t.dtime.toNat, vehRatio := r } }.condition FC.TIME_SYNC .device false)) ∧
  (∀ (s t : State) (dt : Nat), s.tick dt = t → t.net.sync = 1 →
    t.net.vehAt + t.parBoot P.eth_holdover * 400000 ≤ t.dtime.toNat →
    exec (.timeHoldoverEnd dt) s = .next ({ t with net := { t.net with sync := 0 } }.raiseOn FC.TIME_SYNC .device
      (fixedClass FC.TIME_SYNC))) ∧
  (∀ (s t : State) (dt : Nat) (mac : Fin 2), s.tick dt = t → t.running = true →
    exec (.macsecKeyInstall dt mac) s = .next (t.macsecInstall mac)) ∧
  (∀ (s t : State) (dt : Nat) (mac : Fin 2), s.tick dt = t → t.ethOn mac = true →
    exec (.ethLinkChange dt mac false) s = .next (({ t with net := { t.net with
      ethUp := t.net.ethUp.set mac false } }.irq (16 + mac.val)).raiseOn FC.ETH_LINK .device (fixedClass FC.ETH_LINK))) ∧
  (∀ (s t u : State) (dt : Nat) (mac : Fin 2), s.tick dt = t → t.ethOn mac = true →
    ({ t with net := { t.net with ethUp := t.net.ethUp.set mac true } }.irq (16 + mac.val)) = u →
    exec (.ethLinkChange dt mac true) s = .next
      (if u.net.ethUp[1 - mac] = true ∨ u.parBoot (P.eth_enable (1 - mac.val)) ≠ 1 then
        u.condition FC.ETH_LINK .device false else u))

/-- R402 to R408: the Towpath's events on an enabled and trained port. Training; a time mark from upstream, the root's
own mark and the angle reference that the named device sends; an angle reference and a torque share for this device,
forwarded as their address asks; a missing share; a fault symbol; and the loss of the upstream link, which without a crystal takes the clock domains
with it. -/
def Obligations.TowpathEvents : Prop :=
  (∀ (s t : State) (dt : Nat) (up : TowPeer), s.tick dt = t → t.running = true → t.parBoot P.tow_enable = 1 →
    exec (.towTraining dt .up up) s = .next ((t.trainUp up).irq 18) ∧
    exec (.towTraining dt .dn up) s = .next ((t.trainDn up).irq 18)) ∧
  (∀ (s t : State) (dt : Nat) (fr : List Byte), s.tick dt = t → t.running = true → t.towOn .up = true →
    u8 fr 0 = 0 → towAdmitted fr = true → towCheck fr = true → towLen fr = 8 →
    exec (.towTimeMark dt fr) s = .next (t.markTake (leVal (towPayload fr)))) ∧
  (∀ (s t : State) (dt : Nat), s.tick dt = t → t.running = true → t.parBoot P.tow_enable = 1 →
    t.net.towNum = some 0 → t.net.towUp = false → exec (.towRootTimeMark dt) s = .next t.markSend) ∧
  (∀ (s t : State) (dt : Nat), s.tick dt = t → t.running = true → t.parBoot P.tow_enable = 1 →
    t.net.towNum = some (t.parBoot P.tow_angle_src) →
    exec (.towAngleRefSend dt) s = .next (t.towRoute (towFrame 1 0 (t.parBoot P.tow_angle_src) towAll
      (Config.angleRef t.aclks[(0 : Fin 2)].traj.th t.aclks[(0 : Fin 2)].traj.om t.aclks[(0 : Fin 2)].traj.al
        t.aclks[(0 : Fin 2)].traj.t0 t.aclks[(0 : Fin 2)].turn)))) ∧
  (∀ (s t u : State) (dt : Nat) (p : TowPort) (fr : List Byte), s.tick dt = t → t.running = true → t.towOn p = true →
    u8 fr 0 = 1 → towAdmitted fr = true → towCheck fr = true → t.towForward p fr = u → u.towMine fr = true →
    exec (.towAngleRef dt p fr) s = .next (u.angleRefTake (towPayload fr))) ∧
  (∀ (s t u : State) (dt : Nat) (p : TowPort) (fr : List Byte), s.tick dt = t → t.running = true → t.towOn p = true →
    u8 fr 0 = 2 → towAdmitted fr = true → towCheck fr = true → t.towForward p fr = u → u.towMine fr = true →
    u.parBoot P.tow_share_enable = 1 → towLen fr = 16 →
    exec (.towTorqueShare dt p fr) s = .next (u.spApply true (u.parN P.tow_share) (towPayload fr))) ∧
  (∀ (s t u : State) (dt : Nat) (b c : Br), s.tick dt = t → t.lead b = c → t.parBoot P.tow_share_enable = 1 →
    t.bridges[c].shareAt + t.parBoot P.tow_share_timeout * msCounts ≤ t.now → (t.dst b).isDriving = true →
    (t.each (t.group b) fun v d => v.upB d fun x => { x with shareAt := v.now }) = u →
    exec (.towShareTimeout dt b) s = .next
      (((u.takeTorque b 0 t.bridges[b].speedLimit).spPut true b none).raiseF FC.TOW_SHARE (.bridge c))) ∧
  (∀ (s t : State) (dt : Nat) (p : TowPort), s.tick dt = t → t.running = true → t.towOn p = true →
    exec (.towFaultSymbol dt p) s = .next (t.symbolTake p)) ∧
  (∀ (s t u : State) (dt : Nat), s.tick dt = t → t.net.towUp = true →
    ({ t with net := { t.net with towUp := false } }.irq 18).raiseOn FC.TOW_LINK .device (fixedClass FC.TOW_LINK) = u →
    exec (.towUpLost dt) s =
      .next (if u.sys.up[0] then u else u.domainsLost ((List.finRange 6).drop 1))) ∧
  (∀ (s t : State) (dt : Nat) (fr : List Byte), s.tick dt = t → t.running = true → t.towOn .up = true →
    u8 fr 0 = 0 → towAdmitted fr = true → towCheck fr = false →
    exec (.towTimeMark dt fr) s = .next (t.evt E.TOW_CRC))

/-- R409, R410, R415, R417: a SENT frame raises its interrupt and is delivered, or is discarded in error, with
`FLT_SENT_FRAME` unless a position port uses its input; an auxiliary SPI transfer completes with the CRC-8 check of
its bytes, and with its interrupt unless a position port uses it; neither does anything in a device that does not
run. The test port takes up `IDCODE` and `BYPASS` always, another instruction only while a port is open (and, where it
takes over the pins or the core, in `STANDBY`), and in its place `BYPASS`. -/
def Obligations.ServiceEvents : Prop :=
  (∀ (s t u : State) (dt : Nat) (k : Fin 4) (fr : SentFrame) (bad : Bool), fr.wf = true → s.tick dt = t →
    t.running = true → t.sentBad k fr = bad →
    { t with net := { t.net with sent := vupd t.net.sent k fun x =>
      { x with sync := some fr.syncLen, irq := true, bad := bad } } }.irq 19 = u →
    (bad = false → exec (.sentFrame dt k fr) s = .next { u with net := { u.net with sent := vupd u.net.sent k fun x =>
      { x with fast := sentData fr.nibbles, serial := x.shift fr } } }) ∧
    (bad = true → u.sentServes k = true → exec (.sentFrame dt k fr) s = .next u) ∧
    (bad = true → u.sentServes k = false →
      exec (.sentFrame dt k fr) s = .next (u.raiseF FC.SENT_FRAME .device))) ∧
  (∀ (s t : State) (dt : Nat) (k : Fin 4) (fr : SentFrame), fr.wf = true → s.tick dt = t → t.running = false →
    exec (.sentFrame dt k fr) s = .next t) ∧
  (∀ (s : State) (dt : Nat) (k : Fin 4) (fr : SentFrame), fr.wf = false →
    exec (.sentFrame dt k fr) s = .fault .illFormed) ∧
  (∀ (s t u : State) (dt : Nat) (k : Fin 4) (rx : List Byte) (bad : Bool) (x : AuxSpi), s.tick dt = t → t.running = true →
    (match t.net.aspi[k].crcPos with
      | some n => decide (crc8 Config.auxCrc (rx.take n) ≠ byteAt rx n)
      | none => false) = bad →
    { t.net.aspi[k] with busy := false, rx := rx, crcBad := bad } = x →
    { t with net := { t.net with aspi := t.net.aspi.set k x } } = u →
    exec (.auxSpiTransferDone dt k rx) s = .next (if u.aspiServes k then u else u.irq 21)) ∧
  (∀ (s t : State) (dt : Nat) (k : Fin 4) (rx : List Byte), s.tick dt = t → t.running = false →
    exec (.auxSpiTransferDone dt k rx) s = .next t) ∧
  (∀ (s : State) (ir : TapIr),
    (ir = .idcode ∨ (s.trust.dbgOpen = true ∨ s.trust.scanOpen = true) ∧ ((∃ c, ir = .other c) ∨ s.bothStandby = true)) →
    exec (.tapInstruction ir) s = .next { s with net := { s.net with tapIr := ir } }) ∧
  (∀ (s : State) (ir : TapIr), ir ≠ .idcode → s.trust.dbgOpen = false → s.trust.scanOpen = false →
    exec (.tapInstruction ir) s = .next { s with net := { s.net with tapIr := .bypass } }) ∧
  (∀ (s : State) (ir : TapIr), ir ≠ .idcode → (∀ c, ir ≠ .other c) → s.bothStandby = false →
    exec (.tapInstruction ir) s = .next { s with net := { s.net with tapIr := .bypass } })

/-! ### Writes and reads on the control-die bus -/

/-- R52 step 4, R57, R363, R369, R372 to R374: the writes of LOCK and SYS registers with an effect. A write that
reaches its register whole: `LOCK_DONE` completes the response of the Lock it names; `LOCK_CTRL` stores; by the
Lockkeeper `WARM` resets the device after `PILOT_HOLD` took its value, `PILOT_HOLD` holds or releases the cluster,
and `ENTER` begins standby; a block reset runs on the block that the word names, and `open_` says whether a
transaction of it is outstanding. -/
def Obligations.LockAndSystemRegisters : Prop :=
  (∀ (s t : State) (m : Master) (r : RegDef) (v : Word), s.busDone = t → t.Reaches m 1 F.LOCK_DONE_LOCK.addr r v →
    exec (.lockDone m v) s = .next ((t.wrote m F.LOCK_DONE_LOCK.addr r v).lockDone m
      ⟨F.LOCK_DONE_LOCK.get v % 16, Nat.mod_lt _ (by decide)⟩)) ∧
  (∀ (s t : State) (m : Master) (r : RegDef) (v : Word), s.busDone = t → t.Reaches m 1 F.LOCK_CTRL_ENABLE.addr r v →
    exec (.lockCtrlWrite m v) s = .next (t.wrote m F.LOCK_CTRL_ENABLE.addr r v)) ∧
  (∀ (s t : State) (r : RegDef) (v : Word), s.busDone = t → t.Reaches keeper 0 F.SYS_RST_CTRL_WARM.addr r v →
    F.SYS_RST_CTRL_WARM.get v = 1 →
    exec (.deviceWarmReset keeper v) s = .next (((t.wrote keeper F.SYS_RST_CTRL_WARM.addr r v).pilotHoldWrite
      (F.SYS_RST_CTRL_PILOT_HOLD.get v == 1)).warmReset F.SYS_RST_CAUSE_WARM)) ∧
  (∀ (s t : State) (r : RegDef) (v : Word), s.busDone = t → t.Reaches keeper 0 F.SYS_RST_CTRL_PILOT_HOLD.addr r v →
    F.SYS_RST_CTRL_WARM.get v ≠ 1 →
    exec (.pilotHoldWrite keeper v) s = .next ((t.wrote keeper F.SYS_RST_CTRL_PILOT_HOLD.addr r v).pilotHoldWrite
      (F.SYS_RST_CTRL_PILOT_HOLD.get v == 1))) ∧
  (∀ (s t : State) (m : Master) (r : RegDef) (v : Word) (busy : Bool), s.busDone = t →
    t.Reaches m 0 F.SYS_BLK_RST_REQ.addr r v →
    F.SYS_BLK_RST_REQ.get v = 1 →
    exec (.sysBlkRst m v busy) s =
      .next ((t.wrote m F.SYS_BLK_RST_REQ.addr r v).blockReset m (F.SYS_BLK_RST_BLOCK.get v) busy)) ∧
  (∀ (s t : State) (r : RegDef) (v : Word) (wake : Bool), { s with pins := { s.pins with wake := wake } }.busDone = t →
    t.Reaches keeper 0 F.SYS_STANDBY_ENTER.addr r v → F.SYS_STANDBY_ENTER.get v = 1 →
    exec (.sysStandbyEnter keeper v wake) s =
      .next ((t.wrote keeper F.SYS_STANDBY_ENTER.addr r v).standbyEnter))

/-- R94, R303, R304, R317, R318: the writes of the fault unit and of the window watchdog. By the Lockkeeper: the
heartbeat, an acknowledge with its toggle, an injected fault; by any master the watchdog's answer. -/
def Obligations.FaultUnitRegisters : Prop :=
  (∀ (s t : State) (dt : Nat) (r : RegDef) (v : Word), (s.tick dt).busDone = t →
    t.Reaches keeper 10 F.FCR_KEEPER_BEAT.addr r v →
    exec (.keeperBeat dt keeper v) s =
      .next ((t.wrote keeper F.FCR_KEEPER_BEAT.addr r v).beat (F.FCR_KEEPER_BEAT.get v))) ∧
  (∀ (s t : State) (dt : Nat) (r : RegDef) (v : Word), (s.tick dt).busDone = t →
    t.Reaches keeper 10 F.FCR_ACK_ACK.addr r v → F.FCR_ACK_ACK.get v = 1 →
    exec (.fcrAckWrite dt keeper v) s =
      .next ((t.wrote keeper F.FCR_ACK_ACK.addr r v).ackHere (F.FCR_ACK_TOGGLE.get v == 1))) ∧
  (∀ (s t : State) (dt : Nat) (r : RegDef) (v : Word), (s.tick dt).busDone = t →
    t.Reaches keeper 10 F.FCR_INJECT_CODE.addr r v →
    exec (.fcrInject dt keeper v) s = .next ((t.wrote keeper F.FCR_INJECT_CODE.addr r v).inject
      (F.FCR_INJECT_CODE.get v) (F.FCR_INJECT_LOC.get v))) ∧
  (∀ (s t : State) (dt : Nat) (m : Master) (r : RegDef) (v : Word), (s.tick dt).busDone = t →
    t.Reaches m 0 F.SYS_WDG_ANS_VALUE.addr r v →
    exec (.wdgAnswer dt m v) s = .next ((t.wrote m F.SYS_WDG_ANS_VALUE.addr r v).answer v))

/-- R182, R184, R192, R194: the writes of the Flight registers of the bridge that the master's select names. A
current reference is taken; by the Lockkeeper the scheduler is enabled, with the held references or without, or
stopped and cleared, and `HOLD` begins, and ends with a write of 0. -/
def Obligations.FlightRegisters : Prop :=
  (∀ (s t : State) (dt : Nat) (m : Master) (r : RegDef) (v : Word), (s.tick dt).busDone = t →
    t.Reaches m 4 F.FLT_IREF_D_IREF.addr r v →
    exec (.fltIrefWrite dt m false v) s =
      .next ((t.wrote m F.FLT_IREF_D_IREF.addr r v).irefWrite m (t.selFlt m) false v)) ∧
  (∀ (s t : State) (dt : Nat) (m : Master) (r : RegDef) (v : Word), (s.tick dt).busDone = t →
    t.Reaches m 4 F.FLT_IREF_Q_IREF.addr r v →
    exec (.fltIrefWrite dt m true v) s =
      .next ((t.wrote m F.FLT_IREF_Q_IREF.addr r v).irefWrite m (t.selFlt m) true v)) ∧
  (∀ (s t u : State) (dt : Nat) (r : RegDef) (v w : Word), (s.tick dt).busDone = t → F.FLT_CTRL_ENABLE.put v 1 = w →
    t.Reaches keeper 4 F.FLT_CTRL_ENABLE.addr r w → F.FLT_CTRL_HOLD.get w ≠ 1 →
    t.wrote keeper F.FLT_CTRL_ENABLE.addr r w = u → u.bit F.FLT_CTRL_HOLD (t.selFlt keeper) = false →
    F.FLT_CTRL_ENABLE.get w = 1 →
    exec (.fltEnableSet dt keeper v) s = .next (u.flightStart (t.selFlt keeper)
      (!((u.dst (t.selFlt keeper)).isDriving || u.dst (t.selFlt keeper) == .safeStop)))) ∧
  (∀ (s t u : State) (dt : Nat) (r : RegDef) (v w : Word), (s.tick dt).busDone = t → F.FLT_CTRL_ENABLE.put v 0 = w →
    t.Reaches keeper 4 F.FLT_CTRL_ENABLE.addr r w → F.FLT_CTRL_HOLD.get w ≠ 1 →
    t.wrote keeper F.FLT_CTRL_ENABLE.addr r w = u → u.bit F.FLT_CTRL_HOLD (t.selFlt keeper) = false →
    F.FLT_CTRL_ENABLE.get w ≠ 1 →
    exec (.fltEnableClear dt keeper v) s = .next (u.flightClear (t.selFlt keeper))) ∧
  (∀ (s t u : State) (dt : Nat) (r : RegDef) (v : Word), (s.tick dt).busDone = t →
    t.Reaches keeper 4 F.FLT_CTRL_ENABLE.addr r v → F.FLT_CTRL_HOLD.get v = 1 →
    (t.wrote keeper F.FLT_CTRL_ENABLE.addr r v).holdBegin (t.selFlt keeper) = u → F.FLT_CTRL_ENABLE.get v = 1 →
    exec (.fltHoldWrite dt keeper v) s = .next (u.flightStart (t.selFlt keeper)
      (!((u.dst (t.selFlt keeper)).isDriving || u.dst (t.selFlt keeper) == .safeStop)))) ∧
  (∀ (s t u w : State) (dt : Nat) (r : RegDef) (v : Word), (s.tick dt).busDone = t →
    t.Reaches keeper 4 F.FLT_CTRL_ENABLE.addr r v → F.FLT_CTRL_HOLD.get v ≠ 1 →
    t.wrote keeper F.FLT_CTRL_ENABLE.addr r v = u → u.bit F.FLT_CTRL_HOLD (t.selFlt keeper) = true →
    u.holdEnd (t.selFlt keeper) = w →
    (F.FLT_CTRL_ENABLE.get v = 1 → exec (.fltHoldWrite dt keeper v) s = .next (w.flightStart (t.selFlt keeper)
      (!((w.dst (t.selFlt keeper)).isDriving || w.dst (t.selFlt keeper) == .safeStop)))) ∧
    (F.FLT_CTRL_ENABLE.get v ≠ 1 →
      exec (.fltHoldWrite dt keeper v) s = .next (w.flightClear (t.selFlt keeper))))

/-- R200, R219, R222, R226: the writes of the modulation registers of the bridge that the master's select names. A
register with no rule of its own stores, and a value changed while the bridge runs squashes the group; changed
dead-time limits are sent on to the lanes; a commit takes the staged period and duties and marks them pending, and
`OVERWRITE` says that a pair was still waiting; by the Lockkeeper `MODE` 1 begins direct mode, `ARM` 0 clears the
legs and the plan, and sets `RANGE` for the fields of the register that wait for a pause (R15, read as it stands);
`ARM` 1 stores. -/
def Obligations.ModulationRegisters : Prop :=
  (∀ (s t u : State) (dt a : Nat) (m : Master) (off : BitVec 12) (r : RegDef) (v : Word), (s.tick dt).busDone = t →
    0x40030000 + off.toNat = a → a / 4 * 4 = a → t.Reaches m 3 a r v → t.wrote m a r v = u →
    a ≠ F.MOD_CTRL_MODE.addr → a ≠ F.MOD_DEAD_DEAD_MIN.addr → a ≠ F.MOD_COMMIT_COMMIT.addr →
    (runFields.any fun f => f.addr == a && u.rd f (t.selMod m) != t.rd f (t.selMod m)) = false →
    exec (.modFieldWrite dt m off v) s = .next u) ∧
  (∀ (s t u : State) (dt a : Nat) (m : Master) (off : BitVec 12) (r : RegDef) (v : Word), (s.tick dt).busDone = t →
    0x40030000 + off.toNat = a → a / 4 * 4 = a → t.Reaches m 3 a r v → t.wrote m a r v = u →
    a ≠ F.MOD_CTRL_MODE.addr → a ≠ F.MOD_DEAD_DEAD_MIN.addr → a ≠ F.MOD_COMMIT_COMMIT.addr →
    (runFields.any fun f => f.addr == a && u.rd f (t.selMod m) != t.rd f (t.selMod m)) = true →
    exec (.modFieldWrite dt m off v) s = .next (u.squashGroup (t.selMod m) 0 true false true E.SQUASH_SETPOINT)) ∧
  (∀ (s t u : State) (dt : Nat) (m : Master) (off : BitVec 12) (r : RegDef) (v : Word), (s.tick dt).busDone = t →
    0x40030000 + off.toNat = F.MOD_DEAD_DEAD_MIN.addr → t.Reaches m 3 F.MOD_DEAD_DEAD_MIN.addr r v →
    t.wrote m F.MOD_DEAD_DEAD_MIN.addr r v = u →
    u.word F.MOD_DEAD_DEAD_MIN (t.selMod m) ≠ t.word F.MOD_DEAD_DEAD_MIN (t.selMod m) →
    exec (.modFieldWrite dt m off v) s = .next (u.sendAdvance (t.selMod m))) ∧
  (∀ (s t : State) (dt : Nat) (m : Master) (r : RegDef) (v : Word), (s.tick dt).busDone = t →
    t.Reaches m 3 F.MOD_COMMIT_COMMIT.addr r v → F.MOD_COMMIT_COMMIT.get v = 1 →
    exec (.modCommit dt m v) s = .next ((t.wrote m F.MOD_COMMIT_COMMIT.addr r v).modCommit (t.selMod m))) ∧
  (∀ (s t p u : State) (dt : Nat) (b : Br) (r : RegDef) (v : Word), (s.tick dt).busDone = t →
    t.ReachesUnpaused keeper 3 F.MOD_CTRL_MODE.addr r v → t.rangeErr 3 = p →
    t.wroteUnpaused p keeper F.MOD_CTRL_MODE.addr r v = u → p.selMod keeper = b →
    (p.bit F.MOD_CTRL_MODE b = true ∨ u.bit F.MOD_CTRL_MODE b = false) →
    p.bit F.MOD_CTRL_ARM b = true → u.bit F.MOD_CTRL_ARM b = false →
    exec (.modArmWrite dt keeper v) s =
      .next (u.upMod b fun x => { x with legs := ModU.reset.legs, plan := [] })) ∧
  (∀ (s t u : State) (dt : Nat) (b : Br) (r : RegDef) (v : Word), (s.tick dt).busDone = t →
    t.Reaches keeper 3 F.MOD_CTRL_MODE.addr r v → t.wrote keeper F.MOD_CTRL_MODE.addr r v = u →
    t.selMod keeper = b → t.bit F.MOD_CTRL_MODE b = false → u.bit F.MOD_CTRL_MODE b = true →
    t.bit F.MOD_CTRL_ARM b = false →
    exec (.modArmWrite dt keeper v) s = .next (u.directBegin b)) ∧
  (∀ (s t u : State) (dt : Nat) (b : Br) (r : RegDef) (v : Word), (s.tick dt).busDone = t →
    t.Reaches keeper 3 F.MOD_CTRL_MODE.addr r v → t.wrote keeper F.MOD_CTRL_MODE.addr r v = u →
    t.selMod keeper = b → (t.bit F.MOD_CTRL_MODE b = true ∨ u.bit F.MOD_CTRL_MODE b = false) →
    t.bit F.MOD_CTRL_ARM b = false →
    exec (.modArmWrite dt keeper v) s = .next u)

/-- R139, R144, R147: the position registers. Enabling a port re-initialises it; disabling one selects the bridge's
source anew; the turn halves are taken, the high one with the low one before it; a read of the angle answers it and
captures the turns for the master that reads. -/
def Obligations.PositionRegisters : Prop :=
  (∀ (s t u : State) (m : Master) (r : RegDef) (v : Word), s.busDone = t → t.Reaches m 6 F.PORT_CFG_ENABLE.addr r v →
    t.wrote m F.PORT_CFG_ENABLE.addr r v = u → t.portOn (t.selPort m) = false →
    exec (.portCfgWrite m v) s = .next (u.portReinit (t.selPort m))) ∧
  (∀ (s t q u : State) (m : Master) (p : PortIx) (r : RegDef) (v : Word), s.busDone = t →
    t.ReachesUnpaused m 6 F.PORT_CFG_ENABLE.addr r v → t.rangeErr 6 = q →
    t.wroteUnpaused q m F.PORT_CFG_ENABLE.addr r v = u → q.selPort m = p → q.portOn p = true → u.portOn p = false →
    exec (.portCfgWrite m v) s = .next (u.aclkSelect (u.portBr p) false)) ∧
  (∀ (s t : State) (m : Master) (r : RegDef) (v : Word), s.busDone = t →
    t.Reaches m 6 F.PORT_TURN_LO_TURN_LO.addr r v →
    exec (.portTurnLoWrite m v) s = .next ((t.wrote m F.PORT_TURN_LO_TURN_LO.addr r v).upPort (t.selPort m)
      fun x => { x with turnLo := v })) ∧
  (∀ (s t : State) (m : Master) (r : RegDef) (v : Word), s.busDone = t →
    t.Reaches m 6 F.PORT_TURN_HI_TURN_HI.addr r v →
    exec (.portTurnHiWrite m v) s = .next ((t.wrote m F.PORT_TURN_HI_TURN_HI.addr r v).upPort (t.selPort m)
      fun x => { x with turn := (v.setWidth 16 ++ x.turnLo : BitVec 48).toInt })) ∧
  (∀ (s u : State) (m : Master), s.onBus m = true → s.blockUp 6 = true →
    s.upCopy m (fun c => { c with portTurn := s.ports[s.selPort m].turn }) = u →
    exec (.portAngleRead m) s = .next (u.busGive (u.portShown (u.selPort m)))) ∧
  (∀ (s u : State) (m : Master) (b : Br), s.onBus m = true → s.blockUp 6 = true →
    s.upCopy m (fun c => { c with aclkTurn := c.aclkTurn.set b (s.aclkTurn b) }) = u →
    exec (.aclkAngleRead m b) s = .next (u.busGive (u.aclkAngle b)))

/-- R257, R262, R273, R274, R276, R278, R279: the registers of the lane that the master's select names. A write
goes over the link as a register-write frame with the fields that the master wrote; the plan takes effect on this
die at once; a lane in `UNLINKED` takes none. A read of the captured data answers the word at the address and moves
the address on. -/
def Obligations.LaneRegisters : Prop :=
  (∀ (s t : State) (dt : Nat) (m : Master) (r : RegDef) (v : Word), (s.tick dt).busDone = t →
    t.Reaches m 2 F.LANE_CTRL_ARM.addr r v →
    (r.fields.any fun g => (t.writeView m r F.LANE_CTRL_ARM.addr).takes g) = true →
    exec (.laneCtrlArmWrite dt m v) s = .next (t.laneSend (t.selLane m) ⟨F.LANE_CTRL_ARM.addr, 31, 0⟩
      (t.laneWord m F.LANE_CTRL_ARM.addr r false v))) ∧
  (∀ (s t u : State) (dt : Nat) (m : Master) (r : RegDef) (v : Word), (s.tick dt).busDone = t →
    t.Reaches m 2 F.LANE_PLAN_PLAN.addr r v →
    (r.fields.any fun g => (t.writeView m r F.LANE_PLAN_PLAN.addr).takes g) = true →
    t.laneSend (t.selLane m) ⟨F.LANE_PLAN_PLAN.addr, 31, 0⟩ (t.laneWord m F.LANE_PLAN_PLAN.addr r false v) = u →
    exec (.lanePlanWrite dt m v) s = .next ((u.wr F.LANE_PLAN_PLAN (t.selLane m) (F.LANE_PLAN_PLAN.get v)).upLink
      (t.selLane m) fun l => { l with planGiven := true })) ∧
  (∀ (s t : State) (dt : Nat) (m : Master) (r : RegDef) (v : Word), (s.tick dt).busDone = t →
    t.Reaches m 2 F.LANE_CMD_CLEAR.addr r v →
    (r.fields.any fun g => (t.writeView m r F.LANE_CMD_CLEAR.addr).takes g) = true →
    exec (.laneCmdRelease dt m v) s = .next (t.laneSend (t.selLane m) ⟨F.LANE_CMD_CLEAR.addr, 31, 0⟩
      (t.laneWord m F.LANE_CMD_CLEAR.addr r true v)) ∧
    exec (.laneCmdClear dt m v) s = .next (t.laneSend (t.selLane m) ⟨F.LANE_CMD_CLEAR.addr, 31, 0⟩
      (t.laneWord m F.LANE_CMD_CLEAR.addr r true v))) ∧
  (∀ (s t : State) (dt : Nat) (m : Master) (r : RegDef) (v : Word), (s.tick dt).busDone = t →
    t.Reaches m 2 F.LANE_CAP_CTRL_ARM.addr r v →
    (r.fields.any fun g => (t.writeView m r F.LANE_CAP_CTRL_ARM.addr).takes g) = true →
    exec (.laneCapArm dt m v) s = .next (t.laneSend (t.selLane m) ⟨F.LANE_CAP_CTRL_ARM.addr, 31, 0⟩
      (t.laneWord m F.LANE_CAP_CTRL_ARM.addr r false v)) ∧
    exec (.laneCapFire dt m v) s = .next (t.laneSend (t.selLane m) ⟨F.LANE_CAP_CTRL_ARM.addr, 31, 0⟩
      (t.laneWord m F.LANE_CAP_CTRL_ARM.addr r false v))) ∧
  (∀ (s : State) (m : Master), s.onBus m = true → s.blockUp 2 = true →
    exec (.laneCapDataRead m) s = .next (s.capRead (s.selLane m)))

/-- R345, R346, R349, R385, R387, R389, R391, R392: the memory controller and the CAN controllers. A data word is
programmed at the master's address; by the Lockkeeper a slot's word is cleared or given its generation; a message
buffer is released, cancelled and requested, in this order where one word does several; the controller of the
master's select initialises and recovers. -/
def Obligations.NvmAndCanRegisters : Prop :=
  (∀ (s t : State) (dt : Nat) (m : Master) (r : RegDef) (v : Word), (s.tick dt).busDone = t →
    t.Reaches m 11 F.NVMC_DATA_DATA.addr r v →
    exec (.nvmcDataWrite dt m v) s = .next ((t.wrote m F.NVMC_DATA_DATA.addr r v).nvmData m v)) ∧
  (∀ (s t : State) (dt : Nat) (r : RegDef) (v : Word), (s.tick dt).busDone = t →
    t.Reaches keeper 11 F.NVMC_COMMIT_GO.addr r v →
    exec (.nvmcInvalidate dt keeper v) s = .next ((t.wrote keeper F.NVMC_COMMIT_GO.addr r v).nvmCommit v) ∧
    exec (.nvmcGo dt keeper v) s = .next ((t.wrote keeper F.NVMC_COMMIT_GO.addr r v).nvmCommit v)) ∧
  (∀ (s t u : State) (dt mb : Nat) (m : Master) (r : RegDef) (v : Word), (s.tick dt).busDone = t →
    t.Reaches m 7 F.MB_CMD_REQ.addr r v → t.wrote m F.MB_CMD_REQ.addr r v = u → t.busInst m r.win % 64 = mb →
    F.MB_CMD_REQ.get v = 1 → F.MB_CMD_CANCEL.get v ≠ 1 → F.MB_CMD_RELEASE.get v ≠ 1 →
    exec (.mbReq dt m v) s = .next (u.mbReq (t.selCan m) mb)) ∧
  (∀ (s t u : State) (dt mb : Nat) (m : Master) (r : RegDef) (v : Word), (s.tick dt).busDone = t →
    t.Reaches m 7 F.MB_CMD_REQ.addr r v → t.wrote m F.MB_CMD_REQ.addr r v = u → t.busInst m r.win % 64 = mb →
    F.MB_CMD_REQ.get v ≠ 1 → F.MB_CMD_CANCEL.get v = 1 → F.MB_CMD_RELEASE.get v ≠ 1 →
    exec (.mbCancel dt m v) s = .next (u.mbCancel (t.selCan m) mb)) ∧
  (∀ (s t u : State) (dt mb : Nat) (m : Master) (r : RegDef) (v : Word), (s.tick dt).busDone = t →
    t.Reaches m 7 F.MB_CMD_REQ.addr r v → t.wrote m F.MB_CMD_REQ.addr r v = u → t.busInst m r.win % 64 = mb →
    F.MB_CMD_REQ.get v ≠ 1 → F.MB_CMD_CANCEL.get v ≠ 1 → F.MB_CMD_RELEASE.get v = 1 →
    exec (.mbRelease dt m v) s = .next (u.mbRelease (t.selCan m) mb)) ∧
  (∀ (s t u : State) (dt : Nat) (m : Master) (r : RegDef) (v : Word), (s.tick dt).busDone = t →
    t.Reaches m 7 F.CAN_CTRL_INIT.addr r v → t.wrote m F.CAN_CTRL_INIT.addr r v = u →
    (F.CAN_CTRL_INIT.get v == 1) = t.bit F.CAN_CTRL_INIT (t.selCan m) → F.CAN_CTRL_RECOVER.get v = 1 →
    exec (.canRecoverWrite dt m v) s = .next (u.canRecover (t.selCan m))) ∧
  (∀ (s t u : State) (dt : Nat) (m : Master) (r : RegDef) (v : Word), (s.tick dt).busDone = t →
    t.Reaches m 7 F.CAN_CTRL_INIT.addr r v → t.wrote m F.CAN_CTRL_INIT.addr r v = u →
    (F.CAN_CTRL_INIT.get v == 1) ≠ t.bit F.CAN_CTRL_INIT (t.selCan m) → F.CAN_CTRL_RECOVER.get v ≠ 1 →
    exec (.canInitWrite dt m v) s = .next (u.canInit (t.selCan m) (F.CAN_CTRL_INIT.get v == 1)))

/-- R420 to R430: the check-value units and the event counters of the master's selects. `START` takes polynomial,
initial value and context; data fold into the value; the value is loaded; `CLEAR`, a new source and a snapshot act on
the counters; the low words answer and capture the high ones for the master. -/
def Obligations.CheckAndCounterRegisters : Prop :=
  (∀ (s t : State) (m : Master) (r : RegDef) (v : Word), s.busDone = t → t.Reaches m 8 F.CRC_START_START.addr r v →
    F.CRC_START_START.get v = 1 →
    exec (.crcStart m v) s = .next ((t.wrote m F.CRC_START_START.addr r v).crcStart (t.selCrc m))) ∧
  (∀ (s t : State) (m : Master) (r : RegDef) (v : Word) (size : AccSize), s.busDone = t →
    t.Reaches m 8 F.CRC_DATA_DATA.addr r v →
    exec (.crcData m v size) s = .next ((t.wrote m F.CRC_DATA_DATA.addr r v).crcData (t.selCrc m) size v)) ∧
  (∀ (s t : State) (m : Master) (r : RegDef) (v : Word), s.busDone = t → t.Reaches m 8 F.CRC_VAL_LO_VALUE.addr r v →
    exec (.crcValWrite m false v) s = .next ((t.wrote m F.CRC_VAL_LO_VALUE.addr r v).crcLoad (t.selCrc m) false v)) ∧
  (∀ (s t : State) (m : Master) (r : RegDef) (v : Word), s.busDone = t → t.Reaches m 8 F.CRC_VAL_HI_VALUE.addr r v →
    exec (.crcValWrite m true v) s = .next ((t.wrote m F.CRC_VAL_HI_VALUE.addr r v).crcLoad (t.selCrc m) true v)) ∧
  (∀ (s u : State) (m : Master), s.onBus m = true → s.blockUp 8 = true →
    s.upCopy m (fun c => { c with crcHi := (s.crcs[s.selCrc m].value >>> 32).setWidth 32 }) = u →
    exec (.crcValRead m false) s = .next (u.busGive (u.crcs[u.selCrc m].value.setWidth 32))) ∧
  (∀ (s u : State) (m : Master), s.onBus m = true → s.blockUp 8 = true →
    s.upCopy m (fun c => { c with crcHi := (s.crcResult (s.selCrc m) >>> 32).setWidth 32 }) = u →
    exec (.crcValRead m true) s = .next (u.busGive ((u.crcResult (u.selCrc m)).setWidth 32))) ∧
  (∀ (s t : State) (m : Master) (r : RegDef) (v : Word), s.busDone = t → t.Reaches m 9 F.CNT_CMD_CLEAR.addr r v →
    F.CNT_CMD_CLEAR.get v = 1 →
    exec (.cntClear m v) s = .next (((t.wrote m F.CNT_CMD_CLEAR.addr r v).cntClear (t.selCnt m)).evcLevel)) ∧
  (∀ (s t : State) (m : Master) (r : RegDef) (v : Word), s.busDone = t → t.Reaches m 9 F.CNT_CFG_SRC.addr r v →
    exec (.cntCfgWrite m v) s = .next (((t.wrote m F.CNT_CFG_SRC.addr r v).cntSetup (t.selCnt m)
      (F.CNT_CFG_SRC.get v) (F.CNT_CFG_FREEZE.get v == 1)).evcLevel)) ∧
  (∀ (s t : State) (m : Master) (r : RegDef) (v : Word), s.busDone = t → t.Reaches m 9 F.EVC_SNAP_SNAP.addr r v →
    F.EVC_SNAP_SNAP.get v = 1 →
    exec (.evcSnap m v) s = .next ((t.wrote m F.EVC_SNAP_SNAP.addr r v).evcSnapshot.evcLevel)) ∧
  (∀ (s u : State) (m : Master), s.onBus m = true → s.blockUp 9 = true →
    s.upCopy m (fun c => { c with cntHi := s.cntHigh (s.selCnt m) false }) = u →
    exec (.cntValRead m false) s = .next (u.busGive (BitVec.ofNat 32 (u.cnts[u.selCnt m].value % 4294967296)))) ∧
  (∀ (s u : State) (m : Master), s.onBus m = true → s.blockUp 9 = true →
    s.upCopy m (fun c => { c with cntHi := s.cntHigh (s.selCnt m) true }) = u →
    exec (.cntValRead m true) s = .next (u.busGive (BitVec.ofNat 32 (u.cnts[u.selCnt m].snap % 4294967296))))

/-- R12 to R16, R18, R37, R38: any access of a running device. A write to an addressed memory stores its word and
completes without error; an access that R37 does not permit, or one of the closed debug port, is not performed and
ends in a bus error, the fault unit taking the master and the address, with `FLT_BUS_DECODE`; a value out of range is
ignored whole with the block's `RANGE`; a write to a guarded field by another master than the Lockkeeper raises
`FLT_GUARD_WRITE`. A link window takes its select, a number beyond the last instance being ignored with its `RANGE`;
it refuses by name a write of the registers that the spec does not lay out, and a read of one answers a free word. A
read outside the map answers 0 and a bus error, one in a memory its word. -/
def Obligations.AnyAccess : Prop :=
  (∀ (s t : State) (dt : Nat) (m : Master) (a v : Word), (s.tick dt).busDone = t → t.onBus m = true →
    a.toNat / 4 * 4 = a.toNat → regionOf a.toNat = .pilotSram ∨ regionOf a.toNat = .retained →
    exec (.registerWrite dt m a v) s = .next (t.setMemW a.toNat v)) ∧
  (∀ (s t : State) (dt : Nat) (m : Master) (a v : Word), s.tick dt = t → t.running = true →
    (t.portOpen m = false ∨ mayWrite m (a.toNat / 4 * 4) (regionOf (a.toNat / 4 * 4)) = false) →
    exec (.registerWrite dt m a v) s = .next ({ t with
      bus := ⟨0, true⟩, fcr := { t.fcr with decode := some (m, a.toNat) } }.raiseF FC.BUS_DECODE .device)) ∧
  (∀ (s t : State) (dt k : Nat) (m : Master) (a v : Word) (r : RegDef), (s.tick dt).busDone = t → t.onBus m = true →
    a.toNat / 4 * 4 = a.toNat → regionOf a.toNat = .regs k → mayWrite m a.toNat (.regs k) = true →
    t.blockUp k = true → k ≠ 1 → k ≠ 7 → regFind k a.toNat = some r → (t.writeView m r a.toNat).guards = false →
    t.writeLegal (t.writeView m r a.toNat) v = false →
    exec (.registerWrite dt m a v) s = .next (t.rangeErr k)) ∧
  (∀ (s t u : State) (dt k : Nat) (m : Master) (a v : Word) (r : RegDef), (s.tick dt).busDone = t →
    t.onBus m = true → a.toNat / 4 * 4 = a.toNat → regionOf a.toNat = .regs k → mayWrite m a.toNat (.regs k) = true →
    t.blockUp k = true → k ≠ 1 → k ≠ 7 → regFind k a.toNat = some r → (t.writeView m r a.toNat).guards = true →
    t.raiseF FC.GUARD_WRITE .device = u → u.writeLegal (t.writeView m r a.toNat) v = false →
    exec (.registerWrite dt m a v) s = .next (u.rangeErr k)) ∧
  (∀ (s t : State) (dt : Nat) (k : Fin 4) (m : Master) (a v : Word), (s.tick dt).busDone = t → t.onBus m = true →
    a.toNat = 0x400C0000 + 4096 * k.val →
    (v.toNat ≤ linkLast k → exec (.registerWrite dt m a v) s = .next (t.setWord ⟨a.toNat, 31, 0⟩ m v)) ∧
    (linkLast k < v.toNat → exec (.registerWrite dt m a v) s =
      .next { t with net := { t.net with linkRange := t.net.linkRange.set k true } })) ∧
  (∀ (s t : State) (dt k : Nat) (m : Master) (a v : Word), s.tick dt = t → t.onBus m = true →
    regionOf (a.toNat / 4 * 4) = .linkWin k → a.toNat / 4 * 4 % 4096 ≠ 0 →
    exec (.registerWrite dt m a v) s = .refused .linkWindow) ∧
  (∀ (s t : State) (dt : Nat) (m : Master) (a : Word), s.tick dt = t → t.running = true →
    (t.portOpen m = false ∨ mayRead m (regionOf (a.toNat / 4 * 4)) = false) →
    regionOf (a.toNat / 4 * 4) ≠ .nvm →
    exec (.busReadError dt m a) s = .next ({ t with
      bus := ⟨0, true⟩, fcr := { t.fcr with decode := some (m, a.toNat) } }.raiseF FC.BUS_DECODE .device)) ∧
  (∀ (s t : State) (dt : Nat) (m : Master) (a : Word), s.tick dt = t → t.onBus m = true →
    regionOf (a.toNat / 4 * 4) = .pilotSram ∨ regionOf (a.toNat / 4 * 4) = .retained →
    exec (.busReadError dt m a) s = .next { t with bus := ⟨t.memW (a.toNat / 4 * 4), false⟩ }) ∧
  (∀ (s t : State) (dt k : Nat) (m : Master) (a : Word), s.tick dt = t → t.onBus m = true →
    regionOf (a.toNat / 4 * 4) = .linkWin k → a.toNat / 4 * 4 % 4096 ≠ 0 →
    ∃ w : Word, exec (.busReadError dt m a) s = .next (t.spend.busGive w)) ∧
  (∀ (s t : State) (dt : Nat) (m : Master) (a : Word), s.tick dt = t → t.onBus m = true →
    regionOf (a.toNat / 4 * 4) = .nvm →
    exec (.busReadError dt m a) s = .next (t.eccRead m a.toNat))

/-! ### The whole block -/

/-- The state after reset is sound, with no command waiting; R427: every counter is in its reset state, count 0, no
`SAT`, snapshot 0, source 0 and no freeze; no Lock is claimed (R52); no fault is latched. That a register without a
stated reset value holds 0 is the model's choice (log entry 2) and no clause here. -/
def Obligations.ResetState : Prop :=
  State.reset.Wf ∧ State.reset.pending = [] ∧
  (∀ k : Fin 32, State.reset.cnts[k] = Counter.reset ∧ State.reset.rd F.CNT_CFG_SRC k.val = 0 ∧
    State.reset.bit F.CNT_CFG_FREEZE k.val = false) ∧
  (∀ lk : Lk, State.reset.locks[lk].gate = .empty ∧ State.reset.locks[lk].owner = none) ∧
  State.reset.fcr.latched = []

/-- A command whose operands no wire can carry is an ill-formed command, and the block stops on it by name. -/
def Obligations.IllFormedStops : Prop :=
  (∀ (s : State) (dt ago : Nat) (c : Fin 4) (f : CanFrame), f.wf = false →
    exec (.canRxFrame dt c ago f) s = .fault .illFormed) ∧
  (∀ (s : State) (c : Fin 4) (f : CanFrame), f.wf = false →
    exec (.canXlBarge c f) s = .fault .illFormed) ∧
  (∀ (s : State) (dt : Nat) (c : Fin 4) (f : CanFrame), f.wf = false →
    exec (.canFdSegment dt c f) s = .fault .illFormed) ∧
  (∀ (s : State) (dt : Nat) (c : Fin 4) (f : CanFrame), f.wf = false →
    exec (.directSetpointFrame dt c f) s = .fault .illFormed)

/-- Every step keeps a state sound: the registers, the memory, both parameter sets and the chambers stay in their
canonical form, and no counter passes 2^48 − 1 (R427). -/
def Obligations.StepKeepsSound : Prop :=
  ∀ s t : State, s.Wf → step s = .next t → t.Wf

/-- R427: a counter whose source occurs `n` times counts them all up to 2^48 − 1, where it stands and sets `SAT`;
a counter of another source, or a frozen one, keeps its value. -/
def Obligations.CountersSaturate : Prop :=
  ∀ (s : State) (code n : Nat) (k : Fin 32), s.cnts[k].wf = true →
    (s.evtN code n).cnts[k].value =
      (if s.counts k code then min (s.cnts[k].value + n) (2 ^ 48 - 1) else s.cnts[k].value) ∧
    ((s.evtN code n).cnts[k].sat = (s.cnts[k].sat || (s.counts k code && decide (2 ^ 48 - 1 < s.cnts[k].value + n)))) ∧
    (s.evtN code n).cnts[k].snap = s.cnts[k].snap

/-- R74, R75: a command of fixed payload length whose payload has another length is answered `LENGTH` with no
payload, before any other check, and changes nothing but the chamber. -/
def Obligations.WrongLengthIsAnswered : Prop :=
  ∀ (s : State) (lk : Lk) (c : Instr) (code len : Nat), (c, code, len) ∈ ([
      (.sysStatus lk, 0x0101, 0), (.sysTime lk, 0x0102, 0), (.standbyEnter lk, 0x0103, 0),
      (.driveStart lk, 0x0201, 4), (.driveStop lk, 0x0202, 4), (.torqueSet lk, 0x0203, 12),
      (.speedSet lk, 0x0204, 12), (.currentSet lk, 0x0205, 12), (.driveStatus lk, 0x0206, 4),
      (.prechargeStart lk, 0x0207, 4), (.driveShutdown lk, 0x0208, 4), (.dischargeStart lk, 0x0209, 4),
      (.posStatus lk, 0x0301, 4), (.posSourceSet lk, 0x0302, 4), (.posAlign lk, 0x0303, 8),
      (.turnsSet lk, 0x0304, 8), (.safetyStatus lk, 0x0901, 0), (.safetyConfirm lk, 0x0902, 4),
      (.faultAck lk, 0x0903, 4), (.laneClear lk, 0x0904, 4), (.safeStopReq lk, 0x0905, 4),
      (.faultList lk, 0x0906, 4), (.paramStore lk, 0x0B03, 4), (.paramCheck lk, 0x0B04, 0),
      (.storeStatus lk, 0x0B05, 0), (.paramDefaults lk, 0x0B06, 0), (.paramRevert lk, 0x0B07, 0),
      (.recList lk, 0x0B10, 4), (.recRead lk, 0x0B11, 8), (.recTrigger lk, 0x0B12, 0), (.recPin lk, 0x0B13, 4),
      (.cntRead lk, 0x0B14, 4), (.cntConfig lk, 0x0B15, 4), (.fwVerify lk, 0x0D03, 0),
      (.fwStatus lk, 0x0D04, 0), (.fwActivate lk, 0x0D05, 0), (.pilotRestart lk, 0x0D06, 0),
      (.fwAbort lk, 0x0D07, 0), (.deviceIdent lk, 0x0E00, 0), (.lcStatus lk, 0x0E01, 0),
      (.authChallenge lk, 0x0E02, 0), (.deviceReset lk, 0x0E05, 0)] : List (Instr × Nat × Nat)) →
    s.Serves lk code → (s.payload lk).length ≠ len →
    exec c s = .next (s.answered lk ST.LENGTH [])

/-- A step with a command at the front of the queue is that command's execution on the state with the queue's
rest. With no command waiting one DTIME count passes: that clause is the model's choice (DESIGN CHOICE, log entry
24), since the command table has no row for a tick. -/
def Obligations.StepRunsFront : Prop :=
  (∀ (s : State) (c : Instr) (rest : List Instr), s.pending = c :: rest → step s = exec c { s with pending := rest }) ∧
  (∀ s : State, s.pending = [] → step s = .next (s.tick 1))

/-- From a sound state a step takes one command from the front of the queue and leaves the rest as it was: no
command adds, drops or reorders a waiting one. And no step turns the block's clock back. -/
def Obligations.StepTakesOneCommandInTime : Prop :=
  ∀ s t : State, s.Wf → step s = .next t → t.pending = s.pending.tail ∧ s.now ≤ t.now

/-- R47, R93, R100: the codes of the drive states in a response, 0xFF for a bridge that is not configured; of the
reaction classes; of the life-cycle states. -/
def Obligations.EncodedNames : Prop :=
  (∀ (s : State) (b : Br), s.configured b = false → s.stCode b = 0xFF) ∧
  (∀ (s : State) (b : Br), s.configured b = true → s.stCode b =
    match s.dst b with
    | .standby => 0x00 | .boot => 0x01 | .safeHold => 0x02 | .precharge => 0x03 | .ready => 0x04 | .catching => 0x05
    | .run => 0x06 | .degraded => 0x07 | .safeStop => 0x08 | .fault => 0x09 | .discharge => 0x0A) ∧
  (clsCode .none = 0 ∧ clsCode .report = 1 ∧ clsCode .degrade = 2 ∧ clsCode .legOff = 3 ∧ clsCode .bridgeSafe = 4 ∧
    clsCode .allSafe = 5 ∧ clsCode .resetWarm = 6 ∧ clsCode .hold = 7 ∧ ∀ c : RClass, clsOf (clsCode c) = c) ∧
  (lifeCode .manufacture = 0 ∧ lifeCode .provisioned = 1 ∧ lifeCode .opened = 2 ∧ lifeCode .sealed = 3 ∧
    lifeCode .returned = 4 ∧ lifeCode .scrapped = 5)

/-- R193: while the modulation unit of a bridge is in direct modulation mode, a write of 1 to that bridge's
`FLT_CTRL.ENABLE` is ignored, the bit keeping its value, and sets `FLT_ERR.RANGE`. The write is the Lockkeeper's,
the one master whose writes of the guarded field count (R14); what the word says in `HOLD` takes effect first. -/
def Obligations.DirectModeBarsEnable : Prop :=
  ∀ (s t x u : State) (dt : Nat) (b : Br) (r : RegDef) (v w : Word), (s.tick dt).busDone = t →
    t.Wf → F.FLT_CTRL_ENABLE.put v 1 = w → t.Reaches keeper 4 F.FLT_CTRL_ENABLE.addr r w → t.selFlt keeper = b →
    t.wrote keeper F.FLT_CTRL_ENABLE.addr r w = x →
    (if F.FLT_CTRL_HOLD.get w = 1 then x.holdBegin b
      else if x.bit F.FLT_CTRL_HOLD b then x.holdEnd b else x) = u →
    u.bit F.MOD_CTRL_MODE b = true →
    exec (.fltEnableSet dt keeper v) s = .next (u.flag F.FLT_ERR_RANGE 0 true) ∧
    x.bit F.FLT_CTRL_ENABLE b = t.bit F.FLT_CTRL_ENABLE b

/-- R61: when an SPI port has claimed a Lock and `lock.claim_timeout` has run out before it submitted, the Lock
returns to `EMPTY`, unclaimed, and its contents are discarded; every other Lock stays as it is. -/
def Obligations.ClaimTimeoutEmptiesTheLock : Prop :=
  ∀ (s t : State) (dt : Nat) (k : Lk) (port : Fin 2), s.tick dt = t → t.locks[k].gate = .empty →
    t.locks[k].owner = some (.spi port) →
    t.locks[k].claimedAt + t.parN P.lock_claim_timeout * msCounts ≤ t.now →
    ∃ u, exec (.lockClaimTimeout dt k) s = .next u ∧ u.locks[k].gate = .empty ∧ u.locks[k].owner = none ∧
      u.locks[k].buf = [] ∧ u.locks[k].got = 0 ∧ (∀ j : Lk, j ≠ k → u.locks[j] = t.locks[j]) ∧
      u = { t with locks := u.locks }

/-- In a sound state a stored word or byte reads back, and every other one reads as before: the registers by
instance and address, the addressed memories byte by byte, and a word of memory whole. -/
def Obligations.StorageReadsBack : Prop :=
  (∀ (s : State) (f g : Fld) (i j : Nat) (w : Word), s.Wf → f.addr < 2 ^ 32 → g.addr < 2 ^ 32 →
    (s.setWord f i w).word g j = if i = j ∧ f.addr = g.addr then w else s.word g j) ∧
  (∀ (s : State) (a c : Nat) (x : Byte), s.Wf → (s.setMemB a x).memB c = if c = a then x else s.memB c) ∧
  (∀ (s : State) (a : Nat) (w : Word), s.Wf → (s.setMemW a w).memW a = w) ∧
  (∀ (s : State) (a c : Nat) (w : Word), s.Wf → (c < a ∨ a + 4 ≤ c) → (s.setMemW a w).memB c = s.memB c)
end

