-- ==== Sys2Proof/Laws/State.lean ====
section
/-! SUPPORT. What each named update of the state leaves alone, one law per field and update, so that no proof
unfolds a record update; and what an indexed update does at its own index and at the others. -/

namespace Sys2Proof.Machine

/-! ## Indexed updates -/

@[simp] theorem vupd_self {α : Type} {n : Nat} (v : Vector α n) (i : Fin n) (f : α → α) :
    (vupd v i f)[i] = f v[i] := by simp [vupd]

theorem vupd_other {α : Type} {n : Nat} (v : Vector α n) (i j : Fin n) (f : α → α) (h : i ≠ j) :
    (vupd v i f)[j] = v[j] := by
  have : i.val ≠ j.val := fun e => h (Fin.ext e)
  simp [vupd, this]

/-! ## `State.upB` -/

@[simp] theorem State.upB_pending (s : State) (b : Br) (f : Bridge → Bridge) : (s.upB b f).pending = s.pending := rfl
@[simp] theorem State.upB_now (s : State) (b : Br) (f : Bridge → Bridge) : (s.upB b f).now = s.now := rfl
@[simp] theorem State.upB_dtime (s : State) (b : Br) (f : Bridge → Bridge) : (s.upB b f).dtime = s.dtime := rfl
@[simp] theorem State.upB_regs (s : State) (b : Br) (f : Bridge → Bridge) : (s.upB b f).regs = s.regs := rfl
@[simp] theorem State.upB_mem (s : State) (b : Br) (f : Bridge → Bridge) : (s.upB b f).mem = s.mem := rfl
@[simp] theorem State.upB_params (s : State) (b : Br) (f : Bridge → Bridge) : (s.upB b f).params = s.params := rfl
@[simp] theorem State.upB_locks (s : State) (b : Br) (f : Bridge → Bridge) : (s.upB b f).locks = s.locks := rfl
@[simp] theorem State.upB_lockTie (s : State) (b : Br) (f : Bridge → Bridge) : (s.upB b f).lockTie = s.lockTie := rfl
@[simp] theorem State.upB_spi (s : State) (b : Br) (f : Bridge → Bridge) : (s.upB b f).spi = s.spi := rfl
@[simp] theorem State.upB_flights (s : State) (b : Br) (f : Bridge → Bridge) : (s.upB b f).flights = s.flights := rfl
@[simp] theorem State.upB_mods (s : State) (b : Br) (f : Bridge → Bridge) : (s.upB b f).mods = s.mods := rfl
@[simp] theorem State.upB_ports (s : State) (b : Br) (f : Bridge → Bridge) : (s.upB b f).ports = s.ports := rfl
@[simp] theorem State.upB_aclks (s : State) (b : Br) (f : Bridge → Bridge) : (s.upB b f).aclks = s.aclks := rfl
@[simp] theorem State.upB_convs (s : State) (b : Br) (f : Bridge → Bridge) : (s.upB b f).convs = s.convs := rfl
@[simp] theorem State.upB_lanes (s : State) (b : Br) (f : Bridge → Bridge) : (s.upB b f).lanes = s.lanes := rfl
@[simp] theorem State.upB_links (s : State) (b : Br) (f : Bridge → Bridge) : (s.upB b f).links = s.links := rfl
@[simp] theorem State.upB_trips (s : State) (b : Br) (f : Bridge → Bridge) : (s.upB b f).trips = s.trips := rfl
@[simp] theorem State.upB_fcr (s : State) (b : Br) (f : Bridge → Bridge) : (s.upB b f).fcr = s.fcr := rfl
@[simp] theorem State.upB_sto (s : State) (b : Br) (f : Bridge → Bridge) : (s.upB b f).sto = s.sto := rfl
@[simp] theorem State.upB_dcl (s : State) (b : Br) (f : Bridge → Bridge) : (s.upB b f).dcl = s.dcl := rfl
@[simp] theorem State.upB_pilot (s : State) (b : Br) (f : Bridge → Bridge) : (s.upB b f).pilot = s.pilot := rfl
@[simp] theorem State.upB_trust (s : State) (b : Br) (f : Bridge → Bridge) : (s.upB b f).trust = s.trust := rfl
@[simp] theorem State.upB_recd (s : State) (b : Br) (f : Bridge → Bridge) : (s.upB b f).recd = s.recd := rfl
@[simp] theorem State.upB_sys (s : State) (b : Br) (f : Bridge → Bridge) : (s.upB b f).sys = s.sys := rfl
@[simp] theorem State.upB_cans (s : State) (b : Br) (f : Bridge → Bridge) : (s.upB b f).cans = s.cans := rfl
@[simp] theorem State.upB_crcs (s : State) (b : Br) (f : Bridge → Bridge) : (s.upB b f).crcs = s.crcs := rfl
@[simp] theorem State.upB_cnts (s : State) (b : Br) (f : Bridge → Bridge) : (s.upB b f).cnts = s.cnts := rfl
@[simp] theorem State.upB_copies (s : State) (b : Br) (f : Bridge → Bridge) : (s.upB b f).copies = s.copies := rfl
@[simp] theorem State.upB_net (s : State) (b : Br) (f : Bridge → Bridge) : (s.upB b f).net = s.net := rfl
@[simp] theorem State.upB_pins (s : State) (b : Br) (f : Bridge → Bridge) : (s.upB b f).pins = s.pins := rfl
@[simp] theorem State.upB_bus (s : State) (b : Br) (f : Bridge → Bridge) : (s.upB b f).bus = s.bus := rfl
@[simp] theorem State.upB_free (s : State) (b : Br) (f : Bridge → Bridge) : (s.upB b f).free = s.free := rfl
@[simp] theorem State.upB_bridges (s : State) (b : Br) (f : Bridge → Bridge) : (s.upB b f).bridges = vupd s.bridges b f := rfl

/-! ## `State.upFl` -/

@[simp] theorem State.upFl_pending (s : State) (b : Br) (f : Flight → Flight) : (s.upFl b f).pending = s.pending := rfl
@[simp] theorem State.upFl_now (s : State) (b : Br) (f : Flight → Flight) : (s.upFl b f).now = s.now := rfl
@[simp] theorem State.upFl_dtime (s : State) (b : Br) (f : Flight → Flight) : (s.upFl b f).dtime = s.dtime := rfl
@[simp] theorem State.upFl_regs (s : State) (b : Br) (f : Flight → Flight) : (s.upFl b f).regs = s.regs := rfl
@[simp] theorem State.upFl_mem (s : State) (b : Br) (f : Flight → Flight) : (s.upFl b f).mem = s.mem := rfl
@[simp] theorem State.upFl_params (s : State) (b : Br) (f : Flight → Flight) : (s.upFl b f).params = s.params := rfl
@[simp] theorem State.upFl_locks (s : State) (b : Br) (f : Flight → Flight) : (s.upFl b f).locks = s.locks := rfl
@[simp] theorem State.upFl_lockTie (s : State) (b : Br) (f : Flight → Flight) : (s.upFl b f).lockTie = s.lockTie := rfl
@[simp] theorem State.upFl_spi (s : State) (b : Br) (f : Flight → Flight) : (s.upFl b f).spi = s.spi := rfl
@[simp] theorem State.upFl_bridges (s : State) (b : Br) (f : Flight → Flight) : (s.upFl b f).bridges = s.bridges := rfl
@[simp] theorem State.upFl_mods (s : State) (b : Br) (f : Flight → Flight) : (s.upFl b f).mods = s.mods := rfl
@[simp] theorem State.upFl_ports (s : State) (b : Br) (f : Flight → Flight) : (s.upFl b f).ports = s.ports := rfl
@[simp] theorem State.upFl_aclks (s : State) (b : Br) (f : Flight → Flight) : (s.upFl b f).aclks = s.aclks := rfl
@[simp] theorem State.upFl_convs (s : State) (b : Br) (f : Flight → Flight) : (s.upFl b f).convs = s.convs := rfl
@[simp] theorem State.upFl_lanes (s : State) (b : Br) (f : Flight → Flight) : (s.upFl b f).lanes = s.lanes := rfl
@[simp] theorem State.upFl_links (s : State) (b : Br) (f : Flight → Flight) : (s.upFl b f).links = s.links := rfl
@[simp] theorem State.upFl_trips (s : State) (b : Br) (f : Flight → Flight) : (s.upFl b f).trips = s.trips := rfl
@[simp] theorem State.upFl_fcr (s : State) (b : Br) (f : Flight → Flight) : (s.upFl b f).fcr = s.fcr := rfl
@[simp] theorem State.upFl_sto (s : State) (b : Br) (f : Flight → Flight) : (s.upFl b f).sto = s.sto := rfl
@[simp] theorem State.upFl_dcl (s : State) (b : Br) (f : Flight → Flight) : (s.upFl b f).dcl = s.dcl := rfl
@[simp] theorem State.upFl_pilot (s : State) (b : Br) (f : Flight → Flight) : (s.upFl b f).pilot = s.pilot := rfl
@[simp] theorem State.upFl_trust (s : State) (b : Br) (f : Flight → Flight) : (s.upFl b f).trust = s.trust := rfl
@[simp] theorem State.upFl_recd (s : State) (b : Br) (f : Flight → Flight) : (s.upFl b f).recd = s.recd := rfl
@[simp] theorem State.upFl_sys (s : State) (b : Br) (f : Flight → Flight) : (s.upFl b f).sys = s.sys := rfl
@[simp] theorem State.upFl_cans (s : State) (b : Br) (f : Flight → Flight) : (s.upFl b f).cans = s.cans := rfl
@[simp] theorem State.upFl_crcs (s : State) (b : Br) (f : Flight → Flight) : (s.upFl b f).crcs = s.crcs := rfl
@[simp] theorem State.upFl_cnts (s : State) (b : Br) (f : Flight → Flight) : (s.upFl b f).cnts = s.cnts := rfl
@[simp] theorem State.upFl_copies (s : State) (b : Br) (f : Flight → Flight) : (s.upFl b f).copies = s.copies := rfl
@[simp] theorem State.upFl_net (s : State) (b : Br) (f : Flight → Flight) : (s.upFl b f).net = s.net := rfl
@[simp] theorem State.upFl_pins (s : State) (b : Br) (f : Flight → Flight) : (s.upFl b f).pins = s.pins := rfl
@[simp] theorem State.upFl_bus (s : State) (b : Br) (f : Flight → Flight) : (s.upFl b f).bus = s.bus := rfl
@[simp] theorem State.upFl_free (s : State) (b : Br) (f : Flight → Flight) : (s.upFl b f).free = s.free := rfl
@[simp] theorem State.upFl_flights (s : State) (b : Br) (f : Flight → Flight) : (s.upFl b f).flights = vupd s.flights b f := rfl

/-! ## `State.upMod` -/

@[simp] theorem State.upMod_pending (s : State) (b : Br) (f : ModU → ModU) : (s.upMod b f).pending = s.pending := rfl
@[simp] theorem State.upMod_now (s : State) (b : Br) (f : ModU → ModU) : (s.upMod b f).now = s.now := rfl
@[simp] theorem State.upMod_dtime (s : State) (b : Br) (f : ModU → ModU) : (s.upMod b f).dtime = s.dtime := rfl
@[simp] theorem State.upMod_regs (s : State) (b : Br) (f : ModU → ModU) : (s.upMod b f).regs = s.regs := rfl
@[simp] theorem State.upMod_mem (s : State) (b : Br) (f : ModU → ModU) : (s.upMod b f).mem = s.mem := rfl
@[simp] theorem State.upMod_params (s : State) (b : Br) (f : ModU → ModU) : (s.upMod b f).params = s.params := rfl
@[simp] theorem State.upMod_locks (s : State) (b : Br) (f : ModU → ModU) : (s.upMod b f).locks = s.locks := rfl
@[simp] theorem State.upMod_lockTie (s : State) (b : Br) (f : ModU → ModU) : (s.upMod b f).lockTie = s.lockTie := rfl
@[simp] theorem State.upMod_spi (s : State) (b : Br) (f : ModU → ModU) : (s.upMod b f).spi = s.spi := rfl
@[simp] theorem State.upMod_bridges (s : State) (b : Br) (f : ModU → ModU) : (s.upMod b f).bridges = s.bridges := rfl
@[simp] theorem State.upMod_flights (s : State) (b : Br) (f : ModU → ModU) : (s.upMod b f).flights = s.flights := rfl
@[simp] theorem State.upMod_ports (s : State) (b : Br) (f : ModU → ModU) : (s.upMod b f).ports = s.ports := rfl
@[simp] theorem State.upMod_aclks (s : State) (b : Br) (f : ModU → ModU) : (s.upMod b f).aclks = s.aclks := rfl
@[simp] theorem State.upMod_convs (s : State) (b : Br) (f : ModU → ModU) : (s.upMod b f).convs = s.convs := rfl
@[simp] theorem State.upMod_lanes (s : State) (b : Br) (f : ModU → ModU) : (s.upMod b f).lanes = s.lanes := rfl
@[simp] theorem State.upMod_links (s : State) (b : Br) (f : ModU → ModU) : (s.upMod b f).links = s.links := rfl
@[simp] theorem State.upMod_trips (s : State) (b : Br) (f : ModU → ModU) : (s.upMod b f).trips = s.trips := rfl
@[simp] theorem State.upMod_fcr (s : State) (b : Br) (f : ModU → ModU) : (s.upMod b f).fcr = s.fcr := rfl
@[simp] theorem State.upMod_sto (s : State) (b : Br) (f : ModU → ModU) : (s.upMod b f).sto = s.sto := rfl
@[simp] theorem State.upMod_dcl (s : State) (b : Br) (f : ModU → ModU) : (s.upMod b f).dcl = s.dcl := rfl
@[simp] theorem State.upMod_pilot (s : State) (b : Br) (f : ModU → ModU) : (s.upMod b f).pilot = s.pilot := rfl
@[simp] theorem State.upMod_trust (s : State) (b : Br) (f : ModU → ModU) : (s.upMod b f).trust = s.trust := rfl
@[simp] theorem State.upMod_recd (s : State) (b : Br) (f : ModU → ModU) : (s.upMod b f).recd = s.recd := rfl
@[simp] theorem State.upMod_sys (s : State) (b : Br) (f : ModU → ModU) : (s.upMod b f).sys = s.sys := rfl
@[simp] theorem State.upMod_cans (s : State) (b : Br) (f : ModU → ModU) : (s.upMod b f).cans = s.cans := rfl
@[simp] theorem State.upMod_crcs (s : State) (b : Br) (f : ModU → ModU) : (s.upMod b f).crcs = s.crcs := rfl
@[simp] theorem State.upMod_cnts (s : State) (b : Br) (f : ModU → ModU) : (s.upMod b f).cnts = s.cnts := rfl
@[simp] theorem State.upMod_copies (s : State) (b : Br) (f : ModU → ModU) : (s.upMod b f).copies = s.copies := rfl
@[simp] theorem State.upMod_net (s : State) (b : Br) (f : ModU → ModU) : (s.upMod b f).net = s.net := rfl
@[simp] theorem State.upMod_pins (s : State) (b : Br) (f : ModU → ModU) : (s.upMod b f).pins = s.pins := rfl
@[simp] theorem State.upMod_bus (s : State) (b : Br) (f : ModU → ModU) : (s.upMod b f).bus = s.bus := rfl
@[simp] theorem State.upMod_free (s : State) (b : Br) (f : ModU → ModU) : (s.upMod b f).free = s.free := rfl
@[simp] theorem State.upMod_mods (s : State) (b : Br) (f : ModU → ModU) : (s.upMod b f).mods = vupd s.mods b f := rfl

/-! ## `State.upPort` -/

@[simp] theorem State.upPort_pending (s : State) (p : PortIx) (f : Port → Port) : (s.upPort p f).pending = s.pending := rfl
@[simp] theorem State.upPort_now (s : State) (p : PortIx) (f : Port → Port) : (s.upPort p f).now = s.now := rfl
@[simp] theorem State.upPort_dtime (s : State) (p : PortIx) (f : Port → Port) : (s.upPort p f).dtime = s.dtime := rfl
@[simp] theorem State.upPort_regs (s : State) (p : PortIx) (f : Port → Port) : (s.upPort p f).regs = s.regs := rfl
@[simp] theorem State.upPort_mem (s : State) (p : PortIx) (f : Port → Port) : (s.upPort p f).mem = s.mem := rfl
@[simp] theorem State.upPort_params (s : State) (p : PortIx) (f : Port → Port) : (s.upPort p f).params = s.params := rfl
@[simp] theorem State.upPort_locks (s : State) (p : PortIx) (f : Port → Port) : (s.upPort p f).locks = s.locks := rfl
@[simp] theorem State.upPort_lockTie (s : State) (p : PortIx) (f : Port → Port) : (s.upPort p f).lockTie = s.lockTie := rfl
@[simp] theorem State.upPort_spi (s : State) (p : PortIx) (f : Port → Port) : (s.upPort p f).spi = s.spi := rfl
@[simp] theorem State.upPort_bridges (s : State) (p : PortIx) (f : Port → Port) : (s.upPort p f).bridges = s.bridges := rfl
@[simp] theorem State.upPort_flights (s : State) (p : PortIx) (f : Port → Port) : (s.upPort p f).flights = s.flights := rfl
@[simp] theorem State.upPort_mods (s : State) (p : PortIx) (f : Port → Port) : (s.upPort p f).mods = s.mods := rfl
@[simp] theorem State.upPort_aclks (s : State) (p : PortIx) (f : Port → Port) : (s.upPort p f).aclks = s.aclks := rfl
@[simp] theorem State.upPort_convs (s : State) (p : PortIx) (f : Port → Port) : (s.upPort p f).convs = s.convs := rfl
@[simp] theorem State.upPort_lanes (s : State) (p : PortIx) (f : Port → Port) : (s.upPort p f).lanes = s.lanes := rfl
@[simp] theorem State.upPort_links (s : State) (p : PortIx) (f : Port → Port) : (s.upPort p f).links = s.links := rfl
@[simp] theorem State.upPort_trips (s : State) (p : PortIx) (f : Port → Port) : (s.upPort p f).trips = s.trips := rfl
@[simp] theorem State.upPort_fcr (s : State) (p : PortIx) (f : Port → Port) : (s.upPort p f).fcr = s.fcr := rfl
@[simp] theorem State.upPort_sto (s : State) (p : PortIx) (f : Port → Port) : (s.upPort p f).sto = s.sto := rfl
@[simp] theorem State.upPort_dcl (s : State) (p : PortIx) (f : Port → Port) : (s.upPort p f).dcl = s.dcl := rfl
@[simp] theorem State.upPort_pilot (s : State) (p : PortIx) (f : Port → Port) : (s.upPort p f).pilot = s.pilot := rfl
@[simp] theorem State.upPort_trust (s : State) (p : PortIx) (f : Port → Port) : (s.upPort p f).trust = s.trust := rfl
@[simp] theorem State.upPort_recd (s : State) (p : PortIx) (f : Port → Port) : (s.upPort p f).recd = s.recd := rfl
@[simp] theorem State.upPort_sys (s : State) (p : PortIx) (f : Port → Port) : (s.upPort p f).sys = s.sys := rfl
@[simp] theorem State.upPort_cans (s : State) (p : PortIx) (f : Port → Port) : (s.upPort p f).cans = s.cans := rfl
@[simp] theorem State.upPort_crcs (s : State) (p : PortIx) (f : Port → Port) : (s.upPort p f).crcs = s.crcs := rfl
@[simp] theorem State.upPort_cnts (s : State) (p : PortIx) (f : Port → Port) : (s.upPort p f).cnts = s.cnts := rfl
@[simp] theorem State.upPort_copies (s : State) (p : PortIx) (f : Port → Port) : (s.upPort p f).copies = s.copies := rfl
@[simp] theorem State.upPort_net (s : State) (p : PortIx) (f : Port → Port) : (s.upPort p f).net = s.net := rfl
@[simp] theorem State.upPort_pins (s : State) (p : PortIx) (f : Port → Port) : (s.upPort p f).pins = s.pins := rfl
@[simp] theorem State.upPort_bus (s : State) (p : PortIx) (f : Port → Port) : (s.upPort p f).bus = s.bus := rfl
@[simp] theorem State.upPort_free (s : State) (p : PortIx) (f : Port → Port) : (s.upPort p f).free = s.free := rfl
@[simp] theorem State.upPort_ports (s : State) (p : PortIx) (f : Port → Port) : (s.upPort p f).ports = vupd s.ports p f := rfl

/-! ## `State.upAclk` -/

@[simp] theorem State.upAclk_pending (s : State) (b : Br) (f : AClk → AClk) : (s.upAclk b f).pending = s.pending := rfl
@[simp] theorem State.upAclk_now (s : State) (b : Br) (f : AClk → AClk) : (s.upAclk b f).now = s.now := rfl
@[simp] theorem State.upAclk_dtime (s : State) (b : Br) (f : AClk → AClk) : (s.upAclk b f).dtime = s.dtime := rfl
@[simp] theorem State.upAclk_regs (s : State) (b : Br) (f : AClk → AClk) : (s.upAclk b f).regs = s.regs := rfl
@[simp] theorem State.upAclk_mem (s : State) (b : Br) (f : AClk → AClk) : (s.upAclk b f).mem = s.mem := rfl
@[simp] theorem State.upAclk_params (s : State) (b : Br) (f : AClk → AClk) : (s.upAclk b f).params = s.params := rfl
@[simp] theorem State.upAclk_locks (s : State) (b : Br) (f : AClk → AClk) : (s.upAclk b f).locks = s.locks := rfl
@[simp] theorem State.upAclk_lockTie (s : State) (b : Br) (f : AClk → AClk) : (s.upAclk b f).lockTie = s.lockTie := rfl
@[simp] theorem State.upAclk_spi (s : State) (b : Br) (f : AClk → AClk) : (s.upAclk b f).spi = s.spi := rfl
@[simp] theorem State.upAclk_bridges (s : State) (b : Br) (f : AClk → AClk) : (s.upAclk b f).bridges = s.bridges := rfl
@[simp] theorem State.upAclk_flights (s : State) (b : Br) (f : AClk → AClk) : (s.upAclk b f).flights = s.flights := rfl
@[simp] theorem State.upAclk_mods (s : State) (b : Br) (f : AClk → AClk) : (s.upAclk b f).mods = s.mods := rfl
@[simp] theorem State.upAclk_ports (s : State) (b : Br) (f : AClk → AClk) : (s.upAclk b f).ports = s.ports := rfl
@[simp] theorem State.upAclk_convs (s : State) (b : Br) (f : AClk → AClk) : (s.upAclk b f).convs = s.convs := rfl
@[simp] theorem State.upAclk_lanes (s : State) (b : Br) (f : AClk → AClk) : (s.upAclk b f).lanes = s.lanes := rfl
@[simp] theorem State.upAclk_links (s : State) (b : Br) (f : AClk → AClk) : (s.upAclk b f).links = s.links := rfl
@[simp] theorem State.upAclk_trips (s : State) (b : Br) (f : AClk → AClk) : (s.upAclk b f).trips = s.trips := rfl
@[simp] theorem State.upAclk_fcr (s : State) (b : Br) (f : AClk → AClk) : (s.upAclk b f).fcr = s.fcr := rfl
@[simp] theorem State.upAclk_sto (s : State) (b : Br) (f : AClk → AClk) : (s.upAclk b f).sto = s.sto := rfl
@[simp] theorem State.upAclk_dcl (s : State) (b : Br) (f : AClk → AClk) : (s.upAclk b f).dcl = s.dcl := rfl
@[simp] theorem State.upAclk_pilot (s : State) (b : Br) (f : AClk → AClk) : (s.upAclk b f).pilot = s.pilot := rfl
@[simp] theorem State.upAclk_trust (s : State) (b : Br) (f : AClk → AClk) : (s.upAclk b f).trust = s.trust := rfl
@[simp] theorem State.upAclk_recd (s : State) (b : Br) (f : AClk → AClk) : (s.upAclk b f).recd = s.recd := rfl
@[simp] theorem State.upAclk_sys (s : State) (b : Br) (f : AClk → AClk) : (s.upAclk b f).sys = s.sys := rfl
@[simp] theorem State.upAclk_cans (s : State) (b : Br) (f : AClk → AClk) : (s.upAclk b f).cans = s.cans := rfl
@[simp] theorem State.upAclk_crcs (s : State) (b : Br) (f : AClk → AClk) : (s.upAclk b f).crcs = s.crcs := rfl
@[simp] theorem State.upAclk_cnts (s : State) (b : Br) (f : AClk → AClk) : (s.upAclk b f).cnts = s.cnts := rfl
@[simp] theorem State.upAclk_copies (s : State) (b : Br) (f : AClk → AClk) : (s.upAclk b f).copies = s.copies := rfl
@[simp] theorem State.upAclk_net (s : State) (b : Br) (f : AClk → AClk) : (s.upAclk b f).net = s.net := rfl
@[simp] theorem State.upAclk_pins (s : State) (b : Br) (f : AClk → AClk) : (s.upAclk b f).pins = s.pins := rfl
@[simp] theorem State.upAclk_bus (s : State) (b : Br) (f : AClk → AClk) : (s.upAclk b f).bus = s.bus := rfl
@[simp] theorem State.upAclk_free (s : State) (b : Br) (f : AClk → AClk) : (s.upAclk b f).free = s.free := rfl
@[simp] theorem State.upAclk_aclks (s : State) (b : Br) (f : AClk → AClk) : (s.upAclk b f).aclks = vupd s.aclks b f := rfl

/-! ## `State.upConv` -/

@[simp] theorem State.upConv_pending (s : State) (i : ConvIx) (f : Conv → Conv) : (s.upConv i f).pending = s.pending := rfl
@[simp] theorem State.upConv_now (s : State) (i : ConvIx) (f : Conv → Conv) : (s.upConv i f).now = s.now := rfl
@[simp] theorem State.upConv_dtime (s : State) (i : ConvIx) (f : Conv → Conv) : (s.upConv i f).dtime = s.dtime := rfl
@[simp] theorem State.upConv_regs (s : State) (i : ConvIx) (f : Conv → Conv) : (s.upConv i f).regs = s.regs := rfl
@[simp] theorem State.upConv_mem (s : State) (i : ConvIx) (f : Conv → Conv) : (s.upConv i f).mem = s.mem := rfl
@[simp] theorem State.upConv_params (s : State) (i : ConvIx) (f : Conv → Conv) : (s.upConv i f).params = s.params := rfl
@[simp] theorem State.upConv_locks (s : State) (i : ConvIx) (f : Conv → Conv) : (s.upConv i f).locks = s.locks := rfl
@[simp] theorem State.upConv_lockTie (s : State) (i : ConvIx) (f : Conv → Conv) : (s.upConv i f).lockTie = s.lockTie := rfl
@[simp] theorem State.upConv_spi (s : State) (i : ConvIx) (f : Conv → Conv) : (s.upConv i f).spi = s.spi := rfl
@[simp] theorem State.upConv_bridges (s : State) (i : ConvIx) (f : Conv → Conv) : (s.upConv i f).bridges = s.bridges := rfl
@[simp] theorem State.upConv_flights (s : State) (i : ConvIx) (f : Conv → Conv) : (s.upConv i f).flights = s.flights := rfl
@[simp] theorem State.upConv_mods (s : State) (i : ConvIx) (f : Conv → Conv) : (s.upConv i f).mods = s.mods := rfl
@[simp] theorem State.upConv_ports (s : State) (i : ConvIx) (f : Conv → Conv) : (s.upConv i f).ports = s.ports := rfl
@[simp] theorem State.upConv_aclks (s : State) (i : ConvIx) (f : Conv → Conv) : (s.upConv i f).aclks = s.aclks := rfl
@[simp] theorem State.upConv_lanes (s : State) (i : ConvIx) (f : Conv → Conv) : (s.upConv i f).lanes = s.lanes := rfl
@[simp] theorem State.upConv_links (s : State) (i : ConvIx) (f : Conv → Conv) : (s.upConv i f).links = s.links := rfl
@[simp] theorem State.upConv_trips (s : State) (i : ConvIx) (f : Conv → Conv) : (s.upConv i f).trips = s.trips := rfl
@[simp] theorem State.upConv_fcr (s : State) (i : ConvIx) (f : Conv → Conv) : (s.upConv i f).fcr = s.fcr := rfl
@[simp] theorem State.upConv_sto (s : State) (i : ConvIx) (f : Conv → Conv) : (s.upConv i f).sto = s.sto := rfl
@[simp] theorem State.upConv_dcl (s : State) (i : ConvIx) (f : Conv → Conv) : (s.upConv i f).dcl = s.dcl := rfl
@[simp] theorem State.upConv_pilot (s : State) (i : ConvIx) (f : Conv → Conv) : (s.upConv i f).pilot = s.pilot := rfl
@[simp] theorem State.upConv_trust (s : State) (i : ConvIx) (f : Conv → Conv) : (s.upConv i f).trust = s.trust := rfl
@[simp] theorem State.upConv_recd (s : State) (i : ConvIx) (f : Conv → Conv) : (s.upConv i f).recd = s.recd := rfl
@[simp] theorem State.upConv_sys (s : State) (i : ConvIx) (f : Conv → Conv) : (s.upConv i f).sys = s.sys := rfl
@[simp] theorem State.upConv_cans (s : State) (i : ConvIx) (f : Conv → Conv) : (s.upConv i f).cans = s.cans := rfl
@[simp] theorem State.upConv_crcs (s : State) (i : ConvIx) (f : Conv → Conv) : (s.upConv i f).crcs = s.crcs := rfl
@[simp] theorem State.upConv_cnts (s : State) (i : ConvIx) (f : Conv → Conv) : (s.upConv i f).cnts = s.cnts := rfl
@[simp] theorem State.upConv_copies (s : State) (i : ConvIx) (f : Conv → Conv) : (s.upConv i f).copies = s.copies := rfl
@[simp] theorem State.upConv_net (s : State) (i : ConvIx) (f : Conv → Conv) : (s.upConv i f).net = s.net := rfl
@[simp] theorem State.upConv_pins (s : State) (i : ConvIx) (f : Conv → Conv) : (s.upConv i f).pins = s.pins := rfl
@[simp] theorem State.upConv_bus (s : State) (i : ConvIx) (f : Conv → Conv) : (s.upConv i f).bus = s.bus := rfl
@[simp] theorem State.upConv_free (s : State) (i : ConvIx) (f : Conv → Conv) : (s.upConv i f).free = s.free := rfl
@[simp] theorem State.upConv_convs (s : State) (i : ConvIx) (f : Conv → Conv) : (s.upConv i f).convs = vupd s.convs i f := rfl

/-! ## `State.upLane` -/

@[simp] theorem State.upLane_pending (s : State) (k : LaneIx) (f : Lane → Lane) : (s.upLane k f).pending = s.pending := rfl
@[simp] theorem State.upLane_now (s : State) (k : LaneIx) (f : Lane → Lane) : (s.upLane k f).now = s.now := rfl
@[simp] theorem State.upLane_dtime (s : State) (k : LaneIx) (f : Lane → Lane) : (s.upLane k f).dtime = s.dtime := rfl
@[simp] theorem State.upLane_regs (s : State) (k : LaneIx) (f : Lane → Lane) : (s.upLane k f).regs = s.regs := rfl
@[simp] theorem State.upLane_mem (s : State) (k : LaneIx) (f : Lane → Lane) : (s.upLane k f).mem = s.mem := rfl
@[simp] theorem State.upLane_params (s : State) (k : LaneIx) (f : Lane → Lane) : (s.upLane k f).params = s.params := rfl
@[simp] theorem State.upLane_locks (s : State) (k : LaneIx) (f : Lane → Lane) : (s.upLane k f).locks = s.locks := rfl
@[simp] theorem State.upLane_lockTie (s : State) (k : LaneIx) (f : Lane → Lane) : (s.upLane k f).lockTie = s.lockTie := rfl
@[simp] theorem State.upLane_spi (s : State) (k : LaneIx) (f : Lane → Lane) : (s.upLane k f).spi = s.spi := rfl
@[simp] theorem State.upLane_bridges (s : State) (k : LaneIx) (f : Lane → Lane) : (s.upLane k f).bridges = s.bridges := rfl
@[simp] theorem State.upLane_flights (s : State) (k : LaneIx) (f : Lane → Lane) : (s.upLane k f).flights = s.flights := rfl
@[simp] theorem State.upLane_mods (s : State) (k : LaneIx) (f : Lane → Lane) : (s.upLane k f).mods = s.mods := rfl
@[simp] theorem State.upLane_ports (s : State) (k : LaneIx) (f : Lane → Lane) : (s.upLane k f).ports = s.ports := rfl
@[simp] theorem State.upLane_aclks (s : State) (k : LaneIx) (f : Lane → Lane) : (s.upLane k f).aclks = s.aclks := rfl
@[simp] theorem State.upLane_convs (s : State) (k : LaneIx) (f : Lane → Lane) : (s.upLane k f).convs = s.convs := rfl
@[simp] theorem State.upLane_links (s : State) (k : LaneIx) (f : Lane → Lane) : (s.upLane k f).links = s.links := rfl
@[simp] theorem State.upLane_trips (s : State) (k : LaneIx) (f : Lane → Lane) : (s.upLane k f).trips = s.trips := rfl
@[simp] theorem State.upLane_fcr (s : State) (k : LaneIx) (f : Lane → Lane) : (s.upLane k f).fcr = s.fcr := rfl
@[simp] theorem State.upLane_sto (s : State) (k : LaneIx) (f : Lane → Lane) : (s.upLane k f).sto = s.sto := rfl
@[simp] theorem State.upLane_dcl (s : State) (k : LaneIx) (f : Lane → Lane) : (s.upLane k f).dcl = s.dcl := rfl
@[simp] theorem State.upLane_pilot (s : State) (k : LaneIx) (f : Lane → Lane) : (s.upLane k f).pilot = s.pilot := rfl
@[simp] theorem State.upLane_trust (s : State) (k : LaneIx) (f : Lane → Lane) : (s.upLane k f).trust = s.trust := rfl
@[simp] theorem State.upLane_recd (s : State) (k : LaneIx) (f : Lane → Lane) : (s.upLane k f).recd = s.recd := rfl
@[simp] theorem State.upLane_sys (s : State) (k : LaneIx) (f : Lane → Lane) : (s.upLane k f).sys = s.sys := rfl
@[simp] theorem State.upLane_cans (s : State) (k : LaneIx) (f : Lane → Lane) : (s.upLane k f).cans = s.cans := rfl
@[simp] theorem State.upLane_crcs (s : State) (k : LaneIx) (f : Lane → Lane) : (s.upLane k f).crcs = s.crcs := rfl
@[simp] theorem State.upLane_cnts (s : State) (k : LaneIx) (f : Lane → Lane) : (s.upLane k f).cnts = s.cnts := rfl
@[simp] theorem State.upLane_copies (s : State) (k : LaneIx) (f : Lane → Lane) : (s.upLane k f).copies = s.copies := rfl
@[simp] theorem State.upLane_net (s : State) (k : LaneIx) (f : Lane → Lane) : (s.upLane k f).net = s.net := rfl
@[simp] theorem State.upLane_pins (s : State) (k : LaneIx) (f : Lane → Lane) : (s.upLane k f).pins = s.pins := rfl
@[simp] theorem State.upLane_bus (s : State) (k : LaneIx) (f : Lane → Lane) : (s.upLane k f).bus = s.bus := rfl
@[simp] theorem State.upLane_free (s : State) (k : LaneIx) (f : Lane → Lane) : (s.upLane k f).free = s.free := rfl
@[simp] theorem State.upLane_lanes (s : State) (k : LaneIx) (f : Lane → Lane) : (s.upLane k f).lanes = vupd s.lanes k f := rfl

/-! ## `State.upLink` -/

@[simp] theorem State.upLink_pending (s : State) (k : LaneIx) (f : Link → Link) : (s.upLink k f).pending = s.pending := rfl
@[simp] theorem State.upLink_now (s : State) (k : LaneIx) (f : Link → Link) : (s.upLink k f).now = s.now := rfl
@[simp] theorem State.upLink_dtime (s : State) (k : LaneIx) (f : Link → Link) : (s.upLink k f).dtime = s.dtime := rfl
@[simp] theorem State.upLink_regs (s : State) (k : LaneIx) (f : Link → Link) : (s.upLink k f).regs = s.regs := rfl
@[simp] theorem State.upLink_mem (s : State) (k : LaneIx) (f : Link → Link) : (s.upLink k f).mem = s.mem := rfl
@[simp] theorem State.upLink_params (s : State) (k : LaneIx) (f : Link → Link) : (s.upLink k f).params = s.params := rfl
@[simp] theorem State.upLink_locks (s : State) (k : LaneIx) (f : Link → Link) : (s.upLink k f).locks = s.locks := rfl
@[simp] theorem State.upLink_lockTie (s : State) (k : LaneIx) (f : Link → Link) : (s.upLink k f).lockTie = s.lockTie := rfl
@[simp] theorem State.upLink_spi (s : State) (k : LaneIx) (f : Link → Link) : (s.upLink k f).spi = s.spi := rfl
@[simp] theorem State.upLink_bridges (s : State) (k : LaneIx) (f : Link → Link) : (s.upLink k f).bridges = s.bridges := rfl
@[simp] theorem State.upLink_flights (s : State) (k : LaneIx) (f : Link → Link) : (s.upLink k f).flights = s.flights := rfl
@[simp] theorem State.upLink_mods (s : State) (k : LaneIx) (f : Link → Link) : (s.upLink k f).mods = s.mods := rfl
@[simp] theorem State.upLink_ports (s : State) (k : LaneIx) (f : Link → Link) : (s.upLink k f).ports = s.ports := rfl
@[simp] theorem State.upLink_aclks (s : State) (k : LaneIx) (f : Link → Link) : (s.upLink k f).aclks = s.aclks := rfl
@[simp] theorem State.upLink_convs (s : State) (k : LaneIx) (f : Link → Link) : (s.upLink k f).convs = s.convs := rfl
@[simp] theorem State.upLink_lanes (s : State) (k : LaneIx) (f : Link → Link) : (s.upLink k f).lanes = s.lanes := rfl
@[simp] theorem State.upLink_trips (s : State) (k : LaneIx) (f : Link → Link) : (s.upLink k f).trips = s.trips := rfl
@[simp] theorem State.upLink_fcr (s : State) (k : LaneIx) (f : Link → Link) : (s.upLink k f).fcr = s.fcr := rfl
@[simp] theorem State.upLink_sto (s : State) (k : LaneIx) (f : Link → Link) : (s.upLink k f).sto = s.sto := rfl
@[simp] theorem State.upLink_dcl (s : State) (k : LaneIx) (f : Link → Link) : (s.upLink k f).dcl = s.dcl := rfl
@[simp] theorem State.upLink_pilot (s : State) (k : LaneIx) (f : Link → Link) : (s.upLink k f).pilot = s.pilot := rfl
@[simp] theorem State.upLink_trust (s : State) (k : LaneIx) (f : Link → Link) : (s.upLink k f).trust = s.trust := rfl
@[simp] theorem State.upLink_recd (s : State) (k : LaneIx) (f : Link → Link) : (s.upLink k f).recd = s.recd := rfl
@[simp] theorem State.upLink_sys (s : State) (k : LaneIx) (f : Link → Link) : (s.upLink k f).sys = s.sys := rfl
@[simp] theorem State.upLink_cans (s : State) (k : LaneIx) (f : Link → Link) : (s.upLink k f).cans = s.cans := rfl
@[simp] theorem State.upLink_crcs (s : State) (k : LaneIx) (f : Link → Link) : (s.upLink k f).crcs = s.crcs := rfl
@[simp] theorem State.upLink_cnts (s : State) (k : LaneIx) (f : Link → Link) : (s.upLink k f).cnts = s.cnts := rfl
@[simp] theorem State.upLink_copies (s : State) (k : LaneIx) (f : Link → Link) : (s.upLink k f).copies = s.copies := rfl
@[simp] theorem State.upLink_net (s : State) (k : LaneIx) (f : Link → Link) : (s.upLink k f).net = s.net := rfl
@[simp] theorem State.upLink_pins (s : State) (k : LaneIx) (f : Link → Link) : (s.upLink k f).pins = s.pins := rfl
@[simp] theorem State.upLink_bus (s : State) (k : LaneIx) (f : Link → Link) : (s.upLink k f).bus = s.bus := rfl
@[simp] theorem State.upLink_free (s : State) (k : LaneIx) (f : Link → Link) : (s.upLink k f).free = s.free := rfl
@[simp] theorem State.upLink_links (s : State) (k : LaneIx) (f : Link → Link) : (s.upLink k f).links = vupd s.links k f := rfl

/-! ## `State.upLock` -/

@[simp] theorem State.upLock_pending (s : State) (l : Lk) (f : Lock → Lock) : (s.upLock l f).pending = s.pending := rfl
@[simp] theorem State.upLock_now (s : State) (l : Lk) (f : Lock → Lock) : (s.upLock l f).now = s.now := rfl
@[simp] theorem State.upLock_dtime (s : State) (l : Lk) (f : Lock → Lock) : (s.upLock l f).dtime = s.dtime := rfl
@[simp] theorem State.upLock_regs (s : State) (l : Lk) (f : Lock → Lock) : (s.upLock l f).regs = s.regs := rfl
@[simp] theorem State.upLock_mem (s : State) (l : Lk) (f : Lock → Lock) : (s.upLock l f).mem = s.mem := rfl
@[simp] theorem State.upLock_params (s : State) (l : Lk) (f : Lock → Lock) : (s.upLock l f).params = s.params := rfl
@[simp] theorem State.upLock_lockTie (s : State) (l : Lk) (f : Lock → Lock) : (s.upLock l f).lockTie = s.lockTie := rfl
@[simp] theorem State.upLock_spi (s : State) (l : Lk) (f : Lock → Lock) : (s.upLock l f).spi = s.spi := rfl
@[simp] theorem State.upLock_bridges (s : State) (l : Lk) (f : Lock → Lock) : (s.upLock l f).bridges = s.bridges := rfl
@[simp] theorem State.upLock_flights (s : State) (l : Lk) (f : Lock → Lock) : (s.upLock l f).flights = s.flights := rfl
@[simp] theorem State.upLock_mods (s : State) (l : Lk) (f : Lock → Lock) : (s.upLock l f).mods = s.mods := rfl
@[simp] theorem State.upLock_ports (s : State) (l : Lk) (f : Lock → Lock) : (s.upLock l f).ports = s.ports := rfl
@[simp] theorem State.upLock_aclks (s : State) (l : Lk) (f : Lock → Lock) : (s.upLock l f).aclks = s.aclks := rfl
@[simp] theorem State.upLock_convs (s : State) (l : Lk) (f : Lock → Lock) : (s.upLock l f).convs = s.convs := rfl
@[simp] theorem State.upLock_lanes (s : State) (l : Lk) (f : Lock → Lock) : (s.upLock l f).lanes = s.lanes := rfl
@[simp] theorem State.upLock_links (s : State) (l : Lk) (f : Lock → Lock) : (s.upLock l f).links = s.links := rfl
@[simp] theorem State.upLock_trips (s : State) (l : Lk) (f : Lock → Lock) : (s.upLock l f).trips = s.trips := rfl
@[simp] theorem State.upLock_fcr (s : State) (l : Lk) (f : Lock → Lock) : (s.upLock l f).fcr = s.fcr := rfl
@[simp] theorem State.upLock_sto (s : State) (l : Lk) (f : Lock → Lock) : (s.upLock l f).sto = s.sto := rfl
@[simp] theorem State.upLock_dcl (s : State) (l : Lk) (f : Lock → Lock) : (s.upLock l f).dcl = s.dcl := rfl
@[simp] theorem State.upLock_pilot (s : State) (l : Lk) (f : Lock → Lock) : (s.upLock l f).pilot = s.pilot := rfl
@[simp] theorem State.upLock_trust (s : State) (l : Lk) (f : Lock → Lock) : (s.upLock l f).trust = s.trust := rfl
@[simp] theorem State.upLock_recd (s : State) (l : Lk) (f : Lock → Lock) : (s.upLock l f).recd = s.recd := rfl
@[simp] theorem State.upLock_sys (s : State) (l : Lk) (f : Lock → Lock) : (s.upLock l f).sys = s.sys := rfl
@[simp] theorem State.upLock_cans (s : State) (l : Lk) (f : Lock → Lock) : (s.upLock l f).cans = s.cans := rfl
@[simp] theorem State.upLock_crcs (s : State) (l : Lk) (f : Lock → Lock) : (s.upLock l f).crcs = s.crcs := rfl
@[simp] theorem State.upLock_cnts (s : State) (l : Lk) (f : Lock → Lock) : (s.upLock l f).cnts = s.cnts := rfl
@[simp] theorem State.upLock_copies (s : State) (l : Lk) (f : Lock → Lock) : (s.upLock l f).copies = s.copies := rfl
@[simp] theorem State.upLock_net (s : State) (l : Lk) (f : Lock → Lock) : (s.upLock l f).net = s.net := rfl
@[simp] theorem State.upLock_pins (s : State) (l : Lk) (f : Lock → Lock) : (s.upLock l f).pins = s.pins := rfl
@[simp] theorem State.upLock_bus (s : State) (l : Lk) (f : Lock → Lock) : (s.upLock l f).bus = s.bus := rfl
@[simp] theorem State.upLock_free (s : State) (l : Lk) (f : Lock → Lock) : (s.upLock l f).free = s.free := rfl
@[simp] theorem State.upLock_locks (s : State) (l : Lk) (f : Lock → Lock) : (s.upLock l f).locks = vupd s.locks l f := rfl

/-! ## `State.upCan` -/

@[simp] theorem State.upCan_pending (s : State) (c : Fin 4) (f : Can → Can) : (s.upCan c f).pending = s.pending := rfl
@[simp] theorem State.upCan_now (s : State) (c : Fin 4) (f : Can → Can) : (s.upCan c f).now = s.now := rfl
@[simp] theorem State.upCan_dtime (s : State) (c : Fin 4) (f : Can → Can) : (s.upCan c f).dtime = s.dtime := rfl
@[simp] theorem State.upCan_regs (s : State) (c : Fin 4) (f : Can → Can) : (s.upCan c f).regs = s.regs := rfl
@[simp] theorem State.upCan_mem (s : State) (c : Fin 4) (f : Can → Can) : (s.upCan c f).mem = s.mem := rfl
@[simp] theorem State.upCan_params (s : State) (c : Fin 4) (f : Can → Can) : (s.upCan c f).params = s.params := rfl
@[simp] theorem State.upCan_locks (s : State) (c : Fin 4) (f : Can → Can) : (s.upCan c f).locks = s.locks := rfl
@[simp] theorem State.upCan_lockTie (s : State) (c : Fin 4) (f : Can → Can) : (s.upCan c f).lockTie = s.lockTie := rfl
@[simp] theorem State.upCan_spi (s : State) (c : Fin 4) (f : Can → Can) : (s.upCan c f).spi = s.spi := rfl
@[simp] theorem State.upCan_bridges (s : State) (c : Fin 4) (f : Can → Can) : (s.upCan c f).bridges = s.bridges := rfl
@[simp] theorem State.upCan_flights (s : State) (c : Fin 4) (f : Can → Can) : (s.upCan c f).flights = s.flights := rfl
@[simp] theorem State.upCan_mods (s : State) (c : Fin 4) (f : Can → Can) : (s.upCan c f).mods = s.mods := rfl
@[simp] theorem State.upCan_ports (s : State) (c : Fin 4) (f : Can → Can) : (s.upCan c f).ports = s.ports := rfl
@[simp] theorem State.upCan_aclks (s : State) (c : Fin 4) (f : Can → Can) : (s.upCan c f).aclks = s.aclks := rfl
@[simp] theorem State.upCan_convs (s : State) (c : Fin 4) (f : Can → Can) : (s.upCan c f).convs = s.convs := rfl
@[simp] theorem State.upCan_lanes (s : State) (c : Fin 4) (f : Can → Can) : (s.upCan c f).lanes = s.lanes := rfl
@[simp] theorem State.upCan_links (s : State) (c : Fin 4) (f : Can → Can) : (s.upCan c f).links = s.links := rfl
@[simp] theorem State.upCan_trips (s : State) (c : Fin 4) (f : Can → Can) : (s.upCan c f).trips = s.trips := rfl
@[simp] theorem State.upCan_fcr (s : State) (c : Fin 4) (f : Can → Can) : (s.upCan c f).fcr = s.fcr := rfl
@[simp] theorem State.upCan_sto (s : State) (c : Fin 4) (f : Can → Can) : (s.upCan c f).sto = s.sto := rfl
@[simp] theorem State.upCan_dcl (s : State) (c : Fin 4) (f : Can → Can) : (s.upCan c f).dcl = s.dcl := rfl
@[simp] theorem State.upCan_pilot (s : State) (c : Fin 4) (f : Can → Can) : (s.upCan c f).pilot = s.pilot := rfl
@[simp] theorem State.upCan_trust (s : State) (c : Fin 4) (f : Can → Can) : (s.upCan c f).trust = s.trust := rfl
@[simp] theorem State.upCan_recd (s : State) (c : Fin 4) (f : Can → Can) : (s.upCan c f).recd = s.recd := rfl
@[simp] theorem State.upCan_sys (s : State) (c : Fin 4) (f : Can → Can) : (s.upCan c f).sys = s.sys := rfl
@[simp] theorem State.upCan_crcs (s : State) (c : Fin 4) (f : Can → Can) : (s.upCan c f).crcs = s.crcs := rfl
@[simp] theorem State.upCan_cnts (s : State) (c : Fin 4) (f : Can → Can) : (s.upCan c f).cnts = s.cnts := rfl
@[simp] theorem State.upCan_copies (s : State) (c : Fin 4) (f : Can → Can) : (s.upCan c f).copies = s.copies := rfl
@[simp] theorem State.upCan_net (s : State) (c : Fin 4) (f : Can → Can) : (s.upCan c f).net = s.net := rfl
@[simp] theorem State.upCan_pins (s : State) (c : Fin 4) (f : Can → Can) : (s.upCan c f).pins = s.pins := rfl
@[simp] theorem State.upCan_bus (s : State) (c : Fin 4) (f : Can → Can) : (s.upCan c f).bus = s.bus := rfl
@[simp] theorem State.upCan_free (s : State) (c : Fin 4) (f : Can → Can) : (s.upCan c f).free = s.free := rfl
@[simp] theorem State.upCan_cans (s : State) (c : Fin 4) (f : Can → Can) : (s.upCan c f).cans = vupd s.cans c f := rfl

/-! ## `State.upCrc` -/

@[simp] theorem State.upCrc_pending (s : State) (u : Fin 4) (f : CrcU → CrcU) : (s.upCrc u f).pending = s.pending := rfl
@[simp] theorem State.upCrc_now (s : State) (u : Fin 4) (f : CrcU → CrcU) : (s.upCrc u f).now = s.now := rfl
@[simp] theorem State.upCrc_dtime (s : State) (u : Fin 4) (f : CrcU → CrcU) : (s.upCrc u f).dtime = s.dtime := rfl
@[simp] theorem State.upCrc_regs (s : State) (u : Fin 4) (f : CrcU → CrcU) : (s.upCrc u f).regs = s.regs := rfl
@[simp] theorem State.upCrc_mem (s : State) (u : Fin 4) (f : CrcU → CrcU) : (s.upCrc u f).mem = s.mem := rfl
@[simp] theorem State.upCrc_params (s : State) (u : Fin 4) (f : CrcU → CrcU) : (s.upCrc u f).params = s.params := rfl
@[simp] theorem State.upCrc_locks (s : State) (u : Fin 4) (f : CrcU → CrcU) : (s.upCrc u f).locks = s.locks := rfl
@[simp] theorem State.upCrc_lockTie (s : State) (u : Fin 4) (f : CrcU → CrcU) : (s.upCrc u f).lockTie = s.lockTie := rfl
@[simp] theorem State.upCrc_spi (s : State) (u : Fin 4) (f : CrcU → CrcU) : (s.upCrc u f).spi = s.spi := rfl
@[simp] theorem State.upCrc_bridges (s : State) (u : Fin 4) (f : CrcU → CrcU) : (s.upCrc u f).bridges = s.bridges := rfl
@[simp] theorem State.upCrc_flights (s : State) (u : Fin 4) (f : CrcU → CrcU) : (s.upCrc u f).flights = s.flights := rfl
@[simp] theorem State.upCrc_mods (s : State) (u : Fin 4) (f : CrcU → CrcU) : (s.upCrc u f).mods = s.mods := rfl
@[simp] theorem State.upCrc_ports (s : State) (u : Fin 4) (f : CrcU → CrcU) : (s.upCrc u f).ports = s.ports := rfl
@[simp] theorem State.upCrc_aclks (s : State) (u : Fin 4) (f : CrcU → CrcU) : (s.upCrc u f).aclks = s.aclks := rfl
@[simp] theorem State.upCrc_convs (s : State) (u : Fin 4) (f : CrcU → CrcU) : (s.upCrc u f).convs = s.convs := rfl
@[simp] theorem State.upCrc_lanes (s : State) (u : Fin 4) (f : CrcU → CrcU) : (s.upCrc u f).lanes = s.lanes := rfl
@[simp] theorem State.upCrc_links (s : State) (u : Fin 4) (f : CrcU → CrcU) : (s.upCrc u f).links = s.links := rfl
@[simp] theorem State.upCrc_trips (s : State) (u : Fin 4) (f : CrcU → CrcU) : (s.upCrc u f).trips = s.trips := rfl
@[simp] theorem State.upCrc_fcr (s : State) (u : Fin 4) (f : CrcU → CrcU) : (s.upCrc u f).fcr = s.fcr := rfl
@[simp] theorem State.upCrc_sto (s : State) (u : Fin 4) (f : CrcU → CrcU) : (s.upCrc u f).sto = s.sto := rfl
@[simp] theorem State.upCrc_dcl (s : State) (u : Fin 4) (f : CrcU → CrcU) : (s.upCrc u f).dcl = s.dcl := rfl
@[simp] theorem State.upCrc_pilot (s : State) (u : Fin 4) (f : CrcU → CrcU) : (s.upCrc u f).pilot = s.pilot := rfl
@[simp] theorem State.upCrc_trust (s : State) (u : Fin 4) (f : CrcU → CrcU) : (s.upCrc u f).trust = s.trust := rfl
@[simp] theorem State.upCrc_recd (s : State) (u : Fin 4) (f : CrcU → CrcU) : (s.upCrc u f).recd = s.recd := rfl
@[simp] theorem State.upCrc_sys (s : State) (u : Fin 4) (f : CrcU → CrcU) : (s.upCrc u f).sys = s.sys := rfl
@[simp] theorem State.upCrc_cans (s : State) (u : Fin 4) (f : CrcU → CrcU) : (s.upCrc u f).cans = s.cans := rfl
@[simp] theorem State.upCrc_cnts (s : State) (u : Fin 4) (f : CrcU → CrcU) : (s.upCrc u f).cnts = s.cnts := rfl
@[simp] theorem State.upCrc_copies (s : State) (u : Fin 4) (f : CrcU → CrcU) : (s.upCrc u f).copies = s.copies := rfl
@[simp] theorem State.upCrc_net (s : State) (u : Fin 4) (f : CrcU → CrcU) : (s.upCrc u f).net = s.net := rfl
@[simp] theorem State.upCrc_pins (s : State) (u : Fin 4) (f : CrcU → CrcU) : (s.upCrc u f).pins = s.pins := rfl
@[simp] theorem State.upCrc_bus (s : State) (u : Fin 4) (f : CrcU → CrcU) : (s.upCrc u f).bus = s.bus := rfl
@[simp] theorem State.upCrc_free (s : State) (u : Fin 4) (f : CrcU → CrcU) : (s.upCrc u f).free = s.free := rfl
@[simp] theorem State.upCrc_crcs (s : State) (u : Fin 4) (f : CrcU → CrcU) : (s.upCrc u f).crcs = vupd s.crcs u f := rfl

/-! ## `State.upCopy` -/

@[simp] theorem State.upCopy_pending (s : State) (m : Master) (f : ReadCopy → ReadCopy) : (s.upCopy m f).pending = s.pending := rfl
@[simp] theorem State.upCopy_now (s : State) (m : Master) (f : ReadCopy → ReadCopy) : (s.upCopy m f).now = s.now := rfl
@[simp] theorem State.upCopy_dtime (s : State) (m : Master) (f : ReadCopy → ReadCopy) : (s.upCopy m f).dtime = s.dtime := rfl
@[simp] theorem State.upCopy_regs (s : State) (m : Master) (f : ReadCopy → ReadCopy) : (s.upCopy m f).regs = s.regs := rfl
@[simp] theorem State.upCopy_mem (s : State) (m : Master) (f : ReadCopy → ReadCopy) : (s.upCopy m f).mem = s.mem := rfl
@[simp] theorem State.upCopy_params (s : State) (m : Master) (f : ReadCopy → ReadCopy) : (s.upCopy m f).params = s.params := rfl
@[simp] theorem State.upCopy_locks (s : State) (m : Master) (f : ReadCopy → ReadCopy) : (s.upCopy m f).locks = s.locks := rfl
@[simp] theorem State.upCopy_lockTie (s : State) (m : Master) (f : ReadCopy → ReadCopy) : (s.upCopy m f).lockTie = s.lockTie := rfl
@[simp] theorem State.upCopy_spi (s : State) (m : Master) (f : ReadCopy → ReadCopy) : (s.upCopy m f).spi = s.spi := rfl
@[simp] theorem State.upCopy_bridges (s : State) (m : Master) (f : ReadCopy → ReadCopy) : (s.upCopy m f).bridges = s.bridges := rfl
@[simp] theorem State.upCopy_flights (s : State) (m : Master) (f : ReadCopy → ReadCopy) : (s.upCopy m f).flights = s.flights := rfl
@[simp] theorem State.upCopy_mods (s : State) (m : Master) (f : ReadCopy → ReadCopy) : (s.upCopy m f).mods = s.mods := rfl
@[simp] theorem State.upCopy_ports (s : State) (m : Master) (f : ReadCopy → ReadCopy) : (s.upCopy m f).ports = s.ports := rfl
@[simp] theorem State.upCopy_aclks (s : State) (m : Master) (f : ReadCopy → ReadCopy) : (s.upCopy m f).aclks = s.aclks := rfl
@[simp] theorem State.upCopy_convs (s : State) (m : Master) (f : ReadCopy → ReadCopy) : (s.upCopy m f).convs = s.convs := rfl
@[simp] theorem State.upCopy_lanes (s : State) (m : Master) (f : ReadCopy → ReadCopy) : (s.upCopy m f).lanes = s.lanes := rfl
@[simp] theorem State.upCopy_links (s : State) (m : Master) (f : ReadCopy → ReadCopy) : (s.upCopy m f).links = s.links := rfl
@[simp] theorem State.upCopy_trips (s : State) (m : Master) (f : ReadCopy → ReadCopy) : (s.upCopy m f).trips = s.trips := rfl
@[simp] theorem State.upCopy_fcr (s : State) (m : Master) (f : ReadCopy → ReadCopy) : (s.upCopy m f).fcr = s.fcr := rfl
@[simp] theorem State.upCopy_sto (s : State) (m : Master) (f : ReadCopy → ReadCopy) : (s.upCopy m f).sto = s.sto := rfl
@[simp] theorem State.upCopy_dcl (s : State) (m : Master) (f : ReadCopy → ReadCopy) : (s.upCopy m f).dcl = s.dcl := rfl
@[simp] theorem State.upCopy_pilot (s : State) (m : Master) (f : ReadCopy → ReadCopy) : (s.upCopy m f).pilot = s.pilot := rfl
@[simp] theorem State.upCopy_trust (s : State) (m : Master) (f : ReadCopy → ReadCopy) : (s.upCopy m f).trust = s.trust := rfl
@[simp] theorem State.upCopy_recd (s : State) (m : Master) (f : ReadCopy → ReadCopy) : (s.upCopy m f).recd = s.recd := rfl
@[simp] theorem State.upCopy_sys (s : State) (m : Master) (f : ReadCopy → ReadCopy) : (s.upCopy m f).sys = s.sys := rfl
@[simp] theorem State.upCopy_cans (s : State) (m : Master) (f : ReadCopy → ReadCopy) : (s.upCopy m f).cans = s.cans := rfl
@[simp] theorem State.upCopy_crcs (s : State) (m : Master) (f : ReadCopy → ReadCopy) : (s.upCopy m f).crcs = s.crcs := rfl
@[simp] theorem State.upCopy_cnts (s : State) (m : Master) (f : ReadCopy → ReadCopy) : (s.upCopy m f).cnts = s.cnts := rfl
@[simp] theorem State.upCopy_net (s : State) (m : Master) (f : ReadCopy → ReadCopy) : (s.upCopy m f).net = s.net := rfl
@[simp] theorem State.upCopy_pins (s : State) (m : Master) (f : ReadCopy → ReadCopy) : (s.upCopy m f).pins = s.pins := rfl
@[simp] theorem State.upCopy_bus (s : State) (m : Master) (f : ReadCopy → ReadCopy) : (s.upCopy m f).bus = s.bus := rfl
@[simp] theorem State.upCopy_free (s : State) (m : Master) (f : ReadCopy → ReadCopy) : (s.upCopy m f).free = s.free := rfl
@[simp] theorem State.upCopy_copies (s : State) (m : Master) (f : ReadCopy → ReadCopy) : (s.upCopy m f).copies = vupd s.copies m f := rfl

theorem State.setWord_eq (s : State) (f : Fld) (i : Nat) (w : Word) : ∃ r, s.setWord f i w = { s with regs := r } := by
  unfold State.setWord; exact ⟨_, rfl⟩

/-! ## `State.setWord` -/

@[simp] theorem State.setWord_pending (s : State) (f : Fld) (i : Nat) (w : Word) : (s.setWord f i w).pending = s.pending := by
  obtain ⟨r, h⟩ := s.setWord_eq f i w; rw [h]
@[simp] theorem State.setWord_now (s : State) (f : Fld) (i : Nat) (w : Word) : (s.setWord f i w).now = s.now := by
  obtain ⟨r, h⟩ := s.setWord_eq f i w; rw [h]
@[simp] theorem State.setWord_dtime (s : State) (f : Fld) (i : Nat) (w : Word) : (s.setWord f i w).dtime = s.dtime := by
  obtain ⟨r, h⟩ := s.setWord_eq f i w; rw [h]
@[simp] theorem State.setWord_mem (s : State) (f : Fld) (i : Nat) (w : Word) : (s.setWord f i w).mem = s.mem := by
  obtain ⟨r, h⟩ := s.setWord_eq f i w; rw [h]
@[simp] theorem State.setWord_params (s : State) (f : Fld) (i : Nat) (w : Word) : (s.setWord f i w).params = s.params := by
  obtain ⟨r, h⟩ := s.setWord_eq f i w; rw [h]
@[simp] theorem State.setWord_locks (s : State) (f : Fld) (i : Nat) (w : Word) : (s.setWord f i w).locks = s.locks := by
  obtain ⟨r, h⟩ := s.setWord_eq f i w; rw [h]
@[simp] theorem State.setWord_lockTie (s : State) (f : Fld) (i : Nat) (w : Word) : (s.setWord f i w).lockTie = s.lockTie := by
  obtain ⟨r, h⟩ := s.setWord_eq f i w; rw [h]
@[simp] theorem State.setWord_spi (s : State) (f : Fld) (i : Nat) (w : Word) : (s.setWord f i w).spi = s.spi := by
  obtain ⟨r, h⟩ := s.setWord_eq f i w; rw [h]
@[simp] theorem State.setWord_bridges (s : State) (f : Fld) (i : Nat) (w : Word) : (s.setWord f i w).bridges = s.bridges := by
  obtain ⟨r, h⟩ := s.setWord_eq f i w; rw [h]
@[simp] theorem State.setWord_flights (s : State) (f : Fld) (i : Nat) (w : Word) : (s.setWord f i w).flights = s.flights := by
  obtain ⟨r, h⟩ := s.setWord_eq f i w; rw [h]
@[simp] theorem State.setWord_mods (s : State) (f : Fld) (i : Nat) (w : Word) : (s.setWord f i w).mods = s.mods := by
  obtain ⟨r, h⟩ := s.setWord_eq f i w; rw [h]
@[simp] theorem State.setWord_ports (s : State) (f : Fld) (i : Nat) (w : Word) : (s.setWord f i w).ports = s.ports := by
  obtain ⟨r, h⟩ := s.setWord_eq f i w; rw [h]
@[simp] theorem State.setWord_aclks (s : State) (f : Fld) (i : Nat) (w : Word) : (s.setWord f i w).aclks = s.aclks := by
  obtain ⟨r, h⟩ := s.setWord_eq f i w; rw [h]
@[simp] theorem State.setWord_convs (s : State) (f : Fld) (i : Nat) (w : Word) : (s.setWord f i w).convs = s.convs := by
  obtain ⟨r, h⟩ := s.setWord_eq f i w; rw [h]
@[simp] theorem State.setWord_lanes (s : State) (f : Fld) (i : Nat) (w : Word) : (s.setWord f i w).lanes = s.lanes := by
  obtain ⟨r, h⟩ := s.setWord_eq f i w; rw [h]
@[simp] theorem State.setWord_links (s : State) (f : Fld) (i : Nat) (w : Word) : (s.setWord f i w).links = s.links := by
  obtain ⟨r, h⟩ := s.setWord_eq f i w; rw [h]
@[simp] theorem State.setWord_trips (s : State) (f : Fld) (i : Nat) (w : Word) : (s.setWord f i w).trips = s.trips := by
  obtain ⟨r, h⟩ := s.setWord_eq f i w; rw [h]
@[simp] theorem State.setWord_fcr (s : State) (f : Fld) (i : Nat) (w : Word) : (s.setWord f i w).fcr = s.fcr := by
  obtain ⟨r, h⟩ := s.setWord_eq f i w; rw [h]
@[simp] theorem State.setWord_sto (s : State) (f : Fld) (i : Nat) (w : Word) : (s.setWord f i w).sto = s.sto := by
  obtain ⟨r, h⟩ := s.setWord_eq f i w; rw [h]
@[simp] theorem State.setWord_dcl (s : State) (f : Fld) (i : Nat) (w : Word) : (s.setWord f i w).dcl = s.dcl := by
  obtain ⟨r, h⟩ := s.setWord_eq f i w; rw [h]
@[simp] theorem State.setWord_pilot (s : State) (f : Fld) (i : Nat) (w : Word) : (s.setWord f i w).pilot = s.pilot := by
  obtain ⟨r, h⟩ := s.setWord_eq f i w; rw [h]
@[simp] theorem State.setWord_trust (s : State) (f : Fld) (i : Nat) (w : Word) : (s.setWord f i w).trust = s.trust := by
  obtain ⟨r, h⟩ := s.setWord_eq f i w; rw [h]
@[simp] theorem State.setWord_recd (s : State) (f : Fld) (i : Nat) (w : Word) : (s.setWord f i w).recd = s.recd := by
  obtain ⟨r, h⟩ := s.setWord_eq f i w; rw [h]
@[simp] theorem State.setWord_sys (s : State) (f : Fld) (i : Nat) (w : Word) : (s.setWord f i w).sys = s.sys := by
  obtain ⟨r, h⟩ := s.setWord_eq f i w; rw [h]
@[simp] theorem State.setWord_cans (s : State) (f : Fld) (i : Nat) (w : Word) : (s.setWord f i w).cans = s.cans := by
  obtain ⟨r, h⟩ := s.setWord_eq f i w; rw [h]
@[simp] theorem State.setWord_crcs (s : State) (f : Fld) (i : Nat) (w : Word) : (s.setWord f i w).crcs = s.crcs := by
  obtain ⟨r, h⟩ := s.setWord_eq f i w; rw [h]
@[simp] theorem State.setWord_cnts (s : State) (f : Fld) (i : Nat) (w : Word) : (s.setWord f i w).cnts = s.cnts := by
  obtain ⟨r, h⟩ := s.setWord_eq f i w; rw [h]
@[simp] theorem State.setWord_copies (s : State) (f : Fld) (i : Nat) (w : Word) : (s.setWord f i w).copies = s.copies := by
  obtain ⟨r, h⟩ := s.setWord_eq f i w; rw [h]
@[simp] theorem State.setWord_net (s : State) (f : Fld) (i : Nat) (w : Word) : (s.setWord f i w).net = s.net := by
  obtain ⟨r, h⟩ := s.setWord_eq f i w; rw [h]
@[simp] theorem State.setWord_pins (s : State) (f : Fld) (i : Nat) (w : Word) : (s.setWord f i w).pins = s.pins := by
  obtain ⟨r, h⟩ := s.setWord_eq f i w; rw [h]
@[simp] theorem State.setWord_bus (s : State) (f : Fld) (i : Nat) (w : Word) : (s.setWord f i w).bus = s.bus := by
  obtain ⟨r, h⟩ := s.setWord_eq f i w; rw [h]
@[simp] theorem State.setWord_free (s : State) (f : Fld) (i : Nat) (w : Word) : (s.setWord f i w).free = s.free := by
  obtain ⟨r, h⟩ := s.setWord_eq f i w; rw [h]

theorem State.wr_eq (s : State) (f : Fld) (i v : Nat) : ∃ r, s.wr f i v = s.setWord f i r := by
  unfold State.wr; exact ⟨_, rfl⟩

/-! ## `State.wr` -/

@[simp] theorem State.wr_pending (s : State) (f : Fld) (i v : Nat) : (s.wr f i v).pending = s.pending := by
  obtain ⟨r, h⟩ := s.wr_eq f i v; rw [h, State.setWord_pending]
@[simp] theorem State.wr_now (s : State) (f : Fld) (i v : Nat) : (s.wr f i v).now = s.now := by
  obtain ⟨r, h⟩ := s.wr_eq f i v; rw [h, State.setWord_now]
@[simp] theorem State.wr_dtime (s : State) (f : Fld) (i v : Nat) : (s.wr f i v).dtime = s.dtime := by
  obtain ⟨r, h⟩ := s.wr_eq f i v; rw [h, State.setWord_dtime]
@[simp] theorem State.wr_mem (s : State) (f : Fld) (i v : Nat) : (s.wr f i v).mem = s.mem := by
  obtain ⟨r, h⟩ := s.wr_eq f i v; rw [h, State.setWord_mem]
@[simp] theorem State.wr_params (s : State) (f : Fld) (i v : Nat) : (s.wr f i v).params = s.params := by
  obtain ⟨r, h⟩ := s.wr_eq f i v; rw [h, State.setWord_params]
@[simp] theorem State.wr_locks (s : State) (f : Fld) (i v : Nat) : (s.wr f i v).locks = s.locks := by
  obtain ⟨r, h⟩ := s.wr_eq f i v; rw [h, State.setWord_locks]
@[simp] theorem State.wr_lockTie (s : State) (f : Fld) (i v : Nat) : (s.wr f i v).lockTie = s.lockTie := by
  obtain ⟨r, h⟩ := s.wr_eq f i v; rw [h, State.setWord_lockTie]
@[simp] theorem State.wr_spi (s : State) (f : Fld) (i v : Nat) : (s.wr f i v).spi = s.spi := by
  obtain ⟨r, h⟩ := s.wr_eq f i v; rw [h, State.setWord_spi]
@[simp] theorem State.wr_bridges (s : State) (f : Fld) (i v : Nat) : (s.wr f i v).bridges = s.bridges := by
  obtain ⟨r, h⟩ := s.wr_eq f i v; rw [h, State.setWord_bridges]
@[simp] theorem State.wr_flights (s : State) (f : Fld) (i v : Nat) : (s.wr f i v).flights = s.flights := by
  obtain ⟨r, h⟩ := s.wr_eq f i v; rw [h, State.setWord_flights]
@[simp] theorem State.wr_mods (s : State) (f : Fld) (i v : Nat) : (s.wr f i v).mods = s.mods := by
  obtain ⟨r, h⟩ := s.wr_eq f i v; rw [h, State.setWord_mods]
@[simp] theorem State.wr_ports (s : State) (f : Fld) (i v : Nat) : (s.wr f i v).ports = s.ports := by
  obtain ⟨r, h⟩ := s.wr_eq f i v; rw [h, State.setWord_ports]
@[simp] theorem State.wr_aclks (s : State) (f : Fld) (i v : Nat) : (s.wr f i v).aclks = s.aclks := by
  obtain ⟨r, h⟩ := s.wr_eq f i v; rw [h, State.setWord_aclks]
@[simp] theorem State.wr_convs (s : State) (f : Fld) (i v : Nat) : (s.wr f i v).convs = s.convs := by
  obtain ⟨r, h⟩ := s.wr_eq f i v; rw [h, State.setWord_convs]
@[simp] theorem State.wr_lanes (s : State) (f : Fld) (i v : Nat) : (s.wr f i v).lanes = s.lanes := by
  obtain ⟨r, h⟩ := s.wr_eq f i v; rw [h, State.setWord_lanes]
@[simp] theorem State.wr_links (s : State) (f : Fld) (i v : Nat) : (s.wr f i v).links = s.links := by
  obtain ⟨r, h⟩ := s.wr_eq f i v; rw [h, State.setWord_links]
@[simp] theorem State.wr_trips (s : State) (f : Fld) (i v : Nat) : (s.wr f i v).trips = s.trips := by
  obtain ⟨r, h⟩ := s.wr_eq f i v; rw [h, State.setWord_trips]
@[simp] theorem State.wr_fcr (s : State) (f : Fld) (i v : Nat) : (s.wr f i v).fcr = s.fcr := by
  obtain ⟨r, h⟩ := s.wr_eq f i v; rw [h, State.setWord_fcr]
@[simp] theorem State.wr_sto (s : State) (f : Fld) (i v : Nat) : (s.wr f i v).sto = s.sto := by
  obtain ⟨r, h⟩ := s.wr_eq f i v; rw [h, State.setWord_sto]
@[simp] theorem State.wr_dcl (s : State) (f : Fld) (i v : Nat) : (s.wr f i v).dcl = s.dcl := by
  obtain ⟨r, h⟩ := s.wr_eq f i v; rw [h, State.setWord_dcl]
@[simp] theorem State.wr_pilot (s : State) (f : Fld) (i v : Nat) : (s.wr f i v).pilot = s.pilot := by
  obtain ⟨r, h⟩ := s.wr_eq f i v; rw [h, State.setWord_pilot]
@[simp] theorem State.wr_trust (s : State) (f : Fld) (i v : Nat) : (s.wr f i v).trust = s.trust := by
  obtain ⟨r, h⟩ := s.wr_eq f i v; rw [h, State.setWord_trust]
@[simp] theorem State.wr_recd (s : State) (f : Fld) (i v : Nat) : (s.wr f i v).recd = s.recd := by
  obtain ⟨r, h⟩ := s.wr_eq f i v; rw [h, State.setWord_recd]
@[simp] theorem State.wr_sys (s : State) (f : Fld) (i v : Nat) : (s.wr f i v).sys = s.sys := by
  obtain ⟨r, h⟩ := s.wr_eq f i v; rw [h, State.setWord_sys]
@[simp] theorem State.wr_cans (s : State) (f : Fld) (i v : Nat) : (s.wr f i v).cans = s.cans := by
  obtain ⟨r, h⟩ := s.wr_eq f i v; rw [h, State.setWord_cans]
@[simp] theorem State.wr_crcs (s : State) (f : Fld) (i v : Nat) : (s.wr f i v).crcs = s.crcs := by
  obtain ⟨r, h⟩ := s.wr_eq f i v; rw [h, State.setWord_crcs]
@[simp] theorem State.wr_cnts (s : State) (f : Fld) (i v : Nat) : (s.wr f i v).cnts = s.cnts := by
  obtain ⟨r, h⟩ := s.wr_eq f i v; rw [h, State.setWord_cnts]
@[simp] theorem State.wr_copies (s : State) (f : Fld) (i v : Nat) : (s.wr f i v).copies = s.copies := by
  obtain ⟨r, h⟩ := s.wr_eq f i v; rw [h, State.setWord_copies]
@[simp] theorem State.wr_net (s : State) (f : Fld) (i v : Nat) : (s.wr f i v).net = s.net := by
  obtain ⟨r, h⟩ := s.wr_eq f i v; rw [h, State.setWord_net]
@[simp] theorem State.wr_pins (s : State) (f : Fld) (i v : Nat) : (s.wr f i v).pins = s.pins := by
  obtain ⟨r, h⟩ := s.wr_eq f i v; rw [h, State.setWord_pins]
@[simp] theorem State.wr_bus (s : State) (f : Fld) (i v : Nat) : (s.wr f i v).bus = s.bus := by
  obtain ⟨r, h⟩ := s.wr_eq f i v; rw [h, State.setWord_bus]
@[simp] theorem State.wr_free (s : State) (f : Fld) (i v : Nat) : (s.wr f i v).free = s.free := by
  obtain ⟨r, h⟩ := s.wr_eq f i v; rw [h, State.setWord_free]

theorem State.wrI_eq (s : State) (f : Fld) (i : Nat) (v : Int) : ∃ r, s.wrI f i v = s.wr f i r := by
  unfold State.wrI; exact ⟨_, rfl⟩

/-! ## `State.wrI` -/

@[simp] theorem State.wrI_pending (s : State) (f : Fld) (i : Nat) (v : Int) : (s.wrI f i v).pending = s.pending := by
  obtain ⟨r, h⟩ := s.wrI_eq f i v; rw [h, State.wr_pending]
@[simp] theorem State.wrI_now (s : State) (f : Fld) (i : Nat) (v : Int) : (s.wrI f i v).now = s.now := by
  obtain ⟨r, h⟩ := s.wrI_eq f i v; rw [h, State.wr_now]
@[simp] theorem State.wrI_dtime (s : State) (f : Fld) (i : Nat) (v : Int) : (s.wrI f i v).dtime = s.dtime := by
  obtain ⟨r, h⟩ := s.wrI_eq f i v; rw [h, State.wr_dtime]
@[simp] theorem State.wrI_mem (s : State) (f : Fld) (i : Nat) (v : Int) : (s.wrI f i v).mem = s.mem := by
  obtain ⟨r, h⟩ := s.wrI_eq f i v; rw [h, State.wr_mem]
@[simp] theorem State.wrI_params (s : State) (f : Fld) (i : Nat) (v : Int) : (s.wrI f i v).params = s.params := by
  obtain ⟨r, h⟩ := s.wrI_eq f i v; rw [h, State.wr_params]
@[simp] theorem State.wrI_locks (s : State) (f : Fld) (i : Nat) (v : Int) : (s.wrI f i v).locks = s.locks := by
  obtain ⟨r, h⟩ := s.wrI_eq f i v; rw [h, State.wr_locks]
@[simp] theorem State.wrI_lockTie (s : State) (f : Fld) (i : Nat) (v : Int) : (s.wrI f i v).lockTie = s.lockTie := by
  obtain ⟨r, h⟩ := s.wrI_eq f i v; rw [h, State.wr_lockTie]
@[simp] theorem State.wrI_spi (s : State) (f : Fld) (i : Nat) (v : Int) : (s.wrI f i v).spi = s.spi := by
  obtain ⟨r, h⟩ := s.wrI_eq f i v; rw [h, State.wr_spi]
@[simp] theorem State.wrI_bridges (s : State) (f : Fld) (i : Nat) (v : Int) : (s.wrI f i v).bridges = s.bridges := by
  obtain ⟨r, h⟩ := s.wrI_eq f i v; rw [h, State.wr_bridges]
@[simp] theorem State.wrI_flights (s : State) (f : Fld) (i : Nat) (v : Int) : (s.wrI f i v).flights = s.flights := by
  obtain ⟨r, h⟩ := s.wrI_eq f i v; rw [h, State.wr_flights]
@[simp] theorem State.wrI_mods (s : State) (f : Fld) (i : Nat) (v : Int) : (s.wrI f i v).mods = s.mods := by
  obtain ⟨r, h⟩ := s.wrI_eq f i v; rw [h, State.wr_mods]
@[simp] theorem State.wrI_ports (s : State) (f : Fld) (i : Nat) (v : Int) : (s.wrI f i v).ports = s.ports := by
  obtain ⟨r, h⟩ := s.wrI_eq f i v; rw [h, State.wr_ports]
@[simp] theorem State.wrI_aclks (s : State) (f : Fld) (i : Nat) (v : Int) : (s.wrI f i v).aclks = s.aclks := by
  obtain ⟨r, h⟩ := s.wrI_eq f i v; rw [h, State.wr_aclks]
@[simp] theorem State.wrI_convs (s : State) (f : Fld) (i : Nat) (v : Int) : (s.wrI f i v).convs = s.convs := by
  obtain ⟨r, h⟩ := s.wrI_eq f i v; rw [h, State.wr_convs]
@[simp] theorem State.wrI_lanes (s : State) (f : Fld) (i : Nat) (v : Int) : (s.wrI f i v).lanes = s.lanes := by
  obtain ⟨r, h⟩ := s.wrI_eq f i v; rw [h, State.wr_lanes]
@[simp] theorem State.wrI_links (s : State) (f : Fld) (i : Nat) (v : Int) : (s.wrI f i v).links = s.links := by
  obtain ⟨r, h⟩ := s.wrI_eq f i v; rw [h, State.wr_links]
@[simp] theorem State.wrI_trips (s : State) (f : Fld) (i : Nat) (v : Int) : (s.wrI f i v).trips = s.trips := by
  obtain ⟨r, h⟩ := s.wrI_eq f i v; rw [h, State.wr_trips]
@[simp] theorem State.wrI_fcr (s : State) (f : Fld) (i : Nat) (v : Int) : (s.wrI f i v).fcr = s.fcr := by
  obtain ⟨r, h⟩ := s.wrI_eq f i v; rw [h, State.wr_fcr]
@[simp] theorem State.wrI_sto (s : State) (f : Fld) (i : Nat) (v : Int) : (s.wrI f i v).sto = s.sto := by
  obtain ⟨r, h⟩ := s.wrI_eq f i v; rw [h, State.wr_sto]
@[simp] theorem State.wrI_dcl (s : State) (f : Fld) (i : Nat) (v : Int) : (s.wrI f i v).dcl = s.dcl := by
  obtain ⟨r, h⟩ := s.wrI_eq f i v; rw [h, State.wr_dcl]
@[simp] theorem State.wrI_pilot (s : State) (f : Fld) (i : Nat) (v : Int) : (s.wrI f i v).pilot = s.pilot := by
  obtain ⟨r, h⟩ := s.wrI_eq f i v; rw [h, State.wr_pilot]
@[simp] theorem State.wrI_trust (s : State) (f : Fld) (i : Nat) (v : Int) : (s.wrI f i v).trust = s.trust := by
  obtain ⟨r, h⟩ := s.wrI_eq f i v; rw [h, State.wr_trust]
@[simp] theorem State.wrI_recd (s : State) (f : Fld) (i : Nat) (v : Int) : (s.wrI f i v).recd = s.recd := by
  obtain ⟨r, h⟩ := s.wrI_eq f i v; rw [h, State.wr_recd]
@[simp] theorem State.wrI_sys (s : State) (f : Fld) (i : Nat) (v : Int) : (s.wrI f i v).sys = s.sys := by
  obtain ⟨r, h⟩ := s.wrI_eq f i v; rw [h, State.wr_sys]
@[simp] theorem State.wrI_cans (s : State) (f : Fld) (i : Nat) (v : Int) : (s.wrI f i v).cans = s.cans := by
  obtain ⟨r, h⟩ := s.wrI_eq f i v; rw [h, State.wr_cans]
@[simp] theorem State.wrI_crcs (s : State) (f : Fld) (i : Nat) (v : Int) : (s.wrI f i v).crcs = s.crcs := by
  obtain ⟨r, h⟩ := s.wrI_eq f i v; rw [h, State.wr_crcs]
@[simp] theorem State.wrI_cnts (s : State) (f : Fld) (i : Nat) (v : Int) : (s.wrI f i v).cnts = s.cnts := by
  obtain ⟨r, h⟩ := s.wrI_eq f i v; rw [h, State.wr_cnts]
@[simp] theorem State.wrI_copies (s : State) (f : Fld) (i : Nat) (v : Int) : (s.wrI f i v).copies = s.copies := by
  obtain ⟨r, h⟩ := s.wrI_eq f i v; rw [h, State.wr_copies]
@[simp] theorem State.wrI_net (s : State) (f : Fld) (i : Nat) (v : Int) : (s.wrI f i v).net = s.net := by
  obtain ⟨r, h⟩ := s.wrI_eq f i v; rw [h, State.wr_net]
@[simp] theorem State.wrI_pins (s : State) (f : Fld) (i : Nat) (v : Int) : (s.wrI f i v).pins = s.pins := by
  obtain ⟨r, h⟩ := s.wrI_eq f i v; rw [h, State.wr_pins]
@[simp] theorem State.wrI_bus (s : State) (f : Fld) (i : Nat) (v : Int) : (s.wrI f i v).bus = s.bus := by
  obtain ⟨r, h⟩ := s.wrI_eq f i v; rw [h, State.wr_bus]
@[simp] theorem State.wrI_free (s : State) (f : Fld) (i : Nat) (v : Int) : (s.wrI f i v).free = s.free := by
  obtain ⟨r, h⟩ := s.wrI_eq f i v; rw [h, State.wr_free]

theorem State.flag_eq (s : State) (f : Fld) (i : Nat) (b : Bool) : ∃ r, s.flag f i b = s.wr f i r := by
  unfold State.flag; exact ⟨_, rfl⟩

/-! ## `State.flag` -/

@[simp] theorem State.flag_pending (s : State) (f : Fld) (i : Nat) (b : Bool) : (s.flag f i b).pending = s.pending := by
  obtain ⟨r, h⟩ := s.flag_eq f i b; rw [h, State.wr_pending]
@[simp] theorem State.flag_now (s : State) (f : Fld) (i : Nat) (b : Bool) : (s.flag f i b).now = s.now := by
  obtain ⟨r, h⟩ := s.flag_eq f i b; rw [h, State.wr_now]
@[simp] theorem State.flag_dtime (s : State) (f : Fld) (i : Nat) (b : Bool) : (s.flag f i b).dtime = s.dtime := by
  obtain ⟨r, h⟩ := s.flag_eq f i b; rw [h, State.wr_dtime]
@[simp] theorem State.flag_mem (s : State) (f : Fld) (i : Nat) (b : Bool) : (s.flag f i b).mem = s.mem := by
  obtain ⟨r, h⟩ := s.flag_eq f i b; rw [h, State.wr_mem]
@[simp] theorem State.flag_params (s : State) (f : Fld) (i : Nat) (b : Bool) : (s.flag f i b).params = s.params := by
  obtain ⟨r, h⟩ := s.flag_eq f i b; rw [h, State.wr_params]
@[simp] theorem State.flag_locks (s : State) (f : Fld) (i : Nat) (b : Bool) : (s.flag f i b).locks = s.locks := by
  obtain ⟨r, h⟩ := s.flag_eq f i b; rw [h, State.wr_locks]
@[simp] theorem State.flag_lockTie (s : State) (f : Fld) (i : Nat) (b : Bool) : (s.flag f i b).lockTie = s.lockTie := by
  obtain ⟨r, h⟩ := s.flag_eq f i b; rw [h, State.wr_lockTie]
@[simp] theorem State.flag_spi (s : State) (f : Fld) (i : Nat) (b : Bool) : (s.flag f i b).spi = s.spi := by
  obtain ⟨r, h⟩ := s.flag_eq f i b; rw [h, State.wr_spi]
@[simp] theorem State.flag_bridges (s : State) (f : Fld) (i : Nat) (b : Bool) : (s.flag f i b).bridges = s.bridges := by
  obtain ⟨r, h⟩ := s.flag_eq f i b; rw [h, State.wr_bridges]
@[simp] theorem State.flag_flights (s : State) (f : Fld) (i : Nat) (b : Bool) : (s.flag f i b).flights = s.flights := by
  obtain ⟨r, h⟩ := s.flag_eq f i b; rw [h, State.wr_flights]
@[simp] theorem State.flag_mods (s : State) (f : Fld) (i : Nat) (b : Bool) : (s.flag f i b).mods = s.mods := by
  obtain ⟨r, h⟩ := s.flag_eq f i b; rw [h, State.wr_mods]
@[simp] theorem State.flag_ports (s : State) (f : Fld) (i : Nat) (b : Bool) : (s.flag f i b).ports = s.ports := by
  obtain ⟨r, h⟩ := s.flag_eq f i b; rw [h, State.wr_ports]
@[simp] theorem State.flag_aclks (s : State) (f : Fld) (i : Nat) (b : Bool) : (s.flag f i b).aclks = s.aclks := by
  obtain ⟨r, h⟩ := s.flag_eq f i b; rw [h, State.wr_aclks]
@[simp] theorem State.flag_convs (s : State) (f : Fld) (i : Nat) (b : Bool) : (s.flag f i b).convs = s.convs := by
  obtain ⟨r, h⟩ := s.flag_eq f i b; rw [h, State.wr_convs]
@[simp] theorem State.flag_lanes (s : State) (f : Fld) (i : Nat) (b : Bool) : (s.flag f i b).lanes = s.lanes := by
  obtain ⟨r, h⟩ := s.flag_eq f i b; rw [h, State.wr_lanes]
@[simp] theorem State.flag_links (s : State) (f : Fld) (i : Nat) (b : Bool) : (s.flag f i b).links = s.links := by
  obtain ⟨r, h⟩ := s.flag_eq f i b; rw [h, State.wr_links]
@[simp] theorem State.flag_trips (s : State) (f : Fld) (i : Nat) (b : Bool) : (s.flag f i b).trips = s.trips := by
  obtain ⟨r, h⟩ := s.flag_eq f i b; rw [h, State.wr_trips]
@[simp] theorem State.flag_fcr (s : State) (f : Fld) (i : Nat) (b : Bool) : (s.flag f i b).fcr = s.fcr := by
  obtain ⟨r, h⟩ := s.flag_eq f i b; rw [h, State.wr_fcr]
@[simp] theorem State.flag_sto (s : State) (f : Fld) (i : Nat) (b : Bool) : (s.flag f i b).sto = s.sto := by
  obtain ⟨r, h⟩ := s.flag_eq f i b; rw [h, State.wr_sto]
@[simp] theorem State.flag_dcl (s : State) (f : Fld) (i : Nat) (b : Bool) : (s.flag f i b).dcl = s.dcl := by
  obtain ⟨r, h⟩ := s.flag_eq f i b; rw [h, State.wr_dcl]
@[simp] theorem State.flag_pilot (s : State) (f : Fld) (i : Nat) (b : Bool) : (s.flag f i b).pilot = s.pilot := by
  obtain ⟨r, h⟩ := s.flag_eq f i b; rw [h, State.wr_pilot]
@[simp] theorem State.flag_trust (s : State) (f : Fld) (i : Nat) (b : Bool) : (s.flag f i b).trust = s.trust := by
  obtain ⟨r, h⟩ := s.flag_eq f i b; rw [h, State.wr_trust]
@[simp] theorem State.flag_recd (s : State) (f : Fld) (i : Nat) (b : Bool) : (s.flag f i b).recd = s.recd := by
  obtain ⟨r, h⟩ := s.flag_eq f i b; rw [h, State.wr_recd]
@[simp] theorem State.flag_sys (s : State) (f : Fld) (i : Nat) (b : Bool) : (s.flag f i b).sys = s.sys := by
  obtain ⟨r, h⟩ := s.flag_eq f i b; rw [h, State.wr_sys]
@[simp] theorem State.flag_cans (s : State) (f : Fld) (i : Nat) (b : Bool) : (s.flag f i b).cans = s.cans := by
  obtain ⟨r, h⟩ := s.flag_eq f i b; rw [h, State.wr_cans]
@[simp] theorem State.flag_crcs (s : State) (f : Fld) (i : Nat) (b : Bool) : (s.flag f i b).crcs = s.crcs := by
  obtain ⟨r, h⟩ := s.flag_eq f i b; rw [h, State.wr_crcs]
@[simp] theorem State.flag_cnts (s : State) (f : Fld) (i : Nat) (b : Bool) : (s.flag f i b).cnts = s.cnts := by
  obtain ⟨r, h⟩ := s.flag_eq f i b; rw [h, State.wr_cnts]
@[simp] theorem State.flag_copies (s : State) (f : Fld) (i : Nat) (b : Bool) : (s.flag f i b).copies = s.copies := by
  obtain ⟨r, h⟩ := s.flag_eq f i b; rw [h, State.wr_copies]
@[simp] theorem State.flag_net (s : State) (f : Fld) (i : Nat) (b : Bool) : (s.flag f i b).net = s.net := by
  obtain ⟨r, h⟩ := s.flag_eq f i b; rw [h, State.wr_net]
@[simp] theorem State.flag_pins (s : State) (f : Fld) (i : Nat) (b : Bool) : (s.flag f i b).pins = s.pins := by
  obtain ⟨r, h⟩ := s.flag_eq f i b; rw [h, State.wr_pins]
@[simp] theorem State.flag_bus (s : State) (f : Fld) (i : Nat) (b : Bool) : (s.flag f i b).bus = s.bus := by
  obtain ⟨r, h⟩ := s.flag_eq f i b; rw [h, State.wr_bus]
@[simp] theorem State.flag_free (s : State) (f : Fld) (i : Nat) (b : Bool) : (s.flag f i b).free = s.free := by
  obtain ⟨r, h⟩ := s.flag_eq f i b; rw [h, State.wr_free]

theorem State.irq_eq (s : State) (n : Nat) : ∃ r, s.irq n = s.setWord F.SYS_IRQ_STATUS_LEVEL 0 r := by
  unfold State.irq; exact ⟨_, rfl⟩

/-! ## `State.irq` -/

@[simp] theorem State.irq_pending (s : State) (n : Nat) : (s.irq n).pending = s.pending := by
  obtain ⟨r, h⟩ := s.irq_eq n; rw [h, State.setWord_pending]
@[simp] theorem State.irq_now (s : State) (n : Nat) : (s.irq n).now = s.now := by
  obtain ⟨r, h⟩ := s.irq_eq n; rw [h, State.setWord_now]
@[simp] theorem State.irq_dtime (s : State) (n : Nat) : (s.irq n).dtime = s.dtime := by
  obtain ⟨r, h⟩ := s.irq_eq n; rw [h, State.setWord_dtime]
@[simp] theorem State.irq_mem (s : State) (n : Nat) : (s.irq n).mem = s.mem := by
  obtain ⟨r, h⟩ := s.irq_eq n; rw [h, State.setWord_mem]
@[simp] theorem State.irq_params (s : State) (n : Nat) : (s.irq n).params = s.params := by
  obtain ⟨r, h⟩ := s.irq_eq n; rw [h, State.setWord_params]
@[simp] theorem State.irq_locks (s : State) (n : Nat) : (s.irq n).locks = s.locks := by
  obtain ⟨r, h⟩ := s.irq_eq n; rw [h, State.setWord_locks]
@[simp] theorem State.irq_lockTie (s : State) (n : Nat) : (s.irq n).lockTie = s.lockTie := by
  obtain ⟨r, h⟩ := s.irq_eq n; rw [h, State.setWord_lockTie]
@[simp] theorem State.irq_spi (s : State) (n : Nat) : (s.irq n).spi = s.spi := by
  obtain ⟨r, h⟩ := s.irq_eq n; rw [h, State.setWord_spi]
@[simp] theorem State.irq_bridges (s : State) (n : Nat) : (s.irq n).bridges = s.bridges := by
  obtain ⟨r, h⟩ := s.irq_eq n; rw [h, State.setWord_bridges]
@[simp] theorem State.irq_flights (s : State) (n : Nat) : (s.irq n).flights = s.flights := by
  obtain ⟨r, h⟩ := s.irq_eq n; rw [h, State.setWord_flights]
@[simp] theorem State.irq_mods (s : State) (n : Nat) : (s.irq n).mods = s.mods := by
  obtain ⟨r, h⟩ := s.irq_eq n; rw [h, State.setWord_mods]
@[simp] theorem State.irq_ports (s : State) (n : Nat) : (s.irq n).ports = s.ports := by
  obtain ⟨r, h⟩ := s.irq_eq n; rw [h, State.setWord_ports]
@[simp] theorem State.irq_aclks (s : State) (n : Nat) : (s.irq n).aclks = s.aclks := by
  obtain ⟨r, h⟩ := s.irq_eq n; rw [h, State.setWord_aclks]
@[simp] theorem State.irq_convs (s : State) (n : Nat) : (s.irq n).convs = s.convs := by
  obtain ⟨r, h⟩ := s.irq_eq n; rw [h, State.setWord_convs]
@[simp] theorem State.irq_lanes (s : State) (n : Nat) : (s.irq n).lanes = s.lanes := by
  obtain ⟨r, h⟩ := s.irq_eq n; rw [h, State.setWord_lanes]
@[simp] theorem State.irq_links (s : State) (n : Nat) : (s.irq n).links = s.links := by
  obtain ⟨r, h⟩ := s.irq_eq n; rw [h, State.setWord_links]
@[simp] theorem State.irq_trips (s : State) (n : Nat) : (s.irq n).trips = s.trips := by
  obtain ⟨r, h⟩ := s.irq_eq n; rw [h, State.setWord_trips]
@[simp] theorem State.irq_fcr (s : State) (n : Nat) : (s.irq n).fcr = s.fcr := by
  obtain ⟨r, h⟩ := s.irq_eq n; rw [h, State.setWord_fcr]
@[simp] theorem State.irq_sto (s : State) (n : Nat) : (s.irq n).sto = s.sto := by
  obtain ⟨r, h⟩ := s.irq_eq n; rw [h, State.setWord_sto]
@[simp] theorem State.irq_dcl (s : State) (n : Nat) : (s.irq n).dcl = s.dcl := by
  obtain ⟨r, h⟩ := s.irq_eq n; rw [h, State.setWord_dcl]
@[simp] theorem State.irq_pilot (s : State) (n : Nat) : (s.irq n).pilot = s.pilot := by
  obtain ⟨r, h⟩ := s.irq_eq n; rw [h, State.setWord_pilot]
@[simp] theorem State.irq_trust (s : State) (n : Nat) : (s.irq n).trust = s.trust := by
  obtain ⟨r, h⟩ := s.irq_eq n; rw [h, State.setWord_trust]
@[simp] theorem State.irq_recd (s : State) (n : Nat) : (s.irq n).recd = s.recd := by
  obtain ⟨r, h⟩ := s.irq_eq n; rw [h, State.setWord_recd]
@[simp] theorem State.irq_sys (s : State) (n : Nat) : (s.irq n).sys = s.sys := by
  obtain ⟨r, h⟩ := s.irq_eq n; rw [h, State.setWord_sys]
@[simp] theorem State.irq_cans (s : State) (n : Nat) : (s.irq n).cans = s.cans := by
  obtain ⟨r, h⟩ := s.irq_eq n; rw [h, State.setWord_cans]
@[simp] theorem State.irq_crcs (s : State) (n : Nat) : (s.irq n).crcs = s.crcs := by
  obtain ⟨r, h⟩ := s.irq_eq n; rw [h, State.setWord_crcs]
@[simp] theorem State.irq_cnts (s : State) (n : Nat) : (s.irq n).cnts = s.cnts := by
  obtain ⟨r, h⟩ := s.irq_eq n; rw [h, State.setWord_cnts]
@[simp] theorem State.irq_copies (s : State) (n : Nat) : (s.irq n).copies = s.copies := by
  obtain ⟨r, h⟩ := s.irq_eq n; rw [h, State.setWord_copies]
@[simp] theorem State.irq_net (s : State) (n : Nat) : (s.irq n).net = s.net := by
  obtain ⟨r, h⟩ := s.irq_eq n; rw [h, State.setWord_net]
@[simp] theorem State.irq_pins (s : State) (n : Nat) : (s.irq n).pins = s.pins := by
  obtain ⟨r, h⟩ := s.irq_eq n; rw [h, State.setWord_pins]
@[simp] theorem State.irq_bus (s : State) (n : Nat) : (s.irq n).bus = s.bus := by
  obtain ⟨r, h⟩ := s.irq_eq n; rw [h, State.setWord_bus]
@[simp] theorem State.irq_free (s : State) (n : Nat) : (s.irq n).free = s.free := by
  obtain ⟨r, h⟩ := s.irq_eq n; rw [h, State.setWord_free]

theorem State.setMemB_eq (s : State) (a : Nat) (b : Byte) : ∃ r, s.setMemB a b = { s with mem := r } := by
  unfold State.setMemB; exact ⟨_, rfl⟩

/-! ## `State.setMemB` -/

@[simp] theorem State.setMemB_pending (s : State) (a : Nat) (b : Byte) : (s.setMemB a b).pending = s.pending := by
  obtain ⟨r, h⟩ := s.setMemB_eq a b; rw [h]
@[simp] theorem State.setMemB_now (s : State) (a : Nat) (b : Byte) : (s.setMemB a b).now = s.now := by
  obtain ⟨r, h⟩ := s.setMemB_eq a b; rw [h]
@[simp] theorem State.setMemB_dtime (s : State) (a : Nat) (b : Byte) : (s.setMemB a b).dtime = s.dtime := by
  obtain ⟨r, h⟩ := s.setMemB_eq a b; rw [h]
@[simp] theorem State.setMemB_regs (s : State) (a : Nat) (b : Byte) : (s.setMemB a b).regs = s.regs := by
  obtain ⟨r, h⟩ := s.setMemB_eq a b; rw [h]
@[simp] theorem State.setMemB_params (s : State) (a : Nat) (b : Byte) : (s.setMemB a b).params = s.params := by
  obtain ⟨r, h⟩ := s.setMemB_eq a b; rw [h]
@[simp] theorem State.setMemB_locks (s : State) (a : Nat) (b : Byte) : (s.setMemB a b).locks = s.locks := by
  obtain ⟨r, h⟩ := s.setMemB_eq a b; rw [h]
@[simp] theorem State.setMemB_lockTie (s : State) (a : Nat) (b : Byte) : (s.setMemB a b).lockTie = s.lockTie := by
  obtain ⟨r, h⟩ := s.setMemB_eq a b; rw [h]
@[simp] theorem State.setMemB_spi (s : State) (a : Nat) (b : Byte) : (s.setMemB a b).spi = s.spi := by
  obtain ⟨r, h⟩ := s.setMemB_eq a b; rw [h]
@[simp] theorem State.setMemB_bridges (s : State) (a : Nat) (b : Byte) : (s.setMemB a b).bridges = s.bridges := by
  obtain ⟨r, h⟩ := s.setMemB_eq a b; rw [h]
@[simp] theorem State.setMemB_flights (s : State) (a : Nat) (b : Byte) : (s.setMemB a b).flights = s.flights := by
  obtain ⟨r, h⟩ := s.setMemB_eq a b; rw [h]
@[simp] theorem State.setMemB_mods (s : State) (a : Nat) (b : Byte) : (s.setMemB a b).mods = s.mods := by
  obtain ⟨r, h⟩ := s.setMemB_eq a b; rw [h]
@[simp] theorem State.setMemB_ports (s : State) (a : Nat) (b : Byte) : (s.setMemB a b).ports = s.ports := by
  obtain ⟨r, h⟩ := s.setMemB_eq a b; rw [h]
@[simp] theorem State.setMemB_aclks (s : State) (a : Nat) (b : Byte) : (s.setMemB a b).aclks = s.aclks := by
  obtain ⟨r, h⟩ := s.setMemB_eq a b; rw [h]
@[simp] theorem State.setMemB_convs (s : State) (a : Nat) (b : Byte) : (s.setMemB a b).convs = s.convs := by
  obtain ⟨r, h⟩ := s.setMemB_eq a b; rw [h]
@[simp] theorem State.setMemB_lanes (s : State) (a : Nat) (b : Byte) : (s.setMemB a b).lanes = s.lanes := by
  obtain ⟨r, h⟩ := s.setMemB_eq a b; rw [h]
@[simp] theorem State.setMemB_links (s : State) (a : Nat) (b : Byte) : (s.setMemB a b).links = s.links := by
  obtain ⟨r, h⟩ := s.setMemB_eq a b; rw [h]
@[simp] theorem State.setMemB_trips (s : State) (a : Nat) (b : Byte) : (s.setMemB a b).trips = s.trips := by
  obtain ⟨r, h⟩ := s.setMemB_eq a b; rw [h]
@[simp] theorem State.setMemB_fcr (s : State) (a : Nat) (b : Byte) : (s.setMemB a b).fcr = s.fcr := by
  obtain ⟨r, h⟩ := s.setMemB_eq a b; rw [h]
@[simp] theorem State.setMemB_sto (s : State) (a : Nat) (b : Byte) : (s.setMemB a b).sto = s.sto := by
  obtain ⟨r, h⟩ := s.setMemB_eq a b; rw [h]
@[simp] theorem State.setMemB_dcl (s : State) (a : Nat) (b : Byte) : (s.setMemB a b).dcl = s.dcl := by
  obtain ⟨r, h⟩ := s.setMemB_eq a b; rw [h]
@[simp] theorem State.setMemB_pilot (s : State) (a : Nat) (b : Byte) : (s.setMemB a b).pilot = s.pilot := by
  obtain ⟨r, h⟩ := s.setMemB_eq a b; rw [h]
@[simp] theorem State.setMemB_trust (s : State) (a : Nat) (b : Byte) : (s.setMemB a b).trust = s.trust := by
  obtain ⟨r, h⟩ := s.setMemB_eq a b; rw [h]
@[simp] theorem State.setMemB_recd (s : State) (a : Nat) (b : Byte) : (s.setMemB a b).recd = s.recd := by
  obtain ⟨r, h⟩ := s.setMemB_eq a b; rw [h]
@[simp] theorem State.setMemB_sys (s : State) (a : Nat) (b : Byte) : (s.setMemB a b).sys = s.sys := by
  obtain ⟨r, h⟩ := s.setMemB_eq a b; rw [h]
@[simp] theorem State.setMemB_cans (s : State) (a : Nat) (b : Byte) : (s.setMemB a b).cans = s.cans := by
  obtain ⟨r, h⟩ := s.setMemB_eq a b; rw [h]
@[simp] theorem State.setMemB_crcs (s : State) (a : Nat) (b : Byte) : (s.setMemB a b).crcs = s.crcs := by
  obtain ⟨r, h⟩ := s.setMemB_eq a b; rw [h]
@[simp] theorem State.setMemB_cnts (s : State) (a : Nat) (b : Byte) : (s.setMemB a b).cnts = s.cnts := by
  obtain ⟨r, h⟩ := s.setMemB_eq a b; rw [h]
@[simp] theorem State.setMemB_copies (s : State) (a : Nat) (b : Byte) : (s.setMemB a b).copies = s.copies := by
  obtain ⟨r, h⟩ := s.setMemB_eq a b; rw [h]
@[simp] theorem State.setMemB_net (s : State) (a : Nat) (b : Byte) : (s.setMemB a b).net = s.net := by
  obtain ⟨r, h⟩ := s.setMemB_eq a b; rw [h]
@[simp] theorem State.setMemB_pins (s : State) (a : Nat) (b : Byte) : (s.setMemB a b).pins = s.pins := by
  obtain ⟨r, h⟩ := s.setMemB_eq a b; rw [h]
@[simp] theorem State.setMemB_bus (s : State) (a : Nat) (b : Byte) : (s.setMemB a b).bus = s.bus := by
  obtain ⟨r, h⟩ := s.setMemB_eq a b; rw [h]
@[simp] theorem State.setMemB_free (s : State) (a : Nat) (b : Byte) : (s.setMemB a b).free = s.free := by
  obtain ⟨r, h⟩ := s.setMemB_eq a b; rw [h]

theorem State.evtN_eq (s : State) (code n : Nat) : ∃ r, s.evtN code n = { s with cnts := r } := by
  unfold State.evtN; exact ⟨_, rfl⟩

/-! ## `State.evtN` -/

@[simp] theorem State.evtN_pending (s : State) (code n : Nat) : (s.evtN code n).pending = s.pending := by
  obtain ⟨r, h⟩ := s.evtN_eq code n; rw [h]
@[simp] theorem State.evtN_now (s : State) (code n : Nat) : (s.evtN code n).now = s.now := by
  obtain ⟨r, h⟩ := s.evtN_eq code n; rw [h]
@[simp] theorem State.evtN_dtime (s : State) (code n : Nat) : (s.evtN code n).dtime = s.dtime := by
  obtain ⟨r, h⟩ := s.evtN_eq code n; rw [h]
@[simp] theorem State.evtN_regs (s : State) (code n : Nat) : (s.evtN code n).regs = s.regs := by
  obtain ⟨r, h⟩ := s.evtN_eq code n; rw [h]
@[simp] theorem State.evtN_mem (s : State) (code n : Nat) : (s.evtN code n).mem = s.mem := by
  obtain ⟨r, h⟩ := s.evtN_eq code n; rw [h]
@[simp] theorem State.evtN_params (s : State) (code n : Nat) : (s.evtN code n).params = s.params := by
  obtain ⟨r, h⟩ := s.evtN_eq code n; rw [h]
@[simp] theorem State.evtN_locks (s : State) (code n : Nat) : (s.evtN code n).locks = s.locks := by
  obtain ⟨r, h⟩ := s.evtN_eq code n; rw [h]
@[simp] theorem State.evtN_lockTie (s : State) (code n : Nat) : (s.evtN code n).lockTie = s.lockTie := by
  obtain ⟨r, h⟩ := s.evtN_eq code n; rw [h]
@[simp] theorem State.evtN_spi (s : State) (code n : Nat) : (s.evtN code n).spi = s.spi := by
  obtain ⟨r, h⟩ := s.evtN_eq code n; rw [h]
@[simp] theorem State.evtN_bridges (s : State) (code n : Nat) : (s.evtN code n).bridges = s.bridges := by
  obtain ⟨r, h⟩ := s.evtN_eq code n; rw [h]
@[simp] theorem State.evtN_flights (s : State) (code n : Nat) : (s.evtN code n).flights = s.flights := by
  obtain ⟨r, h⟩ := s.evtN_eq code n; rw [h]
@[simp] theorem State.evtN_mods (s : State) (code n : Nat) : (s.evtN code n).mods = s.mods := by
  obtain ⟨r, h⟩ := s.evtN_eq code n; rw [h]
@[simp] theorem State.evtN_ports (s : State) (code n : Nat) : (s.evtN code n).ports = s.ports := by
  obtain ⟨r, h⟩ := s.evtN_eq code n; rw [h]
@[simp] theorem State.evtN_aclks (s : State) (code n : Nat) : (s.evtN code n).aclks = s.aclks := by
  obtain ⟨r, h⟩ := s.evtN_eq code n; rw [h]
@[simp] theorem State.evtN_convs (s : State) (code n : Nat) : (s.evtN code n).convs = s.convs := by
  obtain ⟨r, h⟩ := s.evtN_eq code n; rw [h]
@[simp] theorem State.evtN_lanes (s : State) (code n : Nat) : (s.evtN code n).lanes = s.lanes := by
  obtain ⟨r, h⟩ := s.evtN_eq code n; rw [h]
@[simp] theorem State.evtN_links (s : State) (code n : Nat) : (s.evtN code n).links = s.links := by
  obtain ⟨r, h⟩ := s.evtN_eq code n; rw [h]
@[simp] theorem State.evtN_trips (s : State) (code n : Nat) : (s.evtN code n).trips = s.trips := by
  obtain ⟨r, h⟩ := s.evtN_eq code n; rw [h]
@[simp] theorem State.evtN_fcr (s : State) (code n : Nat) : (s.evtN code n).fcr = s.fcr := by
  obtain ⟨r, h⟩ := s.evtN_eq code n; rw [h]
@[simp] theorem State.evtN_sto (s : State) (code n : Nat) : (s.evtN code n).sto = s.sto := by
  obtain ⟨r, h⟩ := s.evtN_eq code n; rw [h]
@[simp] theorem State.evtN_dcl (s : State) (code n : Nat) : (s.evtN code n).dcl = s.dcl := by
  obtain ⟨r, h⟩ := s.evtN_eq code n; rw [h]
@[simp] theorem State.evtN_pilot (s : State) (code n : Nat) : (s.evtN code n).pilot = s.pilot := by
  obtain ⟨r, h⟩ := s.evtN_eq code n; rw [h]
@[simp] theorem State.evtN_trust (s : State) (code n : Nat) : (s.evtN code n).trust = s.trust := by
  obtain ⟨r, h⟩ := s.evtN_eq code n; rw [h]
@[simp] theorem State.evtN_recd (s : State) (code n : Nat) : (s.evtN code n).recd = s.recd := by
  obtain ⟨r, h⟩ := s.evtN_eq code n; rw [h]
@[simp] theorem State.evtN_sys (s : State) (code n : Nat) : (s.evtN code n).sys = s.sys := by
  obtain ⟨r, h⟩ := s.evtN_eq code n; rw [h]
@[simp] theorem State.evtN_cans (s : State) (code n : Nat) : (s.evtN code n).cans = s.cans := by
  obtain ⟨r, h⟩ := s.evtN_eq code n; rw [h]
@[simp] theorem State.evtN_crcs (s : State) (code n : Nat) : (s.evtN code n).crcs = s.crcs := by
  obtain ⟨r, h⟩ := s.evtN_eq code n; rw [h]
@[simp] theorem State.evtN_copies (s : State) (code n : Nat) : (s.evtN code n).copies = s.copies := by
  obtain ⟨r, h⟩ := s.evtN_eq code n; rw [h]
@[simp] theorem State.evtN_net (s : State) (code n : Nat) : (s.evtN code n).net = s.net := by
  obtain ⟨r, h⟩ := s.evtN_eq code n; rw [h]
@[simp] theorem State.evtN_pins (s : State) (code n : Nat) : (s.evtN code n).pins = s.pins := by
  obtain ⟨r, h⟩ := s.evtN_eq code n; rw [h]
@[simp] theorem State.evtN_bus (s : State) (code n : Nat) : (s.evtN code n).bus = s.bus := by
  obtain ⟨r, h⟩ := s.evtN_eq code n; rw [h]
@[simp] theorem State.evtN_free (s : State) (code n : Nat) : (s.evtN code n).free = s.free := by
  obtain ⟨r, h⟩ := s.evtN_eq code n; rw [h]

/-! ## `State.evt` -/

@[simp] theorem State.evt_pending (s : State) (code : Nat) : (s.evt code).pending = s.pending := by
  rw [State.evt, State.evtN_pending]
@[simp] theorem State.evt_now (s : State) (code : Nat) : (s.evt code).now = s.now := by
  rw [State.evt, State.evtN_now]
@[simp] theorem State.evt_dtime (s : State) (code : Nat) : (s.evt code).dtime = s.dtime := by
  rw [State.evt, State.evtN_dtime]
@[simp] theorem State.evt_regs (s : State) (code : Nat) : (s.evt code).regs = s.regs := by
  rw [State.evt, State.evtN_regs]
@[simp] theorem State.evt_mem (s : State) (code : Nat) : (s.evt code).mem = s.mem := by
  rw [State.evt, State.evtN_mem]
@[simp] theorem State.evt_params (s : State) (code : Nat) : (s.evt code).params = s.params := by
  rw [State.evt, State.evtN_params]
@[simp] theorem State.evt_locks (s : State) (code : Nat) : (s.evt code).locks = s.locks := by
  rw [State.evt, State.evtN_locks]
@[simp] theorem State.evt_lockTie (s : State) (code : Nat) : (s.evt code).lockTie = s.lockTie := by
  rw [State.evt, State.evtN_lockTie]
@[simp] theorem State.evt_spi (s : State) (code : Nat) : (s.evt code).spi = s.spi := by
  rw [State.evt, State.evtN_spi]
@[simp] theorem State.evt_bridges (s : State) (code : Nat) : (s.evt code).bridges = s.bridges := by
  rw [State.evt, State.evtN_bridges]
@[simp] theorem State.evt_flights (s : State) (code : Nat) : (s.evt code).flights = s.flights := by
  rw [State.evt, State.evtN_flights]
@[simp] theorem State.evt_mods (s : State) (code : Nat) : (s.evt code).mods = s.mods := by
  rw [State.evt, State.evtN_mods]
@[simp] theorem State.evt_ports (s : State) (code : Nat) : (s.evt code).ports = s.ports := by
  rw [State.evt, State.evtN_ports]
@[simp] theorem State.evt_aclks (s : State) (code : Nat) : (s.evt code).aclks = s.aclks := by
  rw [State.evt, State.evtN_aclks]
@[simp] theorem State.evt_convs (s : State) (code : Nat) : (s.evt code).convs = s.convs := by
  rw [State.evt, State.evtN_convs]
@[simp] theorem State.evt_lanes (s : State) (code : Nat) : (s.evt code).lanes = s.lanes := by
  rw [State.evt, State.evtN_lanes]
@[simp] theorem State.evt_links (s : State) (code : Nat) : (s.evt code).links = s.links := by
  rw [State.evt, State.evtN_links]
@[simp] theorem State.evt_trips (s : State) (code : Nat) : (s.evt code).trips = s.trips := by
  rw [State.evt, State.evtN_trips]
@[simp] theorem State.evt_fcr (s : State) (code : Nat) : (s.evt code).fcr = s.fcr := by
  rw [State.evt, State.evtN_fcr]
@[simp] theorem State.evt_sto (s : State) (code : Nat) : (s.evt code).sto = s.sto := by
  rw [State.evt, State.evtN_sto]
@[simp] theorem State.evt_dcl (s : State) (code : Nat) : (s.evt code).dcl = s.dcl := by
  rw [State.evt, State.evtN_dcl]
@[simp] theorem State.evt_pilot (s : State) (code : Nat) : (s.evt code).pilot = s.pilot := by
  rw [State.evt, State.evtN_pilot]
@[simp] theorem State.evt_trust (s : State) (code : Nat) : (s.evt code).trust = s.trust := by
  rw [State.evt, State.evtN_trust]
@[simp] theorem State.evt_recd (s : State) (code : Nat) : (s.evt code).recd = s.recd := by
  rw [State.evt, State.evtN_recd]
@[simp] theorem State.evt_sys (s : State) (code : Nat) : (s.evt code).sys = s.sys := by
  rw [State.evt, State.evtN_sys]
@[simp] theorem State.evt_cans (s : State) (code : Nat) : (s.evt code).cans = s.cans := by
  rw [State.evt, State.evtN_cans]
@[simp] theorem State.evt_crcs (s : State) (code : Nat) : (s.evt code).crcs = s.crcs := by
  rw [State.evt, State.evtN_crcs]
@[simp] theorem State.evt_copies (s : State) (code : Nat) : (s.evt code).copies = s.copies := by
  rw [State.evt, State.evtN_copies]
@[simp] theorem State.evt_net (s : State) (code : Nat) : (s.evt code).net = s.net := by
  rw [State.evt, State.evtN_net]
@[simp] theorem State.evt_pins (s : State) (code : Nat) : (s.evt code).pins = s.pins := by
  rw [State.evt, State.evtN_pins]
@[simp] theorem State.evt_bus (s : State) (code : Nat) : (s.evt code).bus = s.bus := by
  rw [State.evt, State.evtN_bus]
@[simp] theorem State.evt_free (s : State) (code : Nat) : (s.evt code).free = s.free := by
  rw [State.evt, State.evtN_free]

/-! ## `State.spend` -/

@[simp] theorem State.spend_pending (s : State) : (s.spend).pending = s.pending := rfl
@[simp] theorem State.spend_now (s : State) : (s.spend).now = s.now := rfl
@[simp] theorem State.spend_dtime (s : State) : (s.spend).dtime = s.dtime := rfl
@[simp] theorem State.spend_regs (s : State) : (s.spend).regs = s.regs := rfl
@[simp] theorem State.spend_mem (s : State) : (s.spend).mem = s.mem := rfl
@[simp] theorem State.spend_params (s : State) : (s.spend).params = s.params := rfl
@[simp] theorem State.spend_locks (s : State) : (s.spend).locks = s.locks := rfl
@[simp] theorem State.spend_lockTie (s : State) : (s.spend).lockTie = s.lockTie := rfl
@[simp] theorem State.spend_spi (s : State) : (s.spend).spi = s.spi := rfl
@[simp] theorem State.spend_bridges (s : State) : (s.spend).bridges = s.bridges := rfl
@[simp] theorem State.spend_flights (s : State) : (s.spend).flights = s.flights := rfl
@[simp] theorem State.spend_mods (s : State) : (s.spend).mods = s.mods := rfl
@[simp] theorem State.spend_ports (s : State) : (s.spend).ports = s.ports := rfl
@[simp] theorem State.spend_aclks (s : State) : (s.spend).aclks = s.aclks := rfl
@[simp] theorem State.spend_convs (s : State) : (s.spend).convs = s.convs := rfl
@[simp] theorem State.spend_lanes (s : State) : (s.spend).lanes = s.lanes := rfl
@[simp] theorem State.spend_links (s : State) : (s.spend).links = s.links := rfl
@[simp] theorem State.spend_trips (s : State) : (s.spend).trips = s.trips := rfl
@[simp] theorem State.spend_fcr (s : State) : (s.spend).fcr = s.fcr := rfl
@[simp] theorem State.spend_sto (s : State) : (s.spend).sto = s.sto := rfl
@[simp] theorem State.spend_dcl (s : State) : (s.spend).dcl = s.dcl := rfl
@[simp] theorem State.spend_pilot (s : State) : (s.spend).pilot = s.pilot := rfl
@[simp] theorem State.spend_trust (s : State) : (s.spend).trust = s.trust := rfl
@[simp] theorem State.spend_recd (s : State) : (s.spend).recd = s.recd := rfl
@[simp] theorem State.spend_sys (s : State) : (s.spend).sys = s.sys := rfl
@[simp] theorem State.spend_cans (s : State) : (s.spend).cans = s.cans := rfl
@[simp] theorem State.spend_crcs (s : State) : (s.spend).crcs = s.crcs := rfl
@[simp] theorem State.spend_cnts (s : State) : (s.spend).cnts = s.cnts := rfl
@[simp] theorem State.spend_copies (s : State) : (s.spend).copies = s.copies := rfl
@[simp] theorem State.spend_net (s : State) : (s.spend).net = s.net := rfl
@[simp] theorem State.spend_pins (s : State) : (s.spend).pins = s.pins := rfl
@[simp] theorem State.spend_bus (s : State) : (s.spend).bus = s.bus := rfl

/-! ## `State.upFw` -/

@[simp] theorem State.upFw_pending (s : State) (f : FwSession → FwSession) : (s.upFw f).pending = s.pending := rfl
@[simp] theorem State.upFw_now (s : State) (f : FwSession → FwSession) : (s.upFw f).now = s.now := rfl
@[simp] theorem State.upFw_dtime (s : State) (f : FwSession → FwSession) : (s.upFw f).dtime = s.dtime := rfl
@[simp] theorem State.upFw_regs (s : State) (f : FwSession → FwSession) : (s.upFw f).regs = s.regs := rfl
@[simp] theorem State.upFw_mem (s : State) (f : FwSession → FwSession) : (s.upFw f).mem = s.mem := rfl
@[simp] theorem State.upFw_params (s : State) (f : FwSession → FwSession) : (s.upFw f).params = s.params := rfl
@[simp] theorem State.upFw_locks (s : State) (f : FwSession → FwSession) : (s.upFw f).locks = s.locks := rfl
@[simp] theorem State.upFw_lockTie (s : State) (f : FwSession → FwSession) : (s.upFw f).lockTie = s.lockTie := rfl
@[simp] theorem State.upFw_spi (s : State) (f : FwSession → FwSession) : (s.upFw f).spi = s.spi := rfl
@[simp] theorem State.upFw_bridges (s : State) (f : FwSession → FwSession) : (s.upFw f).bridges = s.bridges := rfl
@[simp] theorem State.upFw_flights (s : State) (f : FwSession → FwSession) : (s.upFw f).flights = s.flights := rfl
@[simp] theorem State.upFw_mods (s : State) (f : FwSession → FwSession) : (s.upFw f).mods = s.mods := rfl
@[simp] theorem State.upFw_ports (s : State) (f : FwSession → FwSession) : (s.upFw f).ports = s.ports := rfl
@[simp] theorem State.upFw_aclks (s : State) (f : FwSession → FwSession) : (s.upFw f).aclks = s.aclks := rfl
@[simp] theorem State.upFw_convs (s : State) (f : FwSession → FwSession) : (s.upFw f).convs = s.convs := rfl
@[simp] theorem State.upFw_lanes (s : State) (f : FwSession → FwSession) : (s.upFw f).lanes = s.lanes := rfl
@[simp] theorem State.upFw_links (s : State) (f : FwSession → FwSession) : (s.upFw f).links = s.links := rfl
@[simp] theorem State.upFw_trips (s : State) (f : FwSession → FwSession) : (s.upFw f).trips = s.trips := rfl
@[simp] theorem State.upFw_fcr (s : State) (f : FwSession → FwSession) : (s.upFw f).fcr = s.fcr := rfl
@[simp] theorem State.upFw_sto (s : State) (f : FwSession → FwSession) : (s.upFw f).sto = s.sto := rfl
@[simp] theorem State.upFw_dcl (s : State) (f : FwSession → FwSession) : (s.upFw f).dcl = s.dcl := rfl
@[simp] theorem State.upFw_pilot (s : State) (f : FwSession → FwSession) : (s.upFw f).pilot = s.pilot := rfl
@[simp] theorem State.upFw_recd (s : State) (f : FwSession → FwSession) : (s.upFw f).recd = s.recd := rfl
@[simp] theorem State.upFw_sys (s : State) (f : FwSession → FwSession) : (s.upFw f).sys = s.sys := rfl
@[simp] theorem State.upFw_cans (s : State) (f : FwSession → FwSession) : (s.upFw f).cans = s.cans := rfl
@[simp] theorem State.upFw_crcs (s : State) (f : FwSession → FwSession) : (s.upFw f).crcs = s.crcs := rfl
@[simp] theorem State.upFw_cnts (s : State) (f : FwSession → FwSession) : (s.upFw f).cnts = s.cnts := rfl
@[simp] theorem State.upFw_copies (s : State) (f : FwSession → FwSession) : (s.upFw f).copies = s.copies := rfl
@[simp] theorem State.upFw_net (s : State) (f : FwSession → FwSession) : (s.upFw f).net = s.net := rfl
@[simp] theorem State.upFw_pins (s : State) (f : FwSession → FwSession) : (s.upFw f).pins = s.pins := rfl
@[simp] theorem State.upFw_bus (s : State) (f : FwSession → FwSession) : (s.upFw f).bus = s.bus := rfl
@[simp] theorem State.upFw_free (s : State) (f : FwSession → FwSession) : (s.upFw f).free = s.free := rfl

/-! ## `State.upBank` -/

@[simp] theorem State.upBank_pending (s : State) (b : Br) (f : Bank → Bank) : (s.upBank b f).pending = s.pending := rfl
@[simp] theorem State.upBank_now (s : State) (b : Br) (f : Bank → Bank) : (s.upBank b f).now = s.now := rfl
@[simp] theorem State.upBank_dtime (s : State) (b : Br) (f : Bank → Bank) : (s.upBank b f).dtime = s.dtime := rfl
@[simp] theorem State.upBank_regs (s : State) (b : Br) (f : Bank → Bank) : (s.upBank b f).regs = s.regs := rfl
@[simp] theorem State.upBank_mem (s : State) (b : Br) (f : Bank → Bank) : (s.upBank b f).mem = s.mem := rfl
@[simp] theorem State.upBank_params (s : State) (b : Br) (f : Bank → Bank) : (s.upBank b f).params = s.params := rfl
@[simp] theorem State.upBank_locks (s : State) (b : Br) (f : Bank → Bank) : (s.upBank b f).locks = s.locks := rfl
@[simp] theorem State.upBank_lockTie (s : State) (b : Br) (f : Bank → Bank) : (s.upBank b f).lockTie = s.lockTie := rfl
@[simp] theorem State.upBank_spi (s : State) (b : Br) (f : Bank → Bank) : (s.upBank b f).spi = s.spi := rfl
@[simp] theorem State.upBank_bridges (s : State) (b : Br) (f : Bank → Bank) : (s.upBank b f).bridges = s.bridges := rfl
@[simp] theorem State.upBank_flights (s : State) (b : Br) (f : Bank → Bank) : (s.upBank b f).flights = s.flights := rfl
@[simp] theorem State.upBank_mods (s : State) (b : Br) (f : Bank → Bank) : (s.upBank b f).mods = s.mods := rfl
@[simp] theorem State.upBank_ports (s : State) (b : Br) (f : Bank → Bank) : (s.upBank b f).ports = s.ports := rfl
@[simp] theorem State.upBank_aclks (s : State) (b : Br) (f : Bank → Bank) : (s.upBank b f).aclks = s.aclks := rfl
@[simp] theorem State.upBank_convs (s : State) (b : Br) (f : Bank → Bank) : (s.upBank b f).convs = s.convs := rfl
@[simp] theorem State.upBank_lanes (s : State) (b : Br) (f : Bank → Bank) : (s.upBank b f).lanes = s.lanes := rfl
@[simp] theorem State.upBank_links (s : State) (b : Br) (f : Bank → Bank) : (s.upBank b f).links = s.links := rfl
@[simp] theorem State.upBank_trips (s : State) (b : Br) (f : Bank → Bank) : (s.upBank b f).trips = s.trips := rfl
@[simp] theorem State.upBank_fcr (s : State) (b : Br) (f : Bank → Bank) : (s.upBank b f).fcr = s.fcr := rfl
@[simp] theorem State.upBank_sto (s : State) (b : Br) (f : Bank → Bank) : (s.upBank b f).sto = s.sto := rfl
@[simp] theorem State.upBank_dcl (s : State) (b : Br) (f : Bank → Bank) : (s.upBank b f).dcl = s.dcl := rfl
@[simp] theorem State.upBank_pilot (s : State) (b : Br) (f : Bank → Bank) : (s.upBank b f).pilot = s.pilot := rfl
@[simp] theorem State.upBank_recd (s : State) (b : Br) (f : Bank → Bank) : (s.upBank b f).recd = s.recd := rfl
@[simp] theorem State.upBank_sys (s : State) (b : Br) (f : Bank → Bank) : (s.upBank b f).sys = s.sys := rfl
@[simp] theorem State.upBank_cans (s : State) (b : Br) (f : Bank → Bank) : (s.upBank b f).cans = s.cans := rfl
@[simp] theorem State.upBank_crcs (s : State) (b : Br) (f : Bank → Bank) : (s.upBank b f).crcs = s.crcs := rfl
@[simp] theorem State.upBank_cnts (s : State) (b : Br) (f : Bank → Bank) : (s.upBank b f).cnts = s.cnts := rfl
@[simp] theorem State.upBank_copies (s : State) (b : Br) (f : Bank → Bank) : (s.upBank b f).copies = s.copies := rfl
@[simp] theorem State.upBank_net (s : State) (b : Br) (f : Bank → Bank) : (s.upBank b f).net = s.net := rfl
@[simp] theorem State.upBank_pins (s : State) (b : Br) (f : Bank → Bank) : (s.upBank b f).pins = s.pins := rfl
@[simp] theorem State.upBank_bus (s : State) (b : Br) (f : Bank → Bank) : (s.upBank b f).bus = s.bus := rfl
@[simp] theorem State.upBank_free (s : State) (b : Br) (f : Bank → Bank) : (s.upBank b f).free = s.free := rfl

/-! ## `State.tick` -/

@[simp] theorem State.tick_pending (s : State) (dt : Nat) : (s.tick dt).pending = s.pending := rfl
@[simp] theorem State.tick_regs (s : State) (dt : Nat) : (s.tick dt).regs = s.regs := rfl
@[simp] theorem State.tick_mem (s : State) (dt : Nat) : (s.tick dt).mem = s.mem := rfl
@[simp] theorem State.tick_params (s : State) (dt : Nat) : (s.tick dt).params = s.params := rfl
@[simp] theorem State.tick_locks (s : State) (dt : Nat) : (s.tick dt).locks = s.locks := rfl
@[simp] theorem State.tick_lockTie (s : State) (dt : Nat) : (s.tick dt).lockTie = s.lockTie := rfl
@[simp] theorem State.tick_spi (s : State) (dt : Nat) : (s.tick dt).spi = s.spi := rfl
@[simp] theorem State.tick_flights (s : State) (dt : Nat) : (s.tick dt).flights = s.flights := rfl
@[simp] theorem State.tick_mods (s : State) (dt : Nat) : (s.tick dt).mods = s.mods := rfl
@[simp] theorem State.tick_ports (s : State) (dt : Nat) : (s.tick dt).ports = s.ports := rfl
@[simp] theorem State.tick_aclks (s : State) (dt : Nat) : (s.tick dt).aclks = s.aclks := rfl
@[simp] theorem State.tick_convs (s : State) (dt : Nat) : (s.tick dt).convs = s.convs := rfl
@[simp] theorem State.tick_lanes (s : State) (dt : Nat) : (s.tick dt).lanes = s.lanes := rfl
@[simp] theorem State.tick_links (s : State) (dt : Nat) : (s.tick dt).links = s.links := rfl
@[simp] theorem State.tick_trips (s : State) (dt : Nat) : (s.tick dt).trips = s.trips := rfl
@[simp] theorem State.tick_fcr (s : State) (dt : Nat) : (s.tick dt).fcr = s.fcr := rfl
@[simp] theorem State.tick_sto (s : State) (dt : Nat) : (s.tick dt).sto = s.sto := rfl
@[simp] theorem State.tick_dcl (s : State) (dt : Nat) : (s.tick dt).dcl = s.dcl := rfl
@[simp] theorem State.tick_pilot (s : State) (dt : Nat) : (s.tick dt).pilot = s.pilot := rfl
@[simp] theorem State.tick_trust (s : State) (dt : Nat) : (s.tick dt).trust = s.trust := rfl
@[simp] theorem State.tick_recd (s : State) (dt : Nat) : (s.tick dt).recd = s.recd := rfl
@[simp] theorem State.tick_sys (s : State) (dt : Nat) : (s.tick dt).sys = s.sys := rfl
@[simp] theorem State.tick_cans (s : State) (dt : Nat) : (s.tick dt).cans = s.cans := rfl
@[simp] theorem State.tick_crcs (s : State) (dt : Nat) : (s.tick dt).crcs = s.crcs := rfl
@[simp] theorem State.tick_cnts (s : State) (dt : Nat) : (s.tick dt).cnts = s.cnts := rfl
@[simp] theorem State.tick_copies (s : State) (dt : Nat) : (s.tick dt).copies = s.copies := rfl
@[simp] theorem State.tick_net (s : State) (dt : Nat) : (s.tick dt).net = s.net := rfl
@[simp] theorem State.tick_pins (s : State) (dt : Nat) : (s.tick dt).pins = s.pins := rfl
@[simp] theorem State.tick_bus (s : State) (dt : Nat) : (s.tick dt).bus = s.bus := rfl
@[simp] theorem State.tick_free (s : State) (dt : Nat) : (s.tick dt).free = s.free := rfl
@[simp] theorem State.tick_now (s : State) (dt : Nat) : (s.tick dt).now = s.now + dt := rfl

end Sys2Proof.Machine
end

