-- ==== Sys2Proof/Laws/Commands.lean ====
section
/-! SUPPORT. What serving a Barge answers: one lemma for the dispatch of a code, one for the checks of R75. -/

namespace Sys2Proof.Machine

/-- A Barge whose turn has come is served: the body's answer stands in the chamber of the body's state. -/
theorem State.serve_of_serves {s : State} {lk : Lk} {c : Nat} {fits : Nat → Bool} (h : s.Serves lk c)
    (hf : fits c = true) (f : State → List Byte → Ans) :
    s.serve lk fits f = .next ((f s (s.payload lk)).2.2.answered lk (f s (s.payload lk)).1 (f s (s.payload lk)).2.1) := by
  obtain ⟨h1, h2, h3, h4, h5⟩ := h
  subst h3
  unfold State.serve
  simp only [h1, h2, hf, h4, h5, and_self, if_true, if_false, Bool.false_eq_true]
  rfl

theorem State.serveCode_of_serves {s : State} {lk : Lk} {c : Nat} (h : s.Serves lk c)
    (f : State → List Byte → Ans) :
    s.serveCode lk c f = .next ((f s (s.payload lk)).2.2.answered lk (f s (s.payload lk)).1 (f s (s.payload lk)).2.1) :=
  s.serve_of_serves h (by simp) f

/-- With no check failing the body runs. -/
theorem checked_ok {s : State} {cs : List (Bool × Nat)} {k : State → Ans} (h : firstFail cs = none) :
    checked s cs k = k s := by simp [checked, h]

/-- The first failing check gives the status, and the state is as before. -/
theorem checked_fail {s : State} {cs : List (Bool × Nat)} {k : State → Ans} {st : Nat} (h : firstFail cs = some st) :
    checked s cs k = (st, [], s) := by simp [checked, h, failWith]

@[simp] theorem firstFail_nil : firstFail [] = none := rfl
@[simp] theorem firstFail_cons (c : Bool) (st : Nat) (cs : List (Bool × Nat)) :
    firstFail ((c, st) :: cs) = if c then some st else firstFail cs := rfl

/-- What noting a submitted Barge leaves as it was: all that its checks read. -/
theorem State.lockNote_lock (s : State) (k : Lk) :
    (s.lockNote k).locks[k] = { s.locks[k] with
      req := s.locks[k].header, keeper := keeperCode s.locks[k].code } := by
  simp only [State.lockNote, State.upLock_locks, vupd_self]

@[simp] theorem State.lockNote_plen (s : State) (k : Lk) : (s.lockNote k).locks[k].plen = s.locks[k].plen := by
  rw [State.lockNote_lock]; rfl
@[simp] theorem State.lockNote_got (s : State) (k : Lk) : (s.lockNote k).locks[k].got = s.locks[k].got := by
  rw [State.lockNote_lock]
@[simp] theorem State.lockNote_crcOk (s : State) (k : Lk) :
    (s.lockNote k).locks[k].crcOk k = s.locks[k].crcOk k := by rw [State.lockNote_lock]; rfl
@[simp] theorem State.lockNote_headZero (s : State) (k : Lk) :
    (s.lockNote k).locks[k].headZero = s.locks[k].headZero := by rw [State.lockNote_lock]; rfl
@[simp] theorem State.lockNote_last (s : State) (k : Lk) : (s.lockNote k).locks[k].last = s.locks[k].last := by
  rw [State.lockNote_lock]
@[simp] theorem State.lockNote_seq (s : State) (k : Lk) : (s.lockNote k).locks[k].seq = s.locks[k].seq := by
  rw [State.lockNote_lock]; rfl
@[simp] theorem State.lockNote_toggle (s : State) (k : Lk) : (s.lockNote k).locks[k].toggle = s.locks[k].toggle := by
  rw [State.lockNote_lock]; rfl

/-- The checks of a submitted Barge in their order (R53). -/
theorem State.lockSubmit_eq (s : State) (k : Lk) :
    s.lockSubmit k =
      if 236 < s.locks[k].plen ∨ s.locks[k].got ≠ 20 + s.locks[k].plen then (s.lockNote k).lockReject k ST.LENGTH
      else if s.locks[k].crcOk k = false then (s.lockNote k).lockReject k ST.CHECK
      else if s.locks[k].headZero = false then (s.lockNote k).lockReject k ST.RANGE
      else (s.lockNote k).lockSequence k := by
  unfold State.lockSubmit
  simp only [State.lockNote_plen, State.lockNote_got, State.lockNote_crcOk, State.lockNote_headZero]
  by_cases h1 : 236 < s.locks[k].plen <;> by_cases h2 : s.locks[k].got = 20 + s.locks[k].plen <;>
    simp [-Fin.getElem_fin, h1, h2]

/-! ## Bus writes -/

/-- Lane registers stand in block 2, message registers in block 7. -/
theorem blockRegs_win (k : Nat) :
    (blockRegs k).all (fun r => (r.win != .lane || k == 2) && (r.win != .mb || k == 7)) = true := by
  match k with
  | 0 | 1 | 2 | 3 | 4 | 5 | 6 | 7 | 8 | 9 | 10 => decide
  | n + 11 =>
    have : blockRegs (n + 11) = regsNvmc := rfl
    rw [this, List.all_eq_true]
    intro r hr
    have : regsNvmc.all (fun r => r.win != .lane && r.win != .mb) = true := by decide
    have := List.all_eq_true.mp this r hr
    simp_all

theorem regFind_win {k a : Nat} {r : RegDef} (h : regFind k a = some r) :
    (r.win = .lane → k = 2) ∧ (r.win = .mb → k = 7) := by
  unfold regFind at h
  split at h
  · simp at h
  · have := List.all_eq_true.mp (blockRegs_win k) r (List.mem_of_find?_eq_some h)
    simp at this
    constructor <;> intro e <;> simp_all

/-- The bus of a state whose last access is answered stands where it stood. -/
theorem onBus_parts {s t : State} {m : Master} (hd : s.busDone = t) (h : t.onBus m = true) :
    s.running = true ∧ s.portOpen m = true := by
  subst hd
  exact Bool.and_eq_true_iff.mp h

/-- A write that reaches a register beside the chambers, the message data and the lane window stores its word and
runs the block's hook. -/
theorem State.busWriteX_of_reaches {s t : State} {m : Master} {k a : Nat} {r : RegDef} {w : Word} (size : AccSize)
    (o : Bool) (hd : s.busDone = t) (h : t.Reaches m k a r w) (ha : a / 4 * 4 = a) (hr : regionOf a = .regs k)
    (hc : ¬ (k = 1 ∧ 0x40010100 ≤ a ∧ a < 0x40010200)) (hm : ¬ (k = 7 ∧ 0x40070300 ≤ a)) (hk : k ≠ 2) :
    s.busWriteX m a w size o = (t.wrote m a r w).busHook t m k (t.busInst m r.win) a w size o := by
  obtain ⟨h1, h2, h3, h4, h5, h6, h7⟩ := h
  have hb := onBus_parts hd h1
  have hw : ¬ (r.win = .mb ∧ 0x40070300 ≤ a ∧ t.rd F.MB_CFG_DIR (t.busInst m .mb) = 1) ∧ r.win ≠ .lane := by
    have := regFind_win h4
    exact ⟨fun ⟨x, y, _⟩ => hm ⟨this.2 x, y⟩, fun x => hk (this.1 x)⟩
  unfold State.busWriteX
  simp only [hb, hd, ha, hr, h2, Bool.or_self, Bool.not_true, Bool.false_eq_true, if_false]
  unfold State.regWrite
  simp only [h3, h4, hc, hw.1, Bool.not_true, Bool.false_eq_true, if_false]
  unfold State.viewWrite
  have e : (t.writeView m r a).reg.win ≠ .lane := hw.2
  simp only [h6, State.when, h5, h7, e, Bool.not_true, Bool.false_eq_true, if_false]
  rfl

/-- The same for a write to a block that is not paused. -/
theorem State.busWriteX_of_unpaused {s t : State} {m : Master} {k a : Nat} {r : RegDef} {w : Word} (size : AccSize)
    (o : Bool) (hd : s.busDone = t) (h : t.ReachesUnpaused m k a r w) (ha : a / 4 * 4 = a) (hr : regionOf a = .regs k)
    (hc : ¬ (k = 1 ∧ 0x40010100 ≤ a ∧ a < 0x40010200)) (hm : ¬ (k = 7 ∧ 0x40070300 ≤ a)) (hk : k ≠ 2) :
    s.busWriteX m a w size o = (t.wroteUnpaused (t.rangeErr k) m a r w).busHook (t.rangeErr k) m k
      (t.busInst m r.win) a w size o := by
  obtain ⟨h1, h2, h3, h4, h5, h6, h7⟩ := h
  have hb := onBus_parts hd h1
  have hw : ¬ (r.win = .mb ∧ 0x40070300 ≤ a ∧ t.rd F.MB_CFG_DIR (t.busInst m .mb) = 1) ∧ r.win ≠ .lane := by
    have := regFind_win h4
    exact ⟨fun ⟨x, y, _⟩ => hm ⟨this.2 x, y⟩, fun x => hk (this.1 x)⟩
  unfold State.busWriteX
  simp only [hb, hd, ha, hr, h2, Bool.or_self, Bool.not_true, Bool.false_eq_true, if_false]
  unfold State.regWrite
  simp only [h3, h4, hc, hw.1, Bool.not_true, Bool.false_eq_true, if_false]
  unfold State.viewWrite
  have e : (t.writeView m r a).reg.win ≠ .lane := hw.2
  simp only [h6, State.when, h5, h7, e, Bool.not_true, Bool.false_eq_true, if_false, if_true]
  rfl

/-- A write that reaches a register of the lane window goes over the link. -/
theorem State.busWriteX_lane {s t : State} {m : Master} {a : Nat} {r : RegDef} {w : Word} (size : AccSize)
    (o : Bool) (hd : s.busDone = t) (h : t.Reaches m 2 a r w) (ha : a / 4 * 4 = a) (hr : regionOf a = .regs 2) (hw : r.win = .lane) :
    s.busWriteX m a w size o = t.laneBus (t.writeView m r a) w := by
  obtain ⟨h1, h2, h3, h4, h5, h6, h7⟩ := h
  have hb := onBus_parts hd h1
  unfold State.busWriteX
  simp only [hb, hd, ha, hr, h2, Bool.or_self, Bool.not_true, Bool.false_eq_true, if_false]
  unfold State.regWrite
  have e1 : ¬ (r.win = .mb ∧ 0x40070300 ≤ a ∧ t.rd F.MB_CFG_DIR (t.busInst m .mb) = 1) := by simp [hw]
  have e2 : ¬ ((2 : Nat) = 1 ∧ 0x40010100 ≤ a ∧ a < 0x40010200) := by omega
  simp only [h3, h4, e1, e2, Bool.not_true, Bool.false_eq_true, if_false]
  unfold State.viewWrite
  have e : (t.writeView m r a).reg.win = .lane := hw
  simp only [h6, State.when, h5, h7, e, Bool.not_true, Bool.false_eq_true, if_false, if_true]

/-- A read of a register captures what its rule says and answers the word. -/
theorem State.busRead_reg {t : State} {m : Master} {k a : Nat} {r : RegDef} (h : t.onBus m = true)
    (hu : t.blockUp k = true) (hf : regFind k a = some r) (ha : a / 4 * 4 = a) (hr : regionOf a = .regs k)
    (hc : ¬ (k = 1 ∧ 0x40010100 ≤ a ∧ a < 0x40010200)) (hl : a ≠ F.LANE_CAP_DATA_WORD.addr) :
    t.busRead m a = (t.readCapture m a).busGive (t.regView m r.win a) := by
  have hb : t.running = true ∧ t.portOpen m = true := Bool.and_eq_true_iff.mp h
  unfold State.busRead
  simp only [hb, ha, hr, mayRead, Bool.or_self, Bool.not_true, Bool.false_eq_true, if_false]
  unfold State.regRead
  simp only [hu, hc, hl, hf, Bool.not_true, Bool.false_eq_true, if_false]

end Sys2Proof.Machine
end

