-- ==== Sys2Proof/Laws/Sparse.lean ====
section
/-! SUPPORT. Reads over writes of the sparse maps, and that every operation keeps their canonical form. -/

namespace Sys2Proof.Machine

variable {α : Type} {d : Nat → α}

theorem sget_sput (m : List (Nat × α)) (k j : Nat) (v : α) :
    sget d (sput m k v) j = if j = k then v else sget d m j := by
  induction m with
  | nil => simp [sput, sget]
  | cons e m ih =>
    obtain ⟨k', v'⟩ := e
    simp only [sput]
    split
    · subst_vars; simp only [sget]; split <;> rfl
    · split
      · simp only [sget]
      · simp only [sget, ih]
        split
        · next h => subst h; rw [if_neg (by omega)]
        · rfl

theorem sabove_mono {a b : Nat} (h : a ≤ b) : ∀ {m : List (Nat × α)}, sabove b m = true → sabove a m = true
  | [], _ => rfl
  | (k, _) :: m, hm => by
    simp only [sabove, Bool.and_eq_true, decide_eq_true_eq] at hm ⊢
    exact ⟨by omega, sabove_mono h hm.2⟩

theorem sabove_sput {a k : Nat} {v : α} (h : a < k) :
    ∀ {m : List (Nat × α)}, sabove a m = true → sabove a (sput m k v) = true
  | [], _ => by simp [sput, sabove, h]
  | (k', _) :: m, hm => by
    simp only [sabove, Bool.and_eq_true, decide_eq_true_eq] at hm
    simp only [sput]
    split
    · simp [sabove, h, hm.2]
    · split
      · simp [sabove, h, hm.1, hm.2]
      · simp only [sabove, Bool.and_eq_true, decide_eq_true_eq]
        exact ⟨hm.1, sabove_sput h hm.2⟩

theorem sabove_sdel {a k : Nat} : ∀ {m : List (Nat × α)}, sabove a m = true → sabove a (sdel m k) = true
  | [], _ => rfl
  | (k', v) :: m, hm => by
    have h' := hm
    simp only [sabove, Bool.and_eq_true, decide_eq_true_eq] at hm
    simp only [sdel]
    split
    · exact hm.2
    · split
      · exact h'
      · simp only [sabove, Bool.and_eq_true, decide_eq_true_eq]
        exact ⟨hm.1, sabove_sdel hm.2⟩

theorem sget_above {a : Nat} : ∀ {m : List (Nat × α)}, sabove a m = true → ∀ j, j ≤ a → sget d m j = d j
  | [], _, _, _ => rfl
  | (k, v) :: m, hm, j, hj => by
    simp only [sabove, Bool.and_eq_true, decide_eq_true_eq] at hm
    rw [sget, if_neg (by omega)]
    exact sget_above hm.2 j hj

theorem sabove_filter {a : Nat} (p : Nat × α → Bool) :
    ∀ {m : List (Nat × α)}, sabove a m = true → sabove a (m.filter p) = true
  | [], _ => rfl
  | (k, v) :: m, hm => by
    simp only [sabove, Bool.and_eq_true, decide_eq_true_eq] at hm
    rw [List.filter_cons]
    split
    · simp only [sabove, Bool.and_eq_true, decide_eq_true_eq]
      exact ⟨hm.1, sabove_filter p hm.2⟩
    · exact sabove_filter p hm.2

variable [DecidableEq α]

theorem swf_sput {k : Nat} {v : α} (hv : v ≠ d k) :
    ∀ {m : List (Nat × α)}, swf d m = true → swf d (sput m k v) = true
  | [], _ => by simp [sput, swf, sabove, hv]
  | (k', v') :: m, hm => by
    have h' := hm
    simp only [swf, Bool.and_eq_true, decide_eq_true_eq] at hm
    obtain ⟨⟨h1, h2⟩, h3⟩ := hm
    simp only [sput]
    split
    · next h => subst h; simp [swf, hv, h2, h3]
    · split
      · next h =>
        simp only [swf, sabove, Bool.and_eq_true, decide_eq_true_eq]
        exact ⟨⟨hv, h, sabove_mono (by omega) h2⟩, ⟨h1, h2⟩, h3⟩
      · simp only [swf, Bool.and_eq_true, decide_eq_true_eq]
        exact ⟨⟨h1, sabove_sput (by omega) h2⟩, swf_sput hv h3⟩

theorem swf_sdel {k : Nat} : ∀ {m : List (Nat × α)}, swf d m = true → swf d (sdel m k) = true
  | [], _ => rfl
  | (k', v') :: m, hm => by
    have h' := hm
    simp only [swf, Bool.and_eq_true, decide_eq_true_eq] at hm
    simp only [sdel]
    split
    · exact hm.2
    · split
      · exact h'
      · simp only [swf, Bool.and_eq_true, decide_eq_true_eq]
        exact ⟨⟨hm.1.1, sabove_sdel hm.1.2⟩, swf_sdel hm.2⟩

/-- A write keeps the canonical form. -/
theorem swf_sset {m : List (Nat × α)} (h : swf d m = true) (k : Nat) (v : α) : swf d (sset d m k v) = true := by
  unfold sset
  split
  · exact swf_sdel h
  · next hv => exact swf_sput hv h

/-- Removing entries keeps the canonical form. -/
theorem swf_filter (p : Nat × α → Bool) :
    ∀ {m : List (Nat × α)}, swf d m = true → swf d (m.filter p) = true
  | [], _ => rfl
  | (k, v) :: m, hm => by
    simp only [swf, Bool.and_eq_true, decide_eq_true_eq] at hm
    rw [List.filter_cons]
    split
    · simp only [swf, Bool.and_eq_true, decide_eq_true_eq]
      exact ⟨⟨hm.1.1, sabove_filter p hm.1.2⟩, swf_filter p hm.2⟩
    · exact swf_filter p hm.2

theorem sget_sdel : ∀ {m : List (Nat × α)}, swf d m = true → ∀ k j,
    sget d (sdel m k) j = if j = k then d k else sget d m j
  | [], _, k, j => by simp only [sdel, sget]; split <;> simp_all
  | (k', v') :: m, hm, k, j => by
    simp only [swf, Bool.and_eq_true, decide_eq_true_eq] at hm
    simp only [sdel]
    split
    · next h =>
      subst h
      split
      · next h => subst h; exact sget_above hm.1.2 j (Nat.le_refl j)
      · next h => simp [sget, h]
    · split
      · next h1 h2 =>
        split
        · next h =>
          subst h
          rw [sget, if_neg h1]
          exact sget_above hm.1.2 j (by omega)
        · rfl
      · next h1 h2 =>
        simp only [sget]
        split
        · next h => subst h; rw [if_neg (by omega)]
        · exact sget_sdel hm.2 k j

/-- A read after a write: the value written at its key, and everywhere else what stood there. -/
theorem sget_sset {m : List (Nat × α)} (h : swf d m = true) (k j : Nat) (v : α) :
    sget d (sset d m k v) j = if j = k then v else sget d m j := by
  unfold sset
  split
  · next hv => rw [sget_sdel h, hv]
  · exact sget_sput m k j v

end Sys2Proof.Machine
end

