-- ==== Sys2Proof/Laws/Keep.lean ====
section
/-! SUPPORT. The base of the preservation laws: what `Keeps` needs of a record update, a choice and a fold, and
that the primitive writes of registers, memory, parameters, Locks and counters keep it. -/

namespace Sys2Proof.Machine

variable {q : List Instr} {n : Nat} {s : State}

/-! ## Shapes of answers -/

/-- An answer whose state keeps. -/
def KeepsAns (q : List Instr) (n : Nat) (a : Ans) : Prop := Keeps q n a.2.2

/-- A state, if there is one, keeps. -/
def KeepsOpt (q : List Instr) (n : Nat) (o : Option State) : Prop := ∀ t, o = some t → Keeps q n t

/-- The first of a pair, if there is one, keeps. -/
def KeepsFrame {β : Type} (q : List Instr) (n : Nat) (o : Option (State × β)) : Prop :=
  ∀ t, o = some t → Keeps q n t.1

theorem keepsOpt_some {t : State} (h : Keeps q n t) : KeepsOpt q n (some t) := by
  intro u hu; cases hu; exact h

theorem keepsOpt_none : KeepsOpt q n none := by intro u hu; cases hu

theorem keepsFrame_some {β : Type} {t : State} {b : β} (h : Keeps q n t) : KeepsFrame q n (some (t, b)) := by
  intro u hu; cases hu; exact h

theorem keepsFrame_none {β : Type} : KeepsFrame (β := β) q n none := by intro u hu; cases hu

/-- A choice keeps when both of its branches do. -/
theorem ite_ind {α : Sort _} (P : α → Prop) {c : Prop} [Decidable c] {a b : α} (ha : P a) (hb : P b) :
    P (if c then a else b) := by
  split
  · exact ha
  · exact hb

/-- The same for a choice whose branches take the proof of its condition. -/
theorem dite_ind {α : Sort _} (P : α → Prop) {c : Prop} [Decidable c] {a : c → α} {b : ¬c → α}
    (ha : ∀ h, P (a h)) (hb : ∀ h, P (b h)) : P (if h : c then a h else b h) := by
  split
  · exact ha _
  · exact hb _

/-- An update that leaves the sound parts alone keeps. -/
theorem Keeps.upd {t : State} (h : Keeps q n s) (h1 : t.pending = s.pending) (h2 : t.now = s.now)
    (h3 : t.regs = s.regs) (h4 : t.mem = s.mem) (h5 : t.params.act = s.params.act)
    (h6 : t.params.boot = s.params.boot) (h7 : t.locks = s.locks) (h8 : t.cnts = s.cnts) : Keeps q n t := by
  refine ⟨h1.trans h.queue, h2 ▸ h.time, ?_⟩
  have hw := h.wf
  unfold State.Wf at hw ⊢
  rw [h3, h4, h5, h6, h7, h8]
  exact hw

/-! ## Folds and conditions -/

theorem foldl_keeps {α : Type} {f : State → α → State} {l : List α} (h : Keeps q n s)
    (hf : ∀ s a, Keeps q n s → Keeps q n (f s a)) : Keeps q n (l.foldl f s) := by
  induction l generalizing s with
  | nil => exact h
  | cons a l ih => exact ih (hf s a h)

theorem State.each_keeps {α : Type} {l : List α} {f : State → α → State} (h : Keeps q n s)
    (hf : ∀ s a, Keeps q n s → Keeps q n (f s a)) : Keeps q n (s.each l f) := foldl_keeps h hf

theorem State.when_keeps {c : Bool} {f : State → State} (h : Keeps q n s)
    (hf : ∀ s, Keeps q n s → Keeps q n (f s)) : Keeps q n (s.when c f) :=
  ite_ind _ (hf _ h) h

/-! ## Registers and memory -/

theorem State.setWord_keeps {f : Fld} {i : Nat} {w : Word} (h : Keeps q n s) : Keeps q n (s.setWord f i w) := by
  unfold State.setWord
  exact ⟨h.queue, h.time, { h.wf with regs := swf_sset h.wf.regs _ _ }⟩

/-- Dropping registers to their reset words keeps. -/
theorem Keeps.regsFilter {p : Nat × Word → Bool} (h : Keeps q n s) : Keeps q n { s with regs := s.regs.filter p } :=
  ⟨h.queue, h.time, { h.wf with regs := swf_filter p h.wf.regs }⟩

theorem State.setMemB_keeps {a : Nat} {b : Byte} (h : Keeps q n s) : Keeps q n (s.setMemB a b) := by
  unfold State.setMemB
  exact ⟨h.queue, h.time, { h.wf with mem := swf_sset (d := memDflt) h.wf.mem _ _ }⟩

theorem State.setMemBytes_keeps {a : Nat} {l : List Byte} (h : Keeps q n s) : Keeps q n (s.setMemBytes a l) := by
  induction l generalizing s a with
  | nil => exact h
  | cons _ _ ih => exact ih (State.setMemB_keeps h)

theorem State.clearMem_keeps {a k : Nat} (h : Keeps q n s) : Keeps q n (s.clearMem a k) := by
  unfold State.clearMem
  exact ⟨h.queue, h.time, { h.wf with mem := swf_filter (d := memDflt) _ h.wf.mem }⟩

/-! ## Parameters -/

theorem State.setPar_keeps {id : Nat} {v : Word} (h : Keeps q n s) : Keeps q n (s.setPar id v) := by
  unfold State.setPar
  exact ⟨h.queue, h.time, { h.wf with act := swf_sset h.wf.act _ _ }⟩

/-! ## Locks -/

theorem Lock.put_wf {l : Lock} {o : Nat} {bs : List Byte} (h : l.wf = true) : (l.put o bs).wf = true := by
  induction bs generalizing l o with
  | nil => exact h
  | cons b bs ih =>
    unfold Lock.put
    apply ih
    split
    · exact swf_sset (d := fun _ => (0 : Byte)) h _ _
    · exact h

/-- Only the chamber counts. -/
theorem Lock.mk_wf {gate : Gate} {buf : List (Nat × Byte)} {got : Nat} {owner : Option Transport}
    {claimedAt : Nat} {req : List Byte} {keeper : Bool} {svcAt : Nat} {served : Bool} {last : Option (Nat × Bool)}
    {reply : Option (List Byte)} (h : swf (fun _ => (0 : Byte)) buf = true) :
    (Lock.mk gate buf got owner claimedAt req keeper svcAt served last reply).wf = true := h

theorem State.upLock_keeps {k : Lk} {f : Lock → Lock} (h : Keeps q n s)
    (hf : ∀ l : Lock, l.wf = true → (f l).wf = true) : Keeps q n (s.upLock k f) := by
  unfold State.upLock
  refine ⟨h.queue, h.time, { h.wf with locks := fun j => ?_ }⟩
  have hl := h.wf.locks
  unfold vupd
  simp only [Fin.getElem_fin, Vector.getElem_set]
  split
  · exact hf _ (hl k)
  · exact hl j

/-! ## Counters -/

theorem Counter.add_wf {c : Counter} {k : Nat} (_h : c.wf = true) : (c.add k).wf = true := by
  unfold Counter.add
  split
  · rfl
  · simp only [Counter.wf, decide_eq_true_eq]; omega

theorem State.evtN_keeps {code k : Nat} (h : Keeps q n s) : Keeps q n (s.evtN code k) := by
  unfold State.evtN
  refine ⟨h.queue, h.time, ⟨h.wf.regs, h.wf.mem, h.wf.act, h.wf.boot, h.wf.locks, fun j => ?_⟩⟩
  have hc := h.wf.cnts j
  simp only [Fin.getElem_fin, Vector.getElem_ofFn]
  split
  · exact Counter.add_wf hc
  · exact hc

/-- Counters within their width may stand for others. -/
theorem Keeps.cntsUpd {v : Vector Counter 32} (h : Keeps q n s) (hc : ∀ j : Fin 32, v[j].wf = true) :
    Keeps q n { s with cnts := v } :=
  ⟨h.queue, h.time, { h.wf with cnts := hc }⟩

theorem Counter.reset_wf : Counter.reset.wf = true := rfl

/-! ## Time -/

theorem State.tick_keeps {dt : Nat} (h : Keeps q n s) : Keeps q n (s.tick dt) := by
  unfold State.tick
  exact ⟨h.queue, Nat.le_trans h.time (Nat.le_add_right _ _), h.wf⟩

/-! ## Serving a command -/

theorem checked_keeps {cs : List (Bool × Nat)} {k : State → Ans} (h : Keeps q n s)
    (hk : ∀ s, Keeps q n s → KeepsAns q n (k s)) : KeepsAns q n (checked s cs k) := by
  unfold checked
  split
  · exact h
  · exact hk _ h

theorem State.serve_keeps {lk : Lk} {fits : Nat → Bool} {f : State → List Byte → Ans} (h : Keeps q n s)
    (hf : ∀ s p, Keeps q n s → KeepsAns q n (f s p)) : KeepsOut q n (s.serve lk fits f) := by
  unfold State.serve
  extract_lets l a
  have ha : KeepsAns q n a := ite_ind _ h (hf _ _ h)
  clear_value a
  refine ite_ind _ (State.upLock_keeps ha fun l hl => ?_) h
  exact Lock.put_wf (Lock.put_wf (Lock.put_wf hl))

theorem State.serveCode_keeps {lk : Lk} {code : Nat} {f : State → List Byte → Ans} (h : Keeps q n s)
    (hf : ∀ s p, Keeps q n s → KeepsAns q n (f s p)) : KeepsOut q n (s.serveCode lk code f) :=
  State.serve_keeps h hf

end Sys2Proof.Machine
end

