-- ==== Sys2Proof/Laws/KeepOps.lean ====
section
/-! SUPPORT. Preservation laws, one for each definition: the shared operations. Each says that the definition keeps the queue,
time and the sound parts of a state (`Keeps`). -/

namespace Sys2Proof.Machine

variable {q : List Instr} {n : Nat} {s : State}

theorem State.wr_keeps {f : Fld} {i : Nat} {v : Nat} (h : Keeps q n s) :
    Keeps q n (s.wr f i v) := by
  unfold State.wr
  exact (State.setWord_keeps h)

theorem State.wrI_keeps {f : Fld} {i : Nat} {v : Int} (h : Keeps q n s) :
    Keeps q n (s.wrI f i v) := by
  unfold State.wrI
  exact (State.wr_keeps h)

theorem State.flag_keeps {f : Fld} {i : Nat} {b : Bool} (h : Keeps q n s) :
    Keeps q n (s.flag f i b) := by
  unfold State.flag
  exact (State.wr_keeps h)

theorem State.regToReset_keeps {f : Fld} {i : Nat} (h : Keeps q n s) :
    Keeps q n (s.regToReset f i) := by
  unfold State.regToReset
  exact (State.setWord_keeps h)

theorem State.setMemW_keeps {a : Nat} {w : Word} (h : Keeps q n s) :
    Keeps q n (s.setMemW a w) := by
  unfold State.setMemW
  exact (State.setMemBytes_keeps h)

theorem State.upB_keeps {b : Br} {f : Bridge → Bridge} (h : Keeps q n s) :
    Keeps q n (s.upB b f) := by
  unfold State.upB
  exact (by exact Keeps.upd h rfl rfl rfl rfl rfl rfl rfl rfl)

theorem State.upFl_keeps {b : Br} {f : Flight → Flight} (h : Keeps q n s) :
    Keeps q n (s.upFl b f) := by
  unfold State.upFl
  exact (by exact Keeps.upd h rfl rfl rfl rfl rfl rfl rfl rfl)

theorem State.upMod_keeps {b : Br} {f : ModU → ModU} (h : Keeps q n s) :
    Keeps q n (s.upMod b f) := by
  unfold State.upMod
  exact (by exact Keeps.upd h rfl rfl rfl rfl rfl rfl rfl rfl)

theorem State.upPort_keeps {p : PortIx} {f : Port → Port} (h : Keeps q n s) :
    Keeps q n (s.upPort p f) := by
  unfold State.upPort
  exact (by exact Keeps.upd h rfl rfl rfl rfl rfl rfl rfl rfl)

theorem State.upAclk_keeps {b : Br} {f : AClk → AClk} (h : Keeps q n s) :
    Keeps q n (s.upAclk b f) := by
  unfold State.upAclk
  exact (by exact Keeps.upd h rfl rfl rfl rfl rfl rfl rfl rfl)

theorem State.upConv_keeps {i : ConvIx} {f : Conv → Conv} (h : Keeps q n s) :
    Keeps q n (s.upConv i f) := by
  unfold State.upConv
  exact (by exact Keeps.upd h rfl rfl rfl rfl rfl rfl rfl rfl)

theorem State.upLane_keeps {k : LaneIx} {f : Lane → Lane} (h : Keeps q n s) :
    Keeps q n (s.upLane k f) := by
  unfold State.upLane
  exact (by exact Keeps.upd h rfl rfl rfl rfl rfl rfl rfl rfl)

theorem State.upLink_keeps {k : LaneIx} {f : Link → Link} (h : Keeps q n s) :
    Keeps q n (s.upLink k f) := by
  unfold State.upLink
  exact (by exact Keeps.upd h rfl rfl rfl rfl rfl rfl rfl rfl)

theorem State.upCan_keeps {c : Fin 4} {f : Can → Can} (h : Keeps q n s) :
    Keeps q n (s.upCan c f) := by
  unfold State.upCan
  exact (by exact Keeps.upd h rfl rfl rfl rfl rfl rfl rfl rfl)

theorem State.upCrc_keeps {u : Fin 4} {f : CrcU → CrcU} (h : Keeps q n s) :
    Keeps q n (s.upCrc u f) := by
  unfold State.upCrc
  exact (by exact Keeps.upd h rfl rfl rfl rfl rfl rfl rfl rfl)

theorem State.upCopy_keeps {m : Master} {f : ReadCopy → ReadCopy} (h : Keeps q n s) :
    Keeps q n (s.upCopy m f) := by
  unfold State.upCopy
  exact (by exact Keeps.upd h rfl rfl rfl rfl rfl rfl rfl rfl)

theorem State.spend_keeps (h : Keeps q n s) :
    Keeps q n (s.spend) := by
  unfold State.spend
  exact (by exact Keeps.upd h rfl rfl rfl rfl rfl rfl rfl rfl)

theorem State.evt_keeps {code : Nat} (h : Keeps q n s) :
    Keeps q n (s.evt code) := by
  unfold State.evt
  exact (State.evtN_keeps h)

theorem State.irq_keeps {a1 : Nat} (h : Keeps q n s) :
    Keeps q n (s.irq a1) := by
  unfold State.irq
  exact (State.setWord_keeps h)

theorem State.irqLevel_keeps {a1 : Nat} {b : Bool} (h : Keeps q n s) :
    Keeps q n (s.irqLevel a1 b) := by
  unfold State.irqLevel
  exact (ite_ind (Keeps q n) (State.irq_keeps h) (State.setWord_keeps h))

theorem State.irqBy_keeps {m : Master} {a2 : Nat} {b : Bool} (h : Keeps q n s) :
    Keeps q n (s.irqBy m a2 b) := by
  unfold State.irqBy
  exact (ite_ind (Keeps q n) h (State.irqLevel_keeps h))

theorem State.wrList_keeps {l : List (Fld × Nat × Int)} (h : Keeps q n s) :
    Keeps q n (s.wrList l) := by
  unfold State.wrList
  exact (State.each_keeps h (fun _ _ h0 => (State.wrI_keeps h0)))

theorem State.laneSend_keeps {k : LaneIx} {f : Fld} {w : Word} (h : Keeps q n s) :
    Keeps q n (s.laneSend k f w) := by
  unfold State.laneSend
  exact (ite_ind (Keeps q n) (State.flag_keeps h) (State.upLink_keeps h))

theorem State.lanePut_keeps {k : LaneIx} {f : Fld} {v : Int} (h : Keeps q n s) :
    Keeps q n (s.lanePut k f v) := by
  unfold State.lanePut
  exact (State.laneSend_keeps h)

theorem State.laneSet_keeps {k : LaneIx} {f : Fld} {v : Nat} (h : Keeps q n s) :
    Keeps q n (s.laneSet k f v) := by
  unfold State.laneSet
  exact (ite_ind (Keeps q n) h (State.lanePut_keeps h))

theorem State.sendAdvance_keeps {b : Br} (h : Keeps q n s) :
    Keeps q n (s.sendAdvance b) := by
  unfold State.sendAdvance
  exact (State.each_keeps h (fun _ _ h0 => (State.laneSet_keeps h0)))

theorem State.directBegin_keeps {b : Br} (h : Keeps q n s) :
    Keeps q n (s.directBegin b) := by
  unfold State.directBegin
  extract_lets x0
  exact (State.upMod_keeps (State.wr_keeps h))

theorem State.laneConfig_keeps {b : Br} (h : Keeps q n s) :
    Keeps q n (s.laneConfig b) := by
  unfold State.laneConfig
  exact (State.each_keeps h (fun _ _ h0 => (foldl_keeps h0 (fun _ _ h1 => (State.lanePut_keeps h1)))))

theorem State.laneAux_keeps {k : LaneIx} (h : Keeps q n s) :
    Keeps q n (s.laneAux k) := by
  unfold State.laneAux
  exact (ite_ind (Keeps q n) h (State.wr_keeps (State.lanePut_keeps h)))

theorem State.parReg_keeps {id : Nat} (h : Keeps q n s) :
    Keeps q n (s.parReg id) := by
  unfold State.parReg
  extract_lets x0
  split
  · exact h
  · extract_lets x1
    have h2 : Keeps q n x1 := (State.wrList_keeps h)
    try clear_value x1
    exact (ite_ind (Keeps q n) (State.each_keeps h2 (fun _ _ h3 => (State.laneSet_keeps h3))) (ite_ind (Keeps q n) (State.each_keeps h2 (fun _ _ h4 => (State.sendAdvance_keeps h4))) (ite_ind (Keeps q n) (State.each_keeps h2 (fun _ _ h5 => (State.when_keeps h5 (fun _ h6 => (State.directBegin_keeps h6))))) h2)))

theorem State.urgent_keeps {k : LaneIx} {u : Urgent} (h : Keeps q n s) :
    Keeps q n (s.urgent k u) := by
  unfold State.urgent
  exact (State.upLink_keeps h)

theorem State.planNow_keeps {b : Br} (h : Keeps q n s) :
    Keeps q n (s.planNow b) := by
  unfold State.planNow
  exact (State.each_keeps h (fun _ _ h0 => (State.urgent_keeps h0)))

theorem State.ascNow_keeps {b : Br} (h : Keeps q n s) :
    Keeps q n (s.ascNow b) := by
  unfold State.ascNow
  exact (State.each_keeps h (fun _ _ h0 => (State.urgent_keeps h0)))

theorem State.planNowWith_keeps {b : Br} {plan : Nat} (h : Keeps q n s) :
    Keeps q n (s.planNowWith b plan) := by
  unfold State.planNowWith
  exact (State.upB_keeps (State.planNow_keeps h))

theorem State.setPlan_keeps {b : Br} {plan : Nat} (h : Keeps q n s) :
    Keeps q n (s.setPlan b plan) := by
  unfold State.setPlan
  exact (State.upB_keeps (State.each_keeps h (fun _ _ h0 => (State.upLink_keeps (State.wr_keeps h0)))))

theorem State.envelope_keeps {b : Br} (h : Keeps q n s) :
    Keeps q n (s.envelope b) := by
  unfold State.envelope
  extract_lets x0 x1 x2 x3
  have h4 : Keeps q n x2 := (State.wrI_keeps h)
  try clear_value x2
  have h5 : Keeps q n x3 := (State.wrI_keeps h4)
  try clear_value x3
  exact (State.wrI_keeps h5)

theorem State.squash_keeps {b : Br} {a2 : Nat} {spare : Bool} {mis : Bool} {setpt : Bool} {ev : Nat} (h : Keeps q n s) :
    Keeps q n (s.squash b a2 spare mis setpt ev) := by
  unfold State.squash
  extract_lets x0 x1 x2 x3 x4 x5 x6
  have h7 : Keeps q n x4 := (State.upFl_keeps h)
  try clear_value x4
  have h8 : Keeps q n x5 := (ite_ind (Keeps q n) (State.irq_keeps (State.flag_keeps (State.evt_keeps h7))) (State.evt_keeps h7))
  try clear_value x5
  have h9 : Keeps q n x6 := (ite_ind (Keeps q n) (State.wr_keeps h8) h8)
  try clear_value x6
  exact (ite_ind (Keeps q n) (ite_ind (Keeps q n) (State.wr_keeps h9) h9) h)

theorem State.stagedFlush_keeps {b : Br} (h : Keeps q n s) :
    Keeps q n (s.stagedFlush b) := by
  unfold State.stagedFlush
  extract_lets x0 x1 x2
  have h3 : Keeps q n x2 := (by exact Keeps.upd h rfl rfl rfl rfl rfl rfl rfl rfl)
  try clear_value x2
  exact (State.each_keeps h3 (fun _ _ h4 => (State.parReg_keeps (State.setPar_keeps h4))))

theorem State.flightStopped_keeps {b : Br} (h : Keeps q n s) :
    Keeps q n (s.flightStopped b) := by
  unfold State.flightStopped
  exact (State.stagedFlush_keeps (State.flag_keeps (State.upFl_keeps h)))

theorem State.flightClear_keeps {b : Br} (h : Keeps q n s) :
    Keeps q n (s.flightClear b) := by
  unfold State.flightClear
  extract_lets x0
  have h1 : Keeps q n x0 := (State.squash_keeps (State.flag_keeps h))
  try clear_value x0
  exact (ite_ind (Keeps q n) (ite_ind (Keeps q n) (State.upFl_keeps h1) (State.flightStopped_keeps h1)) h)

theorem State.clearTable_keeps {b : Br} (h : Keeps q n s) :
    Keeps q n (s.clearTable b) := by
  unfold State.clearTable
  exact (State.clearMem_keeps h)

theorem State.flightStart_keeps {b : Br} {predict : Bool} (h : Keeps q n s) :
    Keeps q n (s.flightStart b predict) := by
  unfold State.flightStart
  extract_lets x0 x1 x2 x3
  exact (ite_ind (Keeps q n) (State.flag_keeps h) (ite_ind (Keeps q n) h (State.upFl_keeps (State.flag_keeps (State.flag_keeps (State.clearTable_keeps h))))))

theorem State.switchStart_keeps {b : Br} (h : Keeps q n s) :
    Keeps q n (s.switchStart b) := by
  unfold State.switchStart
  exact (State.squash_keeps (State.upFl_keeps h))

theorem State.contactors_keeps (h : Keeps q n s) :
    Keeps q n (s.contactors) := by
  unfold State.contactors
  extract_lets x0 x1
  exact (by exact Keeps.upd h rfl rfl rfl rfl rfl rfl rfl rfl)

theorem State.withdraw_keeps {b : Br} (h : Keeps q n s) :
    Keeps q n (s.withdraw b) := by
  unfold State.withdraw
  exact (State.contactors_keeps (State.upB_keeps h))

theorem State.withdrawAll_keeps (h : Keeps q n s) :
    Keeps q n (s.withdrawAll) := by
  unfold State.withdrawAll
  exact (State.withdraw_keeps (State.withdraw_keeps h))

theorem State.evcSnapshot_keeps (h : Keeps q n s) : Keeps q n s.evcSnapshot := by
  unfold State.evcSnapshot
  refine State.irq_keeps (State.flag_keeps ⟨h.queue, h.time,
    ⟨h.wf.regs, h.wf.mem, h.wf.act, h.wf.boot, h.wf.locks, fun j => ?_⟩⟩)
  have hc := h.wf.cnts j
  simp only [Fin.getElem_fin, Vector.getElem_ofFn]
  exact hc

theorem State.recTrigger_keeps {code : Nat} {fault : Option (Nat × Loc × RClass)} (h : Keeps q n s) :
    Keeps q n (s.recTrigger code fault) := by
  unfold State.recTrigger
  extract_lets x0 x1
  exact (ite_ind (Keeps q n) (by
    split
    · exact (by exact Keeps.upd h rfl rfl rfl rfl rfl rfl rfl rfl)
    · exact (State.evcSnapshot_keeps (State.flag_keeps (by exact Keeps.upd h rfl rfl rfl rfl rfl rfl rfl rfl)))) h)

theorem State.preempt_keeps {b : Br} (h : Keeps q n s) :
    Keeps q n (s.preempt b) := by
  unfold State.preempt
  extract_lets x0
  exact (State.each_keeps (State.each_keeps h (fun _ _ h1 => (State.evt_keeps h1))) (fun _ _ h2 => (State.upB_keeps h2)))

theorem State.laneArm_keeps {b : Br} {on : Bool} (h : Keeps q n s) :
    Keeps q n (s.laneArm b on) := by
  unfold State.laneArm
  exact (State.each_keeps h (fun _ _ h0 => (State.laneSet_keeps h0)))

theorem State.obsOff_keeps {b : Br} (h : Keeps q n s) :
    Keeps q n (s.obsOff b) := by
  unfold State.obsOff
  extract_lets x0 x1 x2
  have h3 : Keeps q n x2 := (State.flag_keeps (State.upAclk_keeps h))
  try clear_value x2
  exact (ite_ind (Keeps q n) (State.wr_keeps h3) h3)

theorem State.enterOne_keeps {b : Br} {st : DState} (h : Keeps q n s) :
    Keeps q n (s.enterOne b st) := by
  unfold State.enterOne
  extract_lets x0 x1 x2 x3 x4 x5 x6 x7 x8 x9
  have h10 : Keeps q n x3 := (State.upB_keeps h)
  try clear_value x3
  have h11 : Keeps q n x4 := (by
    unfold x4
    split
    · exact (ite_ind (Keeps q n) h10 (State.flightStart_keeps h10))
    · exact h10
    · exact h10
    · exact h10
    · split
      · exact (ite_ind (Keeps q n) (State.flightStart_keeps h10) (State.flightClear_keeps h10))
      · exact (State.flightClear_keeps h10)
    · exact (State.flightClear_keeps h10))
  try clear_value x4
  have h12 : Keeps q n x5 := (ite_ind (Keeps q n) (State.flag_keeps h11) (ite_ind (Keeps q n) h11 (State.flag_keeps h11)))
  try clear_value x5
  have h13 : Keeps q n x6 := (State.laneArm_keeps h12)
  try clear_value x6
  have h14 : Keeps q n x7 := (ite_ind (Keeps q n) h13 (State.obsOff_keeps h13))
  try clear_value x7
  have h15 : Keeps q n x8 := (ite_ind (Keeps q n) (State.setPlan_keeps h14) h14)
  try clear_value x8
  have h17 : Keeps q n x9 := (by
    unfold x9
    split
    · exact (State.each_keeps (State.wrList_keeps (State.laneConfig_keeps h15)) (fun _ _ h16 => (State.laneAux_keeps h16)))
    · exact (State.withdraw_keeps h15)
    · exact (State.flag_keeps (State.withdrawAll_keeps h15))
    · exact (State.withdrawAll_keeps h15)
    · exact h15)
  try clear_value x9
  exact (State.envelope_keeps h17)

theorem State.enter_keeps {b : Br} {st : DState} (h : Keeps q n s) :
    Keeps q n (s.enter b st) := by
  unfold State.enter
  exact (State.each_keeps h (fun _ _ h0 => (State.enterOne_keeps h0)))

theorem State.toFault_keeps {b : Br} (h : Keeps q n s) :
    Keeps q n (s.toFault b) := by
  unfold State.toFault
  exact (ite_ind (Keeps q n) (State.enter_keeps (State.preempt_keeps h)) (ite_ind (Keeps q n) (State.preempt_keeps h) h))

theorem State.bridgeSafe_keeps {b : Br} (h : Keeps q n s) :
    Keeps q n (s.bridgeSafe b) := by
  unfold State.bridgeSafe
  extract_lets x0 x1
  have h2 : Keeps q n x0 := (State.planNow_keeps h)
  try clear_value x0
  have h3 : Keeps q n x1 := (State.upB_keeps h2)
  try clear_value x1
  exact (ite_ind (Keeps q n) (State.toFault_keeps (State.planNow_keeps (State.planNow_keeps h))) (ite_ind (Keeps q n) (ite_ind (Keeps q n) (ite_ind (Keeps q n) (State.enter_keeps (State.preempt_keeps h3)) (State.envelope_keeps (State.envelope_keeps h3))) (State.toFault_keeps (State.planNow_keeps h2))) (State.toFault_keeps (State.planNow_keeps h))))

theorem State.react_keeps {loc : Loc} {cls : RClass} (h : Keeps q n s) :
    Keeps q n (s.react loc cls) := by
  unfold State.react
  extract_lets x0 x1 x2 x3 x4 x5
  have h7 : Keeps q n x0 := (State.each_keeps h (fun _ _ h6 => (State.planNow_keeps h6)))
  try clear_value x0
  have h8 : Keeps q n x1 := (State.toFault_keeps (State.toFault_keeps (State.planNow_keeps (State.planNow_keeps h))))
  try clear_value x1
  have h9 : Keeps q n x3 := (State.flag_keeps (State.planNow_keeps (State.planNow_keeps h)))
  try clear_value x3
  have h10 : Keeps q n x4 := (State.preempt_keeps (State.preempt_keeps h9))
  try clear_value x4
  have h11 : Keeps q n x5 := (ite_ind (Keeps q n) h10 (State.enterOne_keeps h10))
  try clear_value x5
  split
  · exact h
  · exact h
  · exact h
  · exact (State.each_keeps h (fun _ _ h12 => (ite_ind (Keeps q n) (State.upB_keeps h12) h12)))
  · split
    · exact (State.each_keeps h7 (fun _ _ h13 => (State.toFault_keeps h13)))
    · exact (State.bridgeSafe_keeps h)
    · exact (State.bridgeSafe_keeps h)
  · exact (State.toFault_keeps (State.toFault_keeps (State.planNow_keeps (State.planNow_keeps h))))
  · exact (by exact Keeps.upd h8 rfl rfl rfl rfl rfl rfl rfl rfl)
  · exact (ite_ind (Keeps q n) h11 (State.enterOne_keeps h11))

theorem State.evcLevel_keeps (h : Keeps q n s) :
    Keeps q n (s.evcLevel) := by
  unfold State.evcLevel
  exact (State.irqLevel_keeps h)

theorem State.freezeCounters_keeps (h : Keeps q n s) :
    Keeps q n (s.freezeCounters) := by
  unfold State.freezeCounters
  refine ite_ind (Keeps q n) h (State.irq_keeps (State.setWord_keeps (h.cntsUpd fun j => ?_)))
  simp only [Fin.getElem_fin, Vector.getElem_ofFn]
  exact h.wf.cnts j

theorem State.condition_keeps {code : Nat} {loc : Loc} {on : Bool} (h : Keeps q n s) :
    Keeps q n (s.condition code loc on) := by
  unfold State.condition
  extract_lets x0 x1
  exact (by exact Keeps.upd h rfl rfl rfl rfl rfl rfl rfl rfl)

theorem State.raiseRecord_keeps {code : Nat} {loc : Loc} {cls : RClass} (h : Keeps q n s) :
    Keeps q n (s.raiseRecord code loc cls) := by
  unfold State.raiseRecord
  extract_lets x0 x1 x2 x3 x4
  have h5 : Keeps q n x3 := (ite_ind (Keeps q n) h (by
    split
    · exact (by exact Keeps.upd h rfl rfl rfl rfl rfl rfl rfl rfl)
    · exact (State.evt_keeps h)))
  try clear_value x3
  exact (ite_ind (Keeps q n) (by exact Keeps.upd h5 rfl rfl rfl rfl rfl rfl rfl rfl) h5)

theorem State.raiseFirst_keeps {code : Nat} {loc : Loc} {cls : RClass} (h : Keeps q n s) :
    Keeps q n (s.raiseFirst code loc cls) := by
  unfold State.raiseFirst
  extract_lets x0 x1 x2
  have h3 : Keeps q n x0 := (State.wr_keeps (State.wr_keeps (State.wr_keeps h)))
  try clear_value x0
  have h4 : Keeps q n x1 := (State.setWord_keeps h3)
  try clear_value x1
  exact (ite_ind (Keeps q n) (by exact Keeps.upd h4 rfl rfl rfl rfl rfl rfl rfl rfl) h)

theorem State.raiseTell_keeps {code : Nat} {loc : Loc} {cls : RClass} (h : Keeps q n s) :
    Keeps q n (s.raiseTell code loc cls) := by
  unfold State.raiseTell
  extract_lets x0 x1 x2 x3 x4
  have h5 : Keeps q n x0 := (State.irq_keeps h)
  try clear_value x0
  have h6 : Keeps q n x1 := (ite_ind (Keeps q n) (State.irq_keeps h5) h5)
  try clear_value x1
  have h7 : Keeps q n x3 := (ite_ind (Keeps q n) (State.recTrigger_keeps h6) h6)
  try clear_value x3
  exact (ite_ind (Keeps q n) (by exact Keeps.upd h7 rfl rfl rfl rfl rfl rfl rfl rfl) h7)

theorem State.raise_keeps {code : Nat} {loc : Loc} {cls : RClass} (h : Keeps q n s) :
    Keeps q n (s.raise code loc cls) := by
  unfold State.raise
  extract_lets x0 x1 x2 x3
  have h4 : Keeps q n x1 := (State.raiseFirst_keeps (State.raiseRecord_keeps h))
  try clear_value x1
  have h5 : Keeps q n x2 := (ite_ind (Keeps q n) (State.freezeCounters_keeps h4) h4)
  try clear_value x2
  have h6 : Keeps q n x3 := (State.raiseTell_keeps h5)
  try clear_value x3
  exact (ite_ind (Keeps q n) h (State.react_keeps h6))

theorem State.raiseF_keeps {code : Nat} {loc : Loc} (h : Keeps q n s) :
    Keeps q n (s.raiseF code loc) := by
  unfold State.raiseF
  exact (State.raise_keeps h)

theorem State.raiseOn_keeps {code : Nat} {loc : Loc} {cls : RClass} (h : Keeps q n s) :
    Keeps q n (s.raiseOn code loc cls) := by
  unfold State.raiseOn
  exact (State.raise_keeps (State.condition_keeps h))

theorem State.laneLatchedFault_keeps {k : LaneIx} (h : Keeps q n s) :
    Keeps q n (s.laneLatchedFault k) := by
  unfold State.laneLatchedFault
  exact (State.bridgeSafe_keeps h)

theorem State.unlatchAll_keeps (h : Keeps q n s) :
    Keeps q n (s.unlatchAll) := by
  unfold State.unlatchAll
  refine Keeps.upd (h.cntsUpd (v := s.cnts.map fun c => { c with frozen := false }) fun j => ?_)
    rfl rfl rfl rfl rfl rfl rfl rfl
  simp only [Fin.getElem_fin, Vector.getElem_map]
  exact h.wf.cnts j

theorem State.ackState_keeps {b : Br} (h : Keeps q n s) :
    Keeps q n (s.ackState b) := by
  unfold State.ackState
  exact (ite_ind (Keeps q n) (ite_ind (Keeps q n) (State.enter_keeps h) h) (ite_ind (Keeps q n) (State.enter_keeps h) h))

theorem State.lockIrqs_keeps (h : Keeps q n s) :
    Keeps q n (s.lockIrqs) := by
  unfold State.lockIrqs
  extract_lets x0
  exact (State.irqLevel_keeps (State.irqLevel_keeps h))

theorem State.reply_keeps {lk : Lk} {status : Nat} {pl : List Byte} {keep : Bool} (h : Keeps q n s) :
    Keeps q n (s.reply lk status pl keep) := by
  unfold State.reply
  extract_lets x0
  exact (State.lockIrqs_keeps (State.upLock_keeps h (fun _ hl => (Lock.mk_wf (Lock.put_wf hl)))))

theorem failWith_keeps {st : Nat} {a1 : State} (h : Keeps q n a1) :
    KeepsAns q n (failWith st a1) := by
  unfold failWith
  exact h

theorem okWith_keeps {pl : List Byte} {a1 : State} (h : Keeps q n a1) :
    KeepsAns q n (okWith pl a1) := by
  unfold okWith
  exact h

theorem State.command_keeps {b : Br} {c : DriveCmd} (h : Keeps q n s) :
    Keeps q n (s.command b c) := by
  unfold State.command
  exact (State.each_keeps h (fun _ _ h0 => (State.upB_keeps h0)))

end Sys2Proof.Machine
end

