-- ==== Sys2Proof/Laws/KeepDrive.lean ====
section
/-! SUPPORT. Preservation laws, one for each definition: drive states, positions, parameters and the Towpath. Each says that the definition keeps the queue,
time and the sound parts of a state (`Keeps`). -/

namespace Sys2Proof.Machine

variable {q : List Instr} {n : Nat} {s : State}

theorem State.releaseForced_keeps {b : Br} (h : Keeps q n s) :
    Keeps q n (s.releaseForced b) := by
  unfold State.releaseForced
  extract_lets x0
  exact (ite_ind (Keeps q n) h (State.each_keeps h (fun _ _ h1 => (State.laneSend_keeps h1))))

theorem State.prechargeBegin_keeps {b : Br} (h : Keeps q n s) :
    Keeps q n (s.prechargeBegin b) := by
  unfold State.prechargeBegin
  extract_lets x0 x1 x2 x3
  have h4 : Keeps q n x3 := (State.enter_keeps h)
  try clear_value x3
  exact (State.contactors_keeps (State.each_keeps h4 (fun _ _ h5 => (State.upB_keeps h5))))

theorem State.dischargeBegin_keeps {b : Br} {windings : Bool} (h : Keeps q n s) :
    Keeps q n (s.dischargeBegin b windings) := by
  unfold State.dischargeBegin
  extract_lets x0 x1 x2 x3 x4 x5 x6 x7
  have h9 : Keeps q n x1 := (State.each_keeps h (fun _ _ h8 => (State.upB_keeps h8)))
  try clear_value x1
  have h10 : Keeps q n x2 := (State.enter_keeps h9)
  try clear_value x2
  have h11 : Keeps q n x3 := (State.withdrawAll_keeps h10)
  try clear_value x3
  have h12 : Keeps q n x4 := (ite_ind (Keeps q n) (State.enter_keeps h11) h11)
  try clear_value x4
  have h15 : Keeps q n x5 := (State.each_keeps h12 (fun _ _ h13 => (foldl_keeps h13 (fun _ _ h14 => (State.laneAux_keeps h14)))))
  try clear_value x5
  have h17 : Keeps q n x6 := (ite_ind (Keeps q n) (State.each_keeps h15 (fun _ _ h16 => (State.releaseForced_keeps h16))) h15)
  try clear_value x6
  exact (by exact Keeps.upd h17 rfl rfl rfl rfl rfl rfl rfl rfl)

theorem State.shutdownBegin_keeps {b : Br} (h : Keeps q n s) :
    Keeps q n (s.shutdownBegin b) := by
  unfold State.shutdownBegin
  extract_lets x0 x1
  have h3 : Keeps q n x1 := (State.contactors_keeps (State.each_keeps h (fun _ _ h2 => (State.upB_keeps h2))))
  try clear_value x1
  exact (ite_ind (Keeps q n) h3 (State.enter_keeps h3))

theorem State.startBegin_keeps {b : Br} {m : CtlMode} (h : Keeps q n s) :
    Keeps q n (s.startBegin b m) := by
  unfold State.startBegin
  extract_lets x0
  have h2 : Keeps q n x0 := (State.enter_keeps (State.each_keeps h (fun _ _ h1 => (State.upB_keeps h1))))
  try clear_value x0
  exact (ite_ind (Keeps q n) (State.enter_keeps h2) (ite_ind (Keeps q n) (State.enter_keeps h2) h2))

theorem State.startTry_keeps {b : Br} {m : CtlMode} (h : Keeps q n s) :
    Keeps q n (s.startTry b m) := by
  unfold State.startTry
  extract_lets x0
  exact (ite_ind (Keeps q n) (State.startBegin_keeps h) (State.each_keeps h (fun _ _ h1 => (State.upB_keeps h1))))

theorem State.applyOne_keeps {b : Br} {c : DriveCmd} (h : Keeps q n s) :
    Keeps q n (s.applyOne b c) := by
  unfold State.applyOne
  split
  · exact (ite_ind (Keeps q n) (State.startTry_keeps h) h)
  · exact (ite_ind (Keeps q n) (State.enter_keeps h) (ite_ind (Keeps q n) (State.each_keeps h (fun _ _ h0 => (State.upB_keeps h0))) h))
  · exact (ite_ind (Keeps q n) (State.prechargeBegin_keeps h) h)
  · exact (ite_ind (Keeps q n) (State.shutdownBegin_keeps h) h)
  · exact (ite_ind (Keeps q n) (State.dischargeBegin_keeps h) h)
  · exact (ite_ind (Keeps q n) (State.enter_keeps (State.preempt_keeps h)) h)
  · exact (State.ackState_keeps h)

theorem State.applyCmd_keeps {b : Br} (h : Keeps q n s) :
    Keeps q n (s.applyCmd b) := by
  unfold State.applyCmd
  extract_lets x0 x1
  have h3 : Keeps q n x1 := (State.each_keeps h (fun _ _ h2 => (State.upB_keeps h2)))
  try clear_value x1
  exact (State.each_keeps h3 (fun _ _ h4 => (State.applyOne_keeps h4)))

theorem State.startRetry_keeps {b : Br} (h : Keeps q n s) :
    Keeps q n (s.startRetry b) := by
  unfold State.startRetry
  exact (ite_ind (Keeps q n) (State.applyCmd_keeps h) h)

theorem State.cmdComplete_keeps {keeper : Bool} (h : Keeps q n s) :
    Keeps q n (s.cmdComplete keeper) := by
  unfold State.cmdComplete
  extract_lets x0
  exact (State.each_keeps h (fun _ _ h1 => (by
    extract_lets x2
    have h4 : Keeps q n x2 := (State.each_keeps h1 (fun _ _ h3 => (State.upB_keeps h3)))
    try clear_value x2
    exact (ite_ind (Keeps q n) h4 (State.applyCmd_keeps h4)))))

theorem State.safeStopDone_keeps {b : Br} {violated : Bool} (h : Keeps q n s) :
    Keeps q n (s.safeStopDone b violated) := by
  unfold State.safeStopDone
  exact (ite_ind (Keeps q n) (State.enter_keeps h) h)

theorem State.stoReact_keeps (h : Keeps q n s) :
    Keeps q n (s.stoReact) := by
  unfold State.stoReact
  extract_lets x0
  exact (State.each_keeps h (fun _ _ h1 => (ite_ind (Keeps q n) (State.enter_keeps (State.preempt_keeps h1)) (ite_ind (Keeps q n) (State.safeStopDone_keeps h1) h1))))

theorem State.safeStopCause_keeps {b : Br} (h : Keeps q n s) :
    Keeps q n (s.safeStopCause b) := by
  unfold State.safeStopCause
  exact (ite_ind (Keeps q n) (ite_ind (Keeps q n) (State.each_keeps h (fun _ _ h0 => (State.upB_keeps h0))) (State.enter_keeps (State.preempt_keeps h))) h)

theorem State.putFlag_keeps {p : PortIx} {f : Nat} {on : Bool} (h : Keeps q n s) :
    Keeps q n (s.putFlag p f on) := by
  unfold State.putFlag
  extract_lets x0 x1
  exact (State.wr_keeps h)

theorem State.putCond_keeps {p : PortIx} {f : Nat} {on : Bool} (h : Keeps q n s) :
    Keeps q n (s.putCond p f on) := by
  unfold State.putCond
  extract_lets x0
  exact (State.upPort_keeps h)

theorem State.aclkShow_keeps {b : Br} (h : Keeps q n s) :
    Keeps q n (s.aclkShow b) := by
  unfold State.aclkShow
  extract_lets x0 x1 x2 x3 x4 x5 x6 x7
  have h8 : Keeps q n x5 := (State.wr_keeps h)
  try clear_value x5
  have h9 : Keeps q n x6 := (State.wrI_keeps h8)
  try clear_value x6
  have h10 : Keeps q n x7 := (State.wrI_keeps h9)
  try clear_value x7
  exact (State.flag_keeps h10)

theorem State.holdAngle_keeps {b : Br} {th : Rat} (h : Keeps q n s) :
    Keeps q n (s.holdAngle b th) := by
  unfold State.holdAngle
  extract_lets x0 x1 x2
  exact (State.aclkShow_keeps (State.upAclk_keeps h))

theorem State.holdTaken_keeps {b : Br} {src : Nat} (h : Keeps q n s) :
    Keeps q n (s.holdTaken b src) := by
  unfold State.holdTaken
  split
  · extract_lets x0 x1
    exact (ite_ind (Keeps q n) (State.holdAngle_keeps h) h)
  · exact h

theorem State.takeSource_keeps {b : Br} {src : Nat} (h : Keeps q n s) :
    Keeps q n (s.takeSource b src) := by
  unfold State.takeSource
  extract_lets x0 x1 x2 x3 x4 x5
  have h6 : Keeps q n x1 := (State.wr_keeps h)
  try clear_value x1
  have h7 : Keeps q n x2 := (State.flag_keeps h6)
  try clear_value x2
  have h8 : Keeps q n x3 := (State.evt_keeps (State.flag_keeps h7))
  try clear_value x3
  have h9 : Keeps q n x4 := (State.upAclk_keeps h8)
  try clear_value x4
  have h12 : Keeps q n x5 := (State.when_keeps h9 (fun _ h10 => (State.each_keeps h10 (fun _ _ h11 => (State.squash_keeps h11)))))
  try clear_value x5
  exact (ite_ind (Keeps q n) h (State.holdTaken_keeps (State.aclkShow_keeps h12)))

theorem State.raiseSources_keeps {b : Br} {cls : RClass} (h : Keeps q n s) :
    Keeps q n (s.raiseSources b cls) := by
  unfold State.raiseSources
  extract_lets x0 x1 x2 x3
  have h7 : ∀ y4 y5, Keeps q n y4 → Keeps q n (x0 y4 y5) := (fun _ _ h6 => (ite_ind (Keeps q n) h6 (State.raise_keeps h6)))
  try clear_value x0
  exact (ite_ind (Keeps q n) h (State.each_keeps h h7))

theorem State.aclkSelect_keeps {b : Br} {returning : Bool} (h : Keeps q n s) :
    Keeps q n (s.aclkSelect b returning) := by
  unfold State.aclkSelect
  extract_lets x0
  exact (ite_ind (Keeps q n) (by
    split
    · extract_lets x1
      exact (State.aclkShow_keeps (State.raiseSources_keeps (State.takeSource_keeps h)))) h)

theorem State.posConds_keeps {b : Br} (h : Keeps q n s) :
    Keeps q n (s.posConds b) := by
  unfold State.posConds
  extract_lets x0 x1
  exact (State.each_keeps h (fun _ _ h2 => (State.condition_keeps h2)))

theorem State.portShow_keeps {p : PortIx} (h : Keeps q n s) :
    Keeps q n (s.portShow p) := by
  unfold State.portShow
  extract_lets x0 x1 x2 x3 x4 x5
  have h6 : Keeps q n x3 := (ite_ind (Keeps q n) h (State.irq_keeps (State.wr_keeps h)))
  try clear_value x3
  have h7 : Keeps q n x4 := (State.wrI_keeps h6)
  try clear_value x4
  exact (ite_ind (Keeps q n) (State.aclkShow_keeps h7) h7)

theorem State.portCond_keeps {p : PortIx} {f : Nat} {on : Bool} (h : Keeps q n s) :
    Keeps q n (s.portCond p f on) := by
  unfold State.portCond
  exact (ite_ind (Keeps q n) h (State.posConds_keeps (State.putCond_keeps h)))

theorem State.portFlag_keeps {p : PortIx} {f : Nat} (h : Keeps q n s) :
    Keeps q n (s.portFlag p f) := by
  unfold State.portFlag
  extract_lets x0 x1 x2 x3 x4 x5
  have h6 : Keeps q n x1 := (State.posConds_keeps (State.irq_keeps (State.putFlag_keeps (State.putCond_keeps h))))
  try clear_value x1
  have h7 : Keeps q n x2 := (State.portShow_keeps h6)
  try clear_value x2
  have h8 : Keeps q n x5 := (ite_ind (Keeps q n) (State.raise_keeps h7) h7)
  try clear_value x5
  exact (ite_ind (Keeps q n) (State.posConds_keeps (State.putCond_keeps h)) (State.aclkSelect_keeps h8))

theorem State.speedEdge_keeps {p : PortIx} {d : Int} {t : Nat} (h : Keeps q n s) :
    Keeps q n (s.speedEdge p d t) := by
  unfold State.speedEdge
  extract_lets x0 x1 x2 x3
  exact (State.portShow_keeps (State.upPort_keeps h))

theorem State.turnMove_keeps {p : PortIx} {d : Int} (h : Keeps q n s) :
    Keeps q n (s.turnMove p d) := by
  unfold State.turnMove
  extract_lets x0 x1 x2 x3 x4
  have h5 : Keeps q n x4 := (State.upPort_keeps h)
  try clear_value x4
  exact (ite_ind (Keeps q n) h (ite_ind (Keeps q n) (State.evt_keeps (State.putFlag_keeps h5)) h5))

theorem State.countMove_keeps {p : PortIx} {dc : Int} (h : Keeps q n s) :
    Keeps q n (s.countMove p dc) := by
  unfold State.countMove
  extract_lets x0 x1 x2
  exact (State.turnMove_keeps (State.upPort_keeps h))

theorem State.track_keeps {b : Br} {th : Rat} {ts : Nat} (h : Keeps q n s) :
    Keeps q n (s.track b th ts) := by
  unfold State.track
  exact (State.aclkShow_keeps (State.upAclk_keeps h))

theorem State.compareSources_keeps {b : Br} (h : Keeps q n s) :
    Keeps q n (s.compareSources b) := by
  unfold State.compareSources
  extract_lets x0 x1 x2 x3 x4
  have h6 : Keeps q n x3 := (State.each_keeps h (fun _ _ h5 => (State.putCond_keeps h5)))
  try clear_value x3
  exact (ite_ind (Keeps q n) (ite_ind (Keeps q n) h (State.posConds_keeps (State.upAclk_keeps h6))) (ite_ind (Keeps q n) (State.upAclk_keeps h) (State.upAclk_keeps h)))

theorem State.sourceValue_keeps {b : Br} {src : Nat} {th : Word} {ts : Nat} (h : Keeps q n s) :
    Keeps q n (s.sourceValue b src th ts) := by
  unfold State.sourceValue
  extract_lets x0 x1 x2 x3
  have h4 : Keeps q n x0 := (ite_ind (Keeps q n) (State.upAclk_keeps h) h)
  try clear_value x0
  have h5 : Keeps q n x1 := (ite_ind (Keeps q n) (State.upAclk_keeps h4) h4)
  try clear_value x1
  have h6 : Keeps q n x2 := (ite_ind (Keeps q n) (State.compareSources_keeps h5) h5)
  try clear_value x2
  have h8 : Keeps q n x3 := (State.when_keeps h6 (fun _ h7 => (State.upAclk_keeps h7)))
  try clear_value x3
  exact (ite_ind (Keeps q n) (ite_ind (Keeps q n) (State.track_keeps h8) h8) h)

theorem State.jumpCheck_keeps {p : PortIx} {th : Word} {ts : Nat} (h : Keeps q n s) :
    Keeps q n (s.jumpCheck p th ts) := by
  unfold State.jumpCheck
  extract_lets x0
  exact (ite_ind (Keeps q n) (State.portCond_keeps h) h)

theorem State.portSee_keeps {p : PortIx} {ts : Nat} (h : Keeps q n s) : Keeps q n (s.portSee p ts) :=
  State.setWord_keeps (State.setWord_keeps h)

theorem State.portValue_keeps {p : PortIx} {th : Word} {ts : Nat} (h : Keeps q n s) :
    Keeps q n (s.portValue p th ts) := by
  unfold State.portValue
  extract_lets x0 x1
  have h2 : Keeps q n x0 := (State.portSee_keeps h)
  try clear_value x0
  have h3 : Keeps q n x1 := (State.jumpCheck_keeps h2)
  try clear_value x1
  exact (ite_ind (Keeps q n) h3 (State.sourceValue_keeps h3))

theorem State.returnNow_keeps {b : Br} (h : Keeps q n s) :
    Keeps q n (s.returnNow b) := by
  unfold State.returnNow
  exact (ite_ind (Keeps q n) (State.aclkSelect_keeps (State.upAclk_keeps h)) (State.aclkSelect_keeps h))

theorem State.returnDue_keeps {b : Br} (h : Keeps q n s) :
    Keeps q n (s.returnDue b) := by
  unfold State.returnDue
  extract_lets x0
  have h1 : Keeps q n x0 := (State.upAclk_keeps h)
  try clear_value x0
  exact (ite_ind (Keeps q n) h1 (State.returnNow_keeps h1))

theorem State.unrefClear_keeps {p : PortIx} (h : Keeps q n s) :
    Keeps q n (s.unrefClear p) := by
  unfold State.unrefClear
  extract_lets x0 x1
  have h2 : Keeps q n x1 := (State.putFlag_keeps h)
  try clear_value x1
  exact (ite_ind (Keeps q n) (State.returnDue_keeps h2) h2)

theorem State.hallStands_keeps {p : PortIx} (h : Keeps q n s) :
    Keeps q n (s.hallStands p) := by
  unfold State.hallStands
  exact (ite_ind (Keeps q n) (by
    split
    · exact (State.portCond_keeps h)
    · extract_lets x0
      exact (State.unrefClear_keeps (State.upPort_keeps (State.portCond_keeps h)))) h)

theorem State.portReinit_keeps {p : PortIx} (h : Keeps q n s) :
    Keeps q n (s.portReinit p) := by
  unfold State.portReinit
  extract_lets x0 x1 x2 x3 x4
  have h5 : Keeps q n x0 := (State.putFlag_keeps h)
  try clear_value x0
  have h6 : Keeps q n x1 := (State.upPort_keeps h5)
  try clear_value x1
  have h7 : Keeps q n x2 := (ite_ind (Keeps q n) h6 (State.wr_keeps h6))
  try clear_value x2
  have h8 : Keeps q n x3 := (State.hallStands_keeps (State.portCond_keeps (State.portCond_keeps h7)))
  try clear_value x3
  have h9 : Keeps q n x4 := (ite_ind (Keeps q n) (State.portCond_keeps h8) h8)
  try clear_value x4
  exact (State.aclkSelect_keeps h9)

theorem State.posAck_keeps (h : Keeps q n s) :
    Keeps q n (s.posAck) := by
  unfold State.posAck
  extract_lets x0 x1
  have h4 : Keeps q n x0 := (State.each_keeps h (fun _ _ h2 => (by
    extract_lets x3
    exact (State.portShow_keeps (State.wr_keeps h2)))))
  try clear_value x0
  have h6 : Keeps q n x1 := (State.each_keeps h4 (fun _ _ h5 => (ite_ind (Keeps q n) h5 (State.flag_keeps h5))))
  try clear_value x1
  exact (State.each_keeps h6 (fun _ _ h7 => (State.returnDue_keeps h7)))

theorem State.obsUpdate_keeps {b : Br} (h : Keeps q n s) :
    Keeps q n (s.obsUpdate b) := by
  unfold State.obsUpdate
  extract_lets x0 x1 x2 x3 x4
  have h5 : Keeps q n x4 := (State.upAclk_keeps (State.spend_keeps h))
  try clear_value x4
  exact (ite_ind (Keeps q n) (State.aclkShow_keeps (ite_ind (Keeps q n) (State.sourceValue_keeps h5) h5)) (State.aclkShow_keeps (State.obsOff_keeps h)))

theorem State.domainUpdate_keeps {b : Br} (h : Keeps q n s) :
    Keeps q n (s.domainUpdate b) := by
  unfold State.domainUpdate
  extract_lets x0 x1 x2 x3 x4 x5
  have h6 : Keeps q n x5 := (State.flag_keeps h)
  try clear_value x5
  exact (ite_ind (Keeps q n) h (State.when_keeps h6 (fun _ h7 => (State.each_keeps h7 (fun _ _ h8 => (State.squash_keeps h8))))))

theorem State.posBoundary_keeps {b : Br} (h : Keeps q n s) :
    Keeps q n (s.posBoundary b) := by
  unfold State.posBoundary
  exact (State.domainUpdate_keeps (State.returnNow_keeps (State.obsUpdate_keeps h)))

theorem State.parEffect_keeps {id : Nat} (h : Keeps q n s) :
    Keeps q n (s.parEffect id) := by
  unfold State.parEffect
  extract_lets x0
  have h1 : Keeps q n x0 := (State.parReg_keeps h)
  try clear_value x0
  split
  · exact h1
  · exact (ite_ind (Keeps q n) (by
      split
      · exact (State.portReinit_keeps h1)
      · exact h1) (ite_ind (Keeps q n) (State.aclkSelect_keeps h1) (ite_ind (Keeps q n) (State.envelope_keeps (State.envelope_keeps h1)) h1)))

theorem State.parAll_keeps (h : Keeps q n s) :
    Keeps q n (s.parAll) := by
  unfold State.parAll
  exact (State.each_keeps h (fun _ _ h0 => (State.parEffect_keeps h0)))

theorem State.parApply_keeps {id : Nat} {v : Word} (h : Keeps q n s) :
    Keeps q n (s.parApply id v) := by
  unfold State.parApply
  extract_lets x0 x1 x2
  have h3 : Keeps q n x1 := (State.setPar_keeps h)
  try clear_value x1
  have h4 : Keeps q n x2 := (State.parEffect_keeps h3)
  try clear_value x2
  exact (ite_ind (Keeps q n) (State.parAll_keeps h3) (ite_ind (Keeps q n) (State.each_keeps h4 (fun _ _ h5 => (State.upB_keeps h5))) h4))

theorem State.parAccept_keeps {id : Nat} {v : Word} (h : Keeps q n s) :
    Keeps q n (s.parAccept id v) := by
  unfold State.parAccept
  extract_lets x0 x1 x2
  have h3 : Keeps q n x1 := (ite_ind (Keeps q n) (by exact Keeps.upd h rfl rfl rfl rfl rfl rfl rfl rfl) h)
  try clear_value x1
  split
  · exact (by exact Keeps.upd h3 rfl rfl rfl rfl rfl rfl rfl rfl)
  · exact (State.parApply_keeps (by exact Keeps.upd h3 rfl rfl rfl rfl rfl rfl rfl rfl))

theorem State.parBoundary_keeps {b : Br} (h : Keeps q n s) :
    Keeps q n (s.parBoundary b) := by
  unfold State.parBoundary
  extract_lets x0 x1 x2
  have h3 : Keeps q n x2 := (by exact Keeps.upd h rfl rfl rfl rfl rfl rfl rfl rfl)
  try clear_value x2
  exact (State.each_keeps h3 (fun _ _ h4 => (State.parApply_keeps h4)))

theorem State.nvmSync_keeps (h : Keeps q n s) :
    Keeps q n (s.nvmSync) := by
  unfold State.nvmSync
  extract_lets x0
  exact (State.wr_keeps (State.setWord_keeps h))

theorem State.copyMem_keeps {src : Nat} {dst : Nat} {a3 : Nat} (h : Keeps q n s) :
    Keeps q n (s.copyMem src dst a3) := by
  unfold State.copyMem
  extract_lets x0
  exact (State.each_keeps (State.clearMem_keeps h) (fun _ _ h1 => (State.setMemB_keeps h1)))

theorem State.pairAlign_keeps (h : Keeps q n s) :
    Keeps q n (s.pairAlign) := by
  unfold State.pairAlign
  exact (ite_ind (Keeps q n) (State.enter_keeps h) h)

theorem slotSet_wf {k : Fin 2} : swf paramDefault (s.slotSet k) = true := by
  unfold State.slotSet
  have hf : ∀ (f : Nat → Nat) (g : Nat → Word) (c : Nat → Bool) (l : List Nat) (a : List (Nat × Word)),
      swf paramDefault a = true →
      swf paramDefault (l.foldl (fun act i => if c i = true then sset paramDefault act (f i) (g i) else act) a) = true := by
    intro f g c l
    induction l with
    | nil => intro a ha; exact ha
    | cons i l ih =>
      intro a ha
      exact ih _ (ite_ind (fun m => swf paramDefault m = true) (swf_sset ha _ _) ha)
  exact hf _ _ _ _ _ rfl

theorem State.takeSet_keeps {k : Option (Fin 2)} (h : Keeps q n s) : Keeps q n (s.takeSet k) := by
  unfold State.takeSet
  extract_lets x0 x1 x2 x5 x3 x4
  have ha : swf paramDefault x0 = true := by
    unfold x0
    split
    · exact slotSet_wf
    · rfl
  clear_value x0
  have h1 : Keeps q n x3 := ⟨h.queue, h.time, ⟨h.wf.regs, h.wf.mem, ha, h.wf.boot, h.wf.locks, h.wf.cnts⟩⟩
  have h2 : Keeps q n x4 := State.pairAlign_keeps (State.parAll_keeps h1)
  exact ite_ind (Keeps q n) h2 (State.raiseF_keeps h2)

theorem State.storeBegin_keeps (h : Keeps q n s) :
    Keeps q n (s.storeBegin) := by
  unfold State.storeBegin
  extract_lets x0 x1 x2 x3 x4
  have h5 : Keeps q n x4 := (by exact Keeps.upd h rfl rfl rfl rfl rfl rfl rfl rfl)
  try clear_value x4
  exact (State.nvmSync_keeps (State.wr_keeps (State.setMemW_keeps h5)))

theorem State.storeWrite_keeps {j : StoreJob} (h : Keeps q n s) :
    Keeps q n (s.storeWrite j) := by
  unfold State.storeWrite
  extract_lets x0 x1 x2 x3
  have h4 : Keeps q n x0 := (State.copyMem_keeps h)
  try clear_value x0
  have h5 : Keeps q n x1 := (State.setMemBytes_keeps h4)
  try clear_value x1
  have h6 : Keeps q n x3 := (State.setMemBytes_keeps h5)
  try clear_value x3
  exact (State.setMemBytes_keeps h6)

theorem State.towSend_keeps {p : TowPort} {f : List Byte} (h : Keeps q n s) :
    Keeps q n (s.towSend p f) := by
  unfold State.towSend
  extract_lets x0
  exact (ite_ind (Keeps q n) (by exact Keeps.upd h rfl rfl rfl rfl rfl rfl rfl rfl) h)

theorem State.towRoute_keeps {f : List Byte} (h : Keeps q n s) :
    Keeps q n (s.towRoute f) := by
  unfold State.towRoute
  extract_lets x0
  split
  · exact h
  · exact (ite_ind (Keeps q n) (State.towSend_keeps (State.towSend_keeps h)) (ite_ind (Keeps q n) (State.towSend_keeps h) (ite_ind (Keeps q n) (State.towSend_keeps h) h)))

theorem State.shareSend_keeps {b : Br} {t : Int} {lim : Int} (h : Keeps q n s) :
    Keeps q n (s.shareSend b t lim) := by
  unfold State.shareSend
  extract_lets x0 x1
  split
  · exact h
  · exact (ite_ind (Keeps q n) (State.towRoute_keeps (by exact Keeps.upd h rfl rfl rfl rfl rfl rfl rfl rfl)) h)

theorem execDriveStart_keeps {lk : Lk} {a1 : State} (h : Keeps q n a1) :
    KeepsOut q n (execDriveStart lk a1) := by
  unfold execDriveStart
  exact (State.serveCode_keeps h (fun _ _ h0 => (by
    extract_lets x1 x2
    exact (checked_keeps h0 (fun _ h3 => (okWith_keeps (State.command_keeps h3)))))))

theorem execDriveStop_keeps {lk : Lk} {a1 : State} (h : Keeps q n a1) :
    KeepsOut q n (execDriveStop lk a1) := by
  unfold execDriveStop
  exact (State.serveCode_keeps h (fun _ _ h0 => (by
    extract_lets x1 x2
    exact (checked_keeps h0 (fun _ h3 => (okWith_keeps (State.command_keeps h3)))))))

theorem State.takeTorque_keeps {b : Br} {t : Int} {lim : Int} (h : Keeps q n s) :
    Keeps q n (s.takeTorque b t lim) := by
  unfold State.takeTorque
  exact (State.shareSend_keeps (State.each_keeps h (fun _ _ h0 => (State.upB_keeps h0))))

theorem execTorqueSet_keeps {lk : Lk} {a1 : State} (h : Keeps q n a1) :
    KeepsOut q n (execTorqueSet lk a1) := by
  unfold execTorqueSet
  exact (State.serveCode_keeps h (fun _ _ h0 => (by
    extract_lets x1 x2 x3
    exact (checked_keeps h0 (fun _ h4 => (by
      extract_lets x5
      exact (okWith_keeps (State.takeTorque_keeps h4))))))))

theorem execSpeedSet_keeps {lk : Lk} {a1 : State} (h : Keeps q n a1) :
    KeepsOut q n (execSpeedSet lk a1) := by
  unfold execSpeedSet
  exact (State.serveCode_keeps h (fun _ _ h0 => (by
    extract_lets x1 x2 x3
    exact (checked_keeps h0 (fun _ h4 => (by
      extract_lets x5
      exact (okWith_keeps (State.each_keeps h4 (fun _ _ h6 => (State.upB_keeps h6))))))))))

theorem execCurrentSet_keeps {lk : Lk} {a1 : State} (h : Keeps q n a1) :
    KeepsOut q n (execCurrentSet lk a1) := by
  unfold execCurrentSet
  exact (State.serveCode_keeps h (fun _ _ h0 => (by
    extract_lets x1 x2 x3 x4
    exact (checked_keeps h0 (fun _ h5 => (by
      extract_lets x6
      exact (okWith_keeps (State.each_keeps h5 (fun _ _ h7 => (State.upB_keeps h7))))))))))

theorem execDriveStatus_keeps {lk : Lk} {a1 : State} (h : Keeps q n a1) :
    KeepsOut q n (execDriveStatus lk a1) := by
  unfold execDriveStatus
  exact (State.serveCode_keeps h (fun _ _ h0 => (by
    extract_lets x1
    exact (checked_keeps h0 (fun _ h2 => (okWith_keeps h2))))))

theorem execPrechargeStart_keeps {lk : Lk} {a1 : State} (h : Keeps q n a1) :
    KeepsOut q n (execPrechargeStart lk a1) := by
  unfold execPrechargeStart
  exact (State.serveCode_keeps h (fun _ _ h0 => (by
    extract_lets x1 x2
    exact (checked_keeps h0 (fun _ h3 => (okWith_keeps (State.command_keeps h3)))))))

theorem execDriveShutdown_keeps {lk : Lk} {a1 : State} (h : Keeps q n a1) :
    KeepsOut q n (execDriveShutdown lk a1) := by
  unfold execDriveShutdown
  exact (State.serveCode_keeps h (fun _ _ h0 => (by
    extract_lets x1 x2
    exact (checked_keeps h0 (fun _ h3 => (okWith_keeps (State.command_keeps h3)))))))

theorem execDischargeStart_keeps {lk : Lk} {a1 : State} (h : Keeps q n a1) :
    KeepsOut q n (execDischargeStart lk a1) := by
  unfold execDischargeStart
  exact (State.serveCode_keeps h (fun _ _ h0 => (by
    extract_lets x1 x2 x3 x4 x5
    exact (checked_keeps h0 (fun _ h6 => (okWith_keeps (State.command_keeps h6)))))))

end Sys2Proof.Machine
end

