-- ==== Sys2Proof/Laws/KeepLock.lean ====
section
/-! SUPPORT. Preservation laws, one for each definition: CAN, the Locks, the Pilot, trust and the recorder. Each says that the definition keeps the queue,
time and the sound parts of a state (`Keeps`). -/

namespace Sys2Proof.Machine

variable {q : List Instr} {n : Nat} {s : State}

theorem State.canLevel_keeps {c : Fin 4} (h : Keeps q n s) :
    Keeps q n (s.canLevel c) := by
  unfold State.canLevel
  exact (State.irqLevel_keeps h)

theorem State.canFlag_keeps {c : Fin 4} {f : Fld} (h : Keeps q n s) :
    Keeps q n (s.canFlag c f) := by
  unfold State.canFlag
  exact (State.canLevel_keeps (State.flag_keeps h))

theorem State.canConf_keeps {c : Fin 4} (h : Keeps q n s) :
    Keeps q n (s.canConf c) := by
  unfold State.canConf
  extract_lets x0 x1
  have h2 : Keeps q n x1 := (State.canFlag_keeps (State.wr_keeps h))
  try clear_value x1
  exact (ite_ind (Keeps q n) h (ite_ind (Keeps q n) (State.evt_keeps h2) (ite_ind (Keeps q n) (State.evt_keeps h2) h2)))

theorem State.canRxGood_keeps {c : Fin 4} (h : Keeps q n s) :
    Keeps q n (s.canRxGood c) := by
  unfold State.canRxGood
  extract_lets x0
  exact (ite_ind (Keeps q n) (State.canConf_keeps (State.wr_keeps (State.spend_keeps h))) (State.canConf_keeps (State.wr_keeps h)))

theorem State.canRxError_keeps {c : Fin 4} (h : Keeps q n s) :
    Keeps q n (s.canRxError c) := by
  unfold State.canRxError
  exact (State.canConf_keeps (State.wr_keeps h))

theorem State.mbPut_keeps {i : Nat} {bs : List Byte} (h : Keeps q n s) :
    Keeps q n (s.mbPut i bs) := by
  unfold State.mbPut
  exact (State.each_keeps h (fun _ _ h0 => (State.setWord_keeps h0)))

theorem State.mbFill_keeps {c : Fin 4} {mb : Nat} {f : CanFrame} {stamp : Word} (h : Keeps q n s) :
    Keeps q n (s.mbFill c mb f stamp) := by
  unfold State.mbFill
  extract_lets x0 x1 x2 x3 x4
  have h5 : Keeps q n x2 := (State.wr_keeps (State.setWord_keeps h))
  try clear_value x2
  have h6 : Keeps q n x3 := (State.setWord_keeps (State.wr_keeps (State.wr_keeps h5)))
  try clear_value x3
  have h7 : Keeps q n x4 := (State.mbPut_keeps (State.setWord_keeps h6))
  try clear_value x4
  exact (State.canFlag_keeps (State.wr_keeps h7))

theorem State.mbStore_keeps {c : Fin 4} {f : CanFrame} {stamp : Word} (h : Keeps q n s) :
    Keeps q n (s.mbStore c f stamp) := by
  unfold State.mbStore
  split
  · exact h
  · extract_lets x0 x1 x2 x3
    have h4 : Keeps q n x2 := (State.upCan_keeps h)
    try clear_value x2
    have h5 : Keeps q n x3 := (State.flag_keeps h4)
    try clear_value x3
    exact (ite_ind (Keeps q n) (ite_ind (Keeps q n) (State.evt_keeps (State.canFlag_keeps (State.flag_keeps h5))) h5) (State.mbFill_keeps h))

theorem State.mbRelease_keeps {c : Fin 4} {mb : Nat} (h : Keeps q n s) :
    Keeps q n (s.mbRelease c mb) := by
  unfold State.mbRelease
  extract_lets x0 x1
  have h2 : Keeps q n x1 := (State.upCan_keeps h)
  try clear_value x1
  exact (ite_ind (Keeps q n) (by
    split
    · exact (State.mbFill_keeps (State.flag_keeps h2))
    · exact (State.wr_keeps h)) h)

theorem State.mbReq_keeps {c : Fin 4} {mb : Nat} (h : Keeps q n s) :
    Keeps q n (s.mbReq c mb) := by
  unfold State.mbReq
  extract_lets x0 x1
  exact (ite_ind (Keeps q n) (State.flag_keeps (State.wr_keeps h)) (State.flag_keeps h))

theorem State.mbCancel_keeps {c : Fin 4} {mb : Nat} (h : Keeps q n s) :
    Keeps q n (s.mbCancel c mb) := by
  unfold State.mbCancel
  extract_lets x0 x1
  exact (ite_ind (Keeps q n) (State.canFlag_keeps (State.wr_keeps h)) (ite_ind (Keeps q n) (State.flag_keeps h) h))

theorem State.canRespDone_keeps {c : Fin 4} (h : Keeps q n s) :
    Keeps q n (s.canRespDone c) := by
  unfold State.canRespDone
  extract_lets x0
  exact (State.upCan_keeps (by exact Keeps.upd h rfl rfl rfl rfl rfl rfl rfl rfl))

theorem State.canStart_keeps {c : Fin 4} {k : Nat} (h : Keeps q n s) :
    Keeps q n (s.canStart c k) := by
  unfold State.canStart
  extract_lets x0 x1
  have h2 : Keeps q n x0 := (State.upCan_keeps h)
  try clear_value x0
  have h3 : Keeps q n x1 := (ite_ind (Keeps q n) (State.wr_keeps h2) h2)
  try clear_value x1
  exact (State.flag_keeps (State.flag_keeps h3))

theorem State.canAbort_keeps {c : Fin 4} (h : Keeps q n s) :
    Keeps q n (s.canAbort c) := by
  unfold State.canAbort
  extract_lets x0 x1
  have h3 : Keeps q n x1 := (State.each_keeps h (fun _ _ h2 => (State.wr_keeps h2)))
  try clear_value x1
  exact (ite_ind (Keeps q n) h3 (State.canFlag_keeps h3))

theorem State.canOff_keeps {c : Fin 4} (h : Keeps q n s) :
    Keeps q n (s.canOff c) := by
  unfold State.canOff
  extract_lets x0 x1 x2
  have h3 : Keeps q n x0 := (State.canAbort_keeps (State.upCan_keeps h))
  try clear_value x0
  have h4 : Keeps q n x1 := (State.wr_keeps (State.wr_keeps h3))
  try clear_value x1
  have h5 : Keeps q n x2 := (State.canConf_keeps (State.flag_keeps h4))
  try clear_value x2
  exact (State.condition_keeps h5)

theorem State.canIdle_keeps {c : Fin 4} (h : Keeps q n s) :
    Keeps q n (s.canIdle c) := by
  unfold State.canIdle
  extract_lets x0 x1
  have h2 : Keeps q n x0 := (State.flag_keeps (State.upCan_keeps h))
  try clear_value x0
  have h3 : Keeps q n x1 := (State.flag_keeps h2)
  try clear_value x1
  exact (ite_ind (Keeps q n) (State.canOff_keeps h3) h3)

theorem State.canFailed_keeps {c : Fin 4} {mb : Nat} (h : Keeps q n s) :
    Keeps q n (s.canFailed c mb) := by
  unfold State.canFailed
  extract_lets x0
  exact (ite_ind (Keeps q n) (State.canFlag_keeps (State.wr_keeps h)) (ite_ind (Keeps q n) (State.canFlag_keeps (State.wr_keeps h)) (State.wr_keeps h)))

theorem State.canRespNext_keeps {c : Fin 4} (h : Keeps q n s) :
    Keeps q n (s.canRespNext c) := by
  unfold State.canRespNext
  split
  · exact (ite_ind (Keeps q n) (State.upCan_keeps h) (State.canRespDone_keeps h))
  · exact (State.canRespDone_keeps h)

theorem State.canSent_keeps {c : Fin 4} {mb : Nat} (h : Keeps q n s) :
    Keeps q n (s.canSent c mb) := by
  unfold State.canSent
  extract_lets x0
  exact (State.canFlag_keeps (State.setWord_keeps (State.wr_keeps h)))

theorem State.canMeasure_keeps {c : Fin 4} {f : CanFrame} (h : Keeps q n s) :
    Keeps q n (s.canMeasure c f) := by
  unfold State.canMeasure
  exact (ite_ind (Keeps q n) (State.wr_keeps (State.spend_keeps h)) h)

theorem State.canTxCount_keeps {c : Fin 4} {k : Nat} {own : Option CanFrame} {e : CanTxEnd} (h : Keeps q n s) :
    Keeps q n (s.canTxCount c k own e) := by
  cases e with
  | ok =>
    cases own with
    | some f =>
      exact ite_ind (Keeps q n) (State.canSent_keeps (State.canMeasure_keeps (State.wr_keeps h)))
        (State.canRespNext_keeps (State.canMeasure_keeps (State.wr_keeps h)))
    | none => exact ite_ind (Keeps q n) (State.canSent_keeps (State.wr_keeps h)) (State.canRespNext_keeps (State.wr_keeps h))
  | lostArbitration => exact ite_ind (Keeps q n) (State.canFailed_keeps h) h
  | error _ => exact ite_ind (Keeps q n) (State.canFailed_keeps (State.wr_keeps h)) (State.wr_keeps h)

theorem State.canTxEnd_keeps {c : Fin 4} {e : CanTxEnd} (h : Keeps q n s) : Keeps q n (s.canTxEnd c e) := by
  unfold State.canTxEnd
  split
  · exact h
  · dsimp only
    split
    · exact State.canConf_keeps (State.canIdle_keeps
        (ite_ind (Keeps q n) (State.mbStore_keeps (State.canTxCount_keeps h)) (State.canTxCount_keeps h)))
    · exact State.canConf_keeps (State.canIdle_keeps (State.canTxCount_keeps h))

theorem State.canBusOff_keeps {c : Fin 4} (h : Keeps q n s) :
    Keeps q n (s.canBusOff c) := by
  unfold State.canBusOff
  extract_lets x0 x1 x2 x3 x4
  have h6 : Keeps q n x0 := (by
    unfold x0
    split
    · exact h
    · extract_lets x5
      exact (ite_ind (Keeps q n) (ite_ind (Keeps q n) (State.canFlag_keeps (State.wr_keeps h)) (State.canFlag_keeps (State.wr_keeps h))) h))
  try clear_value x0
  have h7 : Keeps q n x1 := (ite_ind (Keeps q n) (State.canRespDone_keeps h6) h6)
  try clear_value x1
  have h8 : Keeps q n x2 := (State.flag_keeps (State.upCan_keeps h7))
  try clear_value x2
  have h9 : Keeps q n x3 := (State.canConf_keeps (State.canAbort_keeps (State.flag_keeps h8)))
  try clear_value x3
  have h10 : Keeps q n x4 := (State.raiseOn_keeps (State.canFlag_keeps h9))
  try clear_value x4
  exact (ite_ind (Keeps q n) (State.canConf_keeps (State.upCan_keeps h10)) h10)

theorem State.canRecover_keeps {c : Fin 4} (h : Keeps q n s) :
    Keeps q n (s.canRecover c) := by
  unfold State.canRecover
  exact (ite_ind (Keeps q n) (State.canConf_keeps (State.upCan_keeps h)) h)

theorem State.canRecovered_keeps {c : Fin 4} (h : Keeps q n s) :
    Keeps q n (s.canRecovered c) := by
  unfold State.canRecovered
  extract_lets x0 x1
  have h2 : Keeps q n x0 := (State.flag_keeps (State.upCan_keeps h))
  try clear_value x0
  have h3 : Keeps q n x1 := (State.canConf_keeps (State.wr_keeps (State.wr_keeps h2)))
  try clear_value x1
  exact (State.condition_keeps h3)

theorem State.canInit_keeps {c : Fin 4} {v : Bool} (h : Keeps q n s) :
    Keeps q n (s.canInit c v) := by
  unfold State.canInit
  extract_lets x0
  have h1 : Keeps q n x0 := (State.flag_keeps h)
  try clear_value x0
  exact (ite_ind (Keeps q n) (ite_ind (Keeps q n) h1 (State.canOff_keeps h1)) (ite_ind (Keeps q n) (State.upCan_keeps h1) h1))

theorem State.canTiming_keeps {c : Fin 4} {t : Option (Nat × Nat × Nat)} {fb : Fld} {f1 : Fld} {f2 : Fld} {fs : Fld} (h : Keeps q n s) :
    Keeps q n (s.canTiming c t fb f1 f2 fs) := by
  unfold State.canTiming
  split
  · exact (State.wr_keeps (State.wr_keeps (State.wr_keeps (State.wr_keeps h))))
  · exact h

theorem State.canBoot_keeps {c : Fin 4} (h : Keeps q n s) :
    Keeps q n (s.canBoot c) := by
  unfold State.canBoot
  extract_lets x0 x1 x2 x3 x4 x5 x6 x7
  have h8 : Keeps q n x2 := (State.canTiming_keeps h)
  try clear_value x2
  have h9 : Keeps q n x3 := (ite_ind (Keeps q n) (State.canTiming_keeps h8) h8)
  try clear_value x3
  have h10 : Keeps q n x4 := (ite_ind (Keeps q n) (State.canTiming_keeps h9) h9)
  try clear_value x4
  have h11 : Keeps q n x5 := (State.wr_keeps (State.wr_keeps h10))
  try clear_value x5
  have h12 : Keeps q n x6 := (State.flag_keeps (State.flag_keeps h11))
  try clear_value x6
  have h13 : Keeps q n x7 := (State.wr_keeps (State.wr_keeps h12))
  try clear_value x7
  exact (ite_ind (Keeps q n) (State.canInit_keeps h13) h)

theorem State.lockReject_keeps {lk : Lk} {status : Nat} (h : Keeps q n s) :
    Keeps q n (s.lockReject lk status) := by
  unfold State.lockReject
  exact (State.evt_keeps (State.reply_keeps h))

theorem State.lockServe_keeps {lk : Lk} (h : Keeps q n s) :
    Keeps q n (s.lockServe lk) := by
  unfold State.lockServe
  exact (State.lockIrqs_keeps (State.upLock_keeps h (fun _ hl => (Lock.mk_wf hl))))

theorem State.lockSequence_keeps {lk : Lk} (h : Keeps q n s) :
    Keeps q n (s.lockSequence lk) := by
  unfold State.lockSequence
  extract_lets x0
  split
  · exact (State.lockServe_keeps h)
  · exact (ite_ind (Keeps q n) (State.lockServe_keeps h) (ite_ind (Keeps q n) (by
      split
      · exact (State.upLock_keeps h (fun _ hl => (Lock.mk_wf (Lock.put_wf hl))))
      · exact (State.reply_keeps h)) (State.lockReject_keeps h)))

theorem State.lockNote_keeps {lk : Lk} (h : Keeps q n s) : Keeps q n (s.lockNote lk) :=
  State.upLock_keeps h fun _ hl => Lock.mk_wf hl

theorem State.lockSubmit_keeps {lk : Lk} (h : Keeps q n s) :
    Keeps q n (s.lockSubmit lk) := by
  unfold State.lockSubmit
  extract_lets x0 x1
  have h2 : Keeps q n x0 := State.lockNote_keeps h
  clear_value x0
  have hr : ∀ st, Keeps q n (x0.lockReject lk st) := fun _ => State.lockReject_keeps h2
  have h3 : Keeps q n (x0.lockSequence lk) := State.lockSequence_keeps h2
  repeat' first | exact ite_ind _ (hr _) h3 | apply ite_ind _ (hr _)

theorem State.respSend_keeps {tr : Transport} {lk : Lk} {bs : List Byte} (h : Keeps q n s) :
    Keeps q n (s.respSend tr lk bs) := by
  unfold State.respSend
  extract_lets x0
  split
  · exact (State.towRoute_keeps h)
  · exact (by exact Keeps.upd h rfl rfl rfl rfl rfl rfl rfl rfl)

theorem State.lockDeliver_keeps {tr : Transport} {lk : Lk} {bs : List Byte} (h : Keeps q n s) :
    Keeps q n (s.lockDeliver tr lk bs) := by
  unfold State.lockDeliver
  exact (ite_ind (Keeps q n) h (ite_ind (Keeps q n) (State.lockSubmit_keeps (State.upLock_keeps h (fun _ hl => (Lock.mk_wf (Lock.put_wf (Lock.mk_wf rfl)))))) (State.respSend_keeps h)))

theorem State.lockByFive_keeps {tr : Transport} {bs : List Byte} (h : Keeps q n s) :
    Keeps q n (s.lockByFive tr bs) := by
  unfold State.lockByFive
  split
  · exact (State.lockDeliver_keeps h)
  · exact h

theorem State.udpIn_keeps {tr : Transport} {bs : List Byte} (h : Keeps q n s) :
    Keeps q n (s.udpIn tr bs) := by
  unfold State.udpIn
  extract_lets x0
  split
  · exact (State.lockDeliver_keeps h)
  · exact (ite_ind (Keeps q n) (State.evt_keeps (State.respSend_keeps h)) h)

theorem State.lockEmpty_keeps {lk : Lk} (h : Keeps q n s) :
    Keeps q n (s.lockEmpty lk) := by
  unfold State.lockEmpty
  exact (State.upLock_keeps h (fun _ hl => (Lock.mk_wf rfl)))

theorem State.segDrop_keeps {c : Fin 4} (h : Keeps q n s) :
    Keeps q n (s.segDrop c) := by
  unfold State.segDrop
  split
  · exact (State.evt_keeps (State.upCan_keeps h))
  · exact h

theorem State.segTake_keeps {c : Fin 4} {lk : Lk} {last : Bool} {before : List Byte} {body : List Byte} {p : SegPart} (h : Keeps q n s) :
    Keeps q n (s.segTake c lk last before body p) := by
  unfold State.segTake
  exact (ite_ind (Keeps q n) (State.lockDeliver_keeps (State.upCan_keeps h)) (State.upCan_keeps h))

theorem State.segIn_keeps {c : Fin 4} {lk : Lk} {f : CanFrame} (h : Keeps q n s) :
    Keeps q n (s.segIn c lk f) := by
  unfold State.segIn
  extract_lets x0 x1 x2 x3 x4 x5
  exact (ite_ind (Keeps q n) (State.segDrop_keeps h) (ite_ind (Keeps q n) (State.segTake_keeps (State.segDrop_keeps h)) (by
    split
    · exact (ite_ind (Keeps q n) (State.segTake_keeps h) (State.segDrop_keeps h))
    · exact h)))

theorem State.canLock_keeps {c : Fin 4} {lk : Lk} {f : CanFrame} (h : Keeps q n s) :
    Keeps q n (s.canLock c lk f) := by
  unfold State.canLock
  split
  · exact (State.lockDeliver_keeps h)
  · exact (ite_ind (Keeps q n) (State.evt_keeps h) (State.segIn_keeps h))
  · exact (State.evt_keeps h)

theorem State.spPut_keeps {share : Bool} {b : Br} {a3 : Option Nat} (h : Keeps q n s) :
    Keeps q n (s.spPut share b a3) := by
  unfold State.spPut
  exact (State.each_keeps h (fun _ _ h0 => (State.upB_keeps h0)))

theorem State.spHeard_keeps {share : Bool} {b : Br} (h : Keeps q n s) :
    Keeps q n (s.spHeard share b) := by
  unfold State.spHeard
  exact (State.each_keeps h (fun _ _ h0 => (State.upB_keeps h0)))

theorem State.spApply_keeps {share : Bool} {scale : Int} {p : List Byte} (h : Keeps q n s) :
    Keeps q n (s.spApply share scale p) := by
  unfold State.spApply
  extract_lets x0 x1
  exact (ite_ind (Keeps q n) (State.evt_keeps h) (by
    split
    · exact h
    · extract_lets x2
      have h5 : ∀ y3, Keeps q n y3 → Keeps q n (x2 y3) := (fun _ h4 => (State.takeTorque_keeps (State.spHeard_keeps h4)))
      try clear_value x2
      exact (ite_ind (Keeps q n) (by
        split
        · exact (h5 _ (State.spPut_keeps h))
        · extract_lets x6
          exact (ite_ind (Keeps q n) h (ite_ind (Keeps q n) (h5 _ (State.spPut_keeps h)) (State.evt_keeps (State.spPut_keeps h))))) h)))

theorem State.canSetpoint_keeps {f : CanFrame} (h : Keeps q n s) :
    Keeps q n (s.canSetpoint f) := by
  unfold State.canSetpoint
  exact (ite_ind (Keeps q n) (State.evt_keeps h) (ite_ind (Keeps q n) (State.spApply_keeps h) h))

theorem State.spTimeout_keeps {b : Br} {share : Bool} {code : Nat} (h : Keeps q n s) :
    Keeps q n (s.spTimeout b share code) := by
  unfold State.spTimeout
  exact (ite_ind (Keeps q n) (State.raiseF_keeps (State.spPut_keeps (State.takeTorque_keeps (State.spHeard_keeps h)))) h)

theorem State.canRefuse_keeps {c : Fin 4} {f : CanFrame} (h : Keeps q n s) :
    KeepsOpt q n (s.canRefuse c f) := by
  unfold State.canRefuse
  extract_lets x0 x1
  exact (ite_ind (KeepsOpt q n) (keepsOpt_some (State.canRxError_keeps h)) (ite_ind (KeepsOpt q n) (keepsOpt_some (State.evt_keeps (State.flag_keeps (State.upCan_keeps h)))) keepsOpt_none))

theorem State.canReceive_keeps {c : Fin 4} {stamp : Word} {f : CanFrame} (h : Keeps q n s) :
    Keeps q n (s.canReceive c stamp f) := by
  unfold State.canReceive
  refine ite_ind _ ?_ h
  split
  · next t ht => exact State.canRefuse_keeps h t ht
  · extract_lets x1
    have h1 : Keeps q n x1 := State.canRxGood_keeps h
    refine ite_ind _ (State.evt_keeps (State.canFlag_keeps h1)) (ite_ind _ ?_ (State.mbStore_keeps h1))
    split
    · exact State.canLock_keeps h1
    · exact ite_ind _ (State.canSetpoint_keeps h1) (State.mbStore_keeps h1)

theorem State.spiEnd_keeps {port : Fin 2} {e : SpiEnd} {out : List Byte} (h : Keeps q n s) :
    Keeps q n (s.spiEnd port e out) := by
  unfold State.spiEnd
  extract_lets x0
  have h1 : Keeps q n x0 := (State.irq_keeps h)
  try clear_value x0
  exact (by exact Keeps.upd h1 rfl rfl rfl rfl rfl rfl rfl rfl)

theorem State.spiFrame_keeps {port : Fin 2} {op : Nat} {lock : Byte} {off count : BitVec 16} {data : List Byte}
    {crc : Byte} {act : State → Option (State × List Byte)} (h : Keeps q n s)
    (hf : ∀ s, Keeps q n s → KeepsFrame q n (act s)) :
    Keeps q n (s.spiFrame port op lock off count data crc act) := by
  unfold State.spiFrame
  refine ite_ind _ h (ite_ind _ (State.spiEnd_keeps h) (ite_ind _ (State.spiEnd_keeps h)
    (ite_ind _ (State.spiEnd_keeps h) ?_)))
  split
  · next t out ht => exact State.spiEnd_keeps (hf s h _ ht)
  · exact State.spiEnd_keeps h

theorem State.pilotLocksOut_keeps (h : Keeps q n s) :
    Keeps q n (s.pilotLocksOut) := by
  unfold State.pilotLocksOut
  exact (State.each_keeps h (fun _ _ h0 => (ite_ind (Keeps q n) (State.flag_keeps (State.reply_keeps h0)) h0)))

theorem State.holdBegin_keeps {b : Br} (h : Keeps q n s) :
    Keeps q n (s.holdBegin b) := by
  unfold State.holdBegin
  exact (ite_ind (Keeps q n) h (State.upFl_keeps (State.wr_keeps (State.flag_keeps (State.flag_keeps h)))))

theorem State.holdEnd_keeps {b : Br} (h : Keeps q n s) :
    Keeps q n (s.holdEnd b) := by
  unfold State.holdEnd
  exact (State.upFl_keeps (State.flag_keeps (State.flag_keeps (State.wr_keeps h))))

theorem State.pilotIntoReset_keeps (h : Keeps q n s) :
    Keeps q n (s.pilotIntoReset) := by
  unfold State.pilotIntoReset
  extract_lets x0
  have h1 : Keeps q n x0 := (State.flag_keeps h)
  try clear_value x0
  exact (State.each_keeps h1 (fun _ _ h2 => (State.regToReset_keeps (State.each_keeps h2 (fun _ _ h3 => (State.regToReset_keeps h3))))))

theorem State.pilotRestartBegin_keeps {bank : Option Br} (h : Keeps q n s) :
    Keeps q n (s.pilotRestartBegin bank) := by
  unfold State.pilotRestartBegin
  extract_lets x0 x1 x2 x3 x4 x5
  have h6 : Keeps q n x0 := (State.pilotLocksOut_keeps h)
  try clear_value x0
  have h8 : Keeps q n x2 := (State.each_keeps h6 (fun _ _ h7 => (ite_ind (Keeps q n) (State.holdBegin_keeps h7) h7)))
  try clear_value x2
  have h10 : Keeps q n x3 := (State.each_keeps h8 (fun _ _ h9 => (ite_ind (Keeps q n) (State.enter_keeps (State.preempt_keeps h9)) h9)))
  try clear_value x3
  have h11 : Keeps q n x5 := (by exact Keeps.upd h10 rfl rfl rfl rfl rfl rfl rfl rfl)
  try clear_value x5
  exact (State.recTrigger_keeps (State.pilotIntoReset_keeps h11))

theorem State.pilotResume_keeps (h : Keeps q n s) :
    Keeps q n (s.pilotResume) := by
  unfold State.pilotResume
  extract_lets x0 x1
  have h3 : Keeps q n x0 := (State.each_keeps h (fun _ _ h2 => (State.condition_keeps (ite_ind (Keeps q n) (State.holdEnd_keeps h2) h2))))
  try clear_value x0
  exact (by exact Keeps.upd h3 rfl rfl rfl rfl rfl rfl rfl rfl)

theorem State.upBank_keeps {b : Br} {f : Bank → Bank} (h : Keeps q n s) :
    Keeps q n (s.upBank b f) := by
  unfold State.upBank
  extract_lets x0
  exact (by exact Keeps.upd h rfl rfl rfl rfl rfl rfl rfl rfl)

theorem State.upFw_keeps {f : FwSession → FwSession} (h : Keeps q n s) :
    Keeps q n (s.upFw f) := by
  unfold State.upFw
  extract_lets x0
  exact (by exact Keeps.upd h rfl rfl rfl rfl rfl rfl rfl rfl)

theorem State.trialFail_keeps (h : Keeps q n s) :
    Keeps q n (s.trialFail) := by
  unfold State.trialFail
  split
  · exact (State.upFw_keeps (State.upBank_keeps h))
  · exact h

theorem State.pilotFailure_keeps (h : Keeps q n s) :
    Keeps q n (s.pilotFailure) := by
  unfold State.pilotFailure
  extract_lets x0 x1 x2 x3 x4 x5
  have h6 : Keeps q n x0 := (State.raiseF_keeps (State.trialFail_keeps h))
  try clear_value x0
  have h7 : Keeps q n x1 := (State.pilotLocksOut_keeps h6)
  try clear_value x1
  have h8 : Keeps q n x3 := (by exact Keeps.upd h7 rfl rfl rfl rfl rfl rfl rfl rfl)
  try clear_value x3
  have h9 : Keeps q n x5 := (by exact Keeps.upd h6 rfl rfl rfl rfl rfl rfl rfl rfl)
  try clear_value x5
  exact (ite_ind (Keeps q n) h (ite_ind (Keeps q n) (State.raiseF_keeps (State.pilotIntoReset_keeps h8)) (State.pilotRestartBegin_keeps h9)))

theorem State.setSlot_keeps {a1 : Nat} {bs : List Byte} (h : Keeps q n s) :
    Keeps q n (s.setSlot a1 bs) := by
  unfold State.setSlot
  extract_lets x0 x1
  exact (by exact Keeps.upd h rfl rfl rfl rfl rfl rfl rfl rfl)

theorem State.applyEntry_keeps {e : KeyEntry} (h : Keeps q n s) :
    Keeps q n (s.applyEntry e) := by
  unfold State.applyEntry
  extract_lets x0 x1 x2 x3 x4 x5 x6
  have h7 : Keeps q n x0 := (ite_ind (Keeps q n) (State.setSlot_keeps h) (ite_ind (Keeps q n) (State.setSlot_keeps h) h))
  try clear_value x0
  have h8 : Keeps q n x5 := (by exact Keeps.upd h7 rfl rfl rfl rfl rfl rfl rfl rfl)
  try clear_value x5
  exact (ite_ind (Keeps q n) (by exact Keeps.upd h8 rfl rfl rfl rfl rfl rfl rfl rfl) (ite_ind (Keeps q n) (by exact Keeps.upd h8 rfl rfl rfl rfl rfl rfl rfl rfl) h8))

theorem State.useNonce_keeps (h : Keeps q n s) :
    Keeps q n (s.useNonce) := by
  unfold State.useNonce
  extract_lets x0
  exact (by exact Keeps.upd h rfl rfl rfl rfl rfl rfl rfl rfl)

theorem State.authFail_keeps (h : Keeps q n s) :
    Keeps q n (s.authFail) := by
  unfold State.authFail
  extract_lets x0 x1
  exact (by exact Keeps.upd h rfl rfl rfl rfl rfl rfl rfl rfl)

theorem State.eraseVault_keeps {whole : Bool} (h : Keeps q n s) :
    Keeps q n (s.eraseVault whole) := by
  unfold State.eraseVault
  extract_lets x0 x1 x2 x3
  have h4 : Keeps q n x2 := (by exact Keeps.upd h rfl rfl rfl rfl rfl rfl rfl rfl)
  try clear_value x2
  exact (by exact Keeps.upd h4 rfl rfl rfl rfl rfl rfl rfl rfl)

theorem State.openAccess_keeps {scan : Bool} (h : Keeps q n s) :
    Keeps q n (s.openAccess scan) := by
  unfold State.openAccess
  extract_lets x0
  exact (by exact Keeps.upd h rfl rfl rfl rfl rfl rfl rfl rfl)

theorem State.eraseDone_keeps (h : Keeps q n s) :
    Keeps q n (s.eraseDone) := by
  unfold State.eraseDone
  split
  · exact h
  · extract_lets x0 x1 x2 x3
    have h4 : Keeps q n x0 := (State.eraseVault_keeps h)
    try clear_value x0
    have h5 : Keeps q n x1 := (ite_ind (Keeps q n) h4 (State.clearMem_keeps h4))
    try clear_value x1
    have h6 : Keeps q n x3 := (by exact Keeps.upd h5 rfl rfl rfl rfl rfl rfl rfl rfl)
    try clear_value x3
    exact (State.openAccess_keeps h6)

theorem State.scrap_keeps (h : Keeps q n s) :
    Keeps q n (s.scrap) := by
  unfold State.scrap
  extract_lets x0 x1 x2 x3
  have h4 : Keeps q n x0 := (State.eraseVault_keeps h)
  try clear_value x0
  have h5 : Keeps q n x1 := (State.clearMem_keeps (State.clearMem_keeps h4))
  try clear_value x1
  have h6 : Keeps q n x2 := (State.upBank_keeps (State.upBank_keeps h5))
  try clear_value x2
  exact (by exact Keeps.upd h6 rfl rfl rfl rfl rfl rfl rfl rfl)

theorem State.unfreeze_keeps {k : Fin 32} (h : Keeps q n s) :
    Keeps q n (s.unfreeze k) := by
  unfold State.unfreeze
  refine h.cntsUpd fun j => ?_
  have hc := h.wf.cnts j
  unfold vupd
  simp only [Fin.getElem_fin, Vector.getElem_set]
  split
  · subst_vars; exact h.wf.cnts k
  · exact hc

theorem State.cntClear_keeps {k : Fin 32} (h : Keeps q n s) : Keeps q n (s.cntClear k) := by
  unfold State.cntClear
  refine State.unfreeze_keeps ⟨h.queue, h.time,
    ⟨h.wf.regs, h.wf.mem, h.wf.act, h.wf.boot, h.wf.locks, fun j => ?_⟩⟩
  have hc := h.wf.cnts j
  unfold vupd
  simp only [Fin.getElem_fin, Vector.getElem_set]
  split
  · rfl
  · exact hc

theorem State.cntSetup_keeps {k : Fin 32} {src : Nat} {freeze : Bool} (h : Keeps q n s) :
    Keeps q n (s.cntSetup k src freeze) := by
  unfold State.cntSetup
  extract_lets x0 x1 x2
  have h3 : Keeps q n x1 := (State.flag_keeps (State.wr_keeps h))
  try clear_value x1
  have h4 : Keeps q n x2 := (ite_ind (Keeps q n) h3 (State.cntClear_keeps h3))
  try clear_value x2
  exact (ite_ind (Keeps q n) h4 (State.unfreeze_keeps h4))

/-- Counters at their reset state. -/
theorem Keeps.cntsReset (h : Keeps q n s) : Keeps q n { s with cnts := Vector.replicate 32 Counter.reset } := by
  refine ⟨h.queue, h.time, ⟨h.wf.regs, h.wf.mem, h.wf.act, h.wf.boot, h.wf.locks, fun j => ?_⟩⟩
  simp only [Fin.getElem_fin, Vector.getElem_replicate]
  rfl

theorem State.recShow_keeps (h : Keeps q n s) :
    Keeps q n (s.recShow) := by
  unfold State.recShow
  exact (State.wr_keeps (State.wr_keeps (State.wr_keeps h)))

theorem State.recPinSet_keeps {i : Nat} {on : Bool} (h : Keeps q n s) :
    Keeps q n (s.recPinSet i on) := by
  unfold State.recPinSet
  extract_lets x0 x1
  exact (State.recShow_keeps (by exact Keeps.upd h rfl rfl rfl rfl rfl rfl rfl rfl))

theorem State.recEnter_keeps {r : List Byte} (h : Keeps q n s) :
    Keeps q n (s.recEnter r) := by
  unfold State.recEnter
  extract_lets x0
  split
  · exact (ite_ind (Keeps q n) (by exact Keeps.upd h rfl rfl rfl rfl rfl rfl rfl rfl) h)
  · exact (by exact Keeps.upd h rfl rfl rfl rfl rfl rfl rfl rfl)

theorem State.recWrite_keeps (h : Keeps q n s) :
    Keeps q n (s.recWrite) := by
  unfold State.recWrite
  extract_lets x0
  split
  · exact h
  · extract_lets x1 x2 x3 x4 x5 x6 x9 x7 x8
    have h9 : Keeps q n x4 := (State.clearMem_keeps h)
    try clear_value x4
    have h10 : Keeps q n x5 := (State.setMemBytes_keeps h9)
    try clear_value x5
    have h11 : Keeps q n x6 := (State.setMemW_keeps h10)
    try clear_value x6
    have h12 : Keeps q n x7 := (by exact Keeps.upd h11 rfl rfl rfl rfl rfl rfl rfl rfl)
    try clear_value x7
    have h13 : Keeps q n x8 := (State.flag_keeps h12)
    try clear_value x8
    exact (ite_ind (Keeps q n) (State.recPinSet_keeps h13) (State.recShow_keeps h13))

theorem State.recEnd_keeps (h : Keeps q n s) : Keeps q n s.recEnd := by
  unfold State.recEnd
  exact ite_ind (Keeps q n)
    (State.flag_keeps (State.flag_keeps (by exact Keeps.upd h rfl rfl rfl rfl rfl rfl rfl rfl)))
    (State.recWrite_keeps h)

end Sys2Proof.Machine
end

