-- ==== Sys2Proof/Laws/KeepLane.lean ====
section
/-! SUPPORT. Preservation laws, one for each definition: lanes, safety, resets, modulators and the DC link. Each says that the definition keeps the queue,
time and the sound parts of a state (`Keeps`). -/

namespace Sys2Proof.Machine

variable {q : List Instr} {n : Nat} {s : State}

theorem State.ownPut_keeps {k : LaneIx} {f : Fld} {v : Nat} (h : Keeps q n s) :
    Keeps q n (s.ownPut k f v) := by
  unfold State.ownPut
  exact (State.wr_keeps h)

theorem State.ownFlag_keeps {k : LaneIx} {f : Fld} (h : Keeps q n s) :
    Keeps q n (s.ownFlag k f) := by
  unfold State.ownFlag
  exact (State.flag_keeps h)

theorem State.gstPut_keeps {k : LaneIx} {i : Nat} {v : Nat} (h : Keeps q n s) :
    Keeps q n (s.gstPut k i v) := by
  unfold State.gstPut
  exact (State.upLane_keeps h)

theorem State.gateRise_keeps {k : LaneIx} (h : Keeps q n s) :
    Keeps q n (s.gateRise k) := by
  unfold State.gateRise
  extract_lets x0
  exact (State.upLane_keeps h)

theorem State.gateWait_keeps {k : LaneIx} (h : Keeps q n s) :
    Keeps q n (s.gateWait k) := by
  unfold State.gateWait
  exact (State.upLane_keeps h)

theorem State.gateDrop_keeps {k : LaneIx} (h : Keeps q n s) :
    Keeps q n (s.gateDrop k) := by
  unfold State.gateDrop
  exact (State.upLane_keeps h)

theorem State.laneApply_keeps {k : LaneIx} (h : Keeps q n s) :
    Keeps q n (s.laneApply k) := by
  unfold State.laneApply
  extract_lets x0
  exact (ite_ind (Keeps q n) (ite_ind (Keeps q n) (ite_ind (Keeps q n) h (ite_ind (Keeps q n) (State.gateRise_keeps (State.spend_keeps h)) (State.gateWait_keeps (State.spend_keeps h)))) (State.gateDrop_keeps h)) (ite_ind (Keeps q n) h (State.gateDrop_keeps h)))

theorem State.auxApply_keeps {k : LaneIx} (h : Keeps q n s) :
    Keeps q n (s.auxApply k) := by
  unfold State.auxApply
  extract_lets x0 x1 x2
  exact (State.upLane_keeps h)

theorem State.capFire_keeps {k : LaneIx} {code : Nat} (h : Keeps q n s) :
    Keeps q n (s.capFire k code) := by
  unfold State.capFire
  exact (ite_ind (Keeps q n) (State.setWord_keeps (State.upLane_keeps h)) h)

theorem State.capWord_keeps {k : LaneIx} {w : BitVec 16} (h : Keeps q n s) :
    Keeps q n (s.capWord k w) := by
  unfold State.capWord
  extract_lets x0
  exact (ite_ind (Keeps q n) (State.upLane_keeps h) (ite_ind (Keeps q n) (State.upLane_keeps h) h))

theorem State.capArm_keeps {k : LaneIx} (h : Keeps q n s) :
    Keeps q n (s.capArm k) := by
  unfold State.capArm
  exact (State.wr_keeps (State.upLane_keeps h))

theorem State.laneForce_keeps {k : LaneIx} {asc : Bool} (h : Keeps q n s) :
    Keeps q n (s.laneForce k asc) := by
  unfold State.laneForce
  extract_lets x0
  have h1 : Keeps q n x0 := (State.upLane_keeps h)
  try clear_value x0
  split
  · exact h
  · exact h
  · exact h
  · exact (State.laneApply_keeps (State.upLane_keeps h))
  · exact (State.laneApply_keeps (State.capFire_keeps (State.evt_keeps h1)))

theorem State.laneConds_keeps {k : LaneIx} (h : Keeps q n s) :
    Keeps q n (s.laneConds k) := by
  unfold State.laneConds
  extract_lets x0 x1
  exact (State.condition_keeps (State.condition_keeps (State.condition_keeps (State.condition_keeps (State.condition_keeps h)))))

theorem State.laneHome_keeps {k : LaneIx} (h : Keeps q n s) :
    Keeps q n (s.laneHome k) := by
  unfold State.laneHome
  extract_lets x0
  exact (State.laneApply_keeps (State.upLane_keeps h))

theorem State.laneRelease_keeps {k : LaneIx} (h : Keeps q n s) :
    Keeps q n (s.laneRelease k) := by
  unfold State.laneRelease
  extract_lets x0
  have h1 : Keeps q n x0 := (State.laneHome_keeps (State.upLane_keeps h))
  try clear_value x0
  exact (ite_ind (Keeps q n) (ite_ind (Keeps q n) h1 (State.upB_keeps h1)) (State.flag_keeps h))

theorem State.laneUnlatch_keeps {k : LaneIx} (h : Keeps q n s) :
    Keeps q n (s.laneUnlatch k) := by
  unfold State.laneUnlatch
  extract_lets x0 x1 x2
  exact (by exact Keeps.upd h rfl rfl rfl rfl rfl rfl rfl rfl)

theorem State.tripClear_keeps {k : LaneIx} (h : Keeps q n s) :
    Keeps q n (s.tripClear k) := by
  unfold State.tripClear
  exact (State.wr_keeps (State.wr_keeps (State.setWord_keeps h)))

theorem State.laneClearDie_keeps {k : LaneIx} (h : Keeps q n s) :
    Keeps q n (s.laneClearDie k) := by
  unfold State.laneClearDie
  extract_lets x0 x1
  have h2 : Keeps q n x1 := (State.tripClear_keeps (State.upLane_keeps h))
  try clear_value x1
  exact (ite_ind (Keeps q n) (State.laneUnlatch_keeps (State.laneConds_keeps (State.urgent_keeps (State.laneHome_keeps h2)))) h2)

theorem State.tripCapture_keeps {k : LaneIx} {c : TripCause} (h : Keeps q n s) :
    Keeps q n (s.tripCapture k c) := by
  unfold State.tripCapture
  extract_lets x0
  have h1 : Keeps q n x0 := (State.capFire_keeps h)
  try clear_value x0
  split
  · exact (State.capFire_keeps h1)
  · exact (State.capFire_keeps h1)
  · exact (State.capFire_keeps h1)
  · exact h1

theorem State.laneTrip_keeps {k : LaneIx} {c : TripCause} (h : Keeps q n s) :
    Keeps q n (s.laneTrip k c) := by
  unfold State.laneTrip
  extract_lets x0 x1 x2 x3 x4 x5 x6 x7
  have h8 : Keeps q n x4 := (State.upLane_keeps h)
  try clear_value x4
  have h9 : Keeps q n x5 := (State.auxApply_keeps (State.ownFlag_keeps h8))
  try clear_value x5
  have h10 : Keeps q n x6 := (State.evt_keeps (State.tripCapture_keeps h9))
  try clear_value x6
  have h11 : Keeps q n x7 := (State.raise_keeps (State.laneConds_keeps h10))
  try clear_value x7
  exact (ite_ind (Keeps q n) (ite_ind (Keeps q n) (State.laneLatchedFault_keeps (State.evt_keeps h11)) h11) h)

theorem State.laneLatch_keeps {k : LaneIx} (h : Keeps q n s) :
    Keeps q n (s.laneLatch k) := by
  unfold State.laneLatch
  extract_lets x0
  have h1 : Keeps q n x0 := (State.upLane_keeps (State.gateDrop_keeps h))
  try clear_value x0
  exact (State.laneConds_keeps (State.evt_keeps h1))

theorem State.latchTake_keeps {k : LaneIx} (h : Keeps q n s) :
    Keeps q n (s.latchTake k) := by
  unfold State.latchTake
  extract_lets x0
  have h1 : Keeps q n x0 := (State.upLink_keeps h)
  try clear_value x0
  exact (ite_ind (Keeps q n) (ite_ind (Keeps q n) (State.laneLatch_keeps h1) h1) h)

theorem State.laneHeader_keeps {k : LaneIx} {f : DownFrame} (h : Keeps q n s) :
    Keeps q n (s.laneHeader k f) := by
  unfold State.laneHeader
  extract_lets x0 x1 x2
  have h3 : Keeps q n x2 := (State.upLane_keeps h)
  try clear_value x2
  exact (State.auxApply_keeps (State.laneApply_keeps (State.latchTake_keeps h3)))

theorem State.markLoad_keeps {k : LaneIx} {mark : Int} (h : Keeps q n s) :
    Keeps q n (s.markLoad k mark) := by
  unfold State.markLoad
  extract_lets x0
  exact (State.upLane_keeps h)

theorem State.laneMark_keeps {k : LaneIx} {f : DownFrame} (h : Keeps q n s) :
    Keeps q n (s.laneMark k f) := by
  unfold State.laneMark
  extract_lets x0 x1 x2
  have h3 : Keeps q n x1 := (State.upLane_keeps h)
  try clear_value x1
  have h4 : Keeps q n x2 := (State.ownFlag_keeps (State.upLane_keeps h))
  try clear_value x2
  exact (ite_ind (Keeps q n) (ite_ind (Keeps q n) (State.ownFlag_keeps h3) h3) (State.raise_keeps (State.laneForce_keeps h4)))

theorem State.laneStep_keeps {k : LaneIx} {f : DownFrame} (h : Keeps q n s) :
    Keeps q n (s.laneStep k f) := by
  unfold State.laneStep
  exact (State.upLane_keeps (State.markLoad_keeps h))

theorem State.queueFault_keeps {k : LaneIx} {flag : Fld} (h : Keeps q n s) :
    Keeps q n (s.queueFault k flag) := by
  unfold State.queueFault
  exact (State.raise_keeps (State.laneForce_keeps (State.ownFlag_keeps h)))

theorem State.lateEdge_keeps {k : LaneIx} {e : Edge} (h : Keeps q n s) :
    Keeps q n (s.lateEdge k e) := by
  unfold State.lateEdge
  extract_lets x0
  have h1 : Keeps q n x0 := (State.raise_keeps (State.evt_keeps (State.ownFlag_keeps h)))
  try clear_value x0
  exact (ite_ind (Keeps q n) h1 (ite_ind (Keeps q n) (State.upLane_keeps h1) (State.upLane_keeps h1)))

theorem State.edgeIn_keeps {k : LaneIx} {e : Edge} (h : Keeps q n s) :
    Keeps q n (s.edgeIn k e) := by
  unfold State.edgeIn
  extract_lets x0 x1
  have h2 : Keeps q n x1 := (State.upLane_keeps h)
  try clear_value x1
  exact (ite_ind (Keeps q n) h (ite_ind (Keeps q n) h (ite_ind (Keeps q n) (State.queueFault_keeps h) (ite_ind (Keeps q n) (State.queueFault_keeps h) (ite_ind (Keeps q n) (State.lateEdge_keeps h) (State.ownPut_keeps h2))))))

theorem State.laneEdges_keeps {k : LaneIx} {f : DownFrame} (h : Keeps q n s) :
    Keeps q n (s.laneEdges k f) := by
  unfold State.laneEdges
  extract_lets x0 x1
  have h2 : Keeps q n x0 := (ite_ind (Keeps q n) (State.capFire_keeps h) h)
  try clear_value x0
  have h6 : ∀ y3 y4, Keeps q n y3 → Keeps q n (x1 y3 y4) := (fun _ _ h5 => (by
    unfold x1
    split
    · exact (State.edgeIn_keeps h5)
    · exact h5))
  try clear_value x1
  exact (h6 _ _ (h6 _ _ h2))

theorem State.edgeRun_keeps {k : LaneIx} {env : EdgeEnv} {e : Edge} (h : Keeps q n s) :
    Keeps q n (s.edgeRun k env e) := by
  unfold State.edgeRun
  extract_lets x0 x1 x2
  have h3 : Keeps q n x2 := (State.upLane_keeps h)
  try clear_value x2
  exact (ite_ind (Keeps q n) (State.upLane_keeps h3) (ite_ind (Keeps q n) (ite_ind (Keeps q n) (State.gateRise_keeps h3) h3) (State.gateDrop_keeps (State.upLane_keeps h3))))

theorem State.ownWord_keeps {k : LaneIx} {a : Nat} {w : Word} (h : Keeps q n s) :
    Keeps q n (s.ownWord k a w) := by
  unfold State.ownWord
  exact (State.setWord_keeps h)

theorem State.ownCtrl_keeps {k : LaneIx} {w : Word} (h : Keeps q n s) :
    Keeps q n (s.ownCtrl k w) := by
  unfold State.ownCtrl
  extract_lets x0
  have h1 : Keeps q n x0 := (State.ownPut_keeps h)
  try clear_value x0
  split
  · exact (State.laneHome_keeps h1)
  · exact (ite_ind (Keeps q n) h1 (State.laneHome_keeps (State.upLane_keeps h1)))
  · exact h1

theorem State.ownCap_keeps {k : LaneIx} {w : Word} (h : Keeps q n s) :
    Keeps q n (s.ownCap k w) := by
  unfold State.ownCap
  extract_lets x0 x1
  have h2 : Keeps q n x0 := (State.ownWord_keeps h)
  try clear_value x0
  have h3 : Keeps q n x1 := (ite_ind (Keeps q n) (State.capArm_keeps h2) h2)
  try clear_value x1
  exact (ite_ind (Keeps q n) (State.capFire_keeps h3) h3)

theorem State.ownApply_keeps {k : LaneIx} {off : Nat} {w : Word} (h : Keeps q n s) :
    Keeps q n (s.ownApply k off w) := by
  unfold State.ownApply
  extract_lets x0 x1
  have h2 : Keeps q n x1 := (ite_ind (Keeps q n) (State.laneClearDie_keeps h) h)
  try clear_value x1
  exact (ite_ind (Keeps q n) (State.ownCtrl_keeps h) (ite_ind (Keeps q n) (ite_ind (Keeps q n) (State.laneRelease_keeps h2) h2) (ite_ind (Keeps q n) (State.ownWord_keeps h) (ite_ind (Keeps q n) (State.auxApply_keeps (State.ownPut_keeps h)) (ite_ind (Keeps q n) (ite_ind (Keeps q n) (State.ownPut_keeps h) h) (ite_ind (Keeps q n) (State.ownCap_keeps h) (ite_ind (Keeps q n) (State.gstPut_keeps (State.ownPut_keeps h)) (ite_ind (Keeps q n) (State.laneApply_keeps (State.ownWord_keeps h)) (ite_ind (Keeps q n) (State.ownWord_keeps h) (State.ownWord_keeps h))))))))))

theorem State.laneWrite_keeps {k : LaneIx} {f : DownFrame} (h : Keeps q n s) :
    Keeps q n (s.laneWrite k f) := by
  unfold State.laneWrite
  extract_lets x0 x1
  exact (ite_ind (Keeps q n) h (State.ownApply_keeps (State.upLane_keeps h)))

theorem State.laneRx_keeps {k : LaneIx} {f : DownFrame} (h : Keeps q n s) :
    Keeps q n (s.laneRx k f) := by
  unfold State.laneRx
  extract_lets x0
  have h1 : Keeps q n x0 := (State.laneHeader_keeps h)
  try clear_value x0
  exact (ite_ind (Keeps q n) (ite_ind (Keeps q n) (ite_ind (Keeps q n) (ite_ind (Keeps q n) (State.laneStep_keeps h1) (State.laneMark_keeps h1)) (ite_ind (Keeps q n) (State.laneEdges_keeps h1) (State.laneWrite_keeps h1))) (State.evt_keeps h)) h)

theorem State.laneBlank_keeps {k : LaneIx} (h : Keeps q n s) : Keeps q n (s.laneBlank k) := by
  unfold State.laneBlank
  exact State.upLane_keeps (Keeps.regsFilter h)

theorem State.stoRecord_keeps (h : Keeps q n s) :
    Keeps q n (s.stoRecord) := by
  unfold State.stoRecord
  exact (State.flag_keeps h)

theorem State.stoTestStep_keeps {wasBoth : Bool} (h : Keeps q n s) :
    Keeps q n (s.stoTestStep wasBoth) := by
  unfold State.stoTestStep
  extract_lets x0 x1 x2 x3 x4 x5 x6
  have h7 : Keeps q n x4 := (by exact Keeps.upd h rfl rfl rfl rfl rfl rfl rfl rfl)
  try clear_value x4
  have h8 : Keeps q n x6 := (by exact Keeps.upd h7 rfl rfl rfl rfl rfl rfl rfl rfl)
  try clear_value x6
  exact (ite_ind (Keeps q n) (by exact Keeps.upd h rfl rfl rfl rfl rfl rfl rfl rfl) (ite_ind (Keeps q n) (ite_ind (Keeps q n) (State.condition_keeps (State.stoRecord_keeps h8)) h8) h7))

theorem State.stoReadback_keeps {k : LaneIx} {onA : Bool} {onB : Bool} (h : Keeps q n s) :
    Keeps q n (s.stoReadback k onA onB) := by
  unfold State.stoReadback
  extract_lets x0
  split
  · exact (ite_ind (Keeps q n) (ite_ind (Keeps q n) (State.raiseOn_keeps (by exact Keeps.upd h rfl rfl rfl rfl rfl rfl rfl rfl)) (by exact Keeps.upd h rfl rfl rfl rfl rfl rfl rfl rfl)) h)
  · exact h

theorem State.stoSettle_keeps (h : Keeps q n s) :
    Keeps q n (s.stoSettle) := by
  unfold State.stoSettle
  exact (ite_ind (Keeps q n) (State.condition_keeps (State.flag_keeps h)) h)

theorem State.stoChange_keeps {ch : StoCh} {low : Bool} (h : Keeps q n s) :
    Keeps q n (s.stoChange ch low) := by
  unfold State.stoChange
  extract_lets x0 x1 x2 x3 x4 x5 x6
  have h7 : Keeps q n x2 := (State.irq_keeps (State.flag_keeps h))
  try clear_value x2
  have h8 : Keeps q n x5 := (by exact Keeps.upd h7 rfl rfl rfl rfl rfl rfl rfl rfl)
  try clear_value x5
  have h9 : Keeps q n x6 := (State.stoTestStep_keeps h8)
  try clear_value x6
  exact (ite_ind (Keeps q n) h (ite_ind (Keeps q n) (State.stoReact_keeps (State.recTrigger_keeps h9)) h9))

theorem State.ss1Monitor_keeps {b : Br} (h : Keeps q n s) :
    Keeps q n (s.ss1Monitor b) := by
  unfold State.ss1Monitor
  exact (ite_ind (Keeps q n) (State.raiseF_keeps h) h)

theorem State.ov2Settle_keeps (h : Keeps q n s) :
    Keeps q n (s.ov2Settle) := by
  unfold State.ov2Settle
  exact (ite_ind (Keeps q n) (State.condition_keeps h) h)

theorem State.ov2Decide_keeps (h : Keeps q n s) :
    Keeps q n (s.ov2Decide) := by
  unfold State.ov2Decide
  extract_lets x0
  have h2 : Keeps q n x0 := (State.each_keeps h (fun _ _ h1 => (State.planNowWith_keeps h1)))
  try clear_value x0
  exact (ite_ind (Keeps q n) h (State.raiseOn_keeps h2))

theorem State.weirLimit_keeps {f : State → Br → Nat} (h : Keeps q n s) :
    Keeps q n (s.weirLimit f) := by
  unfold State.weirLimit
  exact (State.each_keeps h (fun _ _ h0 => (State.wr_keeps h0)))

theorem State.chopSet_keeps {on : Bool} (h : Keeps q n s) :
    Keeps q n (s.chopSet on) := by
  unfold State.chopSet
  extract_lets x0
  exact (State.flag_keeps (by exact Keeps.upd h rfl rfl rfl rfl rfl rfl rfl rfl))

theorem State.chopFault_keeps (h : Keeps q n s) :
    Keeps q n (s.chopFault) := by
  unfold State.chopFault
  extract_lets x0 x1 x2
  have h3 : Keeps q n x0 := (State.flag_keeps (State.chopSet_keeps h))
  try clear_value x0
  have h4 : Keeps q n x2 := (by exact Keeps.upd h3 rfl rfl rfl rfl rfl rfl rfl rfl)
  try clear_value x2
  exact (State.raiseF_keeps (State.weirLimit_keeps h4))

theorem State.chopSwitch_keeps (h : Keeps q n s) :
    Keeps q n (s.chopSwitch) := by
  unfold State.chopSwitch
  extract_lets x0 x1
  exact (ite_ind (Keeps q n) (State.chopSet_keeps h) (ite_ind (Keeps q n) (State.chopSet_keeps h) h))

theorem State.weirEval_keeps (h : Keeps q n s) :
    Keeps q n (s.weirEval) := by
  unfold State.weirEval
  extract_lets x0 x1 x2 x3
  have h4 : Keeps q n x0 := (State.ov2Settle_keeps h)
  try clear_value x0
  have h5 : Keeps q n x1 := (State.weirLimit_keeps h4)
  try clear_value x1
  have h6 : Keeps q n x2 := (State.chopSwitch_keeps h5)
  try clear_value x2
  exact (ite_ind (Keeps q n) (State.ov2Decide_keeps h4) (ite_ind (Keeps q n) (ite_ind (Keeps q n) (State.chopFault_keeps h6) h6) (ite_ind (Keeps q n) (State.chopSet_keeps h5) h5)))

theorem State.chopAck_keeps (h : Keeps q n s) :
    Keeps q n (s.chopAck) := by
  unfold State.chopAck
  extract_lets x0
  have h1 : Keeps q n x0 := (State.flag_keeps h)
  try clear_value x0
  exact (ite_ind (Keeps q n) (State.weirLimit_keeps h1) h)

theorem State.guardCheck_keeps (h : Keeps q n s) :
    Keeps q n (s.guardCheck) := by
  unfold State.guardCheck
  extract_lets x0 x1 x2 x3 x4
  have h5 : Keeps q n x3 := (State.raiseOn_keeps h)
  try clear_value x3
  have h6 : Keeps q n x4 := (State.wrList_keeps h5)
  try clear_value x4
  exact (ite_ind (Keeps q n) (State.condition_keeps h) (State.each_keeps h6 (fun _ _ h7 => (State.lanePut_keeps h7))))

theorem State.contactorSettle_keeps (h : Keeps q n s) :
    Keeps q n (s.contactorSettle) := by
  unfold State.contactorSettle
  exact (ite_ind (Keeps q n) h (State.condition_keeps h))

theorem State.ackWaits_keeps {complete : Bool} (h : Keeps q n s) :
    Keeps q n (s.ackWaits complete) := by
  unfold State.ackWaits
  exact (State.each_keeps h (fun _ _ h0 => (ite_ind (Keeps q n) (State.command_keeps h0) (ite_ind (Keeps q n) (State.each_keeps h0 (fun _ _ h1 => (State.upB_keeps h1))) (State.ackState_keeps h0)))))

theorem State.ackRun_keeps {toggle : Bool} (h : Keeps q n s) : Keeps q n (s.ackRun toggle).2 := by
  unfold State.ackRun
  extract_lets x0
  have h0 : Keeps q n x0 := State.contactorSettle_keeps (State.ov2Settle_keeps (State.stoSettle_keeps h))
  split
  · exact State.wr_keeps (State.flag_keeps h0)
  · exact State.flag_keeps (State.flag_keeps (State.chopAck_keeps (State.posAck_keeps (State.unlatchAll_keeps h0))))

theorem State.ackHere_keeps {toggle : Bool} (h : Keeps q n s) : Keeps q n (s.ackHere toggle) := by
  have hr := State.ackRun_keeps (toggle := toggle) h
  unfold State.ackHere
  split <;> rename_i t heq <;> rw [heq] at hr
  · exact State.ackWaits_keeps hr
  · exact hr

theorem State.wordSettle_keeps {power : Bool} (h : Keeps q n s) :
    Keeps q n (s.wordSettle power) := by
  unfold State.wordSettle
  extract_lets x0 x1
  have h2 : Keeps q n x1 := (ite_ind (Keeps q n) (State.spend_keeps h) h)
  try clear_value x1
  split
  · exact h
  · extract_lets x3 x4
    have h5 : Keeps q n x3 := (ite_ind (Keeps q n) (State.setMemW_keeps h2) h2)
    try clear_value x3
    exact State.nvmSync_keeps (State.flag_keeps (by exact Keeps.upd h5 rfl rfl rfl rfl rfl rfl rfl rfl))

theorem State.storeCut_keeps (h : Keeps q n s) : Keeps q n s.storeCut := by
  unfold State.storeCut
  exact ite_ind (Keeps q n) (State.wr_keeps h) h

theorem State.recCut_keeps (h : Keeps q n s) :
    Keeps q n (s.recCut) := by
  unfold State.recCut
  extract_lets x0
  split
  · exact (State.recEnd_keeps (by exact Keeps.upd h rfl rfl rfl rfl rfl rfl rfl rfl))
  · exact h

theorem State.resetBase_keeps {k : RstKind} (h : Keeps q n s) : Keeps q n (s.resetBase k) := by
  unfold State.resetBase
  refine ⟨h.queue, h.time, ⟨swf_filter _ h.wf.regs, ?_, rfl, rfl, fun j => ?_, fun j => ?_⟩⟩
  · unfold State.memKept
    exact ite_ind (fun m => Memory.wf m = true) (swf_filter (d := memDflt) _ h.wf.mem) h.wf.mem
  · show (Vector.replicate 16 Lock.reset)[j].wf = true
    simp only [Fin.getElem_fin, Vector.getElem_replicate]
    rfl
  · show (Vector.replicate 32 Counter.reset)[j].wf = true
    simp only [Fin.getElem_fin, Vector.getElem_replicate]
    rfl

theorem State.laneShow_keeps (h : Keeps q n s) :
    Keeps q n (s.laneShow) := by
  unfold State.laneShow
  exact (State.each_keeps h (fun _ _ h0 => (State.flag_keeps (State.wr_keeps h0))))

theorem State.coreReset_keeps {k : RstKind} {cause : Fld} (h : Keeps q n s) :
    Keeps q n (s.coreReset k cause) := by
  unfold State.coreReset
  extract_lets x0 x1 x2 x3 x4 x5 x6 x7 x8 x9 x10 x11
  have h12 : Keeps q n x0 := (ite_ind (Keeps q n) (State.setWord_keeps h) h)
  try clear_value x0
  have h13 : Keeps q n x1 := (State.flag_keeps h12)
  try clear_value x1
  have h14 : Keeps q n x3 := (State.wordSettle_keeps h13)
  try clear_value x3
  have h15 : Keeps q n x4 := (ite_ind (Keeps q n) h14 (State.storeCut_keeps (State.recCut_keeps h14)))
  try clear_value x4
  have h16 : Keeps q n x7 := (State.resetBase_keeps h15)
  try clear_value x7
  have h18 : Keeps q n x8 := (State.each_keeps h16 (fun _ _ h17 => (State.wr_keeps h17)))
  try clear_value x8
  have h19 : Keeps q n x9 := (State.laneShow_keeps h18)
  try clear_value x9
  have h21 : Keeps q n x10 := (ite_ind (Keeps q n) (State.each_keeps h19 (fun _ _ h20 => (State.laneConds_keeps h20))) h19)
  try clear_value x10
  exact (ite_ind (Keeps q n) h13 (State.each_keeps h21 (fun _ _ h22 => (State.raise_keeps h22))))

theorem State.warmReset_keeps {cause : Fld} (h : Keeps q n s) :
    Keeps q n (s.warmReset cause) := by
  unfold State.warmReset
  exact (State.coreReset_keeps h)

theorem State.wakeReset_keeps (h : Keeps q n s) :
    Keeps q n (s.wakeReset) := by
  unfold State.wakeReset
  extract_lets x0 x1
  have h2 : Keeps q n x1 := (by exact Keeps.upd h rfl rfl rfl rfl rfl rfl rfl rfl)
  try clear_value x1
  exact (State.coreReset_keeps h2)

theorem State.standbyEnter_keeps (h : Keeps q n s) :
    Keeps q n (s.standbyEnter) := by
  unfold State.standbyEnter
  extract_lets x0 x1 x2 x3 x4
  have h5 : Keeps q n x1 := (State.resetBase_keeps h)
  try clear_value x1
  have h6 : Keeps q n x4 := (by exact Keeps.upd h5 rfl rfl rfl rfl rfl rfl rfl rfl)
  try clear_value x4
  exact (ite_ind (Keeps q n) (State.wakeReset_keeps h6) h6)

theorem State.standbyTimer_keeps (h : Keeps q n s) :
    Keeps q n (s.standbyTimer) := by
  unfold State.standbyTimer
  split
  · exact (ite_ind (Keeps q n) (State.standbyEnter_keeps h) h)
  · exact h

theorem State.clkSet_keeps {d : Fin 6} {ok : Bool} (h : Keeps q n s) :
    Keeps q n (s.clkSet d ok) := by
  unfold State.clkSet
  extract_lets x0 x1 x2 x3
  have h4 : Keeps q n x2 := (State.wr_keeps h)
  try clear_value x2
  exact (by exact Keeps.upd h4 rfl rfl rfl rfl rfl rfl rfl rfl)

theorem State.clkLost_keeps {d : Fin 6} (h : Keeps q n s) :
    Keeps q n (s.clkLost d) := by
  unfold State.clkLost
  exact (State.wr_keeps h)

theorem State.domainsLost_keeps {l : List (Fin 6)} (h : Keeps q n s) :
    Keeps q n (s.domainsLost l) := by
  unfold State.domainsLost
  extract_lets x0 x1
  have h3 : Keeps q n x0 := (State.each_keeps h (fun _ _ h2 => (State.clkLost_keeps (State.clkSet_keeps h2))))
  try clear_value x0
  exact (State.raiseOn_keeps (by exact Keeps.upd h3 rfl rfl rfl rfl rfl rfl rfl rfl))

theorem State.clkAll_keeps {ok : Bool} (h : Keeps q n s) :
    Keeps q n (s.clkAll ok) := by
  unfold State.clkAll
  exact (State.each_keeps h (fun _ _ h0 => (State.clkSet_keeps h0)))

theorem State.loadTables_keeps (h : Keeps q n s) :
    Keeps q n (s.loadTables) := by
  unfold State.loadTables
  split
  · exact (State.copyMem_keeps h)
  · exact (State.clearMem_keeps h)

theorem State.bootBank_keeps {e : BootEnv} (h : Keeps q n s) : Keeps q n (s.bootBank e).1 := by
  unfold State.bootBank
  extract_lets x0
  clear_value x0
  cases x0 with
  | some b =>
    refine ite_ind (fun p : State × Option Br => Keeps q n p.1) h ?_
    refine ite_ind (fun p : State × Option Br => Keeps q n p.1) ?_ ?_
    · dsimp only
      exact State.upBank_keeps (State.upFw_keeps (State.upBank_keeps h))
    · dsimp only
      exact State.upFw_keeps (State.upBank_keeps h)
  | none =>
    dsimp only
    split
    · dsimp only
      exact State.upBank_keeps h
    · exact h

theorem State.bootPilot_keeps {e : BootEnv} (h : Keeps q n s) : Keeps q n (s.bootPilot e) := by
  unfold State.bootPilot
  have h1 := State.bootBank_keeps (e := e) h
  generalize s.bootBank e = p at h1 ⊢
  obtain ⟨t, o⟩ := p
  cases o with
  | some b => exact State.flag_keeps (Keeps.upd h1 rfl rfl rfl rfl rfl rfl rfl rfl)
  | none => exact Keeps.upd h1 rfl rfl rfl rfl rfl rfl rfl rfl

theorem State.bootTo_keeps {st : DState} (h : Keeps q n s) :
    Keeps q n (s.bootTo st) := by
  unfold State.bootTo
  exact (State.enterOne_keeps (State.enterOne_keeps h))

theorem State.bootFail_keeps {code : Nat} (h : Keeps q n s) :
    Keeps q n (s.bootFail code) := by
  unfold State.bootFail
  extract_lets x0
  exact (State.bootTo_keeps (by exact Keeps.upd h rfl rfl rfl rfl rfl rfl rfl rfl))

theorem State.bootParams_keeps (h : Keeps q n s) : Keeps q n s.bootParams := by
  unfold State.bootParams
  extract_lets x0
  have h0 : Keeps q n x0 := State.loadTables_keeps (State.takeSet_keeps h)
  clear_value x0
  exact ⟨h0.queue, h0.time, ⟨h0.wf.regs, h0.wf.mem, h0.wf.act, h0.wf.act, h0.wf.locks, h0.wf.cnts⟩⟩

theorem State.bootDone_keeps {e : BootEnv} (h : Keeps q n s) :
    Keeps q n (s.bootDone e) := by
  unfold State.bootDone
  extract_lets x0 x1 x2 x3 x4 x5 x6 x7
  have h8 : Keeps q n x0 := (State.bootPilot_keeps h)
  try clear_value x0
  have h10 : Keeps q n x1 := (State.each_keeps h8 (fun _ _ h9 => (State.aclkSelect_keeps (State.flag_keeps h9))))
  try clear_value x1
  have h12 : Keeps q n x2 := (State.each_keeps h10 (fun _ _ h11 => (State.canBoot_keeps h11)))
  try clear_value x2
  have h13 : Keeps q n x3 := (State.recShow_keeps (State.nvmSync_keeps h12))
  try clear_value x3
  have h14 : Keeps q n x4 := (State.flag_keeps h13)
  try clear_value x4
  have h15 : Keeps q n x7 := (by exact Keeps.upd h14 rfl rfl rfl rfl rfl rfl rfl rfl)
  try clear_value x7
  exact (State.flag_keeps (State.flag_keeps (State.bootTo_keeps h15)))

theorem State.boot_keeps {cold : Bool} {e : BootEnv} (h : Keeps q n s) :
    Keeps q n (s.boot cold e) := by
  unfold State.boot
  extract_lets x0 x1 x2 x3 x4
  have h5 : Keeps q n x1 := (State.eraseDone_keeps (by exact Keeps.upd h rfl rfl rfl rfl rfl rfl rfl rfl))
  try clear_value x1
  have h6 : Keeps q n x4 := (by exact Keeps.upd h5 rfl rfl rfl rfl rfl rfl rfl rfl)
  try clear_value x4
  exact (ite_ind (Keeps q n) (State.bootFail_keeps h) (ite_ind (Keeps q n) (State.bootFail_keeps h) (ite_ind (Keeps q n) (State.bootTo_keeps h) (ite_ind (Keeps q n) (State.bootTo_keeps h5) (ite_ind (Keeps q n) (State.bootFail_keeps h5) (State.bootDone_keeps (State.bootParams_keeps h6)))))))

theorem State.release_keeps {e : BootEnv} (h : Keeps q n s) :
    Keeps q n (s.release e) := by
  unfold State.release
  extract_lets x0
  split
  · exact h
  · extract_lets x1
    have h2 : Keeps q n x1 := (by exact Keeps.upd h rfl rfl rfl rfl rfl rfl rfl rfl)
    try clear_value x1
    exact (ite_ind (Keeps q n) (State.boot_keeps (State.clkAll_keeps h2)) (State.clkAll_keeps h2))

theorem execLkWrite_keeps {port : Fin 2} {lock : Byte} {off : BitVec 16} {count : BitVec 16} {data : List Byte} {crc : Byte} {a6 : State} (h : Keeps q n a6) :
    KeepsOut q n (execLkWrite port lock off count data crc a6) := by
  unfold execLkWrite
  extract_lets x0
  exact (State.spiFrame_keeps h (fun _ h1 => (by
    split
    · exact keepsFrame_none
    · extract_lets x2
      exact (ite_ind (KeepsFrame q n) (keepsFrame_some (State.upLock_keeps h1 (fun _ hl => (Lock.mk_wf (Lock.put_wf hl))))) keepsFrame_none))))

theorem execLkSubmit_keeps {port : Fin 2} {lock : Byte} {off : BitVec 16} {count : BitVec 16} {crc : Byte} {a5 : State} (h : Keeps q n a5) :
    KeepsOut q n (execLkSubmit port lock off count crc a5) := by
  unfold execLkSubmit
  exact (State.spiFrame_keeps h (fun _ h0 => (by
    split
    · exact keepsFrame_none
    · extract_lets x1
      exact (ite_ind (KeepsFrame q n) (keepsFrame_some (State.lockSubmit_keeps h0)) keepsFrame_none))))

theorem execLkRead_keeps {port : Fin 2} {lock : Byte} {off : BitVec 16} {count : BitVec 16} {crc : Byte} {a5 : State} (h : Keeps q n a5) :
    KeepsOut q n (execLkRead port lock off count crc a5) := by
  unfold execLkRead
  exact (State.spiFrame_keeps h (fun _ h0 => (by
    split
    · exact keepsFrame_none
    · extract_lets x1
      exact (ite_ind (KeepsFrame q n) (keepsFrame_some h0) keepsFrame_none))))

theorem State.lockDrain_keeps {lk : Lk} (h : Keeps q n s) :
    Keeps q n (s.lockDrain lk) := by
  unfold State.lockDrain
  extract_lets x0 x1
  have h2 : Keeps q n x1 := (State.lockEmpty_keeps h)
  try clear_value x1
  exact (ite_ind (Keeps q n) (State.standbyEnter_keeps h2) (ite_ind (Keeps q n) (State.warmReset_keeps h2) h2))

theorem execLkDrain_keeps {port : Fin 2} {lock : Byte} {off : BitVec 16} {count : BitVec 16} {crc : Byte} {a5 : State} (h : Keeps q n a5) :
    KeepsOut q n (execLkDrain port lock off count crc a5) := by
  unfold execLkDrain
  exact (State.spiFrame_keeps h (fun _ h0 => (by
    split
    · exact keepsFrame_none
    · exact (ite_ind (KeepsFrame q n) (keepsFrame_some (State.lockDrain_keeps h0)) keepsFrame_none))))

theorem execLkGates_keeps {port : Fin 2} {lock : Byte} {off : BitVec 16} {count : BitVec 16} {crc : Byte} {a5 : State} (h : Keeps q n a5) :
    KeepsOut q n (execLkGates port lock off count crc a5) := by
  unfold execLkGates
  exact (State.spiFrame_keeps h (fun _ h0 => (ite_ind (KeepsFrame q n) (keepsFrame_some h0) keepsFrame_none)))

theorem execStRead_keeps {port : Fin 2} {lock : Byte} {off : BitVec 16} {count : BitVec 16} {crc : Byte} {a5 : State} (h : Keeps q n a5) :
    KeepsOut q n (execStRead port lock off count crc a5) := by
  unfold execStRead
  exact (State.spiFrame_keeps h (fun _ h0 => (ite_ind (KeepsFrame q n) (keepsFrame_some h0) keepsFrame_none)))

theorem execCanXlBarge_keeps {can : Fin 4} {fr : CanFrame} {a2 : State} (h : Keeps q n a2) :
    KeepsOut q n (execCanXlBarge can fr a2) := by
  unfold execCanXlBarge
  exact (ite_ind (KeepsOut q n) (ite_ind (Keeps q n) (State.canReceive_keeps h) h) True.intro)

theorem execCanFdSegment_keeps {dt : Nat} {can : Fin 4} {fr : CanFrame} {a3 : State} (h : Keeps q n a3) :
    KeepsOut q n (execCanFdSegment dt can fr a3) := by
  unfold execCanFdSegment
  extract_lets x0
  have h1 : Keeps q n x0 := (State.tick_keeps h)
  try clear_value x0
  exact (ite_ind (KeepsOut q n) (ite_ind (Keeps q n) (State.canReceive_keeps h1) h1) True.intro)

theorem execDirectSetpointFrame_keeps {dt : Nat} {can : Fin 4} {fr : CanFrame} {a3 : State} (h : Keeps q n a3) :
    KeepsOut q n (execDirectSetpointFrame dt can fr a3) := by
  unfold execDirectSetpointFrame
  extract_lets x0
  have h1 : Keeps q n x0 := (State.tick_keeps h)
  try clear_value x0
  exact (ite_ind (KeepsOut q n) (ite_ind (Keeps q n) (State.canReceive_keeps h1) h1) True.intro)

theorem execSetpointTimeout_keeps {dt : Nat} {b : Br} {a2 : State} (h : Keeps q n a2) :
    KeepsOut q n (execSetpointTimeout dt b a2) := by
  unfold execSetpointTimeout
  extract_lets x0
  have h1 : Keeps q n x0 := (State.tick_keeps h)
  try clear_value x0
  exact (ite_ind (Keeps q n) (State.spTimeout_keeps h1) h1)

theorem execLockSegGapTimeout_keeps {dt : Nat} {can : Fin 4} {a2 : State} (h : Keeps q n a2) :
    KeepsOut q n (execLockSegGapTimeout dt can a2) := by
  unfold execLockSegGapTimeout
  extract_lets x0
  have h1 : Keeps q n x0 := (State.tick_keeps h)
  try clear_value x0
  split
  · exact (ite_ind (Keeps q n) (State.segDrop_keeps h1) h1)
  · exact h1

theorem execUdpBarge_keeps {mac : Fin 2} {src : Word} {sport : BitVec 16} {data : List Byte} {a4 : State} (h : Keeps q n a4) :
    KeepsOut q n (execUdpBarge mac src sport data a4) := by
  unfold execUdpBarge
  exact (ite_ind (Keeps q n) (State.udpIn_keeps h) h)

theorem execUartFrame_keeps {raw : List Byte} {framingError : Bool} {a2 : State} (h : Keeps q n a2) :
    KeepsOut q n (execUartFrame raw framingError a2) := by
  unfold execUartFrame
  extract_lets x0
  have h1 : Keeps q n x0 := (State.irq_keeps h)
  try clear_value x0
  exact (ite_ind (Keeps q n) (State.irq_keeps h) (ite_ind (Keeps q n) (by
    split
    · exact h1
    · exact h1
    · exact (State.lockByFive_keeps h1)) h))

theorem execTowTunnelFrame_keeps {port : TowPort} {fr : List Byte} {a2 : State} (h : Keeps q n a2) :
    KeepsOut q n (execTowTunnelFrame port fr a2) := by
  unfold execTowTunnelFrame
  exact (ite_ind (Keeps q n) (ite_ind (Keeps q n) (ite_ind (Keeps q n) (ite_ind (Keeps q n) (State.irq_keeps h) (State.lockByFive_keeps h)) (State.towSend_keeps h)) (State.evt_keeps h)) h)

theorem State.cmdTimeout_keeps {keeper : Bool} (h : Keeps q n s) :
    Keeps q n (s.cmdTimeout keeper) := by
  unfold State.cmdTimeout
  exact (ite_ind (Keeps q n) (State.cmdComplete_keeps (State.spend_keeps h)) (State.each_keeps (State.spend_keeps h) (fun _ _ h0 => (State.upB_keeps h0))))

theorem execLockTimeout_keeps {dt : Nat} {lk : Lk} {a2 : State} (h : Keeps q n a2) :
    KeepsOut q n (execLockTimeout dt lk a2) := by
  unfold execLockTimeout
  extract_lets x0 x1 x2 x3
  have h4 : Keeps q n x0 := (State.tick_keeps h)
  try clear_value x0
  have h5 : Keeps q n x3 := (State.flag_keeps (State.reply_keeps (by exact Keeps.upd h4 rfl rfl rfl rfl rfl rfl rfl rfl)))
  try clear_value x3
  exact (ite_ind (Keeps q n) (ite_ind (Keeps q n) (State.cmdTimeout_keeps h5) h5) h4)

theorem execLockClaimTimeout_keeps {dt : Nat} {lk : Lk} {a2 : State} (h : Keeps q n a2) :
    KeepsOut q n (execLockClaimTimeout dt lk a2) := by
  unfold execLockClaimTimeout
  extract_lets x0 x1
  have h2 : Keeps q n x0 := (State.tick_keeps h)
  try clear_value x0
  exact (ite_ind (Keeps q n) (by
    split
    · exact (State.lockEmpty_keeps h2)
    · exact h2) h2)

theorem execLockAutoDrain_keeps {lk : Lk} {a1 : State} (h : Keeps q n a1) :
    KeepsOut q n (execLockAutoDrain lk a1) := by
  unfold execLockAutoDrain
  extract_lets x0
  exact (by
    split
    · exact h
    · exact (State.lockDrain_keeps (State.respSend_keeps h))
    · exact h)

theorem State.placeSamples_keeps {b : Br} {evs : List SampleEv} (h : Keeps q n s) :
    Keeps q n (s.placeSamples b evs) := by
  unfold State.placeSamples
  exact (State.upFl_keeps h)

theorem State.noteMoves_keeps {b : Br} {es : List (LaneIx × Edge)} (h : Keeps q n s) :
    Keeps q n (s.noteMoves b es) := by
  unfold State.noteMoves
  extract_lets x0 x1 x2 x3
  exact (State.upMod_keeps h)

theorem State.holdEdges_keeps {b : Br} {num : Nat} {done : List LaneIx} {es : List (LaneIx × Edge)} (h : Keeps q n s) :
    Keeps q n (s.holdEdges b num done es) := by
  unfold State.holdEdges
  extract_lets x0 x1
  exact (State.upMod_keeps h)

theorem State.sendEdges_keeps {k : LaneIx} (h : Keeps q n s) :
    Keeps q n (s.sendEdges k) := by
  unfold State.sendEdges
  extract_lets x0 x1 x2 x3
  have h4 : Keeps q n x3 := (State.upMod_keeps h)
  try clear_value x3
  exact (State.upLink_keeps h4)

theorem State.sendAll_keeps {b : Br} (h : Keeps q n s) :
    Keeps q n (s.sendAll b) := by
  unfold State.sendAll
  exact (State.each_keeps h (fun _ _ h0 => (State.sendEdges_keeps h0)))

theorem State.boundarySamples_keeps {b : Br} {gs : List Leg} {base : Int} {e : Int} {half : Int} {lp : LegPlan} {nexts : List (List (Int × Bool))} (h : Keeps q n s) :
    Keeps q n (s.boundarySamples b gs base e half lp nexts) := by
  unfold State.boundarySamples
  extract_lets x0 x1
  exact (State.placeSamples_keeps h)

theorem State.directForm_keeps {b : Br} {base : Int} {e : Int} {pats : List (List (Int × Bool))} {nexts : List (List (Int × Bool))} {last : Bool} {refresh : Refresh} (h : Keeps q n s) :
    Keeps q n (s.directForm b base e pats nexts last refresh) := by
  unfold State.directForm
  extract_lets x0 x1 x2 x3 x4 x5 x6
  have h8 : Keeps q n x2 := (State.when_keeps h (fun _ h7 => (State.boundarySamples_keeps h7)))
  try clear_value x2
  have h9 : Keeps q n x4 := (State.upMod_keeps h8)
  try clear_value x4
  have h11 : Keeps q n x5 := (State.when_keeps h9 (fun _ h10 => (State.evtN_keeps (State.flag_keeps h10))))
  try clear_value x5
  have h13 : Keeps q n x6 := (State.when_keeps h11 (fun _ h12 => (State.flag_keeps h12)))
  try clear_value x6
  exact (State.sendAll_keeps (State.holdEdges_keeps (State.noteMoves_keeps h13)))

theorem State.loadBuffer_keeps {b : Br} (h : Keeps q n s) :
    Keeps q n (s.loadBuffer b) := by
  unfold State.loadBuffer
  split
  · extract_lets x0 x1 x2 x3 x4
    have h5 : Keeps q n x2 := (State.wr_keeps h)
    try clear_value x2
    have h7 : Keeps q n x3 := (State.each_keeps h5 (fun _ _ h6 => (State.wr_keeps (State.wr_keeps h6))))
    try clear_value x3
    have h9 : Keeps q n x4 := (State.when_keeps h7 (fun _ h8 => (State.flag_keeps h8)))
    try clear_value x4
    exact (ite_ind (Keeps q n) (State.upMod_keeps (State.flag_keeps h9)) h)
  · exact h

theorem State.directHalf_keeps {b : Br} (h : Keeps q n s) :
    Keeps q n (s.directHalf b) := by
  unfold State.directHalf
  extract_lets x0 x1 x2 x3 x4
  have h5 : Keeps q n x4 := (State.upMod_keeps h)
  try clear_value x4
  exact (State.directForm_keeps h5)

theorem State.midLoad_keeps {b : Br} (h : Keeps q n s) :
    Keeps q n (s.midLoad b) := by
  unfold State.midLoad
  extract_lets x0 x1
  have h2 : Keeps q n x0 := (State.loadBuffer_keeps h)
  try clear_value x0
  have h3 : Keeps q n x1 := (State.upMod_keeps h2)
  try clear_value x1
  exact (ite_ind (Keeps q n) (State.directHalf_keeps h3) h3)

theorem State.directPeriod_keeps {b : Br} {armed : Bool} (h : Keeps q n s) :
    Keeps q n (s.directPeriod b armed) := by
  unfold State.directPeriod
  extract_lets x0 x1 x2 x3 x4 x5 x6 x7 x8 x9 x10 x11 x12
  have h13 : Keeps q n x0 := (ite_ind (Keeps q n) (State.directHalf_keeps h) h)
  try clear_value x0
  have h14 : Keeps q n x3 := (State.wr_keeps h13)
  try clear_value x3
  have h15 : Keeps q n x4 := (State.upMod_keeps h14)
  try clear_value x4
  have h16 : Keeps q n x12 := (State.upMod_keeps h15)
  try clear_value x12
  exact (ite_ind (Keeps q n) (State.directForm_keeps h16) (State.upMod_keeps h15))

theorem State.settleWatch_keeps {b : Br} (h : Keeps q n s) :
    Keeps q n (s.settleWatch b) := by
  unfold State.settleWatch
  extract_lets x0 x1 x2 x3
  exact (ite_ind (Keeps q n) (State.upB_keeps h) h)

theorem State.gstRestore_keeps {b : Br} (h : Keeps q n s) :
    Keeps q n (s.gstRestore b) := by
  unfold State.gstRestore
  split
  · exact (ite_ind (Keeps q n) (State.each_keeps h (fun _ _ h0 => (ite_ind (Keeps q n) h0 (by
      extract_lets x1 x2
      have h4 : Keeps q n x2 := (State.each_keeps h0 (fun _ _ h3 => (State.lanePut_keeps (State.laneSend_keeps h3))))
      try clear_value x2
      exact (State.upLink_keeps h4))))) h)
  · exact h

theorem State.windingStep_keeps {b : Br} (h : Keeps q n s) :
    Keeps q n (s.windingStep b) := by
  unfold State.windingStep
  extract_lets x0
  split
  · exact h
  · extract_lets x1 x2 x3
    have h4 : Keeps q n x1 := (State.upB_keeps h)
    try clear_value x1
    have h5 : Keeps q n x2 := (State.laneArm_keeps h4)
    try clear_value x2
    have h6 : Keeps q n x3 := (State.wr_keeps (State.wrI_keeps h5))
    try clear_value x3
    exact (ite_ind (Keeps q n) (ite_ind (Keeps q n) (ite_ind (Keeps q n) (State.switchStart_keeps h6) (State.upB_keeps h)) (ite_ind (Keeps q n) (State.upFl_keeps (State.laneArm_keeps (State.upB_keeps h))) h)) h)

theorem State.feedbackSet_keeps {k : Fin 6} {level : Bool} (h : Keeps q n s) :
    Keeps q n (s.feedbackSet k level) := by
  unfold State.feedbackSet
  extract_lets x0 x1 x2 x3 x4 x5
  have h6 : Keeps q n x2 := (by exact Keeps.upd h rfl rfl rfl rfl rfl rfl rfl rfl)
  try clear_value x2
  have h7 : Keeps q n x5 := (ite_ind (Keeps q n) (by exact Keeps.upd h6 rfl rfl rfl rfl rfl rfl rfl rfl) (ite_ind (Keeps q n) h6 (by exact Keeps.upd h6 rfl rfl rfl rfl rfl rfl rfl rfl)))
  try clear_value x5
  exact (State.contactorSettle_keeps h7)

theorem State.convDiag_keeps {checks : List (Fin 15 × Int × Int)} {i : ConvIx} (h : Keeps q n s) :
    Keeps q n (s.convDiag checks i) := by
  unfold State.convDiag
  extract_lets x0 x1 x2 x3 x4
  have h5 : Keeps q n x1 := (State.upConv_keeps h)
  try clear_value x1
  have h6 : Keeps q n x2 := (State.wr_keeps h5)
  try clear_value x2
  have h7 : Keeps q n x3 := (State.flag_keeps h6)
  try clear_value x3
  have h9 : Keeps q n x4 := (State.each_keeps h7 (fun _ _ h8 => (State.flag_keeps h8)))
  try clear_value x4
  exact (ite_ind (Keeps q n) (ite_ind (Keeps q n) (ite_ind (Keeps q n) (State.raiseOn_keeps h9) h5) (State.condition_keeps (State.upConv_keeps h))) h)

theorem State.threshold_keeps {code : Nat} {loc : Loc} {cls : RClass} {met : Bool} {clear : Bool} (h : Keeps q n s) :
    Keeps q n (s.threshold code loc cls met clear) := by
  unfold State.threshold
  exact (ite_ind (Keeps q n) (State.raiseOn_keeps h) (ite_ind (Keeps q n) (State.condition_keeps h) h))

theorem State.tmodLane_keeps {code : Int} {k : LaneIx} (h : Keeps q n s) :
    Keeps q n (s.tmodLane code k) := by
  unfold State.tmodLane
  extract_lets opened t sys known x
  have h8 : Keeps q n opened := State.flag_keeps h
  have h9 : Keeps q n known := by exact Keeps.upd h rfl rfl rfl rfl rfl rfl rfl rfl
  have hx : Keeps q n x :=
    ite_ind (Keeps q n) (ite_ind (Keeps q n) h8 (State.raiseOn_keeps h8)) (State.condition_keeps (State.wrI_keeps h9))
  exact ite_ind (Keeps q n) (State.threshold_keeps (State.threshold_keeps hx)) h

theorem State.modFactors_keeps (h : Keeps q n s) :
    Keeps q n (s.modFactors) := by
  unfold State.modFactors
  extract_lets x0 x1
  exact (by exact Keeps.upd h rfl rfl rfl rfl rfl rfl rfl rfl)

theorem State.crossCheck_keeps {pairs : List (Nat × Bool × Int)} (h : Keeps q n s) :
    Keeps q n (s.crossCheck pairs) := by
  unfold State.crossCheck
  exact (State.each_keeps h (fun _ _ h0 => (by
    extract_lets x1 x2 x3 x4 x5 x6 x7
    have h8 : Keeps q n x5 := (by exact Keeps.upd h0 rfl rfl rfl rfl rfl rfl rfl rfl)
    try clear_value x5
    exact (ite_ind (Keeps q n) (State.raiseF_keeps (State.flag_keeps (by exact Keeps.upd h8 rfl rfl rfl rfl rfl rfl rfl rfl))) h8))))

theorem State.thermStep_keeps {tj : Int} (h : Keeps q n s) :
    Keeps q n (s.thermStep tj) := by
  unfold State.thermStep
  extract_lets x0 x1 x2 x3 x4 x5 x6 x7 x8 x9 x10 x11 x12 x13
  have h14 : Keeps q n x0 := (State.wrI_keeps h)
  try clear_value x0
  have h15 : Keeps q n x5 := (State.flag_keeps h14)
  try clear_value x5
  have h16 : Keeps q n x6 := (ite_ind (Keeps q n) (State.raiseOn_keeps h15) (ite_ind (Keeps q n) (State.condition_keeps h15) h15))
  try clear_value x6
  have h17 : Keeps q n x7 := (State.flag_keeps h16)
  try clear_value x7
  have h18 : Keeps q n x10 := (by exact Keeps.upd h17 rfl rfl rfl rfl rfl rfl rfl rfl)
  try clear_value x10
  have h19 : Keeps q n x13 := (ite_ind (Keeps q n) (State.wr_keeps h18) h18)
  try clear_value x13
  exact (ite_ind (Keeps q n) (State.irq_keeps (State.flag_keeps h19)) h19)

theorem State.thermShut_keeps {readings : List Int} (h : Keeps q n s) :
    Keeps q n (s.thermShut readings) := by
  unfold State.thermShut
  extract_lets x0 x1 x2
  have h3 : Keeps q n x2 := (by exact Keeps.upd h rfl rfl rfl rfl rfl rfl rfl rfl)
  try clear_value x2
  exact (ite_ind (Keeps q n) (State.raiseOn_keeps (State.flag_keeps h3)) h3)

theorem execHousekeepingRound_keeps {dt : Nat} {hk : HkRound} {a2 : State} (h : Keeps q n a2) :
    KeepsOut q n (execHousekeepingRound dt hk a2) := by
  unfold execHousekeepingRound
  extract_lets x0 x1 x2 x3 x4 x5 x6 x7 x8 x9 x10
  have h11 : Keeps q n x0 := (State.standbyTimer_keeps (State.tick_keeps h))
  try clear_value x0
  have h13 : Keeps q n x1 := (State.each_keeps (State.stoSettle_keeps h11) (fun _ _ h12 => (State.convDiag_keeps h12)))
  try clear_value x1
  have h15 : Keeps q n x2 := (State.each_keeps h13 (fun _ _ h14 => (State.tmodLane_keeps h14)))
  try clear_value x2
  have h16 : Keeps q n x3 := (State.modFactors_keeps h15)
  try clear_value x3
  have h18 : Keeps q n x4 := (State.each_keeps h16 (fun _ _ h17 => (State.wrI_keeps (State.wrI_keeps h17))))
  try clear_value x4
  have h19 : Keeps q n x5 := (State.wrI_keeps h18)
  try clear_value x5
  have h20 : Keeps q n x7 := (State.crossCheck_keeps h19)
  try clear_value x7
  have h21 : Keeps q n x9 := (State.thermStep_keeps h20)
  try clear_value x9
  have h22 : Keeps q n x10 := (State.thermShut_keeps h21)
  try clear_value x10
  exact (ite_ind (KeepsOut q n) True.intro (ite_ind (KeepsOut q n) (State.irq_keeps (State.each_keeps h22 (fun _ _ h23 => (State.envelope_keeps h23)))) h11))

theorem State.catchRun_keeps {b : Br} {d : Int} {a3 : Int} (h : Keeps q n s) :
    Keeps q n (s.catchRun b d a3) := by
  unfold State.catchRun
  extract_lets x0
  have h1 : Keeps q n x0 := (State.enter_keeps h)
  try clear_value x0
  exact (State.each_keeps h1 (fun _ _ h2 => (by
    extract_lets x3
    have h4 : Keeps q n x3 := (State.upB_keeps h2)
    try clear_value x3
    exact (ite_ind (Keeps q n) h4 (State.switchStart_keeps (State.wrI_keeps (State.wrI_keeps h4)))))))

theorem State.observerStart_keeps {b : Br} {th : Rat} {om : Rat} (h : Keeps q n s) :
    Keeps q n (s.observerStart b th om) := by
  unfold State.observerStart
  extract_lets x0
  exact (State.each_keeps h (fun _ _ h1 => (State.aclkSelect_keeps (State.aclkShow_keeps (State.upAclk_keeps h1)))))

theorem State.catchFail_keeps {b : Br} {code : Nat} (h : Keeps q n s) :
    Keeps q n (s.catchFail b code) := by
  unfold State.catchFail
  exact (State.raiseF_keeps h)

theorem State.catchOver_keeps {b : Br} (h : Keeps q n s) :
    Keeps q n (s.catchOver b) := by
  unfold State.catchOver
  extract_lets x0
  have h2 : Keeps q n x0 := (State.each_keeps h (fun _ _ h1 => (State.planNow_keeps (State.setPlan_keeps h1))))
  try clear_value x0
  exact (State.raiseOn_keeps h2)

theorem execCatchDecision_keeps {dt : Nat} {b : Br} {a2 : State} (h : Keeps q n a2) :
    KeepsOut q n (execCatchDecision dt b a2) := by
  unfold execCatchDecision
  extract_lets x0 x1 x2 x3 x4 x5 x6 x7 x8 x9 x10 x11
  have h12 : Keeps q n x0 := (State.tick_keeps h)
  try clear_value x0
  have h13 : Keeps q n x5 := (State.spend_keeps h12)
  try clear_value x5
  have h14 : Keeps q n x10 := (ite_ind (Keeps q n) h13 (State.observerStart_keeps h13))
  try clear_value x10
  have h15 : Keeps q n x11 := (State.catchRun_keeps h14)
  try clear_value x11
  exact (ite_ind (KeepsOut q n) h12 (ite_ind (KeepsOut q n) (State.catchRun_keeps h12) (ite_ind (KeepsOut q n) h12 (by
    split
    · exact (State.catchFail_keeps h13)
    · exact (State.catchFail_keeps h13)
    · exact (State.catchOver_keeps h13)
    · exact (ite_ind (Keeps q n) (State.catchOver_keeps h13) (State.catchRun_keeps (ite_ind (Keeps q n) h13 (State.observerStart_keeps h13))))
    · exact (ite_ind (Keeps q n) (State.each_keeps h15 (fun _ _ h16 => (State.upB_keeps h16))) h15)))))

theorem execCatchImSearchEnd_keeps {dt : Nat} {b : Br} {found : Option Int} {a3 : State} (h : Keeps q n a3) :
    KeepsOut q n (execCatchImSearchEnd dt b found a3) := by
  unfold execCatchImSearchEnd
  extract_lets x0 x1
  have h2 : Keeps q n x0 := (State.tick_keeps h)
  try clear_value x0
  split
  · exact h2
  · exact (State.catchFail_keeps h2)
  · extract_lets x3 x4 x5
    have h6 : Keeps q n x4 := (ite_ind (Keeps q n) h2 (State.observerStart_keeps h2))
    try clear_value x4
    have h7 : Keeps q n x5 := (State.catchRun_keeps h6)
    try clear_value x5
    exact (ite_ind (KeepsOut q n) (State.catchFail_keeps h2) (State.each_keeps h7 (fun _ _ h8 => (State.upB_keeps h8))))

theorem execInitialPositionDetection_keeps {dt : Nat} {b : Br} {found : IpdReading} {a3 : State} (h : Keeps q n a3) :
    KeepsOut q n (execInitialPositionDetection dt b found a3) := by
  unfold execInitialPositionDetection
  extract_lets x0 x1 x2 x3
  have h4 : Keeps q n x0 := (State.tick_keeps h)
  try clear_value x0
  have h6 : Keeps q n x3 := (State.each_keeps h4 (fun _ _ h5 => (State.upB_keeps h5)))
  try clear_value x3
  exact (ite_ind (KeepsOut q n) (ite_ind (Keeps q n) (State.observerStart_keeps h6) (State.catchFail_keeps h6)) h4)

end Sys2Proof.Machine
end

