-- ==== Sys2Proof/Laws/KeepFlight.lean ====
section
/-! SUPPORT. Preservation laws, one for each definition: conversion, Flight engines, networks and links. Each says that the definition keeps the queue,
time and the sound parts of a state (`Keeps`). -/

namespace Sys2Proof.Machine

variable {q : List Instr} {n : Nat} {s : State}

theorem State.convShow_keeps {i : ConvIx} (h : Keeps q n s) :
    Keeps q n (s.convShow i) := by
  unfold State.convShow
  extract_lets x0
  exact (State.flag_keeps (State.flag_keeps h))

theorem State.convStart_keeps {i : ConvIx} {e : Fin 16} (h : Keeps q n s) :
    Keeps q n (s.convStart i e) := by
  unfold State.convStart
  extract_lets x0 x1
  exact (State.convShow_keeps (State.upConv_keeps h))

theorem State.convDue_keeps {i : ConvIx} {j : Job} (h : Keeps q n s) :
    Keeps q n (s.convDue i j) := by
  unfold State.convDue
  extract_lets x0 x1
  exact (ite_ind (Keeps q n) (State.convShow_keeps (State.upConv_keeps h)) (ite_ind (Keeps q n) (State.upConv_keeps h) (ite_ind (Keeps q n) (State.evt_keeps (State.flag_keeps (State.wr_keeps h))) (State.upConv_keeps h))))

theorem State.convNext_keeps {i : ConvIx} (h : Keeps q n s) :
    Keeps q n (s.convNext i) := by
  unfold State.convNext
  exact (State.each_keeps h (fun _ _ h0 => (ite_ind (Keeps q n) h0 (State.convStart_keeps (State.upConv_keeps h0)))))

theorem State.convFinish_keeps {i : ConvIx} {j : Job} (h : Keeps q n s) :
    Keeps q n (s.convFinish i j) := by
  unfold State.convFinish
  extract_lets x0 x1
  have h2 : Keeps q n x0 := (State.upConv_keeps h)
  try clear_value x0
  have h3 : Keeps q n x1 := (State.convShow_keeps (State.convNext_keeps h2))
  try clear_value x1
  exact (ite_ind (Keeps q n) (State.irq_keeps h3) h3)

theorem State.takeEvent_keeps {b : Br} {v : SampleEv} (h : Keeps q n s) :
    Keeps q n (s.takeEvent b v) := by
  unfold State.takeEvent
  exact (State.upFl_keeps h)

theorem State.groupWindow_keeps {k : LaneIx} {num : Nat} {gain : Nat} {v : Int} {sat : Bool} (h : Keeps q n s) :
    Keeps q n (s.groupWindow k num gain v sat) := by
  unfold State.groupWindow
  extract_lets x0 x1 x2
  exact (ite_ind (Keeps q n) (State.upFl_keeps h) h)

theorem State.offsetSample_keeps {i : ConvIx} {k : LaneIx} {gain : Nat} {v : Int} (h : Keeps q n s) :
    Keeps q n (s.offsetSample i k gain v) := by
  unfold State.offsetSample
  extract_lets x0 x1 x2 x3 x4
  have h5 : Keeps q n x2 := (State.upConv_keeps h)
  try clear_value x2
  have h6 : Keeps q n x4 := (State.wrI_keeps h5)
  try clear_value x4
  exact (ite_ind (Keeps q n) (State.raise_keeps h6) h6)

theorem State.vdcForm_keeps {b : Br} (h : Keeps q n s) :
    Keeps q n (s.vdcForm b) := by
  unfold State.vdcForm
  extract_lets x0 x1
  have h2 : Keeps q n x1 := (ite_ind (Keeps q n) (State.raiseOn_keeps h) (State.condition_keeps h))
  try clear_value x1
  split
  · exact (State.settleWatch_keeps (State.weirEval_keeps (State.wrI_keeps h2)))
  · exact h2

theorem State.vdcExclude_keeps {k : LaneIx} {v : Int} (h : Keeps q n s) :
    Keeps q n (s.vdcExclude k v) := by
  unfold State.vdcExclude
  extract_lets x0 x1
  split
  · extract_lets x2 x3 x4
    exact (ite_ind (Keeps q n) (ite_ind (Keeps q n) (State.condition_keeps (State.upConv_keeps h)) (State.upConv_keeps h)) (ite_ind (Keeps q n) (ite_ind (Keeps q n) (State.raiseOn_keeps (State.upConv_keeps h)) (State.upConv_keeps h)) h))
  · exact h

theorem State.vdcTake_keeps {k : LaneIx} {code : Int} (h : Keeps q n s) :
    Keeps q n (s.vdcTake k code) := by
  unfold State.vdcTake
  extract_lets x0 x1
  have h2 : Keeps q n x1 := (State.wrI_keeps (State.upConv_keeps h))
  try clear_value x1
  exact (State.vdcExclude_keeps h2)

theorem State.vdcResult_keeps {k : LaneIx} {code : Int} (h : Keeps q n s) :
    Keeps q n (s.vdcResult k code) := by
  unfold State.vdcResult
  exact (State.vdcForm_keeps (State.vdcTake_keeps h))

theorem State.catchOverWatch_keeps {b : Br} (h : Keeps q n s) :
    Keeps q n (s.catchOverWatch b) := by
  unfold State.catchOverWatch
  extract_lets x0 x1 x2 x3
  have h4 : Keeps q n x3 := (State.upB_keeps h)
  try clear_value x3
  exact (ite_ind (Keeps q n) (ite_ind (Keeps q n) (State.upB_keeps h) (ite_ind (Keeps q n) (ite_ind (Keeps q n) (State.condition_keeps h4) h4) h)) h)

theorem State.bemfSample_keeps {k : LaneIx} {code : Int} (h : Keeps q n s) :
    Keeps q n (s.bemfSample k code) := by
  unfold State.bemfSample
  extract_lets x0 x1 x2
  exact (ite_ind (Keeps q n) (State.catchOverWatch_keeps (State.upB_keeps h)) h)

theorem State.openTest_keeps {i : ConvIx} {opened : Bool} (h : Keeps q n s) :
    Keeps q n (s.openTest i opened) := by
  unfold State.openTest
  exact (ite_ind (Keeps q n) (State.raiseOn_keeps (State.flag_keeps h)) (ite_ind (Keeps q n) h (State.condition_keeps h)))

theorem State.capResult_keeps {i : ConvIx} {w : Word} {v : Int} (h : Keeps q n s) :
    Keeps q n (s.capResult i w v) := by
  unfold State.capResult
  split
  · extract_lets x0
    exact (ite_ind (Keeps q n) (State.capWord_keeps h) h)
  · exact h

theorem State.laneResult_keeps {i : ConvIx} {k : LaneIx} {w : Word} {j : Job} {raw : Int} {v : Int} {sat : Bool} (h : Keeps q n s) :
    Keeps q n (s.laneResult i k w j raw v sat) := by
  unfold State.laneResult
  exact (ite_ind (Keeps q n) (by
    split
    · exact (ite_ind (Keeps q n) (by
        split
        · exact (State.groupWindow_keeps h)
        · exact h) (ite_ind (Keeps q n) (State.offsetSample_keeps h) h))
    · exact (State.bemfSample_keeps h)
    · exact (State.vdcResult_keeps h)
    · exact h) h)

theorem State.convStore_keeps {i : ConvIx} {j : Job} {codes : List Int} (h : Keeps q n s) :
    Keeps q n (s.convStore i j codes) := by
  unfold State.convStore
  extract_lets x0 x1 x2 x3 x4 x5 x6 x7 x8 x9 x10 x11
  have h12 : Keeps q n x9 := (State.capResult_keeps (State.convFinish_keeps (State.setWord_keeps h)))
  try clear_value x9
  have h13 : Keeps q n x10 := (ite_ind (Keeps q n) (State.irq_keeps (State.evt_keeps (State.flag_keeps h12))) h12)
  try clear_value x10
  have h14 : Keeps q n x11 := (ite_ind (Keeps q n) h13 (State.openTest_keeps h13))
  try clear_value x11
  exact (ite_ind (Keeps q n) h14 (by
    split
    · exact (State.laneResult_keeps h14)
    · exact h14))

theorem State.upHeard_keeps {i : ConvIx} (h : Keeps q n s) :
    Keeps q n (s.upHeard i) := by
  unfold State.upHeard
  split
  · exact (State.upLink_keeps h)
  · exact h

theorem State.convResult_keeps {i : ConvIx} {r : ConvRes} (h : Keeps q n s) :
    Keeps q n (s.convResult i r) := by
  unfold State.convResult
  split
  · extract_lets x0
    have h1 : Keeps q n x0 := (State.convFinish_keeps h)
    try clear_value x0
    exact (ite_ind (Keeps q n) (State.convStore_keeps (State.upHeard_keeps h)) (by
      split
      · exact (State.evt_keeps h1)
      · exact h1))
  · exact h

theorem State.plausCheck_keeps {b : Br} (h : Keeps q n s) :
    Keeps q n (s.plausCheck b) := by
  unfold State.plausCheck
  extract_lets x0 x1 x2 x3 x4 x5 x6
  have h16 : ∀ y7 y8, Keeps q n y7 → Keeps q n (x2 y7 y8) := (fun _ _ h9 => (ite_ind (Keeps q n) h9 (by
    extract_lets x10 x11 x12 x13 x14
    have h15 : Keeps q n x14 := (State.upB_keeps h9)
    try clear_value x14
    exact (ite_ind (Keeps q n) (State.raise_keeps h15) h15))))
  try clear_value x2
  have h17 : Keeps q n x3 := (State.each_keeps h h16)
  try clear_value x3
  have h18 : Keeps q n x6 := (State.upB_keeps h17)
  try clear_value x6
  exact (ite_ind (Keeps q n) (State.raise_keeps h18) h18)

theorem State.torqueMonitor_keeps {b : Br} (h : Keeps q n s) :
    Keeps q n (s.torqueMonitor b) := by
  unfold State.torqueMonitor
  extract_lets x0 x1 x2 x3
  have h4 : Keeps q n x3 := (State.upB_keeps h)
  try clear_value x3
  exact (ite_ind (Keeps q n) (ite_ind (Keeps q n) (State.raiseF_keeps h4) h4) (State.upB_keeps h))

theorem State.monStore_keeps {b : Br} {codes : List Int} (h : Keeps q n s) :
    Keeps q n (s.monStore b codes) := by
  unfold State.monStore
  extract_lets x0
  exact (State.each_keeps h (fun _ _ h1 => (by
    extract_lets x2
    split
    · exact (State.setWord_keeps h1)
    · exact h1)))

theorem execDriveStopRampDone_keeps {dt : Nat} {b : Br} {a2 : State} (h : Keeps q n a2) :
    KeepsOut q n (execDriveStopRampDone dt b a2) := by
  unfold execDriveStopRampDone
  extract_lets x0 x1
  have h2 : Keeps q n x0 := (State.tick_keeps h)
  try clear_value x0
  split
  · exact (ite_ind (Keeps q n) (State.enter_keeps h2) h2)
  · exact h2

theorem State.stopRamp_keeps {b : Br} (h : Keeps q n s) :
    Keeps q n (s.stopRamp b) := by
  unfold State.stopRamp
  exact (State.each_keeps h (fun _ _ h0 => (State.upB_keeps h0)))

theorem execDriveStopStandstill_keeps {dt : Nat} {b : Br} {a2 : State} (h : Keeps q n a2) :
    KeepsOut q n (execDriveStopStandstill dt b a2) := by
  unfold execDriveStopStandstill
  extract_lets x0 x1
  have h2 : Keeps q n x0 := (State.tick_keeps h)
  try clear_value x0
  split
  · exact (ite_ind (Keeps q n) (State.enter_keeps h2) h2)
  · exact h2

theorem execDriveStopTimeout_keeps {dt : Nat} {b : Br} {a2 : State} (h : Keeps q n a2) :
    KeepsOut q n (execDriveStopTimeout dt b a2) := by
  unfold execDriveStopTimeout
  extract_lets x0 x1
  have h2 : Keeps q n x0 := (State.tick_keeps h)
  try clear_value x0
  split
  · exact (ite_ind (Keeps q n) (State.raiseF_keeps (State.each_keeps h2 (fun _ _ h3 => (State.upB_keeps h3)))) h2)
  · exact h2

theorem execSafeStopComplete_keeps {dt : Nat} {b : Br} {a2 : State} (h : Keeps q n a2) :
    KeepsOut q n (execSafeStopComplete dt b a2) := by
  unfold execSafeStopComplete
  extract_lets x0 x1
  have h2 : Keeps q n x0 := (State.tick_keeps h)
  try clear_value x0
  exact (ite_ind (Keeps q n) (State.safeStopDone_keeps h2) h2)

theorem execDegradedTimerExpiry_keeps {dt : Nat} {b : Br} {a2 : State} (h : Keeps q n a2) :
    KeepsOut q n (execDegradedTimerExpiry dt b a2) := by
  unfold execDegradedTimerExpiry
  extract_lets x0 x1
  have h2 : Keeps q n x0 := (State.tick_keeps h)
  try clear_value x0
  exact (ite_ind (Keeps q n) (State.safeStopCause_keeps h2) h2)

theorem execPilotHoldTimeout_keeps {dt : Nat} {b : Br} {a2 : State} (h : Keeps q n a2) :
    KeepsOut q n (execPilotHoldTimeout dt b a2) := by
  unfold execPilotHoldTimeout
  extract_lets x0 x1
  have h2 : Keeps q n x0 := (State.tick_keeps h)
  try clear_value x0
  split
  · exact (ite_ind (Keeps q n) (State.raiseOn_keeps h2) h2)
  · exact h2

theorem State.putSlot_keeps {b : Br} {sl : Slot} (h : Keeps q n s) :
    Keeps q n (s.putSlot b sl) := by
  unfold State.putSlot
  exact (State.upFl_keeps h)

theorem State.takeSlot_keeps {b : Br} {sl : Slot} (h : Keeps q n s) :
    Keeps q n (s.takeSlot b sl) := by
  unfold State.takeSlot
  exact (State.upFl_keeps (State.putSlot_keeps h))

theorem State.stageMarks_keeps {b : Br} {m : Marks} (h : Keeps q n s) :
    Keeps q n (s.stageMarks b m) := by
  unfold State.stageMarks
  extract_lets x0 x1 x2 x3 x4 x5
  have h7 : Keeps q n x0 := (State.when_keeps h (fun _ h6 => (State.flag_keeps h6)))
  try clear_value x0
  have h9 : Keeps q n x1 := (State.when_keeps h7 (fun _ h8 => (State.flag_keeps h8)))
  try clear_value x1
  have h11 : Keeps q n x2 := (State.when_keeps h9 (fun _ h10 => (State.evt_keeps (State.flag_keeps h10))))
  try clear_value x2
  have h13 : Keeps q n x3 := (State.when_keeps h11 (fun _ h12 => (State.evtN_keeps (State.flag_keeps h12))))
  try clear_value x3
  have h15 : Keeps q n x4 := (State.when_keeps h13 (fun _ h14 => (State.evtN_keeps (State.flag_keeps h14))))
  try clear_value x4
  have h17 : Keeps q n x5 := (State.when_keeps h15 (fun _ h16 => (State.flag_keeps h16)))
  try clear_value x5
  exact (State.when_keeps h17 (fun _ h18 => (State.flag_keeps h18)))

theorem State.refreshDone_keeps {b : Br} {legs : List Bool} (h : Keeps q n s) :
    Keeps q n (s.refreshDone b legs) := by
  unfold State.refreshDone
  exact (State.upMod_keeps h)

theorem State.commitSlot_keeps {b : Br} {sl : Slot} (h : Keeps q n s) :
    Keeps q n (s.commitSlot b sl) := by
  unfold State.commitSlot
  extract_lets x0 x1 x2 x3 x4
  have h5 : Keeps q n x0 := (State.putSlot_keeps h)
  try clear_value x0
  have h6 : Keeps q n x1 := (State.upFl_keeps h5)
  try clear_value x1
  have h7 : Keeps q n x2 := (State.noteMoves_keeps (State.refreshDone_keeps (State.stageMarks_keeps h6)))
  try clear_value x2
  have h8 : Keeps q n x3 := (State.placeSamples_keeps (State.sendAll_keeps (State.holdEdges_keeps h7)))
  try clear_value x3
  have h9 : Keeps q n x4 := (State.wr_keeps (State.evt_keeps (State.flag_keeps h8)))
  try clear_value x4
  exact (ite_ind (Keeps q n) (ite_ind (Keeps q n) (State.raiseF_keeps h9) h9) h8)

theorem State.squashGroup_keeps {b : Br} {a2 : Nat} {spare : Bool} {mis : Bool} {setpt : Bool} {ev : Br → Nat} (h : Keeps q n s) :
    Keeps q n (s.squashGroup b a2 spare mis setpt ev) := by
  unfold State.squashGroup
  exact (State.each_keeps h (fun _ _ h0 => (State.squash_keeps h0)))

theorem State.mispredict_keeps {b : Br} {k : Nat} {a3 : Nat} (h : Keeps q n s) :
    Keeps q n (s.mispredict b k a3) := by
  unfold State.mispredict
  extract_lets x0
  have h2 : Keeps q n x0 := (State.each_keeps h (fun _ _ h1 => (State.upFl_keeps h1)))
  try clear_value x0
  exact (State.squashGroup_keeps h2)

theorem State.commitStage_keeps {b : Br} {sl : Slot} (h : Keeps q n s) :
    Keeps q n (s.commitStage b sl) := by
  unfold State.commitStage
  exact (ite_ind (Keeps q n) (State.mispredict_keeps h) (State.commitSlot_keeps h))

theorem State.computeStage_keeps {b : Br} (h : Keeps q n s) :
    Keeps q n (s.computeStage b) := by
  unfold State.computeStage
  split
  · extract_lets x0
    have h1 : Keeps q n x0 := (State.takeSlot_keeps h)
    try clear_value x0
    exact (ite_ind (Keeps q n) (State.commitStage_keeps h1) h1)
  · exact h

theorem State.carryStage_keeps {b : Br} (h : Keeps q n s) :
    Keeps q n (s.carryStage b) := by
  unfold State.carryStage
  split
  · exact (State.commitSlot_keeps (State.takeSlot_keeps h))
  · exact h

theorem State.commitDue_keeps {b : Br} (h : Keeps q n s) :
    Keeps q n (s.commitDue b) := by
  unfold State.commitDue
  extract_lets x0
  split
  · exact (ite_ind (Keeps q n) (State.commitStage_keeps h) h)
  · split
    · exact (ite_ind (Keeps q n) (State.carryStage_keeps h) h)
    · exact h

theorem State.mapClamped_keeps {b : Br} {c : Bool} (h : Keeps q n s) :
    Keeps q n (s.mapClamped b c) := by
  unfold State.mapClamped
  exact (State.when_keeps h (fun _ h0 => (State.evt_keeps (State.flag_keeps h0))))

theorem State.dobUpdate_keeps {b : Br} {sl : Slot} {id : Rat} {iq : Rat} (h : Keeps q n s) :
    Keeps q n (s.dobUpdate b sl id iq) := by
  unfold State.dobUpdate
  extract_lets x0 x1 x2 x3 x4 x5 x6 x7 x8 x9
  exact (ite_ind (Keeps q n) (State.wrI_keeps (State.wrI_keeps (State.mapClamped_keeps h))) h)

theorem State.retire_keeps {b : Br} {sl : Slot} (h : Keeps q n s) :
    Keeps q n (s.retire b sl) := by
  unfold State.retire
  extract_lets x0 x1 x2 x3
  have h4 : Keeps q n x0 := (State.putSlot_keeps h)
  try clear_value x0
  have h5 : Keeps q n x1 := (State.evt_keeps (State.irq_keeps (State.flag_keeps h4)))
  try clear_value x1
  have h6 : Keeps q n x2 := (State.upB_keeps h5)
  try clear_value x2
  exact (State.recEnter_keeps h6)

theorem State.dropGroup_keeps {b : Br} {num : Nat} (h : Keeps q n s) :
    Keeps q n (s.dropGroup b num) := by
  unfold State.dropGroup
  exact (State.upFl_keeps h)

theorem State.showGroup_keeps {b : Br} {num : Nat} {m : Meas} (h : Keeps q n s) :
    Keeps q n (s.showGroup b num m) := by
  unfold State.showGroup
  extract_lets x0 x1 x2 x3 x4 x5 x6
  have h8 : Keeps q n x1 := (State.each_keeps h (fun _ _ h7 => (State.wrI_keeps h7)))
  try clear_value x1
  have h9 : Keeps q n x2 := (State.wr_keeps h8)
  try clear_value x2
  have h10 : Keeps q n x3 := (State.flag_keeps h9)
  try clear_value x3
  have h11 : Keeps q n x4 := (State.wr_keeps h10)
  try clear_value x4
  have h12 : Keeps q n x5 := (State.wr_keeps h11)
  try clear_value x5
  have h13 : Keeps q n x6 := (ite_ind (Keeps q n) h12 (State.evt_keeps h12))
  try clear_value x6
  exact (State.upFl_keeps h13)

theorem State.groupMissed_keeps {b : Br} {sl : Slot} (h : Keeps q n s) :
    Keeps q n (s.groupMissed b sl) := by
  unfold State.groupMissed
  extract_lets x0 x1
  have h2 : Keeps q n x0 := (State.evt_keeps (State.flag_keeps (State.retire_keeps h)))
  try clear_value x0
  have h3 : Keeps q n x1 := (State.upFl_keeps (State.dropGroup_keeps h2))
  try clear_value x1
  exact (ite_ind (Keeps q n) (State.raiseF_keeps h3) h3)

theorem State.propagate_keeps {b : Br} {sl : Slot} {x : DqState} (h : Keeps q n s) :
    Keeps q n (s.propagate b sl x) := by
  unfold State.propagate
  extract_lets x0 x1 x2 x3 x4
  have h5 : Keeps q n x4 := (State.mapClamped_keeps (State.putSlot_keeps h))
  try clear_value x4
  split
  · extract_lets x6 x7 x8
    exact (State.mapClamped_keeps (State.putSlot_keeps h5))
  · exact h5

theorem State.commitNext_keeps {b : Br} {sl : Slot} (h : Keeps q n s) :
    Keeps q n (s.commitNext b sl) := by
  unfold State.commitNext
  extract_lets x0
  have h1 : Keeps q n x0 := (State.upFl_keeps h)
  try clear_value x0
  split
  · exact (ite_ind (Keeps q n) (State.commitStage_keeps h1) h1)
  · exact h1

theorem State.verifyEnd_keeps {b : Br} {sl : Slot} {m : Meas} {v : Verdict} (h : Keeps q n s) :
    Keeps q n (s.verifyEnd b sl m v) := by
  unfold State.verifyEnd
  extract_lets x0 x1 x2 x3 x4 x5 x6 x7 x8
  have h9 : Keeps q n x1 := (State.mapClamped_keeps h)
  try clear_value x1
  have h10 : Keeps q n x2 := (ite_ind (Keeps q n) (State.propagate_keeps h9) h9)
  try clear_value x2
  have h11 : Keeps q n x3 := (ite_ind (Keeps q n) h10 (State.dobUpdate_keeps h10))
  try clear_value x3
  have h12 : Keeps q n x5 := (State.wrI_keeps (State.mapClamped_keeps h11))
  try clear_value x5
  have h13 : Keeps q n x6 := (State.wrI_keeps (State.wrI_keeps h12))
  try clear_value x6
  have h14 : Keeps q n x8 := (State.dropGroup_keeps (State.plausCheck_keeps (State.retire_keeps (State.showGroup_keeps h13))))
  try clear_value x8
  exact (State.upFl_keeps h14)

theorem State.verify_keeps {b : Br} {num : Nat} (h : Keeps q n s) :
    Keeps q n (s.verify b num) := by
  unfold State.verify
  extract_lets x0 x1 x2 x3
  have h5 : Keeps q n x2 := (State.each_keeps h (fun _ _ h4 => (State.commitNext_keeps h4)))
  try clear_value x2
  have h7 : Keeps q n x3 := (State.when_keeps h5 (fun _ h6 => (State.mispredict_keeps h6)))
  try clear_value x3
  exact (State.each_keeps h7 (fun _ _ h8 => (State.verifyEnd_keeps h8)))

theorem State.groupDone_keeps {b : Br} {sl : Slot} (h : Keeps q n s) :
    Keeps q n (s.groupDone b sl) := by
  unfold State.groupDone
  exact (ite_ind (Keeps q n) h (ite_ind (Keeps q n) (State.when_keeps h (fun _ h0 => (State.each_keeps h0 (fun _ _ h1 => (by
    split
    · exact (State.when_keeps h1 (fun _ h2 => (State.groupMissed_keeps h2)))
    · exact h1))))) (State.verify_keeps h)))

theorem State.irefWrite_keeps {m : Master} {b : Br} {a3 : Bool} {v : Word} (h : Keeps q n s) :
    Keeps q n (s.irefWrite m b a3 v) := by
  unfold State.irefWrite
  extract_lets x0
  exact (ite_ind (Keeps q n) (State.flag_keeps h) (ite_ind (Keeps q n) h (ite_ind (Keeps q n) h (State.squashGroup_keeps (State.setWord_keeps h)))))

theorem State.pilotStage_keeps {b : Br} (h : Keeps q n s) :
    Keeps q n (s.pilotStage b) := by
  unfold State.pilotStage
  extract_lets x0 x1 x2 x3 x4 x5 x6
  have h8 : Keeps q n x6 := (State.each_keeps (State.spend_keeps h) (fun _ _ h7 => (State.upB_keeps h7)))
  try clear_value x6
  exact (ite_ind (Keeps q n) (State.irefWrite_keeps (State.irefWrite_keeps h8)) h)

theorem State.stormRule_keeps {b : Br} (h : Keeps q n s) :
    Keeps q n (s.stormRule b) := by
  unfold State.stormRule
  extract_lets x0 x1 x2 x3 x4
  exact (ite_ind (Keeps q n) h (State.each_keeps h (fun _ _ h5 => (by
    extract_lets x6 x7
    have h8 : Keeps q n x6 := (State.upFl_keeps h5)
    try clear_value x6
    have h9 : Keeps q n x7 := (State.irq_keeps (State.flag_keeps (State.flag_keeps h8)))
    try clear_value x7
    exact (ite_ind (Keeps q n) (State.squash_keeps h9) h9)))))

theorem State.cfgStep_keeps {b : Br} (h : Keeps q n s) :
    Keeps q n (s.cfgStep b) := by
  unfold State.cfgStep
  extract_lets x0 x1 x2 x3 x4 x5 x6 x7
  have h8 : Keeps q n x6 := (ite_ind (Keeps q n) (State.squash_keeps h) (ite_ind (Keeps q n) (State.squash_keeps h) h))
  try clear_value x6
  have h9 : Keeps q n x7 := (State.upFl_keeps h8)
  try clear_value x7
  exact (ite_ind (Keeps q n) h9 (State.wr_keeps (State.wr_keeps h9)))

theorem State.showStage_keeps {b : Br} (h : Keeps q n s) :
    Keeps q n (s.showStage b) := by
  unfold State.showStage
  extract_lets x0 x1
  have h2 : Keeps q n x1 := (State.wr_keeps (State.setWord_keeps h))
  try clear_value x1
  split
  · exact (State.wr_keeps (State.wr_keeps h2))
  · exact h2

theorem State.engineAdvance_keeps {b : Br} (h : Keeps q n s) :
    Keeps q n (s.engineAdvance b) := by
  unfold State.engineAdvance
  extract_lets x0 x1
  have h2 : Keeps q n x1 := (ite_ind (Keeps q n) h (State.commitDue_keeps h))
  try clear_value x1
  exact (ite_ind (Keeps q n) (ite_ind (Keeps q n) (State.upFl_keeps h2) h) (by
    split
    · extract_lets x3 x4
      have h5 : Keeps q n x3 := (ite_ind (Keeps q n) (State.retire_keeps h) h)
      try clear_value x3
      have h6 : Keeps q n x4 := (by
        unfold x4
        split
        · exact (ite_ind (Keeps q n) (State.commitStage_keeps h5) h5)
        · exact (State.commitDue_keeps h5))
      try clear_value x4
      exact (ite_ind (Keeps q n) (State.upFl_keeps h6) h)
    · exact h))

theorem State.takeStopReq_keeps {b : Br} (h : Keeps q n s) :
    Keeps q n (s.takeStopReq b) := by
  unfold State.takeStopReq
  exact (State.each_keeps h (fun _ _ h0 => (State.upB_keeps h0)))

theorem State.boundaryCauses_keeps {b : Br} (h : Keeps q n s) :
    Keeps q n (s.boundaryCauses b) := by
  unfold State.boundaryCauses
  extract_lets x0 x1 x2
  have h4 : Keeps q n x2 := (State.takeStopReq_keeps (State.each_keeps h (fun _ _ h3 => (State.upB_keeps h3))))
  try clear_value x2
  exact (ite_ind (Keeps q n) (State.enter_keeps (State.preempt_keeps h4)) (ite_ind (Keeps q n) (State.enter_keeps (State.preempt_keeps h4)) (ite_ind (Keeps q n) (State.enter_keeps (State.preempt_keeps h4)) (State.applyCmd_keeps h4))))

theorem State.motionStep_keeps {b : Br} (h : Keeps q n s) :
    Keeps q n (s.motionStep b) := by
  unfold State.motionStep
  extract_lets x0
  exact (State.each_keeps h (fun _ _ h1 => (State.upB_keeps h1)))

theorem State.reverseSquash_keeps {b : Br} (h : Keeps q n s) :
    Keeps q n (s.reverseSquash b) := by
  unfold State.reverseSquash
  split
  · exact (ite_ind (Keeps q n) (State.mispredict_keeps h) h)
  · exact h

theorem State.planRefresh_keeps {b : Br} (h : Keeps q n s) :
    Keeps q n (s.planRefresh b) := by
  unfold State.planRefresh
  extract_lets x0
  have h1 : Keeps q n x0 := (State.setPlan_keeps h)
  try clear_value x0
  exact (ite_ind (Keeps q n) (State.releaseForced_keeps h1) h1)

theorem State.boundaryWork_keeps {b : Br} (h : Keeps q n s) :
    Keeps q n (s.boundaryWork b) := by
  unfold State.boundaryWork
  extract_lets x0 x1 x2 x3 x4
  have h5 : Keeps q n x0 := (State.posBoundary_keeps (State.cfgStep_keeps (State.parBoundary_keeps (State.showStage_keeps h))))
  try clear_value x0
  have h6 : Keeps q n x1 := (State.reverseSquash_keeps (State.motionStep_keeps h5))
  try clear_value x1
  have h7 : Keeps q n x2 := (ite_ind (Keeps q n) (State.stormRule_keeps (State.boundaryCauses_keeps h6)) h6)
  try clear_value x2
  have h8 : Keeps q n x3 := (State.envelope_keeps (State.windingStep_keeps h7))
  try clear_value x3
  have h9 : Keeps q n x4 := (State.planRefresh_keeps (State.ss1Monitor_keeps h8))
  try clear_value x4
  exact (ite_ind (Keeps q n) (State.pilotStage_keeps h9) h9)

theorem State.ethSend_keeps {mac : Fin 2} {dst : List Byte} {type : Nat} {pl : List Byte} (h : Keeps q n s) :
    Keeps q n (s.ethSend mac dst type pl) := by
  unfold State.ethSend
  extract_lets x0 x1 x2 x3 x4
  exact (by exact Keeps.upd h rfl rfl rfl rfl rfl rfl rfl rfl)

theorem State.arpIn_keeps {mac : Fin 2} {p : List Byte} (h : Keeps q n s) :
    Keeps q n (s.arpIn mac p) := by
  unfold State.arpIn
  exact (ite_ind (Keeps q n) (State.ethSend_keeps h) h)

theorem State.icmpIn_keeps {mac : Fin 2} {eth : List Byte} {src : List Byte} {body : List Byte} (h : Keeps q n s) :
    Keeps q n (s.icmpIn mac eth src body) := by
  unfold State.icmpIn
  extract_lets x0 x1
  exact (ite_ind (Keeps q n) (State.ethSend_keeps h) h)

theorem State.ipIn_keeps {mac : Fin 2} {eth : List Byte} {p : List Byte} (h : Keeps q n s) :
    Keeps q n (s.ipIn mac eth p) := by
  unfold State.ipIn
  extract_lets x0 x1 x2 x3 x4
  exact (ite_ind (Keeps q n) (ite_ind (Keeps q n) (State.icmpIn_keeps h) (ite_ind (Keeps q n) (State.udpIn_keeps h) h)) h)

theorem State.ethIn_keeps {mac : Fin 2} {fr : EthFrame} (h : Keeps q n s) :
    Keeps q n (s.ethIn mac fr) := by
  unfold State.ethIn
  extract_lets x0 x1 x2 x3 x4 x5 x6 x7
  have h8 : Keeps q n x1 := (by exact Keeps.upd h rfl rfl rfl rfl rfl rfl rfl rfl)
  try clear_value x1
  have h9 : Keeps q n x6 := (State.irq_keeps h8)
  try clear_value x6
  exact (ite_ind (Keeps q n) (State.evt_keeps h8) (ite_ind (Keeps q n) h8 (ite_ind (Keeps q n) (ite_ind (Keeps q n) (State.evt_keeps h8) h8) (ite_ind (Keeps q n) (ite_ind (Keeps q n) (State.arpIn_keeps h9) (ite_ind (Keeps q n) (State.ipIn_keeps h9) h9)) h8))))

theorem State.macsecInstall_keeps {mac : Fin 2} (h : Keeps q n s) :
    Keeps q n (s.macsecInstall mac) := by
  unfold State.macsecInstall
  extract_lets x0 x1 x2 x3
  have h4 : Keeps q n x2 := (by exact Keeps.upd h rfl rfl rfl rfl rfl rfl rfl rfl)
  try clear_value x2
  exact (ite_ind (Keeps q n) (State.raiseOn_keeps h4) (ite_ind (Keeps q n) h4 (State.condition_keeps h4)))

theorem State.towIn_keeps {p : TowPort} {type : Nat} {fr : List Byte} {f : State → State} (h : Keeps q n s) (hf5 : ∀ y0, Keeps q n y0 → Keeps q n (f y0)) :
    Keeps q n (s.towIn p type fr f) := by
  unfold State.towIn
  exact (ite_ind (Keeps q n) (ite_ind (Keeps q n) (hf5 _ h) (State.evt_keeps h)) h)

theorem State.towForward_keeps {p : TowPort} {fr : List Byte} (h : Keeps q n s) :
    Keeps q n (s.towForward p fr) := by
  unfold State.towForward
  exact (ite_ind (Keeps q n) h (State.towSend_keeps h))

theorem State.markSend_keeps (h : Keeps q n s) :
    Keeps q n (s.markSend) := by
  unfold State.markSend
  exact (State.towSend_keeps h)

theorem State.dtimeStep_keeps {fine : Nat} (h : Keeps q n s) :
    Keeps q n (s.dtimeStep fine) := by
  unfold State.dtimeStep
  extract_lets x0 x1
  have h2 : Keeps q n x1 := (by exact Keeps.upd h rfl rfl rfl rfl rfl rfl rfl rfl)
  try clear_value x1
  exact (State.each_keeps h2 (fun _ _ h3 => (State.upLink_keeps h3)))

theorem State.dtSlew_keeps {d : Int} (h : Keeps q n s) :
    Keeps q n (s.dtSlew d) := by
  unfold State.dtSlew
  extract_lets x0 x1
  exact (by exact Keeps.upd h rfl rfl rfl rfl rfl rfl rfl rfl)

theorem State.markTake_keeps {mark : Nat} (h : Keeps q n s) :
    Keeps q n (s.markTake mark) := by
  unfold State.markTake
  extract_lets x0 x1 x2
  have h3 : Keeps q n x1 := (ite_ind (Keeps q n) h (State.dtSlew_keeps h))
  try clear_value x1
  have h4 : Keeps q n x2 := (ite_ind (Keeps q n) (State.raiseOn_keeps h3) (State.condition_keeps h3))
  try clear_value x2
  exact (State.markSend_keeps h4)

theorem State.trainUp_keeps {up : TowPeer} (h : Keeps q n s) :
    Keeps q n (s.trainUp up) := by
  unfold State.trainUp
  extract_lets x0 x1 x2 x3 x4 x5 x6
  have h7 : Keeps q n x2 := (by exact Keeps.upd h rfl rfl rfl rfl rfl rfl rfl rfl)
  try clear_value x2
  have h8 : Keeps q n x4 := (by exact Keeps.upd h rfl rfl rfl rfl rfl rfl rfl rfl)
  try clear_value x4
  have h10 : Keeps q n x5 := (State.when_keeps h8 (fun _ h9 => (State.dtimeStep_keeps h9)))
  try clear_value x5
  exact (ite_ind (Keeps q n) (ite_ind (Keeps q n) (by exact Keeps.upd h7 rfl rfl rfl rfl rfl rfl rfl rfl) h7) (ite_ind (Keeps q n) (State.raiseF_keeps h8) (ite_ind (Keeps q n) (State.condition_keeps (by exact Keeps.upd h10 rfl rfl rfl rfl rfl rfl rfl rfl)) (State.raiseOn_keeps (by exact Keeps.upd h10 rfl rfl rfl rfl rfl rfl rfl rfl)))))

theorem State.trainDn_keeps {nb : TowPeer} (h : Keeps q n s) :
    Keeps q n (s.trainDn nb) := by
  unfold State.trainDn
  extract_lets x0 x1
  have h2 : Keeps q n x1 := (by exact Keeps.upd h rfl rfl rfl rfl rfl rfl rfl rfl)
  try clear_value x1
  exact (ite_ind (Keeps q n) (by exact Keeps.upd h rfl rfl rfl rfl rfl rfl rfl rfl) (ite_ind (Keeps q n) (State.raiseF_keeps h2) h2))

theorem State.angleRefTake_keeps {pl : List Byte} (h : Keeps q n s) :
    Keeps q n (s.angleRefTake pl) := by
  unfold State.angleRefTake
  extract_lets x0 x1 x2 x3
  have h4 : Keeps q n x3 := (by exact Keeps.upd h rfl rfl rfl rfl rfl rfl rfl rfl)
  try clear_value x3
  exact (State.each_keeps h4 (fun _ _ h5 => (ite_ind (Keeps q n) (by
    extract_lets x6 x7
    exact (ite_ind (Keeps q n) h5 (State.upFl_keeps (State.squash_keeps h5)))) h5)))

theorem State.symbolTake_keeps {p : TowPort} (h : Keeps q n s) :
    Keeps q n (s.symbolTake p) := by
  unfold State.symbolTake
  extract_lets x0 x1 x2 x3 x4
  have h5 : Keeps q n x1 := (ite_ind (Keeps q n) (by exact Keeps.upd h rfl rfl rfl rfl rfl rfl rfl rfl) h)
  try clear_value x1
  have h6 : Keeps q n x2 := (State.irq_keeps h5)
  try clear_value x2
  exact (ite_ind (Keeps q n) h6 (State.raise_keeps (by exact Keeps.upd h6 rfl rfl rfl rfl rfl rfl rfl rfl)))

theorem State.sentIn_keeps {k : Fin 4} {fr : SentFrame} (h : Keeps q n s) :
    Keeps q n (s.sentIn k fr) := by
  unfold State.sentIn
  extract_lets x0 x1 x2
  have h6 : ∀ y3 y4, Keeps q n y4 → Keeps q n (x1 y3 y4) := (fun _ _ h5 => (by exact Keeps.upd h5 rfl rfl rfl rfl rfl rfl rfl rfl))
  try clear_value x1
  have h7 : Keeps q n x2 := (State.irq_keeps (h6 _ _ h))
  try clear_value x2
  exact (ite_ind (Keeps q n) (ite_ind (Keeps q n) h7 (State.raiseF_keeps h7)) (h6 _ _ h7))

theorem State.aspiDone_keeps {k : Fin 4} {rx : List Byte} (h : Keeps q n s) :
    Keeps q n (s.aspiDone k rx) := by
  unfold State.aspiDone
  extract_lets x0 x1 x2 x3
  have h4 : Keeps q n x3 := (by exact Keeps.upd h rfl rfl rfl rfl rfl rfl rfl rfl)
  try clear_value x3
  exact (ite_ind (Keeps q n) h4 (State.irq_keeps h4))

theorem State.challenge_keeps {c : Word} (h : Keeps q n s) :
    Keeps q n (s.challenge c) := by
  unfold State.challenge
  extract_lets x0 x1 x2
  have h3 : Keeps q n x0 := (State.setWord_keeps h)
  try clear_value x0
  have h4 : Keeps q n x1 := (State.irq_keeps (State.setWord_keeps h3))
  try clear_value x1
  exact (by exact Keeps.upd h4 rfl rfl rfl rfl rfl rfl rfl rfl)

theorem State.answer_keeps {v : Word} (h : Keeps q n s) :
    Keeps q n (s.answer v) := by
  unfold State.answer
  extract_lets x0 x1
  have h2 : Keeps q n x0 := (State.flag_keeps (State.setWord_keeps h))
  try clear_value x0
  split
  · exact h2
  · extract_lets x3 x4 x5 x6
    have h7 : Keeps q n x4 := (State.flag_keeps h2)
    try clear_value x4
    have h8 : Keeps q n x6 := (by exact Keeps.upd h7 rfl rfl rfl rfl rfl rfl rfl rfl)
    try clear_value x6
    exact (ite_ind (Keeps q n) (ite_ind (Keeps q n) (State.pilotResume_keeps h8) h8) (State.pilotFailure_keeps h8))

theorem execWdgChallenge_keeps {dt : Nat} {c : Word} {a2 : State} (h : Keeps q n a2) :
    KeepsOut q n (execWdgChallenge dt c a2) := by
  unfold execWdgChallenge
  extract_lets x0
  have h1 : Keeps q n x0 := (State.tick_keeps h)
  try clear_value x0
  exact (ite_ind (Keeps q n) (State.challenge_keeps h1) h1)

theorem execWdgAnswerTimeout_keeps {dt : Nat} {a1 : State} (h : Keeps q n a1) :
    KeepsOut q n (execWdgAnswerTimeout dt a1) := by
  unfold execWdgAnswerTimeout
  extract_lets x0 x1
  have h2 : Keeps q n x0 := (State.tick_keeps h)
  try clear_value x0
  split
  · exact (ite_ind (Keeps q n) (State.pilotFailure_keeps (by exact Keeps.upd h2 rfl rfl rfl rfl rfl rfl rfl rfl)) h2)
  · exact h2

theorem execPilotLockstepError_keeps {dt : Nat} {a1 : State} (h : Keeps q n a1) :
    KeepsOut q n (execPilotLockstepError dt a1) := by
  unfold execPilotLockstepError
  exact (State.pilotFailure_keeps (State.tick_keeps h))

theorem execPilotRelease_keeps {dt : Nat} {c : Word} {a2 : State} (h : Keeps q n a2) :
    KeepsOut q n (execPilotRelease dt c a2) := by
  unfold execPilotRelease
  extract_lets x0 x1 x2
  have h3 : Keeps q n x0 := (State.tick_keeps h)
  try clear_value x0
  have h4 : Keeps q n x1 := (State.flag_keeps h3)
  try clear_value x1
  split
  · extract_lets x5 x6
    have h7 : Keeps q n x6 := (by exact Keeps.upd h4 rfl rfl rfl rfl rfl rfl rfl rfl)
    try clear_value x6
    exact (ite_ind (KeepsOut q n) (State.challenge_keeps h7) h3)
  · exact h3

theorem execFwTrialPass_keeps {dt : Nat} {a1 : State} (h : Keeps q n a1) :
    KeepsOut q n (execFwTrialPass dt a1) := by
  unfold execFwTrialPass
  extract_lets x0
  have h1 : Keeps q n x0 := (State.tick_keeps h)
  try clear_value x0
  split
  · extract_lets x2 x3 x4 x5
    have h6 : Keeps q n x3 := (ite_ind (Keeps q n) (State.upBank_keeps h1) h1)
    try clear_value x3
    have h7 : Keeps q n x4 := (State.upBank_keeps h6)
    try clear_value x4
    exact (ite_ind (KeepsOut q n) (State.upFw_keeps (by exact Keeps.upd h7 rfl rfl rfl rfl rfl rfl rfl rfl)) h1)
  · exact h1

theorem State.wordFinish_keeps {keep : Bool} (h : Keeps q n s) :
    Keeps q n (s.wordFinish keep) := by
  unfold State.wordFinish
  split
  · exact h
  · extract_lets x0 x1
    have h2 : Keeps q n x0 := (ite_ind (Keeps q n) h (State.setMemW_keeps h))
    try clear_value x0
    exact (State.nvmSync_keeps (State.flag_keeps (by exact Keeps.upd h2 rfl rfl rfl rfl rfl rfl rfl rfl)))

theorem State.wordStart_keeps {a : Nat} {w : Word} (h : Keeps q n s) :
    Keeps q n (s.wordStart a w) := by
  unfold State.wordStart
  extract_lets x0 x1
  have h2 : Keeps q n x0 := (State.wordFinish_keeps h)
  try clear_value x0
  exact (ite_ind (Keeps q n) (State.flag_keeps h) (State.flag_keeps (by exact Keeps.upd h2 rfl rfl rfl rfl rfl rfl rfl rfl)))

theorem State.nvmData_keeps {m : Master} {v : Word} (h : Keeps q n s) :
    Keeps q n (s.nvmData m v) := by
  unfold State.nvmData
  extract_lets x0 x1
  exact (ite_ind (Keeps q n) (State.flag_keeps h) (ite_ind (Keeps q n) (State.flag_keeps h) (State.wr_keeps (State.wordStart_keeps h))))

theorem State.nvmCommit_keeps {v : Word} (h : Keeps q n s) :
    Keeps q n (s.nvmCommit v) := by
  unfold State.nvmCommit
  extract_lets x0 x1 x2
  have h3 : Keeps q n x1 := (State.wr_keeps h)
  try clear_value x1
  have h4 : Keeps q n x2 := (ite_ind (Keeps q n) (State.wordStart_keeps h3) h3)
  try clear_value x2
  exact (ite_ind (Keeps q n) (State.wordStart_keeps h4) h4)

theorem execNvmcWordDone_keeps {dt : Nat} {powerLost : Bool} {a2 : State} (h : Keeps q n a2) :
    KeepsOut q n (execNvmcWordDone dt powerLost a2) := by
  unfold execNvmcWordDone
  extract_lets x0 x1
  have h2 : Keeps q n x0 := (State.tick_keeps h)
  try clear_value x0
  exact (ite_ind (KeepsOut q n) (State.wordFinish_keeps (State.spend_keeps h2)) (State.wordFinish_keeps h2))

theorem execRecCollectionEnd_keeps {dt : Nat} {a1 : State} (h : Keeps q n a1) :
    KeepsOut q n (execRecCollectionEnd dt a1) := by
  unfold execRecCollectionEnd
  extract_lets x0
  have h1 : Keeps q n x0 := (State.tick_keeps h)
  try clear_value x0
  split
  · exact (ite_ind (Keeps q n) (State.recEnd_keeps h1) h1)
  · exact h1

theorem execRecIdleRecord_keeps {dt : Nat} {b : Br} {a2 : State} (h : Keeps q n a2) :
    KeepsOut q n (execRecIdleRecord dt b a2) := by
  unfold execRecIdleRecord
  extract_lets x0
  have h1 : Keeps q n x0 := (State.tick_keeps h)
  try clear_value x0
  exact (ite_ind (Keeps q n) (State.recEnter_keeps h1) h1)

theorem execNvmWriteInhibit_keeps {dt : Nat} {vddm : Nat} {vddc : Nat} {a3 : State} (h : Keeps q n a3) :
    KeepsOut q n (execNvmWriteInhibit dt vddm vddc a3) := by
  unfold execNvmWriteInhibit
  extract_lets x0 x1
  have h2 : Keeps q n x0 := (State.tick_keeps h)
  try clear_value x0
  exact (State.flag_keeps (State.flag_keeps h2))

theorem execCanRxFrame_keeps {dt : Nat} {can : Fin 4} {ago : Nat} {fr : CanFrame} {a4 : State} (h : Keeps q n a4) :
    KeepsOut q n (execCanRxFrame dt can ago fr a4) := by
  unfold execCanRxFrame
  extract_lets x0
  have h1 : Keeps q n x0 := (State.tick_keeps h)
  try clear_value x0
  exact (ite_ind (KeepsOut q n) (State.canReceive_keeps h1) True.intro)

theorem execCanTxSelect_keeps {dt : Nat} {can : Fin 4} {a2 : State} (h : Keeps q n a2) :
    KeepsOut q n (execCanTxSelect dt can a2) := by
  unfold execCanTxSelect
  extract_lets x0
  have h1 : Keeps q n x0 := (State.tick_keeps h)
  try clear_value x0
  exact (ite_ind (Keeps q n) (by
    split
    · exact (State.canStart_keeps h1)
    · exact h1) h1)

theorem execCanTxEnd_keeps {dt : Nat} {can : Fin 4} {e : CanTxEnd} {a3 : State} (h : Keeps q n a3) :
    KeepsOut q n (execCanTxEnd dt can e a3) := by
  unfold execCanTxEnd
  exact (State.canTxEnd_keeps (State.tick_keeps h))

theorem execCanBusOff_keeps {dt : Nat} {can : Fin 4} {a2 : State} (h : Keeps q n a2) :
    KeepsOut q n (execCanBusOff dt can a2) := by
  unfold execCanBusOff
  extract_lets x0
  have h1 : Keeps q n x0 := (State.tick_keeps h)
  try clear_value x0
  exact (ite_ind (Keeps q n) (State.canBusOff_keeps h1) h1)

theorem execCanRecoveryDone_keeps {dt : Nat} {can : Fin 4} {a2 : State} (h : Keeps q n a2) :
    KeepsOut q n (execCanRecoveryDone dt can a2) := by
  unfold execCanRecoveryDone
  extract_lets x0
  have h1 : Keeps q n x0 := (State.tick_keeps h)
  try clear_value x0
  exact (ite_ind (Keeps q n) (State.canRecovered_keeps h1) h1)

theorem execCanIntegrated_keeps {dt : Nat} {can : Fin 4} {a2 : State} (h : Keeps q n a2) :
    KeepsOut q n (execCanIntegrated dt can a2) := by
  unfold execCanIntegrated
  extract_lets x0
  have h1 : Keeps q n x0 := (State.tick_keeps h)
  try clear_value x0
  exact (ite_ind (Keeps q n) (State.canConf_keeps (State.flag_keeps (State.upCan_keeps h1))) h1)

theorem execConvSequenceStart_keeps {dt : Nat} {i : ConvIx} {a2 : State} (h : Keeps q n a2) :
    KeepsOut q n (execConvSequenceStart dt i a2) := by
  unfold execConvSequenceStart
  extract_lets x0 x1 x2
  have h0 : Keeps q n x0 := State.tick_keeps h
  have h2 : Keeps q n x2 := by
    unfold x2
    clear_value x1
    cases x1
    · exact h0
    · exact State.takeEvent_keeps h0
  exact ite_ind (Keeps q n) (State.each_keeps h2 fun _ _ h3 => State.convDue_keeps h3) h0

theorem execConvSample_keeps {dt : Nat} {i : ConvIx} {e : Fin 16} {a3 : State} (h : Keeps q n a3) :
    KeepsOut q n (execConvSample dt i e a3) := by
  unfold execConvSample
  extract_lets x0
  have h1 : Keeps q n x0 := (State.tick_keeps h)
  try clear_value x0
  exact (ite_ind (Keeps q n) (by
    split
    · exact (State.convDue_keeps (State.takeEvent_keeps h1))
    · exact (ite_ind (Keeps q n) (State.convDue_keeps h1) h1)) h1)

theorem execConvResult_keeps {dt : Nat} {i : ConvIx} {r : ConvRes} {a3 : State} (h : Keeps q n a3) :
    KeepsOut q n (execConvResult dt i r a3) := by
  unfold execConvResult
  extract_lets x0
  have h1 : Keeps q n x0 := (State.tick_keeps h)
  try clear_value x0
  exact (ite_ind (KeepsOut q n) True.intro (ite_ind (Keeps q n) (by
    split
    · exact (State.startRetry_keeps (State.convResult_keeps h1))
    · exact (State.convResult_keeps h1)) h1))

theorem execVdcConversion_keeps {dt : Nat} {v : VdcReading} {a2 : State} (h : Keeps q n a2) :
    KeepsOut q n (execVdcConversion dt v a2) := by
  unfold execVdcConversion
  extract_lets x0 x1
  have h2 : Keeps q n x0 := (State.tick_keeps h)
  try clear_value x0
  exact (ite_ind (Keeps q n) h2 (State.vdcForm_keeps (State.each_keeps h2 (fun _ _ h3 => (ite_ind (Keeps q n) (State.vdcTake_keeps h3) h3)))))

theorem execMonitorRound_keeps {dt : Nat} {b : Br} {iu : Int} {iv : Int} {iw : Int} {a5 : State} (h : Keeps q n a5) :
    KeepsOut q n (execMonitorRound dt b iu iv iw a5) := by
  unfold execMonitorRound
  extract_lets x0 x1
  have h2 : Keeps q n x0 := (State.tick_keeps h)
  try clear_value x0
  exact (ite_ind (Keeps q n) (by
    split
    · extract_lets x3 x4 x5 x6 x7
      have h8 : Keeps q n x3 := (by
        unfold x3
        split
        · exact (State.takeEvent_keeps h2)
        · exact h2)
      try clear_value x3
      have h9 : Keeps q n x4 := (State.monStore_keeps h8)
      try clear_value x4
      have h10 : Keeps q n x5 := (State.upB_keeps h9)
      try clear_value x5
      have h11 : Keeps q n x6 := (State.irq_keeps h10)
      try clear_value x6
      have h12 : Keeps q n x7 := (ite_ind (Keeps q n) h11 (State.plausCheck_keeps h11))
      try clear_value x7
      exact (State.torqueMonitor_keeps h12)
    · exact h2) h2)

theorem State.slotAlign_keeps (h : Keeps q n s) :
    Keeps q n (s.slotAlign) := by
  unfold State.slotAlign
  exact (State.tick_keeps h)

theorem State.sendMark_keeps {k : LaneIx} (h : Keeps q n s) :
    Keeps q n (s.sendMark k) := by
  unfold State.sendMark
  extract_lets x0 x1
  have h3 : Keeps q n x1 := (State.when_keeps h (fun _ h2 => (State.spend_keeps h2)))
  try clear_value x1
  exact (State.upLink_keeps h3)

theorem State.sendSlot_keeps {k : LaneIx} (h : Keeps q n s) :
    Keeps q n (s.sendSlot k) := by
  unfold State.sendSlot
  extract_lets x0 x1 x2
  exact (ite_ind (Keeps q n) h (ite_ind (Keeps q n) (State.upLink_keeps h) (ite_ind (Keeps q n) (State.sendMark_keeps h) (by
    split
    · extract_lets x3
      exact (State.upLink_keeps h)
    · exact (State.sendMark_keeps h)))))

theorem State.comparators_keeps {k : LaneIx} {vdc : Int} (h : Keeps q n s) :
    Keeps q n (s.comparators k vdc) := by
  unfold State.comparators
  extract_lets x0 x1
  exact (State.upLane_keeps h)

theorem State.capStatus_keeps {k : LaneIx} (h : Keeps q n s) :
    Keeps q n (s.capStatus k) := by
  unfold State.capStatus
  extract_lets x0
  exact (State.flag_keeps (State.flag_keeps h))

theorem State.shadow_keeps {k : LaneIx} {rd : LaneReading} (h : Keeps q n s) :
    Keeps q n (s.shadow k rd) := by
  unfold State.shadow
  extract_lets x0 x1 x2 x3 x4 x5 x6
  have h8 : Keeps q n x0 := (State.each_keeps h (fun _ _ h7 => (State.setWord_keeps h7)))
  try clear_value x0
  have h9 : Keeps q n x1 := (State.setWord_keeps (State.setWord_keeps h8))
  try clear_value x1
  have h10 : Keeps q n x2 := (State.wr_keeps (State.wr_keeps h9))
  try clear_value x2
  have h11 : Keeps q n x3 := (State.wrI_keeps (State.wrI_keeps h10))
  try clear_value x3
  have h12 : Keeps q n x4 := (State.wrI_keeps (State.wrI_keeps h11))
  try clear_value x4
  have h13 : Keeps q n x5 := (State.wr_keeps (State.wr_keeps h12))
  try clear_value x5
  have h14 : Keeps q n x6 := (State.upLane_keeps h13)
  try clear_value x6
  exact (State.capStatus_keeps h14)

theorem State.writeConfirm_keeps {k : LaneIx} (h : Keeps q n s) :
    Keeps q n (s.writeConfirm k) := by
  unfold State.writeConfirm
  extract_lets x0
  exact (ite_ind (Keeps q n) (State.upLink_keeps h) h)

theorem State.deadReport_keeps {k : LaneIx} (h : Keeps q n s) :
    Keeps q n (s.deadReport k) := by
  unfold State.deadReport
  extract_lets x0 x1 x2
  have h3 : Keeps q n x1 := (State.upLane_keeps h)
  try clear_value x1
  exact (ite_ind (Keeps q n) h (State.wr_keeps h3))

theorem State.beatReport_keeps {k : LaneIx} {lost : Bool} (h : Keeps q n s) :
    Keeps q n (s.beatReport k lost) := by
  unfold State.beatReport
  exact (ite_ind (Keeps q n) (State.raiseOn_keeps h) (ite_ind (Keeps q n) (State.condition_keeps h) h))

theorem State.ovReport_keeps {k : LaneIx} (h : Keeps q n s) :
    Keeps q n (s.ovReport k) := by
  unfold State.ovReport
  extract_lets x0 x1 x2
  have h3 : Keeps q n x2 := (ite_ind (Keeps q n) h (State.condition_keeps h))
  try clear_value x2
  exact (ite_ind (Keeps q n) (ite_ind (Keeps q n) (State.ov2Decide_keeps h3) (State.ov2Settle_keeps h3)) h)

theorem State.chopReport_keeps {k : LaneIx} (h : Keeps q n s) :
    Keeps q n (s.chopReport k) := by
  unfold State.chopReport
  extract_lets x0 x1
  have h2 : Keeps q n x1 := (State.upLane_keeps h)
  try clear_value x1
  exact (ite_ind (Keeps q n) (State.chopFault_keeps h2) h2)

theorem State.statusFrame_keeps {k : LaneIx} {rd : LaneReading} (h : Keeps q n s) :
    Keeps q n (s.statusFrame k rd) := by
  unfold State.statusFrame
  extract_lets x0 x1 x2 x3 x4 x5 x6 x7 x8
  have h9 : Keeps q n x1 := (State.shadow_keeps (State.comparators_keeps h))
  try clear_value x1
  have h10 : Keeps q n x2 := (ite_ind (Keeps q n) h9 (State.irq_keeps h9))
  try clear_value x2
  have h11 : Keeps q n x4 := (State.upLink_keeps h10)
  try clear_value x4
  have h12 : Keeps q n x5 := (State.condition_keeps h11)
  try clear_value x5
  have h13 : Keeps q n x6 := (ite_ind (Keeps q n) (State.condition_keeps h12) h12)
  try clear_value x6
  have h14 : Keeps q n x7 := (State.ovReport_keeps (State.beatReport_keeps (State.writeConfirm_keeps h13)))
  try clear_value x7
  have h15 : Keeps q n x8 := (State.stoReadback_keeps (State.chopReport_keeps h14))
  try clear_value x8
  exact (State.deadReport_keeps h15)

theorem State.shootThrough_keeps {k : LaneIx} {t : Nat} {tp : Nat} (h : Keeps q n s) :
    Keeps q n (s.shootThrough k t tp) := by
  unfold State.shootThrough
  extract_lets x0 x1 x2 x3 x4 x5 x6 x7
  have h11 : ∀ y8 y9, Keeps q n y8 → Keeps q n (x3 y8 y9) := (fun _ _ h10 => (ite_ind (Keeps q n) h10 (State.upLink_keeps h10)))
  try clear_value x3
  have h12 : Keeps q n x4 := (State.wr_keeps (h11 _ _ (h11 _ _ h)))
  try clear_value x4
  have h13 : Keeps q n x5 := (State.wr_keeps (State.wr_keeps h12))
  try clear_value x5
  have h14 : Keeps q n x6 := (State.flag_keeps (State.flag_keeps h13))
  try clear_value x6
  have h15 : Keeps q n x7 := (State.raiseOn_keeps (State.condition_keeps h14))
  try clear_value x7
  exact (State.laneLatchedFault_keeps h15)

theorem State.legPair_keeps {k : LaneIx} {j : LaneIx} (h : Keeps q n s) :
    Keeps q n (s.legPair k j) := by
  unfold State.legPair
  extract_lets x0 x1 x2 x3 x4
  have h5 : Keeps q n x1 := (State.wr_keeps (State.wr_keeps (State.wr_keeps h)))
  try clear_value x1
  have h6 : Keeps q n x2 := (State.flag_keeps (State.flag_keeps h5))
  try clear_value x2
  have h8 : Keeps q n x3 := (State.each_keeps h6 (fun _ _ h7 => (State.urgent_keeps h7)))
  try clear_value x3
  have h9 : Keeps q n x4 := (ite_ind (Keeps q n) (State.upB_keeps h8) h8)
  try clear_value x4
  exact (State.raise_keeps h9)

theorem State.tripRelay_keeps {k : LaneIx} (h : Keeps q n s) :
    Keeps q n (s.tripRelay k) := by
  unfold State.tripRelay
  extract_lets x0 x1 x2 x3 x4 x5 x6
  have h7 : Keeps q n x4 := (by exact Keeps.upd h rfl rfl rfl rfl rfl rfl rfl rfl)
  try clear_value x4
  have h8 : Keeps q n x5 := (State.urgent_keeps h7)
  try clear_value x5
  have h9 : Keeps q n x6 := (by
    unfold x6
    split
    · exact (State.shootThrough_keeps h8)
    · exact h8)
  try clear_value x6
  exact (ite_ind (Keeps q n) (by
    split
    · exact (State.legPair_keeps h9)
    · exact h9) h)

theorem State.urgentDone_keeps {k : LaneIx} {u : Urgent} (h : Keeps q n s) :
    Keeps q n (s.urgentDone k u) := by
  unfold State.urgentDone
  exact (State.upLink_keeps h)

theorem State.planTurnOn_keeps {k : LaneIx} {env : EdgeEnv} (h : Keeps q n s) :
    Keeps q n (s.planTurnOn k env) := by
  unfold State.planTurnOn
  extract_lets x0
  exact (ite_ind (Keeps q n) (State.upLane_keeps h) h)

theorem execLaneEdgeExecute_keeps {dt : Nat} {lane : LaneIx} {env : EdgeEnv} {a3 : State} (h : Keeps q n a3) :
    KeepsOut q n (execLaneEdgeExecute dt lane env a3) := by
  unfold execLaneEdgeExecute
  extract_lets x0
  have h1 : Keeps q n x0 := (State.tick_keeps h)
  try clear_value x0
  exact (by
    split
    · exact (State.edgeRun_keeps h1)
    · exact (State.planTurnOn_keeps h1))

theorem State.learn_keeps {k : LaneIx} {off : Bool} {ts : Nat} (h : Keeps q n s) :
    Keeps q n (s.learn k off ts) := by
  unfold State.learn
  extract_lets x0 x1 x2 x3
  exact (ite_ind (Keeps q n) (ite_ind (Keeps q n) (State.gstPut_keeps h) (ite_ind (Keeps q n) (State.gstPut_keeps h) h)) h)

theorem execLaneEdgeComplete_keeps {dt : Nat} {lane : LaneIx} {t : EdgeMeas} {a3 : State} (h : Keeps q n a3) :
    KeepsOut q n (execLaneEdgeComplete dt lane t a3) := by
  unfold execLaneEdgeComplete
  extract_lets x0
  have h1 : Keeps q n x0 := (State.tick_keeps h)
  try clear_value x0
  exact (by
    split
    · exact (State.learn_keeps (State.ownPut_keeps h1))
    · exact h1)

theorem execLaneHeartbeatLoss_keeps {dt : Nat} {lane : LaneIx} {a2 : State} (h : Keeps q n a2) :
    KeepsOut q n (execLaneHeartbeatLoss dt lane a2) := by
  unfold execLaneHeartbeatLoss
  extract_lets x0 x1
  have h2 : Keeps q n x0 := (State.tick_keeps h)
  try clear_value x0
  have h3 : Keeps q n x1 := (State.upLane_keeps h2)
  try clear_value x1
  exact (ite_ind (Keeps q n) (State.auxApply_keeps (State.laneForce_keeps (State.ownFlag_keeps h3))) h2)

theorem State.laneWelcome_keeps {k : LaneIx} (h : Keeps q n s) :
    Keeps q n (s.laneWelcome k) := by
  unfold State.laneWelcome
  exact (ite_ind (Keeps q n) h (State.each_keeps h (fun _ _ h0 => (State.laneSet_keeps h0))))

theorem execLaneTrained_keeps {dt : Nat} {lane : LaneIx} {rt : Nat} {a3 : State} (h : Keeps q n a3) :
    KeepsOut q n (execLaneTrained dt lane rt a3) := by
  unfold execLaneTrained
  extract_lets x0 x1 x2 x3 x4 x5
  have h6 : Keeps q n x0 := (State.tick_keeps h)
  try clear_value x0
  have h7 : Keeps q n x2 := (ite_ind (Keeps q n) h6 (State.upLink_keeps h6))
  try clear_value x2
  have h8 : Keeps q n x3 := (State.upLink_keeps h7)
  try clear_value x3
  have h9 : Keeps q n x4 := (State.upLane_keeps h8)
  try clear_value x4
  have h10 : Keeps q n x5 := (State.markLoad_keeps h9)
  try clear_value x5
  exact (ite_ind (Keeps q n) h6 (State.laneWelcome_keeps (State.laneApply_keeps h10)))

theorem execLanePowerUp_keeps {dt : Nat} {lane : LaneIx} {pass : Bool} {a3 : State} (h : Keeps q n a3) :
    KeepsOut q n (execLanePowerUp dt lane pass a3) := by
  unfold execLanePowerUp
  extract_lets x0 x1
  have h2 : Keeps q n x0 := (State.upLane_keeps (State.laneBlank_keeps (State.tick_keeps h)))
  try clear_value x0
  have h3 : Keeps q n x1 := (State.upLink_keeps h2)
  try clear_value x1
  exact (ite_ind (Keeps q n) h3 (State.raiseOn_keeps h3))

theorem execPlanNowSymbol_keeps {dt : Nat} {lane : LaneIx} {a2 : State} (h : Keeps q n a2) :
    KeepsOut q n (execPlanNowSymbol dt lane a2) := by
  unfold execPlanNowSymbol
  exact (State.laneForce_keeps (State.urgentDone_keeps (State.tick_keeps h)))

theorem execAscNowSymbol_keeps {dt : Nat} {lane : LaneIx} {a2 : State} (h : Keeps q n a2) :
    KeepsOut q n (execAscNowSymbol dt lane a2) := by
  unfold execAscNowSymbol
  exact (State.laneForce_keeps (State.urgentDone_keeps (State.tick_keeps h)))

theorem execLegLockSymbol_keeps {dt : Nat} {lane : LaneIx} {a2 : State} (h : Keeps q n a2) :
    KeepsOut q n (execLegLockSymbol dt lane a2) := by
  unfold execLegLockSymbol
  exact (State.laneApply_keeps (State.latchTake_keeps (State.upLane_keeps (State.urgentDone_keeps (State.tick_keeps h)))))

theorem execLegFreeSymbol_keeps {dt : Nat} {lane : LaneIx} {a2 : State} (h : Keeps q n a2) :
    KeepsOut q n (execLegFreeSymbol dt lane a2) := by
  unfold execLegFreeSymbol
  exact (State.laneApply_keeps (State.upLane_keeps (State.urgentDone_keeps (State.tick_keeps h))))

theorem execLaneShortCircuit_keeps {dt : Nat} {lane : LaneIx} {r : ShortReading} {a3 : State} (h : Keeps q n a3) :
    KeepsOut q n (execLaneShortCircuit dt lane r a3) := by
  unfold execLaneShortCircuit
  extract_lets x0
  have h1 : Keeps q n x0 := (State.tick_keeps h)
  try clear_value x0
  exact (ite_ind (Keeps q n) (State.laneTrip_keeps h1) (ite_ind (Keeps q n) (State.laneTrip_keeps h1) h1))

theorem execLaneDesat_keeps {dt : Nat} {v : DesatReading} {a2 : State} (h : Keeps q n a2) :
    KeepsOut q n (execLaneDesat dt v a2) := by
  unfold execLaneDesat
  extract_lets x0
  have h1 : Keeps q n x0 := (State.tick_keeps h)
  try clear_value x0
  exact (ite_ind (Keeps q n) (State.laneTrip_keeps h1) h1)

theorem execLaneVddlTrip_keeps {dt : Nat} {lane : LaneIx} {mv : Int} {a3 : State} (h : Keeps q n a3) :
    KeepsOut q n (execLaneVddlTrip dt lane mv a3) := by
  unfold execLaneVddlTrip
  extract_lets x0
  have h1 : Keeps q n x0 := (State.upLane_keeps (State.tick_keeps h))
  try clear_value x0
  exact (ite_ind (Keeps q n) (State.laneTrip_keeps h1) h1)

theorem execLaneVeelTrip_keeps {dt : Nat} {lane : LaneIx} {mv : Int} {a3 : State} (h : Keeps q n a3) :
    KeepsOut q n (execLaneVeelTrip dt lane mv a3) := by
  unfold execLaneVeelTrip
  extract_lets x0 x1
  have h2 : Keeps q n x0 := (State.upLane_keeps (State.tick_keeps h))
  try clear_value x0
  exact (ite_ind (Keeps q n) (State.laneTrip_keeps h2) h2)

theorem execLaneVddlWarn_keeps {dt : Nat} {lane : LaneIx} {mv : Int} {a3 : State} (h : Keeps q n a3) :
    KeepsOut q n (execLaneVddlWarn dt lane mv a3) := by
  unfold execLaneVddlWarn
  extract_lets x0 x1
  have h2 : Keeps q n x0 := (State.upLane_keeps (State.tick_keeps h))
  try clear_value x0
  have h3 : Keeps q n x1 := (State.raiseOn_keeps (State.evt_keeps (State.ownFlag_keeps h2)))
  try clear_value x1
  exact (ite_ind (Keeps q n) (ite_ind (Keeps q n) (State.upMod_keeps h3) h3) h2)

theorem execLaneSupplyLoss_keeps {dt : Nat} {lane : LaneIx} {mv : Int} {hvs : Int} {a4 : State} (h : Keeps q n a4) :
    KeepsOut q n (execLaneSupplyLoss dt lane mv hvs a4) := by
  unfold execLaneSupplyLoss
  extract_lets x0
  have h1 : Keeps q n x0 := (State.upLane_keeps (State.tick_keeps h))
  try clear_value x0
  exact (ite_ind (Keeps q n) (ite_ind (Keeps q n) (State.upLane_keeps (State.gateDrop_keeps h1)) (State.auxApply_keeps (State.upLane_keeps h1))) h1)

theorem execLaneOv3_keeps {dt : Nat} {lane : LaneIx} {mv : Int} {a3 : State} (h : Keeps q n a3) :
    KeepsOut q n (execLaneOv3 dt lane mv a3) := by
  unfold execLaneOv3
  extract_lets x0 x1
  have h2 : Keeps q n x0 := (State.tick_keeps h)
  try clear_value x0
  exact (ite_ind (Keeps q n) (State.laneForce_keeps (State.ownFlag_keeps (State.upLane_keeps h2))) h2)

theorem execLaneRetryWaitEnd_keeps {dt : Nat} {lane : LaneIx} {active : Bool} {a3 : State} (h : Keeps q n a3) :
    KeepsOut q n (execLaneRetryWaitEnd dt lane active a3) := by
  unfold execLaneRetryWaitEnd
  extract_lets x0 x1
  have h2 : Keeps q n x0 := (State.tick_keeps h)
  try clear_value x0
  have h3 : Keeps q n x1 := (State.evt_keeps (State.laneHome_keeps h2))
  try clear_value x1
  exact (ite_ind (Keeps q n) (ite_ind (Keeps q n) (State.laneLatchedFault_keeps (State.laneLatch_keeps h2)) (State.laneConds_keeps (State.urgent_keeps h3))) h2)

theorem execLaneAscWaitTimeout_keeps {dt : Nat} {lane : LaneIx} {a2 : State} (h : Keeps q n a2) :
    KeepsOut q n (execLaneAscWaitTimeout dt lane a2) := by
  unfold execLaneAscWaitTimeout
  extract_lets x0
  have h1 : Keeps q n x0 := (State.tick_keeps h)
  try clear_value x0
  exact (ite_ind (Keeps q n) (State.raise_keeps h1) h1)

theorem execLaneChopMismatch_keeps {dt : Nat} {v : ChopReading} {a2 : State} (h : Keeps q n a2) :
    KeepsOut q n (execLaneChopMismatch dt v a2) := by
  unfold execLaneChopMismatch
  extract_lets x0
  have h1 : Keeps q n x0 := (State.tick_keeps h)
  try clear_value x0
  exact (ite_ind (Keeps q n) (State.upLane_keeps h1) h1)

theorem execLaneAutoDischarge_keeps {dt : Nat} {lane : LaneIx} {mv : Int} {a3 : State} (h : Keeps q n a3) :
    KeepsOut q n (execLaneAutoDischarge dt lane mv a3) := by
  unfold execLaneAutoDischarge
  extract_lets x0 x1
  have h2 : Keeps q n x0 := (State.tick_keeps h)
  try clear_value x0
  exact (ite_ind (Keeps q n) (State.auxApply_keeps (State.upLane_keeps h2)) h2)

theorem execLaneAutoDischargeEnd_keeps {dt : Nat} {lane : LaneIx} {cause : AutoDisEnd} {a3 : State} (h : Keeps q n a3) :
    KeepsOut q n (execLaneAutoDischargeEnd dt lane cause a3) := by
  unfold execLaneAutoDischargeEnd
  extract_lets x0 x1 x2
  have h3 : Keeps q n x0 := (State.tick_keeps h)
  try clear_value x0
  have h4 : Keeps q n x1 := (State.upLane_keeps h3)
  try clear_value x1
  have h5 : Keeps q n x2 := (ite_ind (Keeps q n) (State.upLane_keeps h4) h4)
  try clear_value x2
  exact (ite_ind (Keeps q n) (State.auxApply_keeps h5) h3)

theorem execLaneCapStop_keeps {dt : Nat} {lane : LaneIx} {a2 : State} (h : Keeps q n a2) :
    KeepsOut q n (execLaneCapStop dt lane a2) := by
  unfold execLaneCapStop
  extract_lets x0
  have h1 : Keeps q n x0 := (State.tick_keeps h)
  try clear_value x0
  exact (ite_ind (Keeps q n) (State.upLane_keeps h1) h1)

theorem execLaneCapCopied_keeps {dt : Nat} {lane : LaneIx} {a2 : State} (h : Keeps q n a2) :
    KeepsOut q n (execLaneCapCopied dt lane a2) := by
  unfold execLaneCapCopied
  extract_lets x0
  have h1 : Keeps q n x0 := (State.tick_keeps h)
  try clear_value x0
  exact (ite_ind (Keeps q n) (State.irq_keeps (State.flag_keeps (State.upLane_keeps h1))) h1)

end Sys2Proof.Machine
end

