-- ==== Sys2Proof/Laws/KeepBus.lean ====
section
/-! SUPPORT. Preservation laws, one for each definition: the register bus. Each says that the definition keeps the queue,
time and the sound parts of a state (`Keeps`). -/

namespace Sys2Proof.Machine

variable {q : List Instr} {n : Nat} {s : State}

theorem State.busFail_keeps {m : Master} {addr : Nat} (h : Keeps q n s) :
    Keeps q n (s.busFail m addr) := by
  unfold State.busFail
  extract_lets x0
  exact (State.raiseF_keeps (by exact Keeps.upd h rfl rfl rfl rfl rfl rfl rfl rfl))

theorem State.busDone_keeps (h : Keeps q n s) :
    Keeps q n (s.busDone) := by
  unfold State.busDone
  extract_lets x0
  exact (by exact Keeps.upd h rfl rfl rfl rfl rfl rfl rfl rfl)

theorem State.busGive_keeps {w : Word} (h : Keeps q n s) :
    Keeps q n (s.busGive w) := by
  unfold State.busGive
  exact (by exact Keeps.upd h rfl rfl rfl rfl rfl rfl rfl rfl)

theorem State.rangeErr_keeps {block : Nat} (h : Keeps q n s) :
    Keeps q n (s.rangeErr block) := by
  unfold State.rangeErr
  split
  · exact (State.flag_keeps h)
  · exact h

theorem State.laneBus_keeps {v : WriteView} {w : Word} (h : Keeps q n s) :
    Keeps q n (s.laneBus v w) := by
  unfold State.laneBus
  extract_lets x0 x1 x2 x3 x4
  have h5 : Keeps q n x4 := (State.laneSend_keeps h)
  try clear_value x4
  exact (ite_ind (Keeps q n) h (ite_ind (Keeps q n) (State.wr_keeps h) (ite_ind (Keeps q n) (State.upLink_keeps (State.wr_keeps h5)) h5)))

theorem State.memBus_keeps {r : Region} {a : Nat} {w : Word} (h : Keeps q n s) :
    Keeps q n (s.memBus r a w) := by
  unfold State.memBus
  split
  · exact (ite_ind (Keeps q n) (State.evt_keeps h) (State.setMemW_keeps h))
  · exact (State.setMemW_keeps h)
  · exact (State.setMemW_keeps h)
  · exact h

theorem State.keeperFail_keeps {code : Nat} (h : Keeps q n s) :
    Keeps q n (s.keeperFail code) := by
  unfold State.keeperFail
  extract_lets x0 x1 x2 x3 x4 x5 x6
  have h7 : Keeps q n x2 := (State.raiseOn_keeps h)
  try clear_value x2
  have h8 : Keeps q n x3 := (State.flag_keeps (State.flag_keeps h7))
  try clear_value x3
  have h9 : Keeps q n x4 := (State.wr_keeps h8)
  try clear_value x4
  have h10 : Keeps q n x6 := (by exact Keeps.upd h9 rfl rfl rfl rfl rfl rfl rfl rfl)
  try clear_value x6
  exact (ite_ind (Keeps q n) h (State.react_keeps h10))

theorem State.beat_keeps {v : Nat} (h : Keeps q n s) :
    Keeps q n (s.beat v) := by
  unfold State.beat
  extract_lets x0 x1
  have h2 : Keeps q n x0 := (State.wr_keeps h)
  try clear_value x0
  exact (ite_ind (Keeps q n) (by exact Keeps.upd h2 rfl rfl rfl rfl rfl rfl rfl rfl) (State.keeperFail_keeps h))

theorem State.sourceLine_keeps {f : FaultSrc} (h : Keeps q n s) :
    Keeps q n (s.sourceLine f) := by
  unfold State.sourceLine
  exact (ite_ind (Keeps q n) (ite_ind (Keeps q n) (State.keeperFail_keeps h) (ite_ind (Keeps q n) h (ite_ind (Keeps q n) h (State.raiseOn_keeps h)))) (State.condition_keeps h))

theorem State.regsReset_keeps {lo hi : Nat} {inst : Nat → Bool} (h : Keeps q n s) :
    Keeps q n (s.regsReset lo hi inst) := by
  unfold State.regsReset
  exact Keeps.regsFilter h

theorem State.selectReset_keeps {a : Nat} (h : Keeps q n s) :
    Keeps q n (s.selectReset a) := by
  unfold State.selectReset
  exact (State.regsReset_keeps h)

theorem State.blockClear_keeps {m : Master} {code : Nat} (h : Keeps q n s) : Keeps q n (s.blockClear m code) := by
  unfold State.blockClear
  extract_lets win
  have hw : ∀ s b i, Keeps q n s → Keeps q n (win s b i) := fun _ _ _ h => State.regsReset_keeps h
  clear_value win
  refine dite_ind (Keeps q n) (fun _ => ?_) fun _ => ?_
  · exact State.canLevel_keeps (State.upCan_keeps (State.selectReset_keeps (State.selectReset_keeps
      (State.regsReset_keeps (State.regsReset_keeps h)))))
  refine ite_ind (Keeps q n) (State.selectReset_keeps h) (ite_ind (Keeps q n) (State.selectReset_keeps h) ?_)
  refine dite_ind (Keeps q n) (fun _ => ?_) fun _ => ?_
  · exact State.selectReset_keeps (by exact Keeps.upd h rfl rfl rfl rfl rfl rfl rfl rfl)
  refine dite_ind (Keeps q n) (fun _ => ?_) fun _ => ?_
  · exact State.selectReset_keeps (by exact Keeps.upd h rfl rfl rfl rfl rfl rfl rfl rfl)
  refine dite_ind (Keeps q n) (fun _ => ?_) fun _ => ?_
  · exact State.selectReset_keeps (by exact Keeps.upd h rfl rfl rfl rfl rfl rfl rfl rfl)
  refine ite_ind (Keeps q n) h (dite_ind (Keeps q n) (fun _ => ?_) fun _ => ?_)
  · exact State.irqBy_keeps (State.wr_keeps (State.selectReset_keeps (State.upCrc_keeps (hw _ _ _ h))))
  refine ite_ind (Keeps q n) (State.irqLevel_keeps (State.regsReset_keeps (Keeps.cntsReset h))) ?_
  refine dite_ind (Keeps q n) (fun _ => ?_) fun _ => h
  exact State.selectReset_keeps (State.upPort_keeps (hw _ _ _ h))

theorem State.blockReset_keeps {m : Master} {code : Nat} {open_ : Bool} (h : Keeps q n s) :
    Keeps q n (s.blockReset m code open_) := by
  unfold State.blockReset
  extract_lets x0
  have h1 : Keeps q n x0 := (State.wr_keeps h)
  try clear_value x0
  exact (ite_ind (Keeps q n) (State.flag_keeps (State.flag_keeps h1)) (State.flag_keeps (State.flag_keeps (State.blockClear_keeps h1))))

theorem State.pilotHoldWrite_keeps {hold : Bool} (h : Keeps q n s) :
    Keeps q n (s.pilotHoldWrite hold) := by
  unfold State.pilotHoldWrite
  extract_lets x0 x1 x2
  have h3 : Keeps q n x0 := (State.pilotLocksOut_keeps h)
  try clear_value x0
  exact (ite_ind (Keeps q n) (ite_ind (Keeps q n) h (State.pilotIntoReset_keeps (by exact Keeps.upd h3 rfl rfl rfl rfl rfl rfl rfl rfl))) (ite_ind (Keeps q n) (State.flag_keeps (by exact Keeps.upd h rfl rfl rfl rfl rfl rfl rfl rfl)) h))

theorem State.hookSys_keeps {m : Master} {a : Nat} {w : Word} {open_ : Bool} (h : Keeps q n s) :
    Keeps q n (s.hookSys m a w open_) := by
  unfold State.hookSys
  extract_lets x0 x1
  have h2 : Keeps q n x1 := (State.pilotHoldWrite_keeps h)
  try clear_value x1
  exact (ite_ind (Keeps q n) (ite_ind (Keeps q n) (ite_ind (Keeps q n) (State.warmReset_keeps h2) h2) h) (ite_ind (Keeps q n) (ite_ind (Keeps q n) (State.blockReset_keeps h) h) (ite_ind (Keeps q n) (ite_ind (Keeps q n) (State.standbyEnter_keeps h) h) (ite_ind (Keeps q n) (State.irqBy_keeps h) (ite_ind (Keeps q n) (ite_ind (Keeps q n) (State.challenge_keeps h) h) (ite_ind (Keeps q n) (State.answer_keeps h) (ite_ind (Keeps q n) (State.irqBy_keeps h) h)))))))

theorem State.lockUntie_keeps {lk : Lk} (h : Keeps q n s) : Keeps q n (s.lockUntie lk) := by
  unfold State.lockUntie
  split
  · refine ite_ind (Keeps q n) (State.lockIrqs_keeps (State.each_keeps (State.flag_keeps (State.upLock_keeps ?_ ?_))
      fun _ _ h2 => State.upB_keeps h2)) h
    · exact Keeps.upd h rfl rfl rfl rfl rfl rfl rfl rfl
    · intro _ _
      exact Lock.put_wf rfl
  · exact h

theorem State.lockDone_keeps {m : Master} {lk : Lk} (h : Keeps q n s) :
    Keeps q n (s.lockDone m lk) := by
  unfold State.lockDone
  extract_lets x0 x1 x2 x3 x4 x5
  have h6 : Keeps q n x0 := (State.lockUntie_keeps h)
  try clear_value x0
  have h7 : Keeps q n x2 := (ite_ind (Keeps q n) (State.flag_keeps (State.reply_keeps h6)) (State.reply_keeps h6))
  try clear_value x2
  have h8 : Keeps q n x5 := (by exact Keeps.upd h7 rfl rfl rfl rfl rfl rfl rfl rfl)
  try clear_value x5
  exact (ite_ind (Keeps q n) (State.flag_keeps h6) (State.cmdComplete_keeps h8))

theorem State.hookLock_keeps {m : Master} {a : Nat} {w : Word} (h : Keeps q n s) :
    Keeps q n (s.hookLock m a w) := by
  unfold State.hookLock
  exact (ite_ind (Keeps q n) (State.lockDone_keeps h) h)

theorem State.modCommit_keeps {b : Br} (h : Keeps q n s) :
    Keeps q n (s.modCommit b) := by
  unfold State.modCommit
  extract_lets x0 x1
  have h3 : Keeps q n x1 := (State.when_keeps h (fun _ h2 => (State.flag_keeps h2)))
  try clear_value x1
  exact (State.upMod_keeps (State.flag_keeps h3))

theorem State.hookMod_keeps {o : State} {b : Br} {a : Nat} {w : Word} (h : Keeps q n s) (_hs2 : Keeps q n o) :
    Keeps q n (s.hookMod o b a w) := by
  unfold State.hookMod
  extract_lets x0
  have h2 : Keeps q n x0 := (State.when_keeps h (fun _ h1 => (State.directBegin_keeps h1)))
  try clear_value x0
  exact (ite_ind (Keeps q n) (State.when_keeps h2 (fun _ h3 => (State.upMod_keeps h3))) (ite_ind (Keeps q n) (ite_ind (Keeps q n) h (State.sendAdvance_keeps h)) (ite_ind (Keeps q n) (ite_ind (Keeps q n) (State.modCommit_keeps h) h) (ite_ind (Keeps q n) (State.squashGroup_keeps h) h))))

theorem State.fltCtrl_keeps {b : Br} {w : Word} (h : Keeps q n s) :
    Keeps q n (s.fltCtrl b w) := by
  unfold State.fltCtrl
  extract_lets x0
  have h2 : Keeps q n x0 := (ite_ind (Keeps q n) (State.holdBegin_keeps h) (State.when_keeps h (fun _ h1 => (State.holdEnd_keeps h1))))
  try clear_value x0
  exact (ite_ind (Keeps q n) (State.flightStart_keeps h2) (State.flightClear_keeps h2))

theorem State.hookFlt_keeps {m : Master} {b : Br} {a : Nat} {w : Word} (h : Keeps q n s) :
    Keeps q n (s.hookFlt m b a w) := by
  unfold State.hookFlt
  extract_lets x0
  have h1 : Keeps q n x0 := (State.irqLevel_keeps (State.irqLevel_keeps h))
  try clear_value x0
  exact (ite_ind (Keeps q n) (ite_ind (Keeps q n) (State.fltCtrl_keeps h) h) (ite_ind (Keeps q n) (State.irefWrite_keeps h) (ite_ind (Keeps q n) (State.irefWrite_keeps h) (ite_ind (Keeps q n) (State.irqBy_keeps h1) h))))

theorem State.hookConv_keeps {o : State} {i : ConvIx} {a : Nat} {w : Word} (h : Keeps q n s) (_hs2 : Keeps q n o) :
    Keeps q n (s.hookConv o i a w) := by
  unfold State.hookConv
  extract_lets x0
  exact (ite_ind (Keeps q n) (ite_ind (Keeps q n) (State.convShow_keeps (State.upConv_keeps h)) h) (ite_ind (Keeps q n) (State.setWord_keeps h) (ite_ind (Keeps q n) (State.wr_keeps h) h)))

theorem State.hookAclk_keeps {o : State} {b : Br} {a : Nat} {w : Word} (h : Keeps q n s) (_hs2 : Keeps q n o) :
    Keeps q n (s.hookAclk o b a w) := by
  unfold State.hookAclk
  extract_lets x0
  exact (ite_ind (Keeps q n) (ite_ind (Keeps q n) (State.aclkSelect_keeps (State.upAclk_keeps h)) h) (ite_ind (Keeps q n) (ite_ind (Keeps q n) (State.posConds_keeps (State.flag_keeps h)) h) h))

theorem State.hookPos_keeps {o : State} {p : PortIx} {a : Nat} {w : Word} (h : Keeps q n s) (hs2 : Keeps q n o) :
    Keeps q n (s.hookPos o p a w) := by
  unfold State.hookPos
  extract_lets x0
  exact (ite_ind (Keeps q n) (State.hookAclk_keeps h hs2) (ite_ind (Keeps q n) (State.hookAclk_keeps h hs2) (ite_ind (Keeps q n) (ite_ind (Keeps q n) (ite_ind (Keeps q n) h (State.aclkSelect_keeps h)) (State.portReinit_keeps h)) (ite_ind (Keeps q n) (State.portShow_keeps (State.posConds_keeps (State.wr_keeps h))) (ite_ind (Keeps q n) (State.upPort_keeps h) (ite_ind (Keeps q n) (State.upPort_keeps h) h))))))

theorem State.mbEmpty_keeps {c : Fin 4} {mb : Nat} (h : Keeps q n s) :
    Keeps q n (s.mbEmpty c mb) := by
  unfold State.mbEmpty
  exact (State.upCan_keeps (State.setWord_keeps h))

theorem State.hookCan_keeps {o : State} {c : Fin 4} {mb : Nat} {a : Nat} {w : Word} (h : Keeps q n s) (_hs2 : Keeps q n o) :
    Keeps q n (s.hookCan o c mb a w) := by
  unfold State.hookCan
  extract_lets x0 x1 x2 x3
  have h4 : Keeps q n x1 := (ite_ind (Keeps q n) h (State.canInit_keeps h))
  try clear_value x1
  have h5 : Keeps q n x2 := (ite_ind (Keeps q n) (State.mbRelease_keeps h) h)
  try clear_value x2
  have h6 : Keeps q n x3 := (ite_ind (Keeps q n) (State.mbCancel_keeps h5) h5)
  try clear_value x3
  exact (ite_ind (Keeps q n) (ite_ind (Keeps q n) (State.canRecover_keeps h4) h4) (ite_ind (Keeps q n) (State.canLevel_keeps h) (ite_ind (Keeps q n) (ite_ind (Keeps q n) (State.mbReq_keeps h6) h6) (ite_ind (Keeps q n) (ite_ind (Keeps q n) h (State.mbEmpty_keeps h)) h))))

theorem State.crcStart_keeps {u : Fin 4} (h : Keeps q n s) :
    Keeps q n (s.crcStart u) := by
  unfold State.crcStart
  extract_lets x0 x1 x2 x3
  exact (State.upCrc_keeps h)

theorem State.crcData_keeps {u : Fin 4} {size : AccSize} {v : Word} (h : Keeps q n s) :
    Keeps q n (s.crcData u size v) := by
  unfold State.crcData
  extract_lets x0 x1 x2 x3 x4 x5 x6 x7
  have h8 : Keeps q n x5 := (State.upCrc_keeps h)
  try clear_value x5
  have h9 : Keeps q n x6 := (State.wr_keeps h8)
  try clear_value x6
  exact (ite_ind (Keeps q n) (State.flag_keeps h) (ite_ind (Keeps q n) h8 (ite_ind (Keeps q n) (State.irqLevel_keeps (State.flag_keeps (State.wr_keeps h9))) h9)))

theorem State.crcLoad_keeps {u : Fin 4} {hi : Bool} {v : Word} (h : Keeps q n s) :
    Keeps q n (s.crcLoad u hi v) := by
  unfold State.crcLoad
  exact (ite_ind (Keeps q n) (ite_ind (Keeps q n) (State.upCrc_keeps h) (State.upCrc_keeps h)) (ite_ind (Keeps q n) h (State.upCrc_keeps h)))

theorem State.hookCrc_keeps {m : Master} {u : Fin 4} {a : Nat} {w : Word} {size : AccSize} (h : Keeps q n s) :
    Keeps q n (s.hookCrc m u a w size) := by
  unfold State.hookCrc
  exact (ite_ind (Keeps q n) (ite_ind (Keeps q n) (State.crcStart_keeps h) h) (ite_ind (Keeps q n) (State.crcData_keeps h) (ite_ind (Keeps q n) (State.crcLoad_keeps h) (ite_ind (Keeps q n) (State.crcLoad_keeps h) (ite_ind (Keeps q n) (State.irqBy_keeps h) h)))))

theorem State.hookEvc_keeps {k : Fin 32} {a : Nat} {w : Word} (h : Keeps q n s) :
    Keeps q n (s.hookEvc k a w) := by
  unfold State.hookEvc
  exact (ite_ind (Keeps q n) (State.evcLevel_keeps (ite_ind (Keeps q n) (State.evcSnapshot_keeps h) h)) (ite_ind (Keeps q n) (State.evcLevel_keeps (State.cntSetup_keeps h)) (ite_ind (Keeps q n) (ite_ind (Keeps q n) (State.evcLevel_keeps (State.cntClear_keeps h)) h) (ite_ind (Keeps q n) (State.evcLevel_keeps h) h))))

theorem State.inject_keeps {code : Nat} {loc : Nat} (h : Keeps q n s) :
    Keeps q n (s.inject code loc) := by
  unfold State.inject
  exact (ite_ind (Keeps q n) h (by
    split
    · exact (State.raise_keeps h)
    · exact (State.flag_keeps h)))

theorem State.hookFcr_keeps {m : Master} {a : Nat} {w : Word} (h : Keeps q n s) :
    Keeps q n (s.hookFcr m a w) := by
  unfold State.hookFcr
  exact (ite_ind (Keeps q n) h (ite_ind (Keeps q n) (State.beat_keeps h) (ite_ind (Keeps q n) (ite_ind (Keeps q n) (State.ackHere_keeps h) h) (ite_ind (Keeps q n) (State.inject_keeps h) h))))

theorem State.hookNvmc_keeps {m : Master} {a : Nat} {w : Word} (h : Keeps q n s) :
    Keeps q n (s.hookNvmc m a w) := by
  unfold State.hookNvmc
  exact (ite_ind (Keeps q n) (State.nvmData_keeps h) (ite_ind (Keeps q n) (ite_ind (Keeps q n) (State.nvmCommit_keeps h) h) h))

theorem State.readCapture_keeps {m : Master} {a : Nat} (h : Keeps q n s) :
    Keeps q n (s.readCapture m a) := by
  unfold State.readCapture
  repeat refine ite_ind (Keeps q n) (State.upCopy_keeps h) ?_
  exact h

theorem State.capRead_keeps {k : LaneIx} (h : Keeps q n s) :
    Keeps q n (s.capRead k) := by
  unfold State.capRead
  extract_lets x0 x1 x2
  have h3 : Keeps q n x2 := (State.wr_keeps h)
  try clear_value x2
  exact (ite_ind (Keeps q n) (State.busGive_keeps h3) (by
    split
    · exact (State.busGive_keeps h3)
    · exact (State.busGive_keeps (State.spend_keeps h3))))

theorem State.chamberRead_keeps {m : Master} {off : Nat} (h : Keeps q n s) :
    Keeps q n (s.chamberRead m off) := by
  unfold State.chamberRead
  extract_lets x0
  exact (ite_ind (Keeps q n) (ite_ind (Keeps q n) (State.busGive_keeps h) (State.busGive_keeps h)) (State.busGive_keeps (State.flag_keeps h)))

theorem State.regRead_keeps {m : Master} {block : Nat} {a : Nat} (h : Keeps q n s) :
    Keeps q n (s.regRead m block a) := by
  unfold State.regRead
  exact (ite_ind (Keeps q n) (State.busGive_keeps h) (ite_ind (Keeps q n) (State.chamberRead_keeps h) (ite_ind (Keeps q n) (State.capRead_keeps h) (by
    split
    · exact (State.busGive_keeps (State.readCapture_keeps h))
    · exact (State.busGive_keeps h)))))

theorem State.tableRead_keeps {m : Master} {a : Nat} (h : Keeps q n s) :
    Keeps q n (s.tableRead m a) := by
  unfold State.tableRead
  extract_lets x0
  exact (ite_ind (Keeps q n) (by
    split
    · exact (ite_ind (Keeps q n) (State.busGive_keeps h) (State.busGive_keeps h))
    · exact (State.busGive_keeps h)) (State.busGive_keeps h))

theorem State.busRead_keeps {m : Master} {addr : Nat} (h : Keeps q n s) : Keeps q n (s.busRead m addr) := by
  unfold State.busRead
  extract_lets a r
  refine ite_ind _ h (ite_ind _ (State.busFail_keeps h) ?_)
  cases r with
  | rom => exact State.busGive_keeps h
  | nvm => exact State.busGive_keeps h
  | pilotSram => exact State.busGive_keeps h
  | retained => exact State.busGive_keeps h
  | table => exact State.tableRead_keeps h
  | tableHole => exact State.busGive_keeps h
  | outside => exact State.busGive_keeps h
  | regs block => exact State.regRead_keeps h
  | linkWin k => exact ite_ind (Keeps q n) (State.busGive_keeps h) (State.busGive_keeps (State.spend_keeps h))

theorem State.eccRead_keeps {m : Master} {addr : Nat} (h : Keeps q n s) :
    Keeps q n (s.eccRead m addr) := by
  unfold State.eccRead
  extract_lets x0 x1 x2 x3 x4
  have h5 : Keeps q n x1 := (State.spend_keeps h)
  try clear_value x1
  have h6 : Keeps q n x2 := (State.flag_keeps (by exact Keeps.upd h5 rfl rfl rfl rfl rfl rfl rfl rfl))
  try clear_value x2
  have h7 : Keeps q n x3 := (State.evt_keeps (State.wr_keeps h6))
  try clear_value x3
  exact (ite_ind (Keeps q n) (ite_ind (Keeps q n) (State.pilotFailure_keeps h7) h7) (State.evt_keeps (State.wr_keeps (State.busGive_keeps h5))))

theorem State.busHook_keeps {o : State} {m : Master} {block : Nat} {inst : Nat} {a : Nat} {w : Word} {size : AccSize} {open_ : Bool} (h : Keeps q n s) (hs2 : Keeps q n o) :
    Keeps q n (s.busHook o m block inst a w size open_) := by
  unfold State.busHook
  split
  · exact (State.hookSys_keeps h)
  · exact (State.hookLock_keeps h)
  · exact (State.hookMod_keeps h hs2)
  · exact (State.hookFlt_keeps h)
  · exact (State.hookConv_keeps h hs2)
  · exact (State.hookPos_keeps h hs2)
  · exact (State.hookCan_keeps h hs2)
  · exact (State.hookCrc_keeps h)
  · exact (State.hookEvc_keeps h)
  · exact (State.hookFcr_keeps h)
  · exact (State.hookNvmc_keeps h)
  · exact h

theorem State.chamberWrite_keeps {m : Master} {off : Nat} {w : Word} (h : Keeps q n s) :
    Keeps q n (s.chamberWrite m off w) := by
  unfold State.chamberWrite
  extract_lets x0 x1
  exact (ite_ind (Keeps q n) (State.upLock_keeps h (fun _ hl => (Lock.put_wf hl))) (State.flag_keeps h))

theorem State.viewWrite_keeps {v : WriteView} {block : Nat} {w : Word} {size : AccSize} {open_ : Bool} (h : Keeps q n s) :
    Keeps q n (s.viewWrite v block w size open_) := by
  unfold State.viewWrite
  extract_lets x0 x1 x2
  have h4 : Keeps q n x1 := (State.when_keeps h (fun _ h3 => (State.raiseF_keeps h3)))
  try clear_value x1
  have h6 : Keeps q n x2 := (State.when_keeps h4 (fun _ h5 => (State.rangeErr_keeps h5)))
  try clear_value x2
  exact (ite_ind (Keeps q n) (State.rangeErr_keeps h4) (ite_ind (Keeps q n) (State.laneBus_keeps h6) (State.busHook_keeps (State.setWord_keeps h6) h6)))

theorem State.regWrite_keeps {m : Master} {block : Nat} {a : Nat} {w : Word} {size : AccSize} {open_ : Bool} (h : Keeps q n s) :
    Keeps q n (s.regWrite m block a w size open_) := by
  unfold State.regWrite
  exact (ite_ind (Keeps q n) h (ite_ind (Keeps q n) (State.chamberWrite_keeps h) (by
    split
    · exact (ite_ind (Keeps q n) h (State.viewWrite_keeps h))
    · exact h)))

theorem State.linkSelect_keeps {m : Master} {k : Nat} {a : Nat} {w : Word} (h : Keeps q n s) :
    Keeps q n (s.linkSelect m k a w) := by
  unfold State.linkSelect
  extract_lets x0
  exact (ite_ind (Keeps q n) (State.setWord_keeps h) (by
    split
    · exact (by exact Keeps.upd h rfl rfl rfl rfl rfl rfl rfl rfl)
    · exact h))

theorem State.busWriteX_keeps {m : Master} {addr : Nat} {w : Word} {size : AccSize} {open_ : Bool} (h : Keeps q n s) :
    Keeps q n (s.busWriteX m addr w size open_) := by
  unfold State.busWriteX
  extract_lets a r x
  have hx : Keeps q n x := State.busDone_keeps h
  clear_value r x
  refine ite_ind _ h (ite_ind _ (State.busFail_keeps h) ?_)
  cases r with
  | regs block => exact State.regWrite_keeps hx
  | linkWin k => exact State.linkSelect_keeps hx
  | _ => exact State.memBus_keeps hx

theorem State.busWrite_keeps {m : Master} {addr : Nat} {w : Word} (h : Keeps q n s) :
    Keeps q n (s.busWrite m addr w) := by
  unfold State.busWrite
  exact (State.busWriteX_keeps h)

theorem execLockDone_keeps {m : Master} {v : Word} {a2 : State} (h : Keeps q n a2) :
    KeepsOut q n (execLockDone m v a2) := by
  unfold execLockDone
  exact (State.busWrite_keeps h)

theorem execLockCtrlWrite_keeps {m : Master} {v : Word} {a2 : State} (h : Keeps q n a2) :
    KeepsOut q n (execLockCtrlWrite m v a2) := by
  unfold execLockCtrlWrite
  exact (State.busWrite_keeps h)

theorem execDeviceWarmReset_keeps {m : Master} {v : Word} {a2 : State} (h : Keeps q n a2) :
    KeepsOut q n (execDeviceWarmReset m v a2) := by
  unfold execDeviceWarmReset
  exact (State.busWrite_keeps h)

theorem execPilotHoldWrite_keeps {m : Master} {v : Word} {a2 : State} (h : Keeps q n a2) :
    KeepsOut q n (execPilotHoldWrite m v a2) := by
  unfold execPilotHoldWrite
  exact (State.busWrite_keeps h)

theorem execSysBlkRst_keeps {m : Master} {v : Word} {open_ : Bool} {a3 : State} (h : Keeps q n a3) :
    KeepsOut q n (execSysBlkRst m v open_ a3) := by
  unfold execSysBlkRst
  exact (State.busWriteX_keeps h)

theorem execSysStandbyEnter_keeps {m : Master} {v : Word} {wake : Bool} {a3 : State} (h : Keeps q n a3) :
    KeepsOut q n (execSysStandbyEnter m v wake a3) := by
  unfold execSysStandbyEnter
  extract_lets x0
  exact (State.busWrite_keeps (by exact Keeps.upd h rfl rfl rfl rfl rfl rfl rfl rfl))

theorem execKeeperBeat_keeps {dt : Nat} {m : Master} {v : Word} {a3 : State} (h : Keeps q n a3) :
    KeepsOut q n (execKeeperBeat dt m v a3) := by
  unfold execKeeperBeat
  exact (State.busWrite_keeps (State.tick_keeps h))

theorem execFcrAckWrite_keeps {dt : Nat} {m : Master} {v : Word} {a3 : State} (h : Keeps q n a3) :
    KeepsOut q n (execFcrAckWrite dt m v a3) := by
  unfold execFcrAckWrite
  exact (State.busWrite_keeps (State.tick_keeps h))

theorem execFcrInject_keeps {dt : Nat} {m : Master} {v : Word} {a3 : State} (h : Keeps q n a3) :
    KeepsOut q n (execFcrInject dt m v a3) := by
  unfold execFcrInject
  exact (State.busWrite_keeps (State.tick_keeps h))

theorem execWdgAnswer_keeps {dt : Nat} {m : Master} {v : Word} {a3 : State} (h : Keeps q n a3) :
    KeepsOut q n (execWdgAnswer dt m v a3) := by
  unfold execWdgAnswer
  exact (State.busWrite_keeps (State.tick_keeps h))

theorem execFltIrefWrite_keeps {dt : Nat} {m : Master} {a2 : Bool} {v : Word} {a4 : State} (h : Keeps q n a4) :
    KeepsOut q n (execFltIrefWrite dt m a2 v a4) := by
  unfold execFltIrefWrite
  exact (State.busWrite_keeps (State.tick_keeps h))

theorem execFltEnableSet_keeps {dt : Nat} {m : Master} {v : Word} {a3 : State} (h : Keeps q n a3) :
    KeepsOut q n (execFltEnableSet dt m v a3) := by
  unfold execFltEnableSet
  exact (State.busWrite_keeps (State.tick_keeps h))

theorem execFltEnableClear_keeps {dt : Nat} {m : Master} {v : Word} {a3 : State} (h : Keeps q n a3) :
    KeepsOut q n (execFltEnableClear dt m v a3) := by
  unfold execFltEnableClear
  exact (State.busWrite_keeps (State.tick_keeps h))

theorem execFltHoldWrite_keeps {dt : Nat} {m : Master} {v : Word} {a3 : State} (h : Keeps q n a3) :
    KeepsOut q n (execFltHoldWrite dt m v a3) := by
  unfold execFltHoldWrite
  exact (State.busWrite_keeps (State.tick_keeps h))

theorem execModFieldWrite_keeps {dt : Nat} {m : Master} {off : BitVec 12} {v : Word} {a4 : State} (h : Keeps q n a4) :
    KeepsOut q n (execModFieldWrite dt m off v a4) := by
  unfold execModFieldWrite
  exact (State.busWrite_keeps (State.tick_keeps h))

theorem execModCommit_keeps {dt : Nat} {m : Master} {v : Word} {a3 : State} (h : Keeps q n a3) :
    KeepsOut q n (execModCommit dt m v a3) := by
  unfold execModCommit
  exact (State.busWrite_keeps (State.tick_keeps h))

theorem execModArmWrite_keeps {dt : Nat} {m : Master} {v : Word} {a3 : State} (h : Keeps q n a3) :
    KeepsOut q n (execModArmWrite dt m v a3) := by
  unfold execModArmWrite
  exact (State.busWrite_keeps (State.tick_keeps h))

theorem execPortCfgWrite_keeps {m : Master} {v : Word} {a2 : State} (h : Keeps q n a2) :
    KeepsOut q n (execPortCfgWrite m v a2) := by
  unfold execPortCfgWrite
  exact (State.busWrite_keeps h)

theorem execPortTurnLoWrite_keeps {m : Master} {v : Word} {a2 : State} (h : Keeps q n a2) :
    KeepsOut q n (execPortTurnLoWrite m v a2) := by
  unfold execPortTurnLoWrite
  exact (State.busWrite_keeps h)

theorem execPortTurnHiWrite_keeps {m : Master} {v : Word} {a2 : State} (h : Keeps q n a2) :
    KeepsOut q n (execPortTurnHiWrite m v a2) := by
  unfold execPortTurnHiWrite
  exact (State.busWrite_keeps h)

theorem execLaneCtrlArmWrite_keeps {dt : Nat} {m : Master} {v : Word} {a3 : State} (h : Keeps q n a3) :
    KeepsOut q n (execLaneCtrlArmWrite dt m v a3) := by
  unfold execLaneCtrlArmWrite
  exact (State.busWrite_keeps (State.tick_keeps h))

theorem execLanePlanWrite_keeps {dt : Nat} {m : Master} {v : Word} {a3 : State} (h : Keeps q n a3) :
    KeepsOut q n (execLanePlanWrite dt m v a3) := by
  unfold execLanePlanWrite
  exact (State.busWrite_keeps (State.tick_keeps h))

theorem execLaneCmdRelease_keeps {dt : Nat} {m : Master} {v : Word} {a3 : State} (h : Keeps q n a3) :
    KeepsOut q n (execLaneCmdRelease dt m v a3) := by
  unfold execLaneCmdRelease
  exact (State.busWrite_keeps (State.tick_keeps h))

theorem execLaneCmdClear_keeps {dt : Nat} {m : Master} {v : Word} {a3 : State} (h : Keeps q n a3) :
    KeepsOut q n (execLaneCmdClear dt m v a3) := by
  unfold execLaneCmdClear
  exact (State.busWrite_keeps (State.tick_keeps h))

theorem execLaneCapArm_keeps {dt : Nat} {m : Master} {v : Word} {a3 : State} (h : Keeps q n a3) :
    KeepsOut q n (execLaneCapArm dt m v a3) := by
  unfold execLaneCapArm
  exact (State.busWrite_keeps (State.tick_keeps h))

theorem execLaneCapFire_keeps {dt : Nat} {m : Master} {v : Word} {a3 : State} (h : Keeps q n a3) :
    KeepsOut q n (execLaneCapFire dt m v a3) := by
  unfold execLaneCapFire
  exact (State.busWrite_keeps (State.tick_keeps h))

theorem execNvmcDataWrite_keeps {dt : Nat} {m : Master} {v : Word} {a3 : State} (h : Keeps q n a3) :
    KeepsOut q n (execNvmcDataWrite dt m v a3) := by
  unfold execNvmcDataWrite
  exact (State.busWrite_keeps (State.tick_keeps h))

theorem execNvmcInvalidate_keeps {dt : Nat} {m : Master} {v : Word} {a3 : State} (h : Keeps q n a3) :
    KeepsOut q n (execNvmcInvalidate dt m v a3) := by
  unfold execNvmcInvalidate
  exact (State.busWrite_keeps (State.tick_keeps h))

theorem execNvmcGo_keeps {dt : Nat} {m : Master} {v : Word} {a3 : State} (h : Keeps q n a3) :
    KeepsOut q n (execNvmcGo dt m v a3) := by
  unfold execNvmcGo
  exact (State.busWrite_keeps (State.tick_keeps h))

theorem execMbReq_keeps {dt : Nat} {m : Master} {v : Word} {a3 : State} (h : Keeps q n a3) :
    KeepsOut q n (execMbReq dt m v a3) := by
  unfold execMbReq
  exact (State.busWrite_keeps (State.tick_keeps h))

theorem execMbCancel_keeps {dt : Nat} {m : Master} {v : Word} {a3 : State} (h : Keeps q n a3) :
    KeepsOut q n (execMbCancel dt m v a3) := by
  unfold execMbCancel
  exact (State.busWrite_keeps (State.tick_keeps h))

theorem execMbRelease_keeps {dt : Nat} {m : Master} {v : Word} {a3 : State} (h : Keeps q n a3) :
    KeepsOut q n (execMbRelease dt m v a3) := by
  unfold execMbRelease
  exact (State.busWrite_keeps (State.tick_keeps h))

theorem execCanRecoverWrite_keeps {dt : Nat} {m : Master} {v : Word} {a3 : State} (h : Keeps q n a3) :
    KeepsOut q n (execCanRecoverWrite dt m v a3) := by
  unfold execCanRecoverWrite
  exact (State.busWrite_keeps (State.tick_keeps h))

theorem execCanInitWrite_keeps {dt : Nat} {m : Master} {v : Word} {a3 : State} (h : Keeps q n a3) :
    KeepsOut q n (execCanInitWrite dt m v a3) := by
  unfold execCanInitWrite
  exact (State.busWrite_keeps (State.tick_keeps h))

theorem execCrcStart_keeps {m : Master} {v : Word} {a2 : State} (h : Keeps q n a2) :
    KeepsOut q n (execCrcStart m v a2) := by
  unfold execCrcStart
  exact (State.busWrite_keeps h)

theorem execCrcData_keeps {m : Master} {v : Word} {size : AccSize} {a3 : State} (h : Keeps q n a3) :
    KeepsOut q n (execCrcData m v size a3) := by
  unfold execCrcData
  exact (State.busWriteX_keeps h)

theorem execCrcValWrite_keeps {m : Master} {hi : Bool} {v : Word} {a3 : State} (h : Keeps q n a3) :
    KeepsOut q n (execCrcValWrite m hi v a3) := by
  unfold execCrcValWrite
  exact (State.busWrite_keeps h)

theorem execCntClear_keeps {m : Master} {v : Word} {a2 : State} (h : Keeps q n a2) :
    KeepsOut q n (execCntClear m v a2) := by
  unfold execCntClear
  exact (State.busWrite_keeps h)

theorem execCntCfgWrite_keeps {m : Master} {v : Word} {a2 : State} (h : Keeps q n a2) :
    KeepsOut q n (execCntCfgWrite m v a2) := by
  unfold execCntCfgWrite
  exact (State.busWrite_keeps h)

theorem execEvcSnap_keeps {m : Master} {v : Word} {a2 : State} (h : Keeps q n a2) :
    KeepsOut q n (execEvcSnap m v a2) := by
  unfold execEvcSnap
  exact (State.busWrite_keeps h)

theorem execPortAngleRead_keeps {m : Master} {a1 : State} (h : Keeps q n a1) :
    KeepsOut q n (execPortAngleRead m a1) := by
  unfold execPortAngleRead
  exact (State.busRead_keeps h)

theorem execAclkAngleRead_keeps {m : Master} {b : Br} {a2 : State} (h : Keeps q n a2) :
    KeepsOut q n (execAclkAngleRead m b a2) := by
  unfold execAclkAngleRead
  exact (State.busRead_keeps h)

theorem execLaneCapDataRead_keeps {m : Master} {a1 : State} (h : Keeps q n a1) :
    KeepsOut q n (execLaneCapDataRead m a1) := by
  unfold execLaneCapDataRead
  exact (State.busRead_keeps h)

theorem execCrcValRead_keeps {m : Master} {res : Bool} {a2 : State} (h : Keeps q n a2) :
    KeepsOut q n (execCrcValRead m res a2) := by
  unfold execCrcValRead
  exact (State.busRead_keeps h)

theorem execCntValRead_keeps {m : Master} {snap : Bool} {a2 : State} (h : Keeps q n a2) :
    KeepsOut q n (execCntValRead m snap a2) := by
  unfold execCntValRead
  exact (State.busRead_keeps h)

theorem execRegisterWrite_keeps {dt : Nat} {m : Master} {addr : Word} {v : Word} {a4 : State} (h : Keeps q n a4) :
    KeepsOut q n (execRegisterWrite dt m addr v a4) := by
  unfold execRegisterWrite
  extract_lets x0
  have h1 : Keeps q n x0 := (State.tick_keeps h)
  try clear_value x0
  exact (ite_ind (KeepsOut q n) True.intro (State.busWrite_keeps h1))

theorem execBusReadError_keeps {dt : Nat} {m : Master} {addr : Word} {a3 : State} (h : Keeps q n a3) :
    KeepsOut q n (execBusReadError dt m addr a3) := by
  unfold execBusReadError
  extract_lets x0
  have h1 : Keeps q n x0 := (State.tick_keeps h)
  try clear_value x0
  exact (ite_ind (Keeps q n) (State.eccRead_keeps h1) (State.busRead_keeps h1))

end Sys2Proof.Machine
end

