-- ==== Sys2Proof/Laws/KeepCmd.lean ====
section
/-! SUPPORT. Preservation laws, one for each definition: the remaining commands. Each says that the definition keeps the queue,
time and the sound parts of a state (`Keeps`). -/

namespace Sys2Proof.Machine

variable {q : List Instr} {n : Nat} {s : State}

theorem execPrechargeFeedback_keeps {dt : Nat} {b : Br} {a2 : State} (h : Keeps q n a2) :
    KeepsOut q n (execPrechargeFeedback dt b a2) := by
  unfold execPrechargeFeedback
  extract_lets x0 x1
  have h2 : Keeps q n x0 := (State.tick_keeps h)
  try clear_value x0
  split
  · exact (ite_ind (Keeps q n) (State.contactors_keeps (State.each_keeps h2 (fun _ _ h3 => (State.upB_keeps h3)))) h2)
  · exact (ite_ind (Keeps q n) (State.contactors_keeps (State.each_keeps h2 (fun _ _ h4 => (State.upB_keeps h4)))) h2)
  · exact h2

theorem execPrechargeSettled_keeps {dt : Nat} {b : Br} {a2 : State} (h : Keeps q n a2) :
    KeepsOut q n (execPrechargeSettled dt b a2) := by
  unfold execPrechargeSettled
  extract_lets x0 x1
  have h2 : Keeps q n x0 := (State.tick_keeps h)
  try clear_value x0
  exact (ite_ind (Keeps q n) (State.contactors_keeps (State.each_keeps h2 (fun _ _ h3 => (State.upB_keeps h3)))) h2)

theorem execPrechargeTimeout_keeps {dt : Nat} {b : Br} {a2 : State} (h : Keeps q n a2) :
    KeepsOut q n (execPrechargeTimeout dt b a2) := by
  unfold execPrechargeTimeout
  extract_lets x0 x1
  have h2 : Keeps q n x0 := (State.tick_keeps h)
  try clear_value x0
  exact (ite_ind (Keeps q n) (State.raiseF_keeps (foldl_keeps h2 (fun _ _ h3 => (State.withdraw_keeps h3)))) h2)

theorem execPrechargeComplete_keeps {dt : Nat} {b : Br} {a2 : State} (h : Keeps q n a2) :
    KeepsOut q n (execPrechargeComplete dt b a2) := by
  unfold execPrechargeComplete
  extract_lets x0 x1
  have h2 : Keeps q n x0 := (State.tick_keeps h)
  try clear_value x0
  exact (ite_ind (Keeps q n) (ite_ind (Keeps q n) (State.guardCheck_keeps (foldl_keeps (State.enter_keeps h2) (fun _ _ h3 => (State.gstRestore_keeps h3)))) (State.raiseF_keeps h2)) h2)

theorem execDischargeContactorsOpen_keeps {dt : Nat} {b : Br} {a2 : State} (h : Keeps q n a2) :
    KeepsOut q n (execDischargeContactorsOpen dt b a2) := by
  unfold execDischargeContactorsOpen
  extract_lets x0 x1 x2
  have h3 : Keeps q n x0 := (State.tick_keeps h)
  try clear_value x0
  have h5 : Keeps q n x2 := (State.each_keeps h3 (fun _ _ h4 => (State.upB_keeps h4)))
  try clear_value x2
  exact (ite_ind (Keeps q n) (State.each_keeps h5 (fun _ _ h6 => (State.windingStep_keeps h6))) h3)

theorem execDischargeComplete_keeps {dt : Nat} {b : Br} {a2 : State} (h : Keeps q n a2) :
    KeepsOut q n (execDischargeComplete dt b a2) := by
  unfold execDischargeComplete
  extract_lets x0 x1
  have h2 : Keeps q n x0 := (State.tick_keeps h)
  try clear_value x0
  exact (ite_ind (Keeps q n) (State.enter_keeps h2) h2)

theorem execDischargeTimeout_keeps {dt : Nat} {b : Br} {a2 : State} (h : Keeps q n a2) :
    KeepsOut q n (execDischargeTimeout dt b a2) := by
  unfold execDischargeTimeout
  extract_lets x0 x1
  have h2 : Keeps q n x0 := (State.tick_keeps h)
  try clear_value x0
  exact (by
    split
    · exact (ite_ind (Keeps q n) (State.raiseF_keeps h2) h2)
    · exact h2)

theorem execAutoDischargeStart_keeps {dt : Nat} {a1 : State} (h : Keeps q n a1) :
    KeepsOut q n (execAutoDischargeStart dt a1) := by
  unfold execAutoDischargeStart
  extract_lets x0
  have h1 : Keeps q n x0 := (State.tick_keeps h)
  try clear_value x0
  exact (by
    split
    · exact (ite_ind (Keeps q n) (State.each_keeps h1 (fun _ _ h2 => (State.dischargeBegin_keeps h2))) h1)
    · exact h1)

theorem execShutdownNegRelease_keeps {dt : Nat} {b : Br} {a2 : State} (h : Keeps q n a2) :
    KeepsOut q n (execShutdownNegRelease dt b a2) := by
  unfold execShutdownNegRelease
  extract_lets x0 x1
  have h2 : Keeps q n x0 := (State.tick_keeps h)
  try clear_value x0
  exact (by
    split
    · exact (ite_ind (Keeps q n) (State.enter_keeps h2) h2)
    · exact h2)

theorem execContactorFeedbackChange_keeps {dt : Nat} {k : Fin 6} {level : Bool} {a3 : State} (h : Keeps q n a3) :
    KeepsOut q n (execContactorFeedbackChange dt k level a3) := by
  unfold execContactorFeedbackChange
  exact (State.feedbackSet_keeps (State.tick_keeps h))

theorem execContactorMismatch_keeps {dt : Nat} {k : Fin 4} {a2 : State} (h : Keeps q n a2) :
    KeepsOut q n (execContactorMismatch dt k a2) := by
  unfold execContactorMismatch
  extract_lets x0 x1 x2 x3
  have h4 : Keeps q n x0 := (State.tick_keeps h)
  try clear_value x0
  have h5 : Keeps q n x3 := (State.withdrawAll_keeps h4)
  try clear_value x3
  exact (ite_ind (Keeps q n) (State.contactorSettle_keeps (State.raiseOn_keeps h5)) h4)

theorem execWeirEvaluate_keeps {dt : Nat} {a1 : State} (h : Keeps q n a1) :
    KeepsOut q n (execWeirEvaluate dt a1) := by
  unfold execWeirEvaluate
  extract_lets x0
  have h1 : Keeps q n x0 := (State.tick_keeps h)
  try clear_value x0
  exact (foldl_keeps (State.weirEval_keeps h1) (fun _ _ h2 => (State.settleWatch_keeps h2)))

theorem execChopperCheckExpiry_keeps {dt : Nat} {a1 : State} (h : Keeps q n a1) :
    KeepsOut q n (execChopperCheckExpiry dt a1) := by
  unfold execChopperCheckExpiry
  extract_lets x0
  have h1 : Keeps q n x0 := (State.tick_keeps h)
  try clear_value x0
  exact (ite_ind (Keeps q n) (State.chopFault_keeps h1) h1)

theorem execFaultSourceAssert_keeps {dt : Nat} {srcs : List FaultSrc} {a2 : State} (h : Keeps q n a2) :
    KeepsOut q n (execFaultSourceAssert dt srcs a2) := by
  unfold execFaultSourceAssert
  extract_lets x0
  have h1 : Keeps q n x0 := (State.tick_keeps h)
  try clear_value x0
  exact (ite_ind (KeepsOut q n) True.intro (ite_ind (Keeps q n) (State.each_keeps h1 (fun _ _ h2 => (State.sourceLine_keeps h2))) h1))

theorem execFcrWarmResetTimer_keeps {dt : Nat} {a1 : State} (h : Keeps q n a1) :
    KeepsOut q n (execFcrWarmResetTimer dt a1) := by
  unfold execFcrWarmResetTimer
  extract_lets x0 x1
  have h2 : Keeps q n x0 := (State.tick_keeps h)
  try clear_value x0
  split
  · exact (ite_ind (Keeps q n) (State.warmReset_keeps h2) h2)
  · exact h2

theorem execKeeperHbTimeout_keeps {dt : Nat} {a1 : State} (h : Keeps q n a1) :
    KeepsOut q n (execKeeperHbTimeout dt a1) := by
  unfold execKeeperHbTimeout
  extract_lets x0
  have h1 : Keeps q n x0 := (State.tick_keeps h)
  try clear_value x0
  exact (ite_ind (Keeps q n) (State.keeperFail_keeps h1) h1)

theorem execKeeperLockstep_keeps {dt : Nat} {a1 : State} (h : Keeps q n a1) :
    KeepsOut q n (execKeeperLockstep dt a1) := by
  unfold execKeeperLockstep
  extract_lets x0
  have h1 : Keeps q n x0 := (State.tick_keeps h)
  try clear_value x0
  exact (ite_ind (Keeps q n) (State.keeperFail_keeps h1) h1)

theorem execAliveToggle_keeps {dt : Nat} {a1 : State} (h : Keeps q n a1) :
    KeepsOut q n (execAliveToggle dt a1) := by
  unfold execAliveToggle
  extract_lets x0 x1
  have h2 : Keeps q n x0 := (State.tick_keeps h)
  try clear_value x0
  exact (ite_ind (Keeps q n) (by exact Keeps.upd h2 rfl rfl rfl rfl rfl rfl rfl rfl) h2)

theorem execStageBoundary_keeps {dt : Nat} {b : Br} {a2 : State} (h : Keeps q n a2) :
    KeepsOut q n (execStageBoundary dt b a2) := by
  unfold execStageBoundary
  extract_lets x0
  have h1 : Keeps q n x0 := (State.tick_keeps h)
  try clear_value x0
  exact (ite_ind (Keeps q n) (State.each_keeps (State.each_keeps h1 (fun _ _ h2 => (State.engineAdvance_keeps h2))) (fun _ _ h3 => (State.boundaryWork_keeps h3))) h1)

theorem execPlanRefresh_keeps {dt : Nat} {b : Br} {a2 : State} (h : Keeps q n a2) :
    KeepsOut q n (execPlanRefresh dt b a2) := by
  unfold execPlanRefresh
  extract_lets x0
  have h1 : Keeps q n x0 := (State.standbyTimer_keeps (State.tick_keeps h))
  try clear_value x0
  exact (ite_ind (Keeps q n) (State.startRetry_keeps (State.windingStep_keeps (State.planRefresh_keeps h1))) h1)

theorem execStageCommit_keeps {dt : Nat} {b : Br} {a2 : State} (h : Keeps q n a2) :
    KeepsOut q n (execStageCommit dt b a2) := by
  unfold execStageCommit
  extract_lets x0
  have h1 : Keeps q n x0 := (State.tick_keeps h)
  try clear_value x0
  exact (State.each_keeps h1 (fun _ _ h2 => (ite_ind (Keeps q n) (State.commitDue_keeps h2) h2)))

theorem execStageCompute_keeps {dt : Nat} {b : Br} {a2 : State} (h : Keeps q n a2) :
    KeepsOut q n (execStageCompute dt b a2) := by
  unfold execStageCompute
  extract_lets x0
  have h1 : Keeps q n x0 := (State.tick_keeps h)
  try clear_value x0
  exact (State.each_keeps h1 (fun _ _ h2 => (ite_ind (Keeps q n) (State.computeStage_keeps h2) h2)))

theorem execGroupVerify_keeps {dt : Nat} {b : Br} {a2 : State} (h : Keeps q n a2) :
    KeepsOut q n (execGroupVerify dt b a2) := by
  unfold execGroupVerify
  extract_lets x0 x1 x2
  have h3 : Keeps q n x0 := (State.tick_keeps h)
  try clear_value x0
  exact (ite_ind (Keeps q n) (by
    split
    · exact (State.groupDone_keeps h3)
    · exact h3) (ite_ind (Keeps q n) (ite_ind (Keeps q n) h3 (State.dropGroup_keeps (State.plausCheck_keeps (State.showGroup_keeps h3)))) h3))

theorem execGroupMissing_keeps {dt : Nat} {b : Br} {a2 : State} (h : Keeps q n a2) :
    KeepsOut q n (execGroupMissing dt b a2) := by
  unfold execGroupMissing
  extract_lets x0
  have h1 : Keeps q n x0 := (State.tick_keeps h)
  try clear_value x0
  exact (ite_ind (Keeps q n) (by
    split
    · exact (ite_ind (Keeps q n) (State.groupMissed_keeps h1) h1)
    · exact h1) h1)

theorem execFlightStopEnd_keeps {dt : Nat} {b : Br} {a2 : State} (h : Keeps q n a2) :
    KeepsOut q n (execFlightStopEnd dt b a2) := by
  unfold execFlightStopEnd
  extract_lets x0
  have h1 : Keeps q n x0 := (State.tick_keeps h)
  try clear_value x0
  exact (ite_ind (Keeps q n) (State.flightStopped_keeps h1) h1)

theorem execFwBegin_keeps {lk : Lk} {a1 : State} (h : Keeps q n a1) :
    KeepsOut q n (execFwBegin lk a1) := by
  unfold execFwBegin
  extract_lets x0
  exact (State.serveCode_keeps h (fun _ _ h1 => (by
    extract_lets x2 x3 x4 x5 x6
    exact (checked_keeps h1 (fun _ h7 => (by
      extract_lets x8 x9
      have h10 : Keeps q n x9 := (ite_ind (Keeps q n) (by exact Keeps.upd h7 rfl rfl rfl rfl rfl rfl rfl rfl) (State.upBank_keeps h7))
      try clear_value x9
      exact (okWith_keeps (State.upFw_keeps h10))))))))

theorem execFwData_keeps {lk : Lk} {a1 : State} (h : Keeps q n a1) :
    KeepsOut q n (execFwData lk a1) := by
  unfold execFwData
  exact (State.serveCode_keeps h (fun _ _ h0 => (by
    extract_lets x1 x2
    exact (checked_keeps h0 (fun _ h3 => (okWith_keeps (State.upFw_keeps (State.setMemBytes_keeps h3))))))))

theorem execFwVerify_keeps {lk : Lk} {a1 : State} (h : Keeps q n a1) :
    KeepsOut q n (execFwVerify lk a1) := by
  unfold execFwVerify
  exact (State.serveCode_keeps h (fun _ _ h0 => (checked_keeps h0 (fun _ h1 => (okWith_keeps (State.upFw_keeps h1))))))

theorem execFwStatus_keeps {lk : Lk} {a1 : State} (h : Keeps q n a1) :
    KeepsOut q n (execFwStatus lk a1) := by
  unfold execFwStatus
  exact (State.serveCode_keeps h (fun _ _ h0 => (checked_keeps h0 (fun _ h1 => (by
    extract_lets x2 x3 x4
    exact (okWith_keeps h1))))))

theorem execFwActivate_keeps {lk : Lk} {a1 : State} (h : Keeps q n a1) :
    KeepsOut q n (execFwActivate lk a1) := by
  unfold execFwActivate
  exact (State.serveCode_keeps h (fun _ _ h0 => (by
    extract_lets x1 x2 x3 x4 x5
    exact (checked_keeps h0 (fun _ h6 => (ite_ind (KeepsAns q n) (by
      extract_lets x7 x8 x9
      have h10 : Keeps q n x8 := (by exact Keeps.upd h6 rfl rfl rfl rfl rfl rfl rfl rfl)
      try clear_value x8
      exact (okWith_keeps (State.upFw_keeps (by exact Keeps.upd h10 rfl rfl rfl rfl rfl rfl rfl rfl)))) (ite_ind (KeepsAns q n) (by
      extract_lets x11
      have h13 : Keeps q n x11 := (State.each_keeps h6 (fun _ _ h12 => (State.applyEntry_keeps h12)))
      try clear_value x11
      exact (okWith_keeps (State.upFw_keeps (State.upBank_keeps h13)))) (by
      extract_lets x14
      have h15 : Keeps q n x14 := (State.upFw_keeps (State.upBank_keeps h6))
      try clear_value x14
      exact (okWith_keeps (State.pilotRestartBegin_keeps h15))))))))))

theorem execPilotRestart_keeps {lk : Lk} {a1 : State} (h : Keeps q n a1) :
    KeepsOut q n (execPilotRestart lk a1) := by
  unfold execPilotRestart
  exact (State.serveCode_keeps h (fun _ _ h0 => (checked_keeps h0 (fun _ h1 => (okWith_keeps (State.pilotRestartBegin_keeps h1))))))

theorem execFwAbort_keeps {lk : Lk} {a1 : State} (h : Keeps q n a1) :
    KeepsOut q n (execFwAbort lk a1) := by
  unfold execFwAbort
  exact (State.serveCode_keeps h (fun _ _ h0 => (by
    extract_lets x1
    exact (checked_keeps h0 (fun _ h2 => (by
      extract_lets x3 x4
      have h5 : Keeps q n x4 := (ite_ind (Keeps q n) h2 (State.upBank_keeps h2))
      try clear_value x4
      exact (okWith_keeps (State.upFw_keeps h5))))))))

theorem execDeviceIdent_keeps {lk : Lk} {a1 : State} (h : Keeps q n a1) :
    KeepsOut q n (execDeviceIdent lk a1) := by
  unfold execDeviceIdent
  exact (State.serveCode_keeps h (fun _ _ h0 => (checked_keeps h0 (fun _ h1 => (okWith_keeps h1)))))

theorem execLcStatus_keeps {lk : Lk} {a1 : State} (h : Keeps q n a1) :
    KeepsOut q n (execLcStatus lk a1) := by
  unfold execLcStatus
  exact (State.serveCode_keeps h (fun _ _ h0 => (checked_keeps h0 (fun _ h1 => (okWith_keeps h1)))))

theorem execAuthChallenge_keeps {lk : Lk} {a1 : State} (h : Keeps q n a1) :
    KeepsOut q n (execAuthChallenge lk a1) := by
  unfold execAuthChallenge
  exact (State.serveCode_keeps h (fun _ _ h0 => (checked_keeps h0 (fun _ h1 => (by
    extract_lets x2 x3 x4
    have h5 : Keeps q n x3 := (State.spend_keeps h1)
    try clear_value x3
    exact (okWith_keeps (by exact Keeps.upd h5 rfl rfl rfl rfl rfl rfl rfl rfl)))))))

theorem execLcAdvance_keeps {lk : Lk} {a1 : State} (h : Keeps q n a1) :
    KeepsOut q n (execLcAdvance lk a1) := by
  unfold execLcAdvance
  exact (State.serveCode_keeps h (fun _ _ h0 => (by
    extract_lets x1 x2 x3 x4 x5 x6
    have h7 : Keeps q n x2 := (State.useNonce_keeps h0)
    try clear_value x2
    have h8 : Keeps q n x4 := (by exact Keeps.upd h7 rfl rfl rfl rfl rfl rfl rfl rfl)
    try clear_value x4
    have h9 : Keeps q n x6 := (ite_ind (Keeps q n) (by exact Keeps.upd h8 rfl rfl rfl rfl rfl rfl rfl rfl) h8)
    try clear_value x6
    iterate 4 refine ite_ind (KeepsAns q n) (failWith_keeps h0) ?_
    exact (ite_ind (KeepsAns q n) (okWith_keeps (ite_ind (Keeps q n) (State.scrap_keeps h9) h9)) (failWith_keeps (State.authFail_keeps (State.useNonce_keeps h0)))))))

theorem execDebugOpen_keeps {lk : Lk} {a1 : State} (h : Keeps q n a1) :
    KeepsOut q n (execDebugOpen lk a1) := by
  unfold execDebugOpen
  exact (State.serveCode_keeps h (fun _ _ h0 => (by
    extract_lets x1 x2 x3 x4 x5 x6
    have h7 : Keeps q n x2 := (State.useNonce_keeps h0)
    try clear_value x2
    have h8 : Keeps q n x5 := (ite_ind (Keeps q n) (by exact Keeps.upd h7 rfl rfl rfl rfl rfl rfl rfl rfl) h7)
    try clear_value x5
    iterate 4 refine ite_ind (KeepsAns q n) (failWith_keeps h0) ?_
    exact (ite_ind (KeepsAns q n) (okWith_keeps (ite_ind (Keeps q n) (by exact Keeps.upd h8 rfl rfl rfl rfl rfl rfl rfl rfl) (State.openAccess_keeps h8))) (failWith_keeps (State.authFail_keeps (State.useNonce_keeps h0)))))))

theorem execDeviceReset_keeps {lk : Lk} {a1 : State} (h : Keeps q n a1) :
    KeepsOut q n (execDeviceReset lk a1) := by
  unfold execDeviceReset
  exact (State.serveCode_keeps h (fun _ _ h0 => (checked_keeps h0 (fun _ h1 => (okWith_keeps (by exact Keeps.upd h1 rfl rfl rfl rfl rfl rfl rfl rfl))))))

theorem execUnknownCommand_keeps {lk : Lk} {a1 : State} (h : Keeps q n a1) :
    KeepsOut q n (execUnknownCommand lk a1) := by
  unfold execUnknownCommand
  exact (State.serve_keeps h (fun _ _ h0 => (failWith_keeps h0)))

theorem execDownlinkSlot_keeps {dt : Nat} {a1 : State} (h : Keeps q n a1) :
    KeepsOut q n (execDownlinkSlot dt a1) := by
  unfold execDownlinkSlot
  extract_lets x0
  have h1 : Keeps q n x0 := (State.slotAlign_keeps (State.tick_keeps h))
  try clear_value x0
  exact (ite_ind (Keeps q n) (State.each_keeps h1 (fun _ _ h2 => (State.sendSlot_keeps h2))) h1)

theorem execLaneTimeMark_keeps {dt : Nat} {lane : LaneIx} {fr : DownFrame} {a3 : State} (h : Keeps q n a3) :
    KeepsOut q n (execLaneTimeMark dt lane fr a3) := by
  unfold execLaneTimeMark
  exact (State.laneRx_keeps (State.tick_keeps h))

theorem execLaneTimeStep_keeps {dt : Nat} {lane : LaneIx} {fr : DownFrame} {a3 : State} (h : Keeps q n a3) :
    KeepsOut q n (execLaneTimeStep dt lane fr a3) := by
  unfold execLaneTimeStep
  exact (State.laneRx_keeps (State.tick_keeps h))

theorem execLaneEdgeFrame_keeps {dt : Nat} {lane : LaneIx} {fr : DownFrame} {a3 : State} (h : Keeps q n a3) :
    KeepsOut q n (execLaneEdgeFrame dt lane fr a3) := by
  unfold execLaneEdgeFrame
  exact (State.laneRx_keeps (State.tick_keeps h))

theorem execLaneRegWriteFrame_keeps {dt : Nat} {lane : LaneIx} {fr : DownFrame} {a3 : State} (h : Keeps q n a3) :
    KeepsOut q n (execLaneRegWriteFrame dt lane fr a3) := by
  unfold execLaneRegWriteFrame
  exact (State.laneRx_keeps (State.tick_keeps h))

theorem execLaneWriteRetry_keeps {dt : Nat} {lane : LaneIx} {a2 : State} (h : Keeps q n a2) :
    KeepsOut q n (execLaneWriteRetry dt lane a2) := by
  unfold execLaneWriteRetry
  extract_lets x0
  have h1 : Keeps q n x0 := (State.tick_keeps h)
  try clear_value x0
  exact (by
    split
    · exact (ite_ind (Keeps q n) (State.upLink_keeps h1) h1)
    · exact h1)

theorem execLaneStatusFrame_keeps {dt : Nat} {lane : LaneIx} {rd : LaneReading} {crcOk : Bool} {a4 : State} (h : Keeps q n a4) :
    KeepsOut q n (execLaneStatusFrame dt lane rd crcOk a4) := by
  unfold execLaneStatusFrame
  extract_lets x0
  have h1 : Keeps q n x0 := (State.tick_keeps h)
  try clear_value x0
  exact (ite_ind (Keeps q n) (State.evt_keeps h1) (ite_ind (Keeps q n) h1 (State.statusFrame_keeps h1)))

theorem execLaneUplinkLoss_keeps {dt : Nat} {lane : LaneIx} {a2 : State} (h : Keeps q n a2) :
    KeepsOut q n (execLaneUplinkLoss dt lane a2) := by
  unfold execLaneUplinkLoss
  extract_lets x0 x1
  have h2 : Keeps q n x0 := (State.tick_keeps h)
  try clear_value x0
  have h3 : Keeps q n x1 := (State.upLink_keeps h2)
  try clear_value x1
  exact (ite_ind (Keeps q n) (State.planNow_keeps (State.raiseOn_keeps h3)) h2)

theorem execTripSymbol_keeps {dt : Nat} {lane : LaneIx} {a2 : State} (h : Keeps q n a2) :
    KeepsOut q n (execTripSymbol dt lane a2) := by
  unfold execTripSymbol
  exact (State.tripRelay_keeps (State.tick_keeps h))

theorem execOv3Symbol_keeps {dt : Nat} {lane : LaneIx} {a2 : State} (h : Keeps q n a2) :
    KeepsOut q n (execOv3Symbol dt lane a2) := by
  unfold execOv3Symbol
  extract_lets x0
  have h1 : Keeps q n x0 := (State.tick_keeps h)
  try clear_value x0
  exact (ite_ind (Keeps q n) (State.raiseOn_keeps (State.ascNow_keeps h1)) h1)

theorem execEdgeSend_keeps {dt : Nat} {lane : LaneIx} {a2 : State} (h : Keeps q n a2) :
    KeepsOut q n (execEdgeSend dt lane a2) := by
  unfold execEdgeSend
  extract_lets x0 x1
  have h2 : Keeps q n x0 := (State.tick_keeps h)
  try clear_value x0
  exact (ite_ind (Keeps q n) h2 (State.sendEdges_keeps h2))

theorem execModLoadPoint_keeps {dt : Nat} {b : Br} {a2 : State} (h : Keeps q n a2) :
    KeepsOut q n (execModLoadPoint dt b a2) := by
  unfold execModLoadPoint
  extract_lets x0 x1
  have h2 : Keeps q n x0 := (State.tick_keeps h)
  try clear_value x0
  have h3 : Keeps q n x1 := (ite_ind (Keeps q n) (State.midLoad_keeps h2) (State.loadBuffer_keeps h2))
  try clear_value x1
  exact (ite_ind (Keeps q n) (ite_ind (Keeps q n) (State.planRefresh_keeps h3) h3) h2)

theorem execDirectPeriodBoundary_keeps {dt : Nat} {b : Br} {a2 : State} (h : Keeps q n a2) :
    KeepsOut q n (execDirectPeriodBoundary dt b a2) := by
  unfold execDirectPeriodBoundary
  extract_lets x0 x1 x2 x3
  have h4 : Keeps q n x0 := (State.tick_keeps h)
  try clear_value x0
  have h5 : Keeps q n x1 := (ite_ind (Keeps q n) h4 (State.loadBuffer_keeps h4))
  try clear_value x1
  have h6 : Keeps q n x2 := (State.directPeriod_keeps h5)
  try clear_value x2
  have h7 : Keeps q n x3 := (ite_ind (Keeps q n) (State.planRefresh_keeps h6) h6)
  try clear_value x3
  exact (ite_ind (Keeps q n) (State.boundaryCauses_keeps (State.motionStep_keeps h7)) h4)

theorem execEthFrameRx_keeps {dt : Nat} {mac : Fin 2} {fr : EthFrame} {a3 : State} (h : Keeps q n a3) :
    KeepsOut q n (execEthFrameRx dt mac fr a3) := by
  unfold execEthFrameRx
  extract_lets x0
  have h1 : Keeps q n x0 := (State.tick_keeps h)
  try clear_value x0
  exact (ite_ind (Keeps q n) (State.ethIn_keeps h1) h1)

theorem execGptpSync_keeps {dt : Nat} {mac : Fin 2} {ns : Nat} {ratio : Rat} {a4 : State} (h : Keeps q n a4) :
    KeepsOut q n (execGptpSync dt mac ns ratio a4) := by
  unfold execGptpSync
  extract_lets x0 x1
  have h2 : Keeps q n x0 := (State.tick_keeps h)
  try clear_value x0
  exact (ite_ind (Keeps q n) (State.condition_keeps (by exact Keeps.upd h2 rfl rfl rfl rfl rfl rfl rfl rfl)) h2)

theorem execTimeHoldoverEnd_keeps {dt : Nat} {a1 : State} (h : Keeps q n a1) :
    KeepsOut q n (execTimeHoldoverEnd dt a1) := by
  unfold execTimeHoldoverEnd
  extract_lets x0 x1
  have h2 : Keeps q n x0 := (State.tick_keeps h)
  try clear_value x0
  exact (ite_ind (Keeps q n) (State.raiseOn_keeps (by exact Keeps.upd h2 rfl rfl rfl rfl rfl rfl rfl rfl)) h2)

theorem execMacsecKeyInstall_keeps {dt : Nat} {mac : Fin 2} {a2 : State} (h : Keeps q n a2) :
    KeepsOut q n (execMacsecKeyInstall dt mac a2) := by
  unfold execMacsecKeyInstall
  extract_lets x0
  have h1 : Keeps q n x0 := (State.tick_keeps h)
  try clear_value x0
  exact (ite_ind (Keeps q n) (State.macsecInstall_keeps h1) h1)

theorem execEthLinkChange_keeps {dt : Nat} {mac : Fin 2} {up : Bool} {a3 : State} (h : Keeps q n a3) :
    KeepsOut q n (execEthLinkChange dt mac up a3) := by
  unfold execEthLinkChange
  extract_lets x0 x1 x2
  have h3 : Keeps q n x0 := (State.tick_keeps h)
  try clear_value x0
  have h4 : Keeps q n x2 := (State.irq_keeps (by exact Keeps.upd h3 rfl rfl rfl rfl rfl rfl rfl rfl))
  try clear_value x2
  exact (ite_ind (Keeps q n) (ite_ind (Keeps q n) (ite_ind (Keeps q n) (State.condition_keeps h4) h4) (State.raiseOn_keeps h4)) h3)

theorem execTowTraining_keeps {dt : Nat} {port : TowPort} {up : TowPeer} {a3 : State} (h : Keeps q n a3) :
    KeepsOut q n (execTowTraining dt port up a3) := by
  unfold execTowTraining
  extract_lets x0
  have h1 : Keeps q n x0 := (State.tick_keeps h)
  try clear_value x0
  exact (ite_ind (Keeps q n) (State.irq_keeps (by
    split
    · exact (State.trainUp_keeps h1)
    · exact (State.trainDn_keeps h1))) h1)

theorem execTowTimeMark_keeps {dt : Nat} {fr : List Byte} {a2 : State} (h : Keeps q n a2) :
    KeepsOut q n (execTowTimeMark dt fr a2) := by
  unfold execTowTimeMark
  exact (State.towIn_keeps (State.tick_keeps h) (fun _ h0 => (ite_ind (Keeps q n) (State.markTake_keeps h0) h0)))

theorem execTowRootTimeMark_keeps {dt : Nat} {a1 : State} (h : Keeps q n a1) :
    KeepsOut q n (execTowRootTimeMark dt a1) := by
  unfold execTowRootTimeMark
  extract_lets x0
  have h1 : Keeps q n x0 := (State.tick_keeps h)
  try clear_value x0
  exact (ite_ind (Keeps q n) (State.markSend_keeps h1) h1)

theorem execTowAngleRefSend_keeps {dt : Nat} {a1 : State} (h : Keeps q n a1) :
    KeepsOut q n (execTowAngleRefSend dt a1) := by
  unfold execTowAngleRefSend
  extract_lets x0 x1
  have h2 : Keeps q n x0 := (State.tick_keeps h)
  try clear_value x0
  exact (ite_ind (Keeps q n) (State.towRoute_keeps h2) h2)

theorem execTowAngleRef_keeps {dt : Nat} {port : TowPort} {fr : List Byte} {a3 : State} (h : Keeps q n a3) :
    KeepsOut q n (execTowAngleRef dt port fr a3) := by
  unfold execTowAngleRef
  exact (State.towIn_keeps (State.tick_keeps h) (fun _ h0 => (by
    extract_lets x1
    have h2 : Keeps q n x1 := (State.towForward_keeps h0)
    try clear_value x1
    exact (ite_ind (Keeps q n) (State.angleRefTake_keeps h2) h2))))

theorem execTowTorqueShare_keeps {dt : Nat} {port : TowPort} {fr : List Byte} {a3 : State} (h : Keeps q n a3) :
    KeepsOut q n (execTowTorqueShare dt port fr a3) := by
  unfold execTowTorqueShare
  exact (State.towIn_keeps (State.tick_keeps h) (fun _ h0 => (by
    extract_lets x1
    have h2 : Keeps q n x1 := (State.towForward_keeps h0)
    try clear_value x1
    exact (ite_ind (Keeps q n) (State.spApply_keeps h2) h2))))

theorem execTowShareTimeout_keeps {dt : Nat} {b : Br} {a2 : State} (h : Keeps q n a2) :
    KeepsOut q n (execTowShareTimeout dt b a2) := by
  unfold execTowShareTimeout
  extract_lets x0
  have h1 : Keeps q n x0 := (State.tick_keeps h)
  try clear_value x0
  exact (ite_ind (Keeps q n) (State.spTimeout_keeps h1) h1)

theorem execTowFaultSymbol_keeps {dt : Nat} {port : TowPort} {a2 : State} (h : Keeps q n a2) :
    KeepsOut q n (execTowFaultSymbol dt port a2) := by
  unfold execTowFaultSymbol
  extract_lets x0
  have h1 : Keeps q n x0 := (State.tick_keeps h)
  try clear_value x0
  exact (ite_ind (Keeps q n) (State.symbolTake_keeps h1) h1)

theorem execTowUpLost_keeps {dt : Nat} {a1 : State} (h : Keeps q n a1) :
    KeepsOut q n (execTowUpLost dt a1) := by
  unfold execTowUpLost
  extract_lets x0 x1 x2
  have h3 : Keeps q n x0 := (State.tick_keeps h)
  try clear_value x0
  have h4 : Keeps q n x2 := (State.raiseOn_keeps (State.irq_keeps (by exact Keeps.upd h3 rfl rfl rfl rfl rfl rfl rfl rfl)))
  try clear_value x2
  exact (ite_ind (Keeps q n) (ite_ind (Keeps q n) h4 (State.domainsLost_keeps h4)) h3)

theorem execSentFrame_keeps {dt : Nat} {k : Fin 4} {fr : SentFrame} {a3 : State} (h : Keeps q n a3) :
    KeepsOut q n (execSentFrame dt k fr a3) := by
  unfold execSentFrame
  extract_lets x0
  have h1 : Keeps q n x0 := (State.tick_keeps h)
  try clear_value x0
  exact (ite_ind (KeepsOut q n) True.intro (ite_ind (Keeps q n) (State.sentIn_keeps h1) h1))

theorem execAuxSpiTransferDone_keeps {dt : Nat} {k : Fin 4} {rx : List Byte} {a3 : State} (h : Keeps q n a3) :
    KeepsOut q n (execAuxSpiTransferDone dt k rx a3) := by
  unfold execAuxSpiTransferDone
  extract_lets x0
  have h1 : Keeps q n x0 := (State.tick_keeps h)
  try clear_value x0
  exact (ite_ind (Keeps q n) (State.aspiDone_keeps h1) h1)

theorem execTapInstruction_keeps {ir : TapIr} {a1 : State} (h : Keeps q n a1) :
    KeepsOut q n (execTapInstruction ir a1) := by
  unfold execTapInstruction
  extract_lets x0
  exact (by exact Keeps.upd h rfl rfl rfl rfl rfl rfl rfl rfl)

theorem execParamGet_keeps {lk : Lk} {a1 : State} (h : Keeps q n a1) :
    KeepsOut q n (execParamGet lk a1) := by
  unfold execParamGet
  exact (State.serveCode_keeps h (fun _ _ h0 => (by
    extract_lets x1
    exact (checked_keeps h0 (fun _ h2 => (okWith_keeps h2))))))

theorem execParamSet_keeps {lk : Lk} {a1 : State} (h : Keeps q n a1) :
    KeepsOut q n (execParamSet lk a1) := by
  unfold execParamSet
  exact (State.serveCode_keeps h (fun _ _ h0 => (by
    extract_lets x1 x2 x3
    exact (ite_ind (KeepsAns q n) (failWith_keeps h0) (ite_ind (KeepsAns q n) h0 (by
      split
      · exact h0
      · split
        · exact h0
        · exact (okWith_keeps (State.each_keeps h0 (fun _ _ h4 => (State.parAccept_keeps h4))))))))))

theorem execParamCheck_keeps {lk : Lk} {a1 : State} (h : Keeps q n a1) :
    KeepsOut q n (execParamCheck lk a1) := by
  unfold execParamCheck
  exact (State.serveCode_keeps h (fun _ _ h0 => (checked_keeps h0 (fun _ h1 => (by
    extract_lets x2
    exact (ite_ind (KeepsAns q n) (okWith_keeps h1) h1))))))

theorem execParamStore_keeps {lk : Lk} {a1 : State} (h : Keeps q n a1) :
    KeepsOut q n (execParamStore lk a1) := by
  unfold execParamStore
  exact (State.serveCode_keeps h (fun _ _ h0 => (by
    extract_lets x1
    exact (checked_keeps h0 (fun _ h2 => (okWith_keeps (State.storeBegin_keeps h2)))))))

theorem execStoreStatus_keeps {lk : Lk} {a1 : State} (h : Keeps q n a1) :
    KeepsOut q n (execStoreStatus lk a1) := by
  unfold execStoreStatus
  exact (State.serveCode_keeps h (fun _ _ h0 => (checked_keeps h0 (fun _ h1 => (by
    extract_lets x2
    exact (okWith_keeps h1))))))

theorem execParamDefaults_keeps {lk : Lk} (h : Keeps q n s) : KeepsOut q n (execParamDefaults lk s) := by
  unfold execParamDefaults
  refine State.serveCode_keeps h fun s p h1 => checked_keeps h1 fun t h2 => ?_
  have h3 : Keeps q n { t with params := { t.params with act := [], staged := [], confirmed := false } } :=
    ⟨h2.queue, h2.time, ⟨h2.wf.regs, h2.wf.mem, rfl, h2.wf.boot, h2.wf.locks, h2.wf.cnts⟩⟩
  exact okWith_keeps (State.parAll_keeps h3)

theorem execParamRevert_keeps {lk : Lk} {a1 : State} (h : Keeps q n a1) :
    KeepsOut q n (execParamRevert lk a1) := by
  unfold execParamRevert
  exact (State.serveCode_keeps h (fun _ _ h0 => (checked_keeps h0 (fun _ h1 => (okWith_keeps (State.takeSet_keeps h1))))))

theorem State.holdIfStill_keeps {p : PortIx} {th : Word} (h : Keeps q n s) :
    Keeps q n (s.holdIfStill p th) := by
  unfold State.holdIfStill
  extract_lets x0 x1
  exact (ite_ind (Keeps q n) (State.holdAngle_keeps h) h)

theorem State.countEdge_keeps {p : PortIx} {d : Int} {edge : Option Nat} (h : Keeps q n s) :
    Keeps q n (s.countEdge p d edge) := by
  unfold State.countEdge
  extract_lets x0 x1 x2 x3
  have h4 : Keeps q n x0 := (State.countMove_keeps h)
  try clear_value x0
  have h5 : Keeps q n x2 := (State.speedEdge_keeps h4)
  try clear_value x2
  exact (State.holdIfStill_keeps (State.portValue_keeps h5))

theorem State.incEdge_keeps {p : PortIx} {old : Nat} {new : Nat} (h : Keeps q n s) :
    Keeps q n (s.incEdge p old new) := by
  unfold State.incEdge
  extract_lets x0 x1
  exact (ite_ind (Keeps q n) h (ite_ind (Keeps q n) (State.portCond_keeps h) (State.countEdge_keeps (State.portCond_keeps h))))

theorem State.coarseEdge_keeps {p : PortIx} {old : Nat} {new : Nat} (h : Keeps q n s) :
    Keeps q n (s.coarseEdge p old new) := by
  unfold State.coarseEdge
  extract_lets x0 x1 x2 x3 x4 x5 x6 x7 x8
  have h9 : Keeps q n x4 := (State.portCond_keeps h)
  try clear_value x4
  have h10 : Keeps q n x7 := (State.countMove_keeps h9)
  try clear_value x7
  have h11 : Keeps q n x8 := (State.upPort_keeps h10)
  try clear_value x8
  exact (ite_ind (Keeps q n) h (ite_ind (Keeps q n) (State.portCond_keeps h) (ite_ind (Keeps q n) (State.portValue_keeps h11) (State.portSee_keeps h11))))

theorem State.hallCode_keeps {p : PortIx} {code : Nat} (h : Keeps q n s) :
    Keeps q n (s.hallCode p code) := by
  unfold State.hallCode
  extract_lets x0 x1
  have h2 : Keeps q n x0 := (State.portCond_keeps h)
  try clear_value x0
  have h3 : Keeps q n x1 := (State.portCond_keeps h2)
  try clear_value x1
  split
  · exact (State.portCond_keeps h)
  · extract_lets x4 x5 x6
    have h7 : Keeps q n x5 := (State.unrefClear_keeps (State.upPort_keeps h2))
    try clear_value x5
    exact (ite_ind (Keeps q n) (State.portValue_keeps h7) (ite_ind (Keeps q n) h2 (ite_ind (Keeps q n) (State.countEdge_keeps h3) (State.portSee_keeps (State.upPort_keeps (State.portCond_keeps h2))))))

theorem State.portEdge_keeps {p : PortIx} {a : Bool} {bb : Bool} {c : Bool} {an : Bool} {bn : Bool} {cn : Bool} (h : Keeps q n s) :
    Keeps q n (s.portEdge p a bb c an bn cn) := by
  unfold State.portEdge
  extract_lets x0 x1 x2 x3 x4 x5
  have h6 : Keeps q n x4 := (State.upPort_keeps h)
  try clear_value x4
  have h7 : Keeps q n x5 := (State.portCond_keeps h6)
  try clear_value x5
  exact (ite_ind (Keeps q n) (by
    split
    · exact (State.coarseEdge_keeps h7)
    · exact (State.incEdge_keeps h7)
    · exact (State.hallCode_keeps h7)
    · exact h7) h7)

theorem State.absCount_keeps {p : PortIx} {c : Nat} (h : Keeps q n s) :
    Keeps q n (s.absCount p c) := by
  unfold State.absCount
  split
  · exact (State.upPort_keeps h)
  · exact (State.upPort_keeps (State.countMove_keeps h))

theorem State.posSample_keeps {p : PortIx} {w : Option Nat} (h : Keeps q n s) :
    Keeps q n (s.posSample p w) := by
  unfold State.posSample
  extract_lets x0 x1 x2 x3 x4 x5
  have h6 : Keeps q n x0 := (State.upPort_keeps h)
  try clear_value x0
  have h7 : Keeps q n x3 := (State.upPort_keeps (State.portCond_keeps (State.portCond_keeps h6)))
  try clear_value x3
  have h8 : Keeps q n x4 := (ite_ind (Keeps q n) (State.unrefClear_keeps h7) h7)
  try clear_value x4
  split
  · exact (State.portCond_keeps h6)
  · extract_lets x9 x10 x11 x12 x13 x14
    have h15 : Keeps q n x12 := (State.absCount_keeps h8)
    try clear_value x12
    have h16 : Keeps q n x13 := (ite_ind (Keeps q n) h15 (State.speedEdge_keeps h15))
    try clear_value x13
    exact (State.holdIfStill_keeps (State.portValue_keeps h16))

theorem State.ampCheck_keeps {p : PortIx} {a2 : Rat} (h : Keeps q n s) :
    Keeps q n (s.ampCheck p a2) := by
  unfold State.ampCheck
  extract_lets x0 x1 x2 x3
  have h4 : Keeps q n x0 := (State.wr_keeps h)
  try clear_value x0
  have h5 : Keeps q n x3 := (State.portCond_keeps h4)
  try clear_value x3
  exact (State.portCond_keeps h5)

theorem State.analogSpeed_keeps {p : PortIx} (h : Keeps q n s) :
    Keeps q n (s.analogSpeed p) := by
  unfold State.analogSpeed
  extract_lets x0 x1 x2
  have h3 : Keeps q n x1 := (State.upPort_keeps h)
  try clear_value x1
  exact (State.portShow_keeps (State.upPort_keeps h3))

theorem State.resolverPair_keeps {p : PortIx} {sn : Int} {cs : Int} (h : Keeps q n s) :
    Keeps q n (s.resolverPair p sn cs) := by
  unfold State.resolverPair
  extract_lets x0 x1 x2 x3
  have h4 : Keeps q n x0 := (State.ampCheck_keeps h)
  try clear_value x0
  have h5 : Keeps q n x2 := (ite_ind (Keeps q n) (State.unrefClear_keeps h4) h4)
  try clear_value x2
  have h6 : Keeps q n x3 := (State.absCount_keeps h5)
  try clear_value x3
  exact (State.analogSpeed_keeps (State.portValue_keeps h6))

theorem State.sincosPair_keeps {p : PortIx} {sn : Int} {cs : Int} (h : Keeps q n s) :
    Keeps q n (s.sincosPair p sn cs) := by
  unfold State.sincosPair
  extract_lets x0 x1 x2 x3 x4 x5 x6 x7
  have h8 : Keeps q n x0 := (State.ampCheck_keeps h)
  try clear_value x0
  have h9 : Keeps q n x6 := (State.countMove_keeps (State.portCond_keeps h8))
  try clear_value x6
  have h10 : Keeps q n x7 := (ite_ind (Keeps q n) (State.countMove_keeps h8) (ite_ind (Keeps q n) (State.portSee_keeps (State.upPort_keeps h8)) (ite_ind (Keeps q n) (State.portValue_keeps h9) (State.portCond_keeps h8))))
  try clear_value x7
  exact (State.analogSpeed_keeps h10)

theorem State.indexMark_keeps {p : PortIx} (h : Keeps q n s) :
    Keeps q n (s.indexMark p) := by
  unfold State.indexMark
  extract_lets x0
  have h1 : Keeps q n x0 := (State.unrefClear_keeps (State.upPort_keeps h))
  try clear_value x0
  split
  · exact (State.portValue_keeps h1)
  · extract_lets x2
    exact (State.portCond_keeps h)

theorem execPosEdge_keeps {dt : Nat} {p : PortIx} {a : WirePair} {bb : WirePair} {c : WirePair} {a5 : State} (h : Keeps q n a5) :
    KeepsOut q n (execPosEdge dt p a bb c a5) := by
  unfold execPosEdge
  exact (State.portEdge_keeps (State.tick_keeps h))

theorem execPosZeroTimeout_keeps {dt : Nat} {p : PortIx} {a2 : State} (h : Keeps q n a2) :
    KeepsOut q n (execPosZeroTimeout dt p a2) := by
  unfold execPosZeroTimeout
  extract_lets x0 x1 x2
  have h3 : Keeps q n x0 := (State.tick_keeps h)
  try clear_value x0
  have h4 : Keeps q n x2 := (State.portShow_keeps (State.upPort_keeps h3))
  try clear_value x2
  exact (ite_ind (Keeps q n) (State.holdIfStill_keeps h4) h3)

theorem execPosSamplePeriod_keeps {dt : Nat} {p : PortIx} {a2 : State} (h : Keeps q n a2) :
    KeepsOut q n (execPosSamplePeriod dt p a2) := by
  unfold execPosSamplePeriod
  extract_lets x0
  have h1 : Keeps q n x0 := (State.tick_keeps h)
  try clear_value x0
  exact (ite_ind (Keeps q n) (State.upPort_keeps h1) h1)

theorem execPosSample_keeps {dt : Nat} {p : PortIx} {word : Option Nat} {a3 : State} (h : Keeps q n a3) :
    KeepsOut q n (execPosSample dt p word a3) := by
  unfold execPosSample
  extract_lets x0
  have h1 : Keeps q n x0 := (State.tick_keeps h)
  try clear_value x0
  exact (ite_ind (Keeps q n) (by
    split
    · exact (State.posSample_keeps h1)
    · exact (State.posSample_keeps h1)
    · exact (State.posSample_keeps h1)
    · exact h1) h1)

theorem execPosStale_keeps {dt : Nat} {p : PortIx} {a2 : State} (h : Keeps q n a2) :
    KeepsOut q n (execPosStale dt p a2) := by
  unfold execPosStale
  extract_lets x0
  have h1 : Keeps q n x0 := (State.tick_keeps h)
  try clear_value x0
  exact (ite_ind (Keeps q n) (State.portCond_keeps h1) h1)

theorem execPosResolverSample_keeps {dt : Nat} {p : PortIx} {sn : TwoSamples} {cs : TwoSamples} {a4 : State} (h : Keeps q n a4) :
    KeepsOut q n (execPosResolverSample dt p sn cs a4) := by
  unfold execPosResolverSample
  extract_lets x0
  have h1 : Keeps q n x0 := (State.tick_keeps h)
  try clear_value x0
  exact (ite_ind (Keeps q n) (State.resolverPair_keeps (State.upPort_keeps h1)) h1)

theorem execPosSincosSample_keeps {dt : Nat} {p : PortIx} {sn : Int} {cs : Int} {a4 : State} (h : Keeps q n a4) :
    KeepsOut q n (execPosSincosSample dt p sn cs a4) := by
  unfold execPosSincosSample
  extract_lets x0
  have h1 : Keeps q n x0 := (State.tick_keeps h)
  try clear_value x0
  exact (ite_ind (Keeps q n) (State.sincosPair_keeps h1) h1)

theorem execPosIndexMark_keeps {dt : Nat} {p : PortIx} {a2 : State} (h : Keeps q n a2) :
    KeepsOut q n (execPosIndexMark dt p a2) := by
  unfold execPosIndexMark
  extract_lets x0
  have h1 : Keeps q n x0 := (State.tick_keeps h)
  try clear_value x0
  exact (ite_ind (Keeps q n) (State.indexMark_keeps h1) h1)

theorem execPosFaultFilter_keeps {dt : Nat} {p : PortIx} {f : PosFlag} {on : Bool} {a4 : State} (h : Keeps q n a4) :
    KeepsOut q n (execPosFaultFilter dt p f on a4) := by
  unfold execPosFaultFilter
  extract_lets x0
  have h1 : Keeps q n x0 := (State.tick_keeps h)
  try clear_value x0
  exact (ite_ind (Keeps q n) (ite_ind (Keeps q n) (ite_ind (Keeps q n) (State.portFlag_keeps h1) h1) (State.portCond_keeps h1)) h1)

theorem execPosRedundTimeout_keeps {dt : Nat} {b : Br} {a2 : State} (h : Keeps q n a2) :
    KeepsOut q n (execPosRedundTimeout dt b a2) := by
  unfold execPosRedundTimeout
  extract_lets x0 x1 x2 x3 x4 x5 x6
  have h7 : Keeps q n x0 := (State.tick_keeps h)
  try clear_value x0
  have h8 : Keeps q n x2 := (ite_ind (Keeps q n) (State.flag_keeps (State.upAclk_keeps h7)) h7)
  try clear_value x2
  have h10 : Keeps q n x3 := (State.each_keeps h8 (fun _ _ h9 => (State.putFlag_keeps (State.putCond_keeps h9))))
  try clear_value x3
  have h12 : Keeps q n x4 := (State.each_keeps h10 (fun _ _ h11 => (State.irq_keeps (State.portShow_keeps h11))))
  try clear_value x4
  have h13 : Keeps q n x5 := (State.posConds_keeps (State.upAclk_keeps h12))
  try clear_value x5
  have h14 : Keeps q n x6 := (ite_ind (Keeps q n) (State.raise_keeps h13) h13)
  try clear_value x6
  exact (by
    split
    · exact (ite_ind (Keeps q n) (State.aclkSelect_keeps h14) h7)
    · exact h7)

theorem execPosAlignDone_keeps {dt : Nat} {b : Br} {offset : Word} {a3 : State} (h : Keeps q n a3) :
    KeepsOut q n (execPosAlignDone dt b offset a3) := by
  unfold execPosAlignDone
  extract_lets x0 x1
  have h2 : Keeps q n x0 := (State.tick_keeps h)
  try clear_value x0
  have h3 : Keeps q n x1 := (State.upB_keeps h2)
  try clear_value x1
  exact (by
    split
    · exact (ite_ind (Keeps q n) (State.parApply_keeps h3) h3)
    · exact h2)

theorem execPosStatus_keeps {lk : Lk} {a1 : State} (h : Keeps q n a1) :
    KeepsOut q n (execPosStatus lk a1) := by
  unfold execPosStatus
  exact (State.serveCode_keeps h (fun _ _ h0 => (checked_keeps h0 (fun _ h1 => (okWith_keeps h1)))))

theorem execPosSourceSet_keeps {lk : Lk} {a1 : State} (h : Keeps q n a1) :
    KeepsOut q n (execPosSourceSet lk a1) := by
  unfold execPosSourceSet
  exact (State.serveCode_keeps h (fun _ _ h0 => (by
    extract_lets x1 x2 x3
    exact (checked_keeps h0 (fun _ h4 => (by
      extract_lets x5
      have h6 : Keeps q n x5 := (State.parApply_keeps h4)
      try clear_value x5
      exact (okWith_keeps h6)))))))

theorem execPosAlign_keeps {lk : Lk} {a1 : State} (h : Keeps q n a1) :
    KeepsOut q n (execPosAlign lk a1) := by
  unfold execPosAlign
  exact (State.serveCode_keeps h (fun _ _ h0 => (by
    extract_lets x1 x2
    exact (checked_keeps h0 (fun _ h3 => (okWith_keeps (State.upB_keeps h3)))))))

theorem execTurnsSet_keeps {lk : Lk} {a1 : State} (h : Keeps q n a1) :
    KeepsOut q n (execTurnsSet lk a1) := by
  unfold execTurnsSet
  exact (State.serveCode_keeps h (fun _ _ h0 => (by
    extract_lets x1 x2
    exact (checked_keeps h0 (fun _ h3 => (okWith_keeps (State.putFlag_keeps (State.upPort_keeps h3))))))))

theorem execRecList_keeps {lk : Lk} {a1 : State} (h : Keeps q n a1) :
    KeepsOut q n (execRecList lk a1) := by
  unfold execRecList
  exact (State.serveCode_keeps h (fun _ _ h0 => (checked_keeps h0 (fun _ h1 => (by
    extract_lets x2
    exact (okWith_keeps h1))))))

theorem execRecRead_keeps {lk : Lk} {a1 : State} (h : Keeps q n a1) :
    KeepsOut q n (execRecRead lk a1) := by
  unfold execRecRead
  exact (State.serveCode_keeps h (fun _ _ h0 => (by
    extract_lets x1 x2 x3
    exact (checked_keeps h0 (fun _ h4 => (okWith_keeps h4))))))

theorem execRecTrigger_keeps {lk : Lk} {a1 : State} (h : Keeps q n a1) :
    KeepsOut q n (execRecTrigger lk a1) := by
  unfold execRecTrigger
  exact (State.serveCode_keeps h (fun _ _ h0 => (checked_keeps h0 (fun _ h1 => (by
    extract_lets x2
    have h3 : Keeps q n x2 := (State.recTrigger_keeps h1)
    try clear_value x2
    split
    · exact (okWith_keeps h3)
    · exact (okWith_keeps (State.spend_keeps h3)))))))

theorem execRecPin_keeps {lk : Lk} {a1 : State} (h : Keeps q n a1) :
    KeepsOut q n (execRecPin lk a1) := by
  unfold execRecPin
  exact (State.serveCode_keeps h (fun _ _ h0 => (by
    extract_lets x1 x2
    exact (checked_keeps h0 (fun _ h3 => (okWith_keeps (State.recPinSet_keeps h3)))))))

theorem execCntRead_keeps {lk : Lk} {a1 : State} (h : Keeps q n a1) :
    KeepsOut q n (execCntRead lk a1) := by
  unfold execCntRead
  exact (State.serveCode_keeps h (fun _ _ h0 => (by
    extract_lets x1 x2
    exact (checked_keeps h0 (fun _ h3 => (okWith_keeps h3))))))

theorem execCntConfig_keeps {lk : Lk} {a1 : State} (h : Keeps q n a1) :
    KeepsOut q n (execCntConfig lk a1) := by
  unfold execCntConfig
  exact (State.serveCode_keeps h (fun _ _ h0 => (by
    extract_lets x1 x2
    exact (checked_keeps h0 (fun _ h3 => (by
      extract_lets x4
      have h5 : Keeps q n x4 := (State.cntSetup_keeps h3)
      try clear_value x4
      exact (okWith_keeps (ite_ind (Keeps q n) (State.cntClear_keeps h5) h5))))))))

theorem execWakePin_keeps {dt : Nat} {a1 : State} (h : Keeps q n a1) :
    KeepsOut q n (execWakePin dt a1) := by
  unfold execWakePin
  extract_lets x0 x1 x2 x3
  have h4 : Keeps q n x0 := (State.tick_keeps h)
  try clear_value x0
  have h5 : Keeps q n x3 := (by exact Keeps.upd h4 rfl rfl rfl rfl rfl rfl rfl rfl)
  try clear_value x3
  exact (ite_ind (Keeps q n) (State.wakeReset_keeps h5) h5)

theorem execRstNPin_keeps {dt : Nat} {ns : Nat} {a2 : State} (h : Keeps q n a2) :
    KeepsOut q n (execRstNPin dt ns a2) := by
  unfold execRstNPin
  extract_lets x0 x1 x2
  have h3 : Keeps q n x0 := (State.tick_keeps h)
  try clear_value x0
  have h4 : Keeps q n x2 := (State.spend_keeps h3)
  try clear_value x2
  exact (ite_ind (KeepsOut q n) h3 (ite_ind (KeepsOut q n) (State.coreReset_keeps h3) (ite_ind (Keeps q n) (State.coreReset_keeps h4) h4)))

theorem execPowerOn_keeps {dt : Nat} {a1 : State} (h : Keeps q n a1) :
    KeepsOut q n (execPowerOn dt a1) := by
  unfold execPowerOn
  exact (State.coreReset_keeps (State.tick_keeps h))

theorem execBrownOut_keeps {dt : Nat} {_sup : MainSupply} {ns : Nat} {a3 : State} (h : Keeps q n a3) :
    KeepsOut q n (execBrownOut dt _sup ns a3) := by
  unfold execBrownOut
  extract_lets x0
  have h1 : Keeps q n x0 := (State.tick_keeps h)
  try clear_value x0
  exact (ite_ind (Keeps q n) h1 (State.coreReset_keeps h1))

theorem execResetRelease_keeps {dt : Nat} {env : BootEnv} {a2 : State} (h : Keeps q n a2) :
    KeepsOut q n (execResetRelease dt env a2) := by
  unfold execResetRelease
  exact (State.release_keeps (State.tick_keeps h))

theorem execBlockRelease_keeps {dt : Nat} {d : ClkDom} {a2 : State} (h : Keeps q n a2) :
    KeepsOut q n (execBlockRelease dt d a2) := by
  unfold execBlockRelease
  extract_lets x0 x1
  have h2 : Keeps q n x0 := (State.tick_keeps h)
  try clear_value x0
  have h3 : Keeps q n x1 := (State.clkSet_keeps h2)
  try clear_value x1
  exact (ite_ind (KeepsOut q n) (ite_ind (Keeps q n) (State.condition_keeps h3) h3) h2)

theorem execBlockClockTimeout_keeps {dt : Nat} {d : ClkDom} {a2 : State} (h : Keeps q n a2) :
    KeepsOut q n (execBlockClockTimeout dt d a2) := by
  unfold execBlockClockTimeout
  extract_lets x0
  have h1 : Keeps q n x0 := (State.tick_keeps h)
  try clear_value x0
  exact (ite_ind (Keeps q n) (State.raiseOn_keeps h1) h1)

theorem execClockLoss_keeps {dt : Nat} {d : ClkDom} {a2 : State} (h : Keeps q n a2) :
    KeepsOut q n (execClockLoss dt d a2) := by
  unfold execClockLoss
  extract_lets x0
  have h1 : Keeps q n x0 := (State.tick_keeps h)
  try clear_value x0
  exact (ite_ind (KeepsOut q n) (State.domainsLost_keeps h1) h1)

theorem execClockLossReset_keeps {dt : Nat} {a1 : State} (h : Keeps q n a1) :
    KeepsOut q n (execClockLossReset dt a1) := by
  unfold execClockLossReset
  extract_lets x0
  have h1 : Keeps q n x0 := (State.tick_keeps h)
  try clear_value x0
  split
  · exact (ite_ind (Keeps q n) (State.warmReset_keeps h1) h1)
  · exact h1

theorem execOscFail_keeps {dt : Nat} {a1 : State} (h : Keeps q n a1) :
    KeepsOut q n (execOscFail dt a1) := by
  unfold execOscFail
  extract_lets x0 x1 x2 x3 x4
  have h5 : Keeps q n x0 := (State.tick_keeps h)
  try clear_value x0
  have h6 : Keeps q n x1 := (State.flag_keeps h5)
  try clear_value x1
  have h7 : Keeps q n x3 := (by exact Keeps.upd h6 rfl rfl rfl rfl rfl rfl rfl rfl)
  try clear_value x3
  have h8 : Keeps q n x4 := (State.raiseOn_keeps h7)
  try clear_value x4
  exact (ite_ind (KeepsOut q n) (State.enterOne_keeps (State.enterOne_keeps (State.preempt_keeps (State.preempt_keeps h8)))) h5)

theorem execStoInputChange_keeps {dt : Nat} {ch : StoCh} {low : Bool} {a3 : State} (h : Keeps q n a3) :
    KeepsOut q n (execStoInputChange dt ch low a3) := by
  unfold execStoInputChange
  exact (State.stoChange_keeps (State.stoSettle_keeps (State.tick_keeps h)))

theorem execStoDiscrepancy_keeps {dt : Nat} {a1 : State} (h : Keeps q n a1) :
    KeepsOut q n (execStoDiscrepancy dt a1) := by
  unfold execStoDiscrepancy
  extract_lets x0
  have h1 : Keeps q n x0 := (State.tick_keeps h)
  try clear_value x0
  split
  · exact (ite_ind (Keeps q n) (State.raiseOn_keeps (State.flag_keeps h1)) h1)
  · exact h1

theorem execSs1Input_keeps {dt : Nat} {low : Bool} {a2 : State} (h : Keeps q n a2) :
    KeepsOut q n (execSs1Input dt low a2) := by
  unfold execSs1Input
  extract_lets x0 x1
  have h2 : Keeps q n x0 := (State.tick_keeps h)
  try clear_value x0
  have h3 : Keeps q n x1 := (State.irq_keeps (State.flag_keeps h2))
  try clear_value x1
  exact (ite_ind (KeepsOut q n) h2 (ite_ind (Keeps q n) (foldl_keeps (State.recTrigger_keeps h3) (fun _ _ h4 => (State.safeStopCause_keeps h4))) h3))

theorem execFaultAckPinEdge_keeps {dt : Nat} {a1 : State} (h : Keeps q n a1) :
    KeepsOut q n (execFaultAckPinEdge dt a1) := by
  unfold execFaultAckPinEdge
  extract_lets x0
  have h1 : Keeps q n x0 := (State.irq_keeps (State.flag_keeps (State.tick_keeps h)))
  try clear_value x0
  exact (State.ackHere_keeps h1)

theorem execSafetyStatus_keeps {lk : Lk} {a1 : State} (h : Keeps q n a1) :
    KeepsOut q n (execSafetyStatus lk a1) := by
  unfold execSafetyStatus
  exact (State.serveCode_keeps h (fun _ _ h0 => (checked_keeps h0 (fun _ h1 => (okWith_keeps h1)))))

theorem execSafetyConfirm_keeps {lk : Lk} {a1 : State} (h : Keeps q n a1) :
    KeepsOut q n (execSafetyConfirm lk a1) := by
  unfold execSafetyConfirm
  exact (State.serveCode_keeps h (fun _ _ h0 => (by
    extract_lets x1
    exact (checked_keeps h0 (fun _ h2 => (okWith_keeps (by exact Keeps.upd h2 rfl rfl rfl rfl rfl rfl rfl rfl)))))))

theorem execFaultAck_keeps {lk : Lk} (h : Keeps q n s) : KeepsOut q n (execFaultAck lk s) := by
  unfold execFaultAck
  refine State.serveCode_keeps h fun s p h1 => checked_keeps h1 fun t h2 => ?_
  have h3 := State.ackRun_keeps (toggle := u8 p 0 == 1) h2
  generalize t.ackRun (u8 p 0 == 1) = x at h3 ⊢
  obtain ⟨r, u⟩ := x
  cases r with
  | accepted => exact State.ackWaits_keeps h3
  | refused c => exact h3

theorem execLaneClear_keeps {lk : Lk} {a1 : State} (h : Keeps q n a1) :
    KeepsOut q n (execLaneClear lk a1) := by
  unfold execLaneClear
  exact (State.serveCode_keeps h (fun _ _ h0 => (by
    extract_lets x1 x2
    exact (checked_keeps h0 (fun _ h3 => (by
      split
      · exact h3
      · exact (okWith_keeps (State.each_keeps h3 (fun _ _ h4 => (State.laneClearDie_keeps h4))))))))))

theorem execSafeStopReq_keeps {lk : Lk} {a1 : State} (h : Keeps q n a1) :
    KeepsOut q n (execSafeStopReq lk a1) := by
  unfold execSafeStopReq
  exact (State.serveCode_keeps h (fun _ _ h0 => (by
    extract_lets x1 x2
    exact (checked_keeps h0 (fun _ h3 => (okWith_keeps (State.command_keeps h3)))))))

theorem execFaultList_keeps {lk : Lk} {a1 : State} (h : Keeps q n a1) :
    KeepsOut q n (execFaultList lk a1) := by
  unfold execFaultList
  exact (State.serveCode_keeps h (fun _ _ h0 => (checked_keeps h0 (fun _ h1 => (by
    extract_lets x2 x3
    have h4 : Keeps q n x2 := (State.stoSettle_keeps h1)
    try clear_value x2
    exact (okWith_keeps h4))))))

theorem execSysStatus_keeps {lk : Lk} {a1 : State} (h : Keeps q n a1) :
    KeepsOut q n (execSysStatus lk a1) := by
  unfold execSysStatus
  exact (State.serveCode_keeps h (fun _ _ h0 => (checked_keeps h0 (fun _ h1 => (okWith_keeps h1)))))

theorem execSysTime_keeps {lk : Lk} {a1 : State} (h : Keeps q n a1) :
    KeepsOut q n (execSysTime lk a1) := by
  unfold execSysTime
  exact (State.serveCode_keeps h (fun _ _ h0 => (checked_keeps h0 (fun _ h1 => (okWith_keeps h1)))))

theorem execStandbyEnter_keeps {lk : Lk} {a1 : State} (h : Keeps q n a1) :
    KeepsOut q n (execStandbyEnter lk a1) := by
  unfold execStandbyEnter
  exact (State.serveCode_keeps h (fun _ _ h0 => (checked_keeps h0 (fun _ h1 => (okWith_keeps (by exact Keeps.upd h1 rfl rfl rfl rfl rfl rfl rfl rfl))))))

theorem State.verifyFail_keeps {reason : Nat} (h : Keeps q n s) :
    Keeps q n (s.verifyFail reason) := by
  unfold State.verifyFail
  extract_lets x0 x1
  have h2 : Keeps q n x1 := (ite_ind (Keeps q n) h (State.upBank_keeps h))
  try clear_value x1
  exact (State.upFw_keeps h2)

theorem execFwVerifyDone_keeps {dt : Nat} {v : FwVerdict} {a2 : State} (h : Keeps q n a2) :
    KeepsOut q n (execFwVerifyDone dt v a2) := by
  unfold execFwVerifyDone
  extract_lets x0 x1 x2 x3 x4 x5 x6 x7
  have h8 : Keeps q n x0 := (State.tick_keeps h)
  try clear_value x0
  have h9 : Keeps q n x5 := (ite_ind (Keeps q n) (State.setMemBytes_keeps h8) h8)
  try clear_value x5
  have h10 : Keeps q n x7 := (ite_ind (Keeps q n) h9 (State.upBank_keeps h9))
  try clear_value x7
  exact (ite_ind (KeepsOut q n) (ite_ind (KeepsOut q n) (ite_ind (KeepsOut q n) (State.verifyFail_keeps h9) (State.upFw_keeps h10)) (State.verifyFail_keeps h8)) h8)

theorem execParamStoreDone_keeps {dt : Nat} {ok : Bool} {a2 : State} (h : Keeps q n a2) :
    KeepsOut q n (execParamStoreDone dt ok a2) := by
  unfold execParamStoreDone
  extract_lets x0 x1 x2
  have h3 : Keeps q n x0 := (State.tick_keeps h)
  try clear_value x0
  have h4 : Keeps q n x2 := (by exact Keeps.upd h3 rfl rfl rfl rfl rfl rfl rfl rfl)
  try clear_value x2
  split
  · exact h3
  · extract_lets x5 x6 x7
    have h8 : Keeps q n x5 := (State.storeWrite_keeps h4)
    try clear_value x5
    have h9 : Keeps q n x6 := (State.setWord_keeps h8)
    try clear_value x6
    have h10 : Keeps q n x7 := (ite_ind (Keeps q n) (State.wr_keeps (State.setMemW_keeps h9))
      (State.wr_keeps (ite_ind (Keeps q n) (State.flag_keeps (State.spend_keeps h4)) (State.spend_keeps h4))))
    try clear_value x7
    exact (State.irq_keeps (State.nvmSync_keeps h10))

theorem execVaultEraseDone_keeps {dt : Nat} {a1 : State} (h : Keeps q n a1) :
    KeepsOut q n (execVaultEraseDone dt a1) := by
  unfold execVaultEraseDone
  exact (State.eraseDone_keeps (State.tick_keeps h))

theorem execNonceExpiry_keeps {dt : Nat} {a1 : State} (h : Keeps q n a1) :
    KeepsOut q n (execNonceExpiry dt a1) := by
  unfold execNonceExpiry
  extract_lets x0
  have h1 : Keeps q n x0 := (State.tick_keeps h)
  try clear_value x0
  split
  · exact (ite_ind (Keeps q n) (State.useNonce_keeps h1) h1)
  · exact h1

theorem execAuthLockoutEnd_keeps {dt : Nat} {a1 : State} (h : Keeps q n a1) :
    KeepsOut q n (execAuthLockoutEnd dt a1) := by
  unfold execAuthLockoutEnd
  extract_lets x0 x1
  have h2 : Keeps q n x0 := (State.tick_keeps h)
  try clear_value x0
  split
  · exact (ite_ind (Keeps q n) (by exact Keeps.upd h2 rfl rfl rfl rfl rfl rfl rfl rfl) h2)
  · exact h2

theorem execGuardReadback_keeps {dt : Nat} {a1 : State} (h : Keeps q n a1) :
    KeepsOut q n (execGuardReadback dt a1) := by
  unfold execGuardReadback
  extract_lets x0
  have h1 : Keeps q n x0 := (State.tick_keeps h)
  try clear_value x0
  exact (ite_ind (Keeps q n) (State.guardCheck_keeps h1) h1)

end Sys2Proof.Machine
end

