-- ==== Sys2Proof/Tests/Slice0.lean ====
section
/-! SUPPORT. Tests. An ill-formed command for every check of `Instr.wf`; the spec's worked examples; and for every
obligation with hypotheses one witness per clause, a concrete state and operands that meet all of them together:
`witness_<Name>_<clause>`. -/

open Sys2Proof Sys2Proof.Machine

namespace Sys2Proof.Tests

set_option Elab.async false
set_option linter.unusedVariables false

/-! ## States to test on -/

/-- A device that runs, every block out of reset, both bridges in a state. -/
def live (d : DState) : State :=
  let s := { State.reset with sys := { State.reset.sys with rst := none, up := Vector.replicate 6 true } }
  (s.upB 0 fun x => { x with st := d }).upB 1 fun x => { x with st := d }

/-- The state with a Barge in `SERVICE` in Lock 0. -/
def barge (s : State) (code : Nat) (pl : List Byte) : State :=
  s.upLock 0 fun l =>
    { ((l.put 0 (leBytes 2 code)).put 4 [BitVec.ofNat 8 pl.length]).put 16 pl with
      gate := .service, owner := some .uart, keeper := keeperCode code }

/-- The state with bridge A driving in a mode. -/
def driving (m : CtlMode) : State := (live .run).upB 0 fun x => { x with mode := some m }

/-- The state with parameter `id` at `v` in both sets. -/
def withPar (s : State) (id : Nat) (v : Word) : State :=
  { s with params := { s.params with
      act := sset paramDefault s.params.act id v, boot := sset paramDefault s.params.boot id v } }

/-- Both bridges in `READY` and the safety configuration confirmed. -/
def confirmedReady : State := { live .ready with params := { (live .ready).params with confirmed := true } }

/-- Snapshot slot 0 holds a valid snapshot. -/
def withSnap (s : State) : State := s.setMemW (snapAt 0) (BitVec.ofNat 32 snapValid)

/-- A firmware session of 8 bytes for bank B in a phase. -/
def session (s : State) (ph : FwPhase) : State :=
  s.upFw fun x => { x with phase := ph, bank := 1, size := 8 }

/-- CAN controller 0 takes part on its bus, and Barges are mapped to it. -/
def canOnBus (s : State) : State :=
  ((withPar (s.upCan 0 fun c => { c with bus := .on }) P.lock_can_map 1).flag F.CAN_CTRL_FD_EN 0 true).flag
    F.CAN_CTRL_XL_EN 0 true

def canFrame (fmt : CanFmt) (id n : Nat) : CanFrame :=
  ⟨fmt, false, id, false, false, false, false, 0, 0, 0, List.replicate n 0⟩

/-- A Lock holds a Barge with no payload that passes every check, claimed over SPI port 1. -/
def ready1 (s : State) (head : List Byte) : State :=
  s.upLock 0 fun l =>
    let l := { l.put 0 head with owner := some (.spi 1), got := 20 }
    l.put 16 (leBytes 4 (crc32c (bargeStart 0 l.seq) (l.bytes 0 16)))

/-- The device is trained in a Towpath chain as number 0, both ports up. -/
def towLive (s : State) : State :=
  let s := withPar s P.tow_enable 1
  { s with net := { s.net with towUp := true, towDn := true, towNum := some 0 } }

/-- The DC link stands at 500 V. -/
def charged (s : State) : State :=
  (s.wrI F.CONV_VDC_BR_VDC 0 500000).wrI (F.CONV_VDC_BR_VDC.at 8) 0 500000

/-- A precharge whose conditions hold, but for its parameters. -/
def precharged : State :=
  let s := (live .precharge).stoRecord
  { s with links := s.links.map fun l => { l with trained := true } }

/-- A catch that has seen two phases cross. -/
def caught : State :=
  (live .catching).upB 0 fun x => { x with
    catchRec := { x.catchRec with crossings := [⟨1, true, 10⟩, ⟨0, true, 5⟩] } }

/-- The main positive contactor has opened alone, with discharge by the automatic method. -/
def openedMain : State :=
  let s := withPar (withPar (withPar (live .ready) P.dcl_auto_enable 1) P.dcl_dis_method 1) (P.dcl_ctr_role 0) 1
  { s with dcl := { s.dcl with openedAlone := true } }

/-- The DC link stands above its second overvoltage limit. -/
def overvolted : State := (charged (live .run)).wr F.SYS_WEIR_OV2_MV 0 400000

/-- The chopper is on, and the link has not fallen. -/
def chopping : State :=
  let s := ((charged (live .run)).wr F.SYS_WEIR_CHOP1_LANE 0 1).wr F.SYS_WEIR_CHOP_OFF_MV 0 400000
  { s with dcl := { s.dcl with chopOn := true, vEng := 500000 } }

/-- Lane 1, low-side, is trained and in `PLAN`. -/
def hearing : State := (live .run).upLane 1 fun l => { l with st := .plan, trained := true }

/-- A downlink frame with its check value, whose start value is open. -/
def goodFrame (hdr : Byte) (payload : BitVec 56) : DownFrame :=
  ⟨hdr, payload, BitVec.ofNat 8 (crc8 Config.linkCrc (hdr :: leBytes 7 payload.toNat))⟩

theorem crcStepL_lt (r : Nat) : crcStepL 8 0x1D r < 256 := by
  unfold crcStepL
  split
  · exact Nat.xor_lt_two_pow (n := 8) (Nat.mod_lt _ (by decide)) (by decide)
  · exact Nat.mod_lt _ (by decide)

theorem crc8_lt (r : Nat) (b : Byte) (bs : List Byte) : crc8 r (b :: bs) < 256 := by
  have h (x : Nat) (c : Byte) : crcByteL 8 0x1D x c < 256 := crcStepL_lt _
  induction bs generalizing r b with
  | nil => exact h _ _
  | cons c cs ih => exact ih (crcByteL 8 0x1D r b) c

theorem goodFrame_ok (hdr : Byte) (payload : BitVec 56) (h : hdr.toNat / 64 ≠ 3) :
    downOk (goodFrame hdr payload) = true := by
  have := crc8_lt Config.linkCrc hdr (leBytes 7 payload.toNat)
  simp [downOk, downKind, goodFrame, downBytes, h, Nat.mod_eq_of_lt this]

/-- What a healthy lane reads. -/
def reading : LaneReading := ⟨15000, -5000, 250, 250, 0, true, true⟩

/-- A message buffer of controller 0 waits, or is being sent. -/
def canPendingState : State :=
  ((((canOnBus (live .run)).flag F.CAN_CTRL_INIT 0 false).wr F.CAN_CTRL_MODE 0 0).wr F.MB_CFG_DIR (mbI 0 0) 2).setWord F.MB_STATUS_STATE (mbI 0 0) 1
def sending : State := canPendingState.upCan 0 fun c => { c with tx := some 0 }

/-- An Ethernet frame of 64 bytes to this device, of a type. -/
def ethBytes (type : Nat) : List Byte := Config.macAddr 0 ++ List.replicate 6 0 ++ beBytes 2 type ++ List.replicate 50 0

/-- The register at an address. -/
def reg (k a : Nat) : RegDef := (regFind k a).getD ⟨0, 0, 0, .blk, []⟩

theorem reset_wf : State.reset.Wf := by constructor <;> decide +kernel

/-- A collection of the recorder that has reached its quota. -/
def collected : Collect := ⟨0, 0, false, 0, none, 0, 0, 0, 1, 1, [], 0, 0⟩
def collecting (s : State) : State := { s with recd := { s.recd with coll := some collected } }

/-- Bank B runs on trial since the start of time. -/
def onTrial : State :=
  let s := (live .run).upBank 1 fun x => { x with st := .trial }
  { s with pilot := { s.pilot with trialAt := some 0, runBank := some 1 } }

/-- A session that verifies an image, whose header passes R330 with no body, of a kind, encrypted or not. -/
def image (kind enc : Byte) (patch : Bool) : State :=
  let s := (live .run).upFw fun x => { x with
    phase := .verifying, patch := patch, bank := 1, size := 128 + 16 * enc.toNat }
  s.setMemBytes s.fwBase (leBytes 4 0x5A435846 ++ [kind, 1, enc, 0])

/-- A committed stage of 20 µs from the start of time. -/
def slot0 : Slot := { Slot.reset with st := .committed, dur := 400 }

/-- The Flight of bridge A runs, in that stage. -/
def grouped : State :=
  ((live .run).flag F.FLT_STATUS_RUNNING 0 true).upFl 0 fun f => { f with slots := f.slots.set 0 slot0 }

/-- A slot that holds stage 0, still speculative. -/
def specSlot : Slot := { Slot.reset with st := .speculative, dur := 400 }

/-- The Flight of bridge A is enabled, and instant (a) of its first stage has passed. -/
def ticked : State := ((live .run).flag F.FLT_CTRL_ENABLE 0 true).tick 40000

/-- The Flight of bridge A is enabled in prediction only, before its first stage. -/
def firstStage : State :=
  ((live .run).flag F.FLT_CTRL_ENABLE 0 true).upFl 0 fun f => { f with predictOnly := true }

/-- A conversion of entry 0 of instance 0 is under way. -/
def converting : State :=
  ((live .run).flag F.CONV_CFG_ENABLE 0 true).upConv 0 fun c => { c with busy := [⟨0, true, 5, 1, none⟩] }

/-- A housekeeping round with one check pair. -/
def round : HkRound := ⟨List.replicate 8 250, 250, List.replicate 12 250, [(0, 32768, 0)]⟩

/-- A byte string of a payload's length, its first bytes given. -/
def pad (n : Nat) (bs : List Byte) : List Byte := bs ++ List.replicate (n - bs.length) 0

/-! ## Ill-formed commands (`Instr.wf`), one for each check -/

theorem test_wf_base_id : Instr.wf (.canRxFrame 1 0 0 (canFrame .classical 2048 0)) = false := by decide
theorem test_wf_ext_id :
    Instr.wf (.canRxFrame 1 0 0 { canFrame .classical (2 ^ 29) 0 with ext := true }) = false := by decide
theorem test_wf_classical_length : Instr.wf (.canRxFrame 1 0 0 (canFrame .classical 1 9)) = false := by decide
theorem test_wf_fd_length : Instr.wf (.canFdSegment 0 0 (canFrame .fd 1 9)) = false := by decide
theorem test_wf_fd_id : Instr.wf (.directSetpointFrame 0 0 (canFrame .fd 2048 8)) = false := by decide
theorem test_wf_fd_rtr : Instr.wf (.canFdSegment 0 0 { canFrame .fd 1 8 with rtr := true }) = false := by decide
theorem test_wf_xl_length : Instr.wf (.canXlBarge 0 (canFrame .xl 1 0)) = false := by decide
theorem test_wf_xl_id : Instr.wf (.canXlBarge 0 (canFrame .xl 2048 1)) = false := by decide
theorem test_wf_xl_ext : Instr.wf (.canXlBarge 0 { canFrame .xl 1 1 with ext := true }) = false := by decide
theorem test_wf_xl_rtr : Instr.wf (.canXlBarge 0 { canFrame .xl 1 1 with rtr := true }) = false := by decide
theorem test_wf_round_die :
    Instr.wf (.housekeepingRound 1 ⟨List.replicate 7 0, 0, List.replicate 12 0, []⟩) = false := by decide
theorem test_wf_round_modules :
    Instr.wf (.housekeepingRound 1 ⟨List.replicate 8 0, 0, List.replicate 11 0, []⟩) = false := by decide
theorem test_wf_no_conversion : Instr.wf (.convResult 1 0 ⟨0, [], true⟩) = false := by decide
theorem test_wf_conversions : Instr.wf (.convResult 1 0 ⟨0, List.replicate 257 0, true⟩) = false := by decide +kernel
theorem test_wf_fault_code : Instr.wf (.faultSourceAssert 1 [⟨256, .device, .report, true⟩]) = false := by decide
theorem test_wf_sent_lengths : Instr.wf (.sentFrame 1 0 ⟨168, [], [0]⟩) = false := by decide
theorem test_wf_sent_nibble : Instr.wf (.sentFrame 1 0 ⟨168, [36], [16]⟩) = false := by decide

/-! ## The spec's worked examples -/

/-- R10's example: lanes BVL and AWH. -/
theorem test_lane_names : laneIx 1 1 1 = 9 ∧ laneIx 0 2 0 = 4 := by decide

/-- R36's example: a time field expanded in lane AUH. -/
theorem test_edge_expansion :
    let s := State.reset.upLane 0 fun l => { l with skew := 32 * 0x12FFFFFF00 }
    s.expand 0 0x00158 = 0x1300000158 := by decide +kernel

/-- R46's example: the start value for Lock 3 and sequence 0x012C. -/
theorem test_barge_start : bargeStart 3 0x012C = 0xFFFCFED3 := by decide

/-- R158's example: an edge 1/16 turn e ahead at 1,440 Hz and 2,000 turn e/s². -/
theorem test_edge_time :
    eventTime ⟨0, 1440 * 25 / 10000000000, 2000 * (25 / 10000000000) * (25 / 10000000000), 0⟩ (1 / 16) 100000 =
      some (17360, 19) := by decide +kernel

/-- The example after R211 (the choice of R204): pulse numbers at 1,200 Hz, 1,440 Hz and 1,800 Hz with `mod.opp_fsw_max` 20,000 Hz. -/
theorem test_pulse_numbers :
    let s := (State.reset.wr F.MOD_OPP_FSW_MAX 0 20000).wr F.MOD_OPP_Q_MASK 0 0xFF
    s.oppQ 0 1200 = 7 ∧ s.oppQ 0 1440 = 5 ∧ s.oppQ 0 1800 = 5 := by decide +kernel

/-- R420's table: the check of "123456789" for each polynomial. -/
theorem test_crc_checks :
    let nine := (List.range 9).map fun i => BitVec.ofNat 8 (0x31 + i)
    let run := fun (p : Nat) (r : Bool) (init : Nat) => nine.foldl (crcFold p r) init
    run 0 false 0xFF ^^^ 0xFF = 0x4B ∧ run 1 false 0xFFFF = 0x29B1 ∧
      run 2 true 0xFFFFFFFF ^^^ 0xFFFFFFFF = 0xCBF43926 ∧ run 3 true 0xFFFFFFFF ^^^ 0xFFFFFFFF = 0xE3069283 ∧
      run 4 false 0 = 0x6C40DF5F0B497347 := by decide +kernel

/-- The example of R422: `CRC_START` with `CRC_CTX` 0x0003_012C loads 0xFFFC_FED3. -/
theorem test_crc_start :
    let s := ((State.reset.wr F.CRC_CFG_POLY 1 3).flag F.CRC_CFG_INIT_ONES 1 true).wr F.CRC_CTX_CTX 1 0x0003012C
    (s.crcStart 1).crcs[1].value = 0xFFFCFED3 := by decide +kernel

/-- The example of R426: event codes. -/
theorem test_event_codes : E.SQUASH_MISPRED 1 = 0x23 ∧ E.LANE_TRIP 3 = 0xA3 ∧ E.LANE_LATE 3 = 0x93 := by decide

/-! ## Witnesses -/

theorem witness_SystemCommands_1 : ∃ (s : State) (lk : Lk),
    s.Serves lk 0x0101 ∧ s.payload lk = [] :=
  ⟨barge (live .standby) 0x0101 [], 0, by constructor <;> decide +kernel, by decide +kernel⟩

theorem witness_SystemCommands_2 : ∃ (s : State) (lk : Lk),
    s.Serves lk 0x0102 ∧ s.payload lk = [] :=
  ⟨barge (live .run) 0x0102 [], 0, by constructor <;> decide +kernel, by decide +kernel⟩

theorem witness_SystemCommands_3 : ∃ (s : State) (lk : Lk),
    s.Serves lk 0x0103 ∧ s.payload lk = [] ∧ s.bothStandby = true := by
  refine ⟨barge (live .standby) 0x0103 [], 0, by constructor <;> decide +kernel, ?_, ?_⟩ <;> decide +kernel

theorem witness_DriveTransitionCommands_1 : ∃ (s : State) (lk : Lk) (p : List Byte),
    s.Serves lk 0x0201 ∧ s.payload lk = p ∧ s.selects p 4 2 = true ∧ u8 p 1 ≤ 2 ∧ s.dst (s.selBr (u8 p 0)) = .ready
      ∧ s.stoOn = false ∧ s.params.confirmed = true := by
  refine ⟨barge (confirmedReady) 0x0201 [0, 2, 0, 0], 0, _, by constructor <;> decide +kernel, rfl, ?_, ?_, ?_,
    ?_, ?_⟩ <;> decide +kernel

theorem witness_DriveTransitionCommands_2 : ∃ (s : State) (lk : Lk) (p : List Byte),
    s.Serves lk 0x0202 ∧ s.payload lk = p ∧ s.selects p 4 2 = true ∧ u8 p 1 ≤ 1 ∧ (s.dst (s.selBr (u8 p
      0))).isActive = true := by
  refine ⟨barge (withPar (live .run) P.drive_config 0) 0x0202 [1, 1, 0, 0], 0, _,
    by constructor <;> decide +kernel, rfl, ?_, ?_, ?_⟩ <;> decide +kernel

theorem witness_DriveTransitionCommands_3 : ∃ (s : State) (lk : Lk) (p : List Byte),
    s.Serves lk 0x0207 ∧ s.payload lk = p ∧ s.selects p 4 1 = true ∧ s.dst (s.selBr (u8 p 0)) = .standby ∧ s.welded
      = false := by
  refine ⟨barge (live .standby) 0x0207 [0, 0, 0, 0], 0, _, by constructor <;> decide +kernel, rfl, ?_, ?_,
    ?_⟩ <;> decide +kernel

theorem witness_DriveTransitionCommands_4 : ∃ (s : State) (lk : Lk) (p : List Byte),
    s.Serves lk 0x0208 ∧ s.payload lk = p ∧ s.selects p 4 1 = true ∧ ((s.dst (s.selBr (u8 p 0)) = .ready ∨ s.dst
      (s.selBr (u8 p 0)) = .fault)) := by
  refine ⟨barge (withPar (live .fault) P.drive_config 0) 0x0208 [1, 0, 0, 0], 0, _,
    by constructor <;> decide +kernel, rfl, ?_, ?_⟩ <;> decide +kernel

theorem witness_DriveTransitionCommands_5 : ∃ (s : State) (lk : Lk) (p : List Byte),
    s.Serves lk 0x0209 ∧ s.payload lk = p ∧ s.selects p 4 2 = true ∧ u8 p 1 ≤ 1 ∧ (s.parN P.dcl_dis_method).testBit
      (u8 p 1) = true ∧ ((u8 p 1 = 1 → s.bit F.MOD_CTRL_MODE (s.selBr (u8 p 0)).val = false)) ∧ (s.dst (s.selBr (u8
      p 0))).isIdle = true ∧ ((s.lockedPair = true ∨ s.configured (mate (s.selBr (u8 p 0))) = false ∨ ((s.dst (mate
      (s.selBr (u8 p 0)))).isActive = false ∧ s.dst (mate (s.selBr (u8 p 0))) ≠ .precharge))) := by
  refine ⟨barge (withPar (live .ready) P.dcl_dis_method 3) 0x0209 [0, 1, 0, 0], 0, _,
    by constructor <;> decide +kernel, rfl, ?_, ?_, ?_, ?_, ?_, ?_⟩ <;> decide +kernel

theorem witness_SetpointCommands_1 : ∃ (s : State) (lk : Lk) (p : List Byte) (b : Br) (t : Int),
    s.Serves lk 0x0203 ∧ s.payload lk = p ∧ p.length = 12 ∧ zeros p 1 3 = true ∧ u8 p 0 ≤ 2 ∧ s.selRefused (u8 p 0)
      = false ∧ s.selBr (u8 p 0) = b ∧ i32 p 4 = t ∧ 0 ≤ i32 p 8 ∧ s.parN P.lock_sp_enable ≠ 1 ∧ s.parBoot
      P.tow_share_enable ≠ 1 ∧ (s.dst b).isDriving = true ∧ s.bridges[b].mode = some .torque := by
  refine ⟨barge (driving .torque) 0x0203 (pad 12 [0, 0, 0, 0, 1]), 0, _, _, _, by constructor <;> decide +kernel,
    rfl, ?_, ?_, ?_, ?_, rfl, rfl, ?_, ?_, ?_, ?_, ?_⟩ <;> decide +kernel

theorem witness_SetpointCommands_2 : ∃ (s : State) (lk : Lk) (p : List Byte) (b : Br) (v : Int),
    s.Serves lk 0x0204 ∧ s.payload lk = p ∧ p.length = 12 ∧ zeros p 1 3 = true ∧ u8 p 0 ≤ 2 ∧ s.selRefused (u8 p 0)
      = false ∧ s.selBr (u8 p 0) = b ∧ i32 p 4 = v ∧ 0 ≤ i32 p 8 ∧ (s.dst b).isDriving = true ∧ s.bridges[b].mode =
      some .speed := by
  refine ⟨barge (driving .speed) 0x0204 (pad 12 [0, 0, 0, 0, 1]), 0, _, _, _, by constructor <;> decide +kernel,
    rfl, ?_, ?_, ?_, ?_, rfl, rfl, ?_, ?_, ?_⟩ <;> decide +kernel

theorem witness_SetpointCommands_3 : ∃ (s : State) (lk : Lk) (p : List Byte) (b : Br) (d : Int) (q : Int),
    s.Serves lk 0x0205 ∧ s.payload lk = p ∧ p.length = 12 ∧ zeros p 1 3 = true ∧ u8 p 0 ≤ 2 ∧ s.selRefused (u8 p 0)
      = false ∧ s.selBr (u8 p 0) = b ∧ i32 p 4 = d ∧ i32 p 8 = q ∧ s.dst b = .run ∧ s.bridges[b].mode = some
      .current := by
  refine ⟨barge (driving .current) 0x0205 (pad 12 [0, 0, 0, 0, 1]), 0, _, _, _, _,
    by constructor <;> decide +kernel, rfl, ?_, ?_, ?_, ?_, rfl, rfl, rfl, ?_, ?_⟩ <;> decide +kernel

theorem witness_SetpointCommands_4 : ∃ (s : State) (lk : Lk) (p : List Byte) (b : Br),
    s.Serves lk 0x0206 ∧ s.payload lk = p ∧ p.length = 4 ∧ u8 p 0 = b.val ∧ zeros p 1 3 = true ∧ s.configured b =
      true := by
  refine ⟨barge (withPar (live .run) P.drive_config 0) 0x0206 [1, 0, 0, 0], 0, _, 1,
    by constructor <;> decide +kernel, rfl, ?_, ?_, ?_, ?_⟩ <;> decide +kernel

theorem witness_PositionCommands_1 : ∃ (s : State) (lk : Lk) (p : List Byte) (k : PortIx),
    s.Serves lk 0x0301 ∧ s.payload lk = p ∧ p.length = 4 ∧ u8 p 0 = k.val ∧ zeros p 1 3 = true := by
  refine ⟨barge (live .ready) 0x0301 [3, 0, 0, 0], 0, _, 3, by constructor <;> decide +kernel, rfl, ?_, ?_,
    ?_⟩ <;> decide +kernel

theorem witness_PositionCommands_2 : ∃ (s : State) (lk : Lk) (p : List Byte) (b : Br),
    s.Serves lk 0x0302 ∧ s.payload lk = p ∧ s.selects p 4 2 = true ∧ s.selBr (u8 p 0) = b ∧ u8 p 1 ≤ 4 ∧
      s.sourceRefused b (u8 p 1) = false ∧ s.dst b = .ready := by
  refine ⟨barge (live .ready) 0x0302 [0, 4, 0, 0], 0, _, _, by constructor <;> decide +kernel, rfl, ?_, rfl, ?_,
    ?_, ?_⟩ <;> decide +kernel

theorem witness_PositionCommands_3 : ∃ (s : State) (lk : Lk) (p : List Byte) (b : Br),
    s.Serves lk 0x0303 ∧ s.payload lk = p ∧ p.length = 8 ∧ u8 p 0 ≤ 2 ∧ s.selRefused (u8 p 0) = false ∧ zeros p 1 3
      = true ∧ s.selBr (u8 p 0) = b ∧ 0 < i32 p 4 ∧ s.dst b = .ready := by
  refine ⟨barge (live .ready) 0x0303 [0, 0, 0, 0, 1, 0, 0, 0], 0, _, _, by constructor <;> decide +kernel, rfl,
    ?_, ?_, ?_, ?_, rfl, ?_, ?_⟩ <;> decide +kernel

theorem witness_PositionCommands_4 : ∃ (s : State) (lk : Lk) (p : List Byte) (k : PortIx),
    s.Serves lk 0x0304 ∧ s.payload lk = p ∧ p.length = 8 ∧ u8 p 0 = k.val ∧ zeros p 1 1 = true ∧ ((s.dst (s.portBr
      k) = .standby ∨ s.dst (s.portBr k) = .ready)) := by
  refine ⟨barge (live .standby) 0x0304 [3, 0, 0, 0, 0, 0, 0, 128], 0, _, 3, by constructor <;> decide +kernel,
    rfl, ?_, ?_, ?_, ?_⟩ <;> decide +kernel

theorem witness_ParameterCommands_1 : ∃ (s : State) (lk : Lk) (p : List Byte) (n : Nat),
    s.Serves lk 0x0B01 ∧ s.payload lk = p ∧ u8 p 0 = n ∧ 1 ≤ n ∧ n ≤ 29 ∧ p.length = 2 + 2 * n ∧ zeros p 1 1 = true
      := by
  refine ⟨barge (live .run) 0x0B01 (pad 60 [29, 0, 1, 10]), 0, _, _, by constructor <;> decide +kernel, rfl, rfl,
    ?_, ?_, ?_, ?_⟩ <;> decide +kernel

theorem witness_ParameterCommands_2 : ∃ (s : State) (lk : Lk) (p : List Byte) (n : Nat),
    s.Serves lk 0x0B02 ∧ s.payload lk = p ∧ u8 p 0 = n ∧ 1 ≤ n ∧ n ≤ 29 ∧ p.length = 4 + 8 * n ∧ zeros p 1 3 = true
      ∧ firstBad (fun k => !zeros p (6 + 8 * k) 2) (List.range n) 0 = none ∧ firstRange (setEntries p n) [] 0 =
      none ∧ firstBad (fun e => !s.parStateOk e.1 e.2) (setEntries p n) 0 = none := by
  refine ⟨barge (live .standby) 0x0B02 [1, 0, 0, 0, 1, 10, 0, 0, 100, 0, 0, 0], 0, _, _,
    by constructor <;> decide +kernel, rfl, rfl, ?_, ?_, ?_, ?_, ?_, ?_, ?_⟩ <;> decide +kernel

theorem witness_ParameterCommands_3 : ∃ (s : State) (lk : Lk),
    s.Serves lk 0x0B04 ∧ s.payload lk = [] :=
  ⟨barge (live .run) 0x0B04 [], 0, by constructor <;> decide +kernel, by decide +kernel⟩

theorem witness_ParameterCommands_4 : ∃ (s : State) (lk : Lk) (p : List Byte),
    s.Serves lk 0x0B03 ∧ s.payload lk = p ∧ p.length = 4 ∧ s.params.job = none ∧ s.paramCheck = 0 ∧ s.validGen <
      0xFFFFFFFE ∧ ((s.safetyDiffers = true → s.params.confirmed = true ∧ u32 p 0 = s.params.confCheck.toNat)) ∧
      s.bit F.NVMC_STATUS_INHIBIT = false := by
  refine ⟨barge confirmedReady 0x0B03 [0, 0, 0, 0], 0, _, by constructor <;> decide +kernel, rfl, ?_, ?_, ?_, ?_,
    ?_, ?_⟩ <;> decide +kernel

theorem witness_ParameterCommands_5 : ∃ (s : State) (lk : Lk),
    s.Serves lk 0x0B05 ∧ s.payload lk = [] :=
  ⟨barge (live .run) 0x0B05 [], 0, by constructor <;> decide +kernel, by decide +kernel⟩

theorem witness_ParameterCommands_6 : ∃ (s : State) (lk : Lk),
    s.Serves lk 0x0B06 ∧ s.payload lk = [] ∧ s.params.job = none ∧ s.bothIdle = true := by
  refine ⟨barge (live .ready) 0x0B06 [], 0, by constructor <;> decide +kernel, ?_, ?_, ?_⟩ <;> decide +kernel

theorem witness_ParameterCommands_7 : ∃ (s : State) (lk : Lk),
    s.Serves lk 0x0B07 ∧ s.payload lk = [] ∧ s.params.job = none ∧ s.bothIdle = true := by
  refine ⟨barge (live .fault) 0x0B07 [], 0, by constructor <;> decide +kernel, ?_, ?_, ?_⟩ <;> decide +kernel

theorem witness_SafetyCommands_1 : ∃ (s : State) (lk : Lk),
    s.Serves lk 0x0901 ∧ s.payload lk = [] :=
  ⟨barge (live .run) 0x0901 [], 0, by constructor <;> decide +kernel, by decide +kernel⟩

set_option maxRecDepth 100000 in
theorem witness_SafetyCommands_2 : ∃ (s : State) (lk : Lk) (p : List Byte),
    s.Serves lk 0x0902 ∧ s.payload lk = p ∧ p.length = 4 ∧ s.bothIdle = true ∧ BitVec.ofNat 32 (u32 p 0) =
      safetyCheck s.params.act := by
  refine ⟨barge (live .fault) 0x0902 [0x8b, 0x3a, 0x09, 0x23], 0, _, by constructor <;> decide +kernel, rfl, ?_,
    ?_, ?_⟩ <;> decide +kernel

theorem witness_SafetyCommands_3 : ∃ (s : State) (lk : Lk) (p : List Byte) (t : State),
    s.Serves lk 0x0903 ∧ s.payload lk = p ∧ p.length = 4 ∧ u8 p 0 ≤ 1 ∧ zeros p 1 3 = true ∧ s.ackRun (u8 p 0 == 1)
      = (.accepted, t) := by
  refine ⟨barge (live .ready) 0x0903 [1, 0, 0, 0], 0, _, ((barge (live .ready) 0x0903 [1, 0, 0,
    0]).ackRun true).2, by constructor <;> decide +kernel, rfl, ?_, ?_, ?_, ?_⟩ <;> decide +kernel

theorem witness_SafetyCommands_4 : ∃ (s : State) (lk : Lk) (p : List Byte) (c : Nat) (t : State),
    s.Serves lk 0x0903 ∧ s.payload lk = p ∧ p.length = 4 ∧ u8 p 0 ≤ 1 ∧ zeros p 1 3 = true ∧ s.ackRun (u8 p 0 == 1)
      = (.refused c, t) := by
  refine ⟨barge (withPar (live .fault) P.safety_fault_policy 1) 0x0903 [0, 0, 0, 0], 0, _, 0,
    ((barge (withPar (live .fault) P.safety_fault_policy 1) 0x0903 [0, 0, 0, 0]).ackRun false).2,
    by constructor <;> decide +kernel, rfl, ?_, ?_, ?_, ?_⟩ <;> decide +kernel

theorem witness_SafetyCommands_5 : ∃ (s : State) (lk : Lk) (p : List Byte),
    s.Serves lk 0x0904 ∧ s.payload lk = p ∧ p.length = 4 ∧ u16 p 0 ≤ 0x0FFF ∧ zeros p 2 2 = true ∧ (∀ k ∈ maskLanes
      (u16 p 0), s.idle (laneBr k) = true) ∧ (∀ k ∈ maskLanes (u16 p 0), s.laneFaulty k = false) := by
  refine ⟨barge (live .ready) 0x0904 [255, 15, 0, 0], 0, _, by constructor <;> decide +kernel, rfl, ?_, ?_, ?_,
    ?_, ?_⟩ <;> decide +kernel

theorem witness_SafetyCommands_6 : ∃ (s : State) (lk : Lk) (p : List Byte),
    s.Serves lk 0x0905 ∧ s.payload lk = p ∧ s.selects p 4 1 = true ∧ (s.dst (s.selBr (u8 p 0))).isActive = true := by
  refine ⟨barge (live .run) 0x0905 [0, 0, 0, 0], 0, _, by constructor <;> decide +kernel, rfl, ?_,
    ?_⟩ <;> decide +kernel

theorem witness_SafetyCommands_7 : ∃ (s : State) (lk : Lk) (p : List Byte) (t : State),
    s.Serves lk 0x0906 ∧ s.payload lk = p ∧ p.length = 4 ∧ zeros p 1 3 = true ∧ s.stoSettle = t := by
  refine ⟨barge (live .run) 0x0906 [255, 0, 0, 0], 0, _, _, by constructor <;> decide +kernel, rfl, ?_, ?_,
    rfl⟩ <;> decide +kernel

theorem witness_RecorderCommands_1 : ∃ (s : State) (lk : Lk) (p : List Byte) (l : List Nat),
    s.Serves lk 0x0B10 ∧ s.payload lk = p ∧ p.length = 4 ∧ zeros p 2 2 = true ∧ (s.snaps.filter fun i => decide
      (u16 p 0 ≤ i)).take 19 = l := by
  refine ⟨barge (live .run) 0x0B10 [255, 255, 0, 0], 0, _, _, by constructor <;> decide +kernel, rfl, ?_, ?_,
    rfl⟩ <;> decide +kernel

theorem witness_RecorderCommands_2 : ∃ (s : State) (lk : Lk) (p : List Byte),
    s.Serves lk 0x0B11 ∧ s.payload lk = p ∧ p.length = 8 ∧ u16 p 2 + u8 p 4 ≤ 65536 ∧ 1 ≤ u8 p 4 ∧ u8 p 4 ≤ 228 ∧
      zeros p 5 3 = true ∧ s.hasSnap (u16 p 0) = true := by
  refine ⟨barge (withSnap (live .run)) 0x0B11 [0, 0, 255, 255, 1, 0, 0, 0], 0, _,
    by constructor <;> decide +kernel, rfl, ?_, ?_, ?_, ?_, ?_, ?_⟩ <;> decide +kernel

theorem witness_RecorderCommands_3 : ∃ (s : State) (lk : Lk) (c : Collect),
    s.Serves lk 0x0B12 ∧ s.payload lk = [] ∧ (s.recTrigger 0 none).recd.coll = some c :=
  ⟨barge (live .run) 0x0B12 [], 0,
    ((barge (live .run) 0x0B12 []).recTrigger 0 none).recd.coll.get (by decide +kernel),
    by constructor <;> decide +kernel, by decide +kernel, (Option.some_get _).symm⟩

theorem witness_RecorderCommands_4 : ∃ (s : State) (lk : Lk),
    s.Serves lk 0x0B12 ∧ s.payload lk = [] ∧ (s.recTrigger 0 none).recd.coll = none := by
  refine ⟨barge ((live .run).flag F.NVMC_REC_ENABLE 0 false) 0x0B12 [], 0, by constructor <;> decide +kernel, ?_,
    ?_⟩ <;> decide +kernel

theorem witness_RecorderCommands_5 : ∃ (s : State) (lk : Lk) (p : List Byte),
    s.Serves lk 0x0B13 ∧ s.payload lk = p ∧ p.length = 4 ∧ u8 p 2 ≤ 1 ∧ zeros p 3 1 = true ∧ s.hasSnap (u16 p 0) =
      true ∧ ((u8 p 2 = 1 → s.recd.pins.contains (u16 p 0) = true ∨ s.pinFull = false)) := by
  refine ⟨barge (withSnap (live .run)) 0x0B13 [0, 0, 1, 0], 0, _, by constructor <;> decide +kernel, rfl, ?_, ?_,
    ?_, ?_, ?_⟩ <;> decide +kernel

theorem witness_RecorderCommands_6 : ∃ (s : State) (lk : Lk) (p : List Byte),
    s.Serves lk 0x0B14 ∧ s.payload lk = p ∧ p.length = 4 ∧ u8 p 0 + u8 p 1 ≤ 32 ∧ 1 ≤ u8 p 1 ∧ u8 p 1 ≤ 28 ∧ zeros
      p 2 2 = true := by
  refine ⟨barge (live .run) 0x0B14 [4, 28, 0, 0], 0, _, by constructor <;> decide +kernel, rfl, ?_, ?_, ?_, ?_,
    ?_⟩ <;> decide +kernel

theorem witness_RecorderCommands_7 : ∃ (s : State) (lk : Lk) (p : List Byte) (k : Fin 32),
    s.Serves lk 0x0B15 ∧ s.payload lk = p ∧ p.length = 4 ∧ u8 p 0 = k.val ∧ srcDefined (u8 p 1) = true ∧ u8 p 2 ≤ 3
      ∧ zeros p 3 1 = true := by
  refine ⟨barge (live .run) 0x0B15 [31, 0, 3, 0], 0, _, 31, by constructor <;> decide +kernel, rfl, ?_, ?_, ?_,
    ?_, ?_⟩ <;> decide +kernel

theorem witness_FirmwareCommands_1 : ∃ (s : State) (lk : Lk) (p : List Byte) (bank : Br),
    s.Serves lk 0x0D01 ∧ s.payload lk = p ∧ p.length = 8 ∧ u8 p 0 = 0 ∧ u32 p 4 ≤ 0xC00000 ∧ zeros p 1 3 = true ∧
      s.fwIdle = true ∧ ((if s.trust.bankA.st = .active ∨ s.trust.bankA.st = .trial then 1 else 0) = bank) := by
  refine ⟨barge (live .run) 0x0D01 (pad 8 [0, 0, 0, 0, 0, 0, 192]), 0, _, _, by constructor <;> decide +kernel,
    rfl, ?_, ?_, ?_, ?_, ?_, rfl⟩ <;> decide +kernel

theorem witness_FirmwareCommands_2 : ∃ (s : State) (lk : Lk) (p : List Byte) (bank : Br),
    s.Serves lk 0x0D01 ∧ s.payload lk = p ∧ p.length = 8 ∧ u8 p 0 = 1 ∧ u32 p 4 ≤ 0x100000 ∧ zeros p 1 3 = true ∧
      s.fwIdle = true ∧ ((if s.trust.bankA.st = .active ∨ s.trust.bankA.st = .trial then 1 else 0) = bank) := by
  refine ⟨barge (live .run) 0x0D01 (pad 8 [1, 0, 0, 0, 0, 0, 16]), 0, _, _, by constructor <;> decide +kernel,
    rfl, ?_, ?_, ?_, ?_, ?_, rfl⟩ <;> decide +kernel

theorem witness_FirmwareCommands_3 : ∃ (s : State) (lk : Lk) (p : List Byte),
    s.Serves lk 0x0D02 ∧ s.payload lk = p ∧ 5 ≤ p.length ∧ s.trust.fw.phase = .loading ∧ u32 p 0 + (p.length - 4) ≤
      s.trust.fw.size := by
  refine ⟨barge (session (live .run) .loading) 0x0D02 [7, 0, 0, 0, 9], 0, _, by constructor <;> decide +kernel,
    rfl, ?_, ?_, ?_⟩ <;> decide +kernel

theorem witness_FirmwareCommands_4 : ∃ (s : State) (lk : Lk),
    s.Serves lk 0x0D03 ∧ s.payload lk = [] ∧ s.trust.fw.phase = .loading := by
  refine ⟨barge (session (live .run) .loading) 0x0D03 [], 0, by constructor <;> decide +kernel, ?_,
    ?_⟩ <;> decide +kernel

theorem witness_FirmwareCommands_5 : ∃ (s : State) (lk : Lk) (va : Word) (vi : Word),
    s.Serves lk 0x0D04 ∧ s.payload lk = [] ∧ (if s.activeBank = 1 then s.trust.bankB.version else if s.activeBank =
      0 then s.trust.bankA.version else 0) = va ∧ (if s.activeBank = 1 then s.trust.bankA.version else
      s.trust.bankB.version) = vi :=
  ⟨barge (live .run) 0x0D04 [], 0, _, _, by constructor <;> decide +kernel, by decide +kernel, rfl, rfl⟩

theorem witness_FirmwareCommands_6 : ∃ (s : State) (lk : Lk),
    s.Serves lk 0x0D05 ∧ s.payload lk = [] ∧ s.pilot.restarting = false ∧ s.trust.fw.phase = .verified ∧
      s.trust.fw.patch = false ∧ s.trust.fw.kind = 0 ∧ s.restartAllowed = true ∧ s.pilot.heldForGood = false := by
  refine ⟨barge (session (live .ready) .verified) 0x0D05 [], 0, by constructor <;> decide +kernel, ?_, ?_, ?_, ?_,
    ?_, ?_, ?_⟩ <;> decide +kernel

theorem witness_FirmwareCommands_7 : ∃ (s : State) (lk : Lk),
    s.Serves lk 0x0D05 ∧ s.payload lk = [] ∧ s.pilot.restarting = false ∧ s.trust.fw.phase = .verified ∧
      s.trust.fw.patch = true ∧ s.bothIdle = true := by
  refine ⟨barge ((session (live .ready) .verified).upFw fun x => { x with patch := true }) 0x0D05 [], 0,
    by constructor <;> decide +kernel, ?_, ?_, ?_, ?_, ?_⟩ <;> decide +kernel

theorem witness_FirmwareCommands_8 : ∃ (s : State) (lk : Lk) (es : List KeyEntry),
    s.Serves lk 0x0D05 ∧ s.payload lk = [] ∧ s.pilot.restarting = false ∧ s.trust.fw.phase = .verified ∧
      s.trust.fw.patch = false ∧ s.trust.fw.kind = 2 ∧ s.bothStandby = true ∧ s.keyRecord = some es ∧ (∀ e ∈ es,
      s.entryPermitted e = true) := by
  refine ⟨barge ((session (live .standby) .verified).upFw fun x => { x with kind := 2 }) 0x0D05 [], 0, [],
    by constructor <;> decide +kernel, ?_, ?_, ?_, ?_, ?_, ?_, ?_, ?_⟩ <;> decide +kernel

theorem witness_FirmwareCommands_9 : ∃ (s : State) (lk : Lk),
    s.Serves lk 0x0D06 ∧ s.payload lk = [] ∧ s.pilot.heldForGood = false ∧ s.pilot.restarting = false ∧
      s.restartAllowed = true := by
  refine ⟨barge (live .ready) 0x0D06 [], 0, by constructor <;> decide +kernel, ?_, ?_, ?_, ?_⟩ <;> decide +kernel

theorem witness_FirmwareCommands_10 : ∃ (s : State) (lk : Lk),
    s.Serves lk 0x0D07 ∧ s.payload lk = [] ∧ (s.trust.fw.phase = .loading ∨ s.trust.fw.phase = .verifying ∨
      s.trust.fw.phase = .verified) := by
  refine ⟨barge (session (live .run) .verifying) 0x0D07 [], 0, by constructor <;> decide +kernel, ?_,
    ?_⟩ <;> decide +kernel

theorem witness_LifeCycleCommands_1 : ∃ (s : State) (lk : Lk),
    s.Serves lk 0x0E00 ∧ s.payload lk = [] :=
  ⟨barge (live .run) 0x0E00 [], 0, by constructor <;> decide +kernel, by decide +kernel⟩

theorem witness_LifeCycleCommands_2 : ∃ (s : State) (lk : Lk),
    s.Serves lk 0x0E01 ∧ s.payload lk = [] :=
  ⟨barge (live .run) 0x0E01 [], 0, by constructor <;> decide +kernel, by decide +kernel⟩

theorem witness_LifeCycleCommands_3 : ∃ (s : State) (lk : Lk),
    s.Serves lk 0x0E02 ∧ s.payload lk = [] :=
  ⟨barge (live .run) 0x0E02 [], 0, by constructor <;> decide +kernel, by decide +kernel⟩

theorem witness_LifeCycleCommands_4 : ∃ (s : State) (lk : Lk) (p : List Byte) (t : Nat),
    s.Serves lk 0x0E03 ∧ s.payload lk = p ∧ p.length = 68 ∧ u8 p 0 = t ∧ t ≤ 4 ∧ zeros p 1 3 = true ∧ s.authLocked
      = false ∧ lifePermitted s.trust.life t = true ∧ s.bothStandby = true := by
  refine ⟨barge (live .standby) 0x0E03 (pad 68 [1]), 0, _, _, by constructor <;> decide +kernel, rfl, ?_, rfl, ?_,
    ?_, ?_, ?_, ?_⟩ <;> decide +kernel

theorem witness_LifeCycleCommands_5 : ∃ (s : State) (lk : Lk) (p : List Byte),
    s.Serves lk 0x0E03 ∧ s.payload lk = p ∧ p.length = 68 ∧ u8 p 0 = 5 ∧ zeros p 1 3 = true ∧ s.authLocked = false
      ∧ s.trust.life ≠ .scrapped ∧ s.bothStandby = true := by
  refine ⟨barge (live .standby) 0x0E03 (pad 68 [5]), 0, _, by constructor <;> decide +kernel, rfl, ?_, ?_, ?_, ?_,
    ?_, ?_⟩ <;> decide +kernel

theorem witness_LifeCycleCommands_6 : ∃ (s : State) (lk : Lk) (p : List Byte),
    s.Serves lk 0x0E04 ∧ s.payload lk = p ∧ p.length = 68 ∧ u8 p 0 = 0 ∧ zeros p 1 3 = true ∧ s.authLocked = false
      ∧ s.trust.life ≠ .scrapped ∧ s.trust.life ≠ .sealed ∧ s.bothStandby = true := by
  refine ⟨barge (live .standby) 0x0E04 (pad 68 []), 0, _, by constructor <;> decide +kernel, rfl, ?_, ?_, ?_, ?_,
    ?_, ?_, ?_⟩ <;> decide +kernel

theorem witness_LifeCycleCommands_7 : ∃ (s : State) (lk : Lk) (p : List Byte),
    s.Serves lk 0x0E04 ∧ s.payload lk = p ∧ p.length = 68 ∧ u8 p 0 ≤ 1 ∧ zeros p 1 3 = true ∧ s.authLocked = false
      ∧ s.trust.life ≠ .scrapped ∧ ((u8 p 0 = 1 ∨ s.trust.life = .sealed)) ∧ s.bothStandby = true := by
  refine ⟨barge (live .standby) 0x0E04 (pad 68 [1]), 0, _, by constructor <;> decide +kernel, rfl, ?_, ?_, ?_, ?_,
    ?_, ?_, ?_⟩ <;> decide +kernel

theorem witness_LifeCycleCommands_8 : ∃ (s : State) (lk : Lk),
    s.Serves lk 0x0E05 ∧ s.payload lk = [] ∧ s.bothIdle = true := by
  refine ⟨barge (live .ready) 0x0E05 [], 0, by constructor <;> decide +kernel, ?_, ?_⟩ <;> decide +kernel

theorem witness_LifeCycleCommands_9 : ∃ (s : State) (lk : Lk) (c : Nat),
    s.Serves lk c ∧ commandCodes.contains c = false :=
  ⟨barge (live .run) 0xFFFF [], 0, 0xFFFF, by constructor <;> decide +kernel, by decide +kernel⟩

theorem witness_HostSpiFrames_1 : ∃ (s : State) (port : Fin 2) (k : Lk) (lock : Byte) (off : BitVec 16) (count :
  BitVec 16) (data : List Byte) (crc : Byte),
    s.spiUp = true ∧ s.safeHeld = false ∧ lockNo lock = some k ∧ crc = spiCrc (spiHead 0x20 lock off count ++ data)
      ∧ data.length = count.toNat ∧ 0 < count.toNat ∧ off.toNat + count.toNat ≤ 256 ∧ s.locks[k].gate = .empty ∧
      ((s.locks[k].owner = none ∨ s.locks[k].owner = some (.spi port))) := by
  refine ⟨live .run, 1, 0, 0, 0, 1, [7], _, ?_, ?_, ?_, rfl, ?_, ?_, ?_, ?_, ?_⟩ <;> decide +kernel

theorem witness_HostSpiFrames_2 : ∃ (s : State) (port : Fin 2) (k : Lk) (lock : Byte) (crc : Byte),
    s.spiUp = true ∧ s.safeHeld = false ∧ lockNo lock = some k ∧ crc = spiCrc (spiHead 0x21 lock 0 0) ∧
      s.lockEnabled = true ∧ s.locks[k].gate = .empty ∧ s.locks[k].owner = some (.spi port) ∧ s.locks[k].plen ≤ 236
      ∧ s.locks[k].got = 20 + s.locks[k].plen ∧ s.locks[k].crcOk k = true ∧ s.locks[k].headZero = true ∧
      ((s.locks[k].last = none ∨ ∃ q t, s.locks[k].last = some (q,
      t) ∧ s.locks[k].seq = (q + 1) % 65536 ∧ s.locks[k].toggle ≠ t)) := by
  refine ⟨ready1 ((live .run).flag F.LOCK_CTRL_ENABLE 0 true) [], 1, 0, 0, _, ?_, ?_, ?_, rfl, ?_, ?_, ?_, ?_, ?_,
    ?_, ?_, by left; decide +kernel⟩ <;> decide +kernel

theorem witness_HostSpiFrames_3 : ∃ (s : State) (port : Fin 2) (k : Lk) (lock : Byte) (off : BitVec 16) (count :
  BitVec 16) (crc : Byte),
    s.spiUp = true ∧ s.safeHeld = false ∧ lockNo lock = some k ∧ crc = spiCrc (spiHead 0x22 lock off count) ∧
      s.locks[k].gate = .reply ∧ 0 < count.toNat ∧ off.toNat + count.toNat ≤ 256 := by
  refine ⟨(live .run).upLock 0 fun l => { l with gate := .reply }, 1, 0, 0, 0, 256, _, ?_, ?_, ?_, rfl, ?_, ?_,
    ?_⟩ <;> decide +kernel

theorem witness_HostSpiFrames_4 : ∃ (s : State) (port : Fin 2) (k : Lk) (lock : Byte) (crc : Byte),
    s.spiUp = true ∧ s.safeHeld = false ∧ lockNo lock = some k ∧ crc = spiCrc (spiHead 0x23 lock 0 0) ∧
      s.locks[k].gate = .reply ∧ s.sys.standbyDue = false ∧ s.sys.resetDue = false := by
  refine ⟨(live .run).upLock 0 fun l => { l with gate := .reply }, 1, 0, 0, _, ?_, ?_, ?_, rfl, ?_, ?_,
    ?_⟩ <;> decide +kernel

theorem witness_HostSpiFrames_5 : ∃ (s : State) (port : Fin 2) (crc : Byte),
    s.spiUp = true ∧ s.safeHeld = false ∧ crc = spiCrc (spiHead 0x24 0 0 0) := by
  refine ⟨live .run, 1, _, ?_, ?_, rfl⟩ <;> decide +kernel

theorem witness_HostSpiFrames_6 : ∃ (s : State) (port : Fin 2) (crc : Byte),
    s.spiUp = true ∧ crc = spiCrc (spiHead 0x10 0 0 32) :=
  ⟨live .run, 1, _, by decide +kernel, rfl⟩

theorem witness_SpiFrameCrcError_1 : ∃ (s : State) (port : Fin 2) (lock : Byte) (off : BitVec 16) (count : BitVec
  16) (data : List Byte) (crc : Byte),
    s.spiUp = true :=
  ⟨live .run, 1, 0, 0, 0, [], 0, by decide +kernel⟩

theorem witness_TransportDelivery_1 : ∃ (s : State) (c : Fin 4) (f : CanFrame) (k : Lk),
    f.wf = true ∧ f.fmt = .xl ∧ f.data.length ≤ 256 ∧ s.canMapped c = true ∧ s.canReqLock f = some k ∧ s.canOn c =
      true ∧ s.rd F.CAN_CTRL_MODE c ≠ 2 ∧ s.canRefuse c f = none ∧ (s.canRxGood c).canMapped c = true ∧
      (s.canRxGood c).canReqLock f = some k := by
  refine ⟨(canOnBus (live .run)), 0, canFrame .xl 0x600 20, 0, ?_, ?_, ?_, ?_, ?_, ?_, ?_, ?_, ?_,
    ?_⟩ <;> decide +kernel

theorem witness_TransportDelivery_2 : ∃ (s : State) (dt : Nat) (c : Fin 4) (f : CanFrame) (k : Lk),
    f.wf = true ∧ f.fmt = .fd ∧ f.ext = false ∧ (s.tick dt).canMapped c = true ∧ (s.tick dt).canReqLock f = some k
      ∧ (s.tick dt).canOn c = true ∧ (s.tick dt).rd F.CAN_CTRL_MODE c ≠ 2 ∧ (s.tick dt).canRefuse c f = none ∧
      ((s.tick dt).canRxGood c).canMapped c = true ∧ ((s.tick dt).canRxGood c).canReqLock f = some k := by
  refine ⟨(canOnBus (live .run)), 0, 0, canFrame .fd 0x600 8, 0, ?_, ?_, ?_, ?_, ?_, ?_, ?_, ?_, ?_,
    ?_⟩ <;> decide +kernel

theorem witness_TransportDelivery_3 : ∃ (s : State) (dt : Nat) (c : Fin 4) (f : CanFrame),
    f.wf = true ∧ f.fmt ≠ .classical ∧ f.data.length = 16 ∧ (s.tick dt).canMapped c = true ∧ (s.tick dt).canReqLock
      f = none ∧ f.id = s.parN P.lock_sp_can_id ∧ (s.tick dt).canOn c = true ∧ (s.tick dt).rd F.CAN_CTRL_MODE c ≠ 2
      ∧ (s.tick dt).canRefuse c f = none ∧ ((s.tick dt).canRxGood c).canMapped c = true ∧ ((s.tick dt).canRxGood
      c).canReqLock f = none ∧ f.id = ((s.tick dt).canRxGood c).parN P.lock_sp_can_id ∧ ((s.tick dt).canRxGood
      c).parN P.lock_sp_enable = 1 := by
  refine ⟨withPar (canOnBus (live .run)) P.lock_sp_enable 1, 0, 0, canFrame .fd 0x100 16, ?_, ?_, ?_, ?_, ?_, ?_,
    ?_, ?_, ?_, ?_, ?_, ?_, ?_⟩ <;> decide +kernel

theorem witness_TransportDelivery_4 : ∃ (s : State) (mac : Fin 2) (src : Word) (sport : BitVec 16) (bs : List Byte)
  (k : Lk),
    s.ethOn mac = true ∧ lockOf bs = some k := by
  refine ⟨withPar (live .run) (P.eth_enable 0) 1, 0, 0, 0, List.replicate 20 0, 0, ?_, ?_⟩ <;> decide +kernel

theorem witness_TransportDelivery_5 : ∃ (s : State) (mac : Fin 2) (src : Word) (sport : BitVec 16) (bs : List Byte)
  (k : Lk),
    s.ethOn mac = true ∧ lockOf bs = none ∧ s.lockEnabled = true ∧ bs.length ≠ 20 + u8 bs 4 ∧ k.val = u8 bs 5 % 16
      := by
  refine ⟨(withPar (live .run) (P.eth_enable 0) 1).flag F.LOCK_CTRL_ENABLE 0 true, 0, 0, 0, [1, 2], 0, ?_, ?_, ?_,
    ?_, ?_⟩ <;> decide +kernel

theorem witness_TransportDelivery_6 : ∃ (s : State) (raw : List Byte) (bs : List Byte) (k : Lk),
    s.spiUp = true ∧ unstuff raw = some bs ∧ lockOf bs = some k := by
  refine ⟨live .run, List.replicate 20 0, List.replicate 20 0, 0, ?_, ?_, ?_⟩ <;> decide +kernel

theorem witness_TransportDelivery_7 : ∃ (s : State) (port : TowPort) (fr : List Byte) (k : Lk),
    s.spiUp = true ∧ s.towOn port = true ∧ u8 fr 0 = 3 ∧ u8 fr 1 % 2 = 0 ∧ towAdmitted fr = true ∧ towCheck fr =
      true ∧ s.net.towNum = some (u16 fr 4) ∧ lockOf (towPayload fr) = some k := by
  refine ⟨towLive (live .run), .up, towFrame 3 0 1 0 (List.replicate 20 0), 0, ?_, ?_, ?_, ?_, ?_, ?_, ?_,
    ?_⟩ <;> decide +kernel

theorem witness_BargeChecks_1 : ∃ (s : State) (tr : Transport) (k : Lk) (bs : List Byte),
    s.lockEnabled = false :=
  ⟨(live .run).flag F.LOCK_CTRL_ENABLE 0 false, .uart, 0, [], by decide +kernel⟩

theorem witness_BargeChecks_2 : ∃ (s : State) (tr : Transport) (k : Lk) (bs : List Byte),
    s.lockEnabled = true ∧ s.locks[k].free = false := by
  refine ⟨((live .run).flag F.LOCK_CTRL_ENABLE 0 true).upLock 0 fun l => { l with gate := .service }, .uart, 0,
    [], ?_, ?_⟩ <;> decide +kernel

theorem witness_BargeChecks_3 : ∃ (s : State) (k : Lk),
    236 < s.locks[k].plen :=
  ⟨(live .run).upLock 15 fun l => l.put 4 [237], 15, by decide +kernel⟩

theorem witness_BargeChecks_4 : ∃ (s : State) (k : Lk),
    s.locks[k].plen ≤ 236 ∧ s.locks[k].got ≠ 20 + s.locks[k].plen := by
  refine ⟨(live .run).upLock 0 fun l => { l.put 4 [236] with got := 255 }, 0, ?_, ?_⟩ <;> decide +kernel

theorem witness_BargeChecks_5 : ∃ (s : State) (k : Lk),
    s.locks[k].plen ≤ 236 ∧ s.locks[k].got = 20 + s.locks[k].plen ∧ s.locks[k].crcOk k = false := by
  refine ⟨(live .run).upLock 0 fun l => { l with got := 20 }, 0, ?_, ?_, ?_⟩ <;> decide +kernel

theorem witness_BargeChecks_6 : ∃ (s : State) (k : Lk),
    s.locks[k].plen ≤ 236 ∧ s.locks[k].got = 20 + s.locks[k].plen ∧ s.locks[k].crcOk k = true ∧ s.locks[k].headZero
      = false := by
  refine ⟨ready1 (live .run) [0, 0, 0, 0, 0, 0, 2], 0, ?_, ?_, ?_, ?_⟩ <;> decide +kernel

theorem witness_BargeChecks_7 : ∃ (s : State) (k : Lk) (q : Nat) (t : Bool),
    s.locks[k].plen ≤ 236 ∧ s.locks[k].got = 20 + s.locks[k].plen ∧ s.locks[k].crcOk k = true ∧ s.locks[k].headZero
      = true ∧ s.locks[k].last = some (q,
      t) ∧ (¬ (s.locks[k].seq = (q + 1) % 65536 ∧ s.locks[k].toggle ≠ t)) ∧ (¬ (s.locks[k].seq = q ∧
      s.locks[k].toggle = t)) := by
  refine ⟨(ready1 (live .run) []).upLock 0 fun l => { l with last := some (5, false) }, 0, 5, false, ?_, ?_, ?_,
    ?_, ?_, ?_, ?_⟩ <;> decide +kernel

theorem witness_LockEvents_1 : ∃ (s : State) (dt : Nat) (k : Lk) (t : State) (u : State),
    s.tick dt = t ∧ t.locks[k].gate = .service ∧ t.locks[k].svcAt + t.rd F.LOCK_CTRL_TIMEOUT_MS * msCounts < t.now
      ∧ ({ t with lockTie := some ⟨k, t.now, t.locks[k], t.bit F.LOCK_ERR_TIMEOUT, t.bridges.toList.map fun x : Bridge => x.cmds⟩ }.reply k ST.TIMEOUT [] true).flag F.LOCK_ERR_TIMEOUT 0 true = u := by
  refine ⟨(live .run).upLock 0 fun l => { l with gate := .service }, 4000000000000, 0, _, _, rfl, ?_, ?_,
    rfl⟩ <;> decide +kernel

theorem witness_LockEvents_2 : ∃ (s : State) (dt : Nat) (c : Fin 4) (p : SegPart),
    (s.tick dt).cans[c].part = some p ∧ p.at_ + (s.tick dt).parN P.lock_seg_gap * msCounts < (s.tick dt).now := by
  refine ⟨(live .run).upCan 0 fun c => { c with part := some ⟨0, 0, 0, [], 0⟩ }, 4000000000, 0, ⟨0, 0, 0, [], 0⟩,
    ?_, ?_⟩ <;> decide +kernel

theorem witness_LockEvents_3 : ∃ (s : State) (k : Lk) (mac : Fin 2) (ip : Word) (port : BitVec 16) (bs : List Byte),
    s.locks[k].gate = .reply ∧ s.locks[k].owner = some (.udp mac ip port) ∧ s.locks[k].bytes 0 (20 +
      s.locks[k].plen) = bs := by
  refine ⟨(live .run).upLock 0 fun l => { l with gate := .reply, owner := some (.udp 0 1 2) }, 0, 0, 1, 2, _, ?_,
    ?_, rfl⟩ <;> decide +kernel

theorem witness_LockEvents_4 : ∃ (s : State) (t : State) (u : State) (dt : Nat) (b : Br) (c : Br),
    s.tick dt = t ∧ t.lead b = c ∧ t.parN P.lock_sp_enable = 1 ∧ t.bridges[c].spAt + t.parN P.lock_sp_timeout *
      msCounts ≤ t.now ∧ (t.dst b).isDriving = true ∧ (t.each (t.group b) fun v d => v.upB d fun x =>
      { x with spAt := v.now }) = u := by
  refine ⟨withPar (driving .torque) P.lock_sp_enable 1, _, _, 4000000000, 0, _, rfl, rfl, ?_, ?_, ?_,
    rfl⟩ <;> decide +kernel

theorem witness_StopEvents_1 : ∃ (s : State) (t : State) (dt : Nat) (b : Br) (c : Br) (n : Nat),
    s.tick dt = t ∧ t.lead b = c ∧ t.bridges[c].stopping = some (false,
      n) ∧ (t.dst c).isDriving = true ∧ ratAbs (t.rampFrom c) ≤ t.rampDown n := by
  refine ⟨(driving .torque).upB 0 fun x => { x with stopping := some (false, 0) }, _, 1, 0, _, 0, rfl, rfl, ?_,
    ?_, ?_⟩ <;> decide +kernel

theorem witness_StopEvents_2 : ∃ (s : State) (t : State) (dt : Nat) (b : Br) (c : Br) (n : Nat) (m : Nat),
    s.tick dt = t ∧ t.lead b = c ∧ t.bridges[c].stopping = some (true,
      n) ∧ (t.dst c).isDriving = true ∧ t.bridges[c].slowSince = some m ∧ m + t.parN P.drive_zero_hold * msCounts ≤
      t.now := by
  refine ⟨(driving .torque).upB 0 fun x => { x with stopping := some (true, 0), slowSince := some 0 }, _,
    400000000, 0, _, 0, 0, rfl, rfl, ?_, ?_, ?_, ?_⟩ <;> decide +kernel

theorem witness_StopEvents_3 : ∃ (s : State) (t : State) (dt : Nat) (b : Br) (c : Br) (n : Nat),
    s.tick dt = t ∧ t.lead b = c ∧ t.bridges[c].stopping = some (true,
      n) ∧ (t.dst c).isDriving = true ∧ n + t.parN P.drive_stop_max * msCounts ≤ t.now := by
  refine ⟨(driving .torque).upB 0 fun x => { x with stopping := some (true, 0) }, _, 4000000000000, 0, _, 0, rfl,
    rfl, ?_, ?_, ?_⟩ <;> decide +kernel

theorem witness_StopEvents_4 : ∃ (s : State) (t : State) (dt : Nat) (b : Br) (c : Br),
    s.tick dt = t ∧ t.lead b = c ∧ t.dst c = .safeStop ∧ t.speedMag c < t.parN P.safety_ss1_zero := by
  refine ⟨live .safeStop, _, 1, 0, _, rfl, rfl, ?_, ?_⟩ <;> decide +kernel

theorem witness_StopEvents_5 : ∃ (s : State) (t : State) (dt : Nat) (b : Br) (c : Br),
    s.tick dt = t ∧ t.lead b = c ∧ t.dst c = .degraded ∧ t.bridges[c].degLeft = 0 := by
  refine ⟨(live .degraded).upB 0 fun x => { x with degLeft := 1 }, _, 1, 0, _, rfl, rfl, ?_, ?_⟩ <;> decide +kernel

theorem witness_StopEvents_6 : ∃ (s : State) (t : State) (dt : Nat) (n : Nat) (b : Br) (c : Br),
    s.tick dt = t ∧ t.lead b = c ∧ t.bit F.FLT_CTRL_HOLD c = true ∧ (t.dst c).isDriving = true ∧
      t.flights[c].holdAt = some n ∧ n + 50 * msCounts ≤ t.now := by
  refine ⟨((live .run).flag F.FLT_CTRL_HOLD 0 true).upFl 0 fun f => { f with holdAt := some 0 }, _, 20000000, 0,
    0, _, rfl, rfl, ?_, ?_, ?_, ?_⟩ <;> decide +kernel

theorem witness_CatchEvents_1 : ∃ (s : State) (t : State) (dt : Nat) (b : Br) (c : Br),
    s.tick dt = t ∧ t.lead b = c ∧ t.dst c = .catching ∧ t.isPm c = false ∧ t.bit F.MOD_CTRL_MODE c = true := by
  refine ⟨withPar ((live .catching).flag F.MOD_CTRL_MODE 0 true) (P.flight_machine 0) 2, _, 1, 0, _, rfl, rfl, ?_,
    ?_, ?_⟩ <;> decide +kernel

theorem witness_CatchEvents_2 : ∃ (s : State) (t : State) (u : State) (dt : Nat) (b : Br) (c : Br) (d : Int) (om :
  Rat) (th : Rat),
    s.tick dt = t ∧ t.spend = u ∧ t.lead b = c ∧ t.dst c = .catching ∧ t.isPm c = true ∧ t.windowOver c = true ∧
      t.bridges[c].catchRec.dir = some d ∧ t.bridges[c].catchRec.freq * (d : Rat) * u.phaseSense c = om ∧
      t.bridges[c].catchRec.angle (u.phaseSense c) om t.now = th := by
  refine ⟨caught, _, _, 400000000, 0, _, 1, _, _, rfl, rfl, rfl, ?_, ?_, ?_, ?_, rfl, rfl⟩ <;> decide +kernel

theorem witness_CatchEvents_3 : ∃ (s : State) (t : State) (u : State) (dt : Nat) (b : Br) (c : Br) (f : Int) (n :
  Nat),
    s.tick dt = t ∧ t.lead b = c ∧ t.dst c = .catching ∧ t.bridges[c].imSearch = some n ∧ t.now ≤ n + t.parN
      P.drive_im_search_time * msCounts ∧ (if t.sensorPresent c then t else t.observerStart c (t.trackedAt c t.dt)
      ((f : Rat) / 400000000000)).catchRun c 0 0 = u := by
  refine ⟨(((live .catching).wr F.ACLK_STATUS_SOURCE 0 0).wr F.ACLK_STATUS_QUALITY 0 0).upB 0 fun x =>
    { x with imSearch := some 0 }, _, _, 1, 0, _, 1000, 0, rfl, rfl, ?_, ?_, ?_, rfl⟩ <;> decide +kernel

theorem witness_CatchEvents_4 : ∃ (s : State) (t : State) (dt : Nat) (b : Br) (c : Br) (f : Option Int) (n : Nat),
    s.tick dt = t ∧ t.lead b = c ∧ t.dst c = .catching ∧ t.bridges[c].imSearch = some n ∧ ((f = none ∨ n + t.parN
      P.drive_im_search_time * msCounts < t.now)) := by
  refine ⟨(live .catching).upB 0 fun x => { x with imSearch := some 0 }, _, 1, 0, _, none, 0, rfl, rfl, ?_, ?_,
    ?_⟩ <;> decide +kernel

theorem witness_CatchEvents_5 : ∃ (s : State) (t : State) (dt : Nat) (b : Br) (c : Br) (w : Word) (n : Nat),
    s.tick dt = t ∧ t.lead b = c ∧ t.bridges[c].ipd = true ∧ 1050 ≤ n := by
  refine ⟨(live .catching).upB 0 fun x => { x with ipd := true }, _, 1, 0, _, 0, 1050, rfl, rfl, ?_,
    ?_⟩ <;> decide +kernel

theorem witness_CatchEvents_6 : ∃ (s : State) (t : State) (dt : Nat) (b : Br) (c : Br) (w : Word) (n : Nat) (o :
  Bool),
    s.tick dt = t ∧ t.lead b = c ∧ t.bridges[c].ipd = true ∧ ((n < 1050 ∨ o = false)) := by
  refine ⟨(live .catching).upB 0 fun x => { x with ipd := true }, _, 1, 0, _, 0, 1049, true, rfl, rfl, ?_,
    ?_⟩ <;> decide +kernel

theorem witness_PrechargeSequence_1 : ∃ (s : State) (t : State) (dt : Nat) (b : Br) (c : Br),
    s.tick dt = t ∧ t.lead b = c ∧ t.bridges[c].pre = .negRequested ∧ t.roleShows 2 true = true := by
  refine ⟨(live .precharge).upB 0 fun x => { x with pre := .negRequested }, _, 1, 0, _, rfl, rfl, ?_,
    ?_⟩ <;> decide +kernel

theorem witness_PrechargeSequence_2 : ∃ (s : State) (t : State) (dt : Nat) (b : Br) (c : Br),
    s.tick dt = t ∧ t.lead b = c ∧ t.bridges[c].pre = .preRequested ∧ t.settled c = true := by
  refine ⟨(charged (live .precharge)).upB 0 fun x => { x with pre := .preRequested, settleSince := some 0 }, _,
    2000000, 0, _, rfl, rfl, ?_, ?_⟩ <;> decide +kernel

theorem witness_PrechargeSequence_3 : ∃ (s : State) (t : State) (dt : Nat) (b : Br) (c : Br),
    s.tick dt = t ∧ t.lead b = c ∧ t.bridges[c].pre = .posRequested ∧ t.roleShows 1 true = true := by
  refine ⟨(live .precharge).upB 0 fun x => { x with pre := .posRequested }, _, 1, 0, _, rfl, rfl, ?_,
    ?_⟩ <;> decide +kernel

theorem witness_PrechargeSequence_4 : ∃ (s : State) (t : State) (dt : Nat) (b : Br) (c : Br),
    s.tick dt = t ∧ t.lead b = c ∧ t.bridges[c].pre = .conditions ∧ t.preClosed = true ∧ (t.group c).all
      t.lanesTrained = true ∧ t.stoPassed = true ∧ t.paramCheck = 0 := by
  refine ⟨precharged.upB 0 fun x => { x with pre := .conditions }, _, 1, 0, _, rfl, rfl, ?_, ?_, ?_, ?_,
    ?_⟩ <;> decide +kernel

theorem witness_PrechargeSequence_5 : ∃ (s : State) (t : State) (dt : Nat) (b : Br) (c : Br),
    s.tick dt = t ∧ t.lead b = c ∧ t.bridges[c].pre = .conditions ∧ t.preClosed = true ∧ (t.group c).all
      t.lanesTrained = true ∧ t.stoPassed = true ∧ t.paramCheck ≠ 0 := by
  refine ⟨(withPar precharged 0x0802 0xFFFF).upB 0 fun x => { x with pre := .conditions }, _, 1, 0, _, rfl, rfl,
    ?_, ?_, ?_, ?_, ?_⟩ <;> decide +kernel

theorem witness_PrechargeSequence_6 : ∃ (s : State) (t : State) (dt : Nat) (b : Br) (c : Br),
    s.tick dt = t ∧ t.lead b = c ∧ t.bridges[c].pre = .preRequested ∧ t.bridges[c].preSince + t.parN P.dcl_pre_time
      * msCounts ≤ t.now := by
  refine ⟨(live .precharge).upB 0 fun x => { x with pre := .preRequested }, _, 4000000000000, 0, _, rfl, rfl, ?_,
    ?_⟩ <;> decide +kernel

theorem witness_DischargeSequence_1 : ∃ (s : State) (t : State) (u : State) (dt : Nat) (b : Br) (c : Br),
    s.tick dt = t ∧ t.lead b = c ∧ t.dst c = .discharge ∧ t.roleShows 1 false = true ∧ t.roleShows 2 false = true ∧
      (t.each (t.group c) fun v d => v.upB d fun x =>
      { x with dis := x.dis.map fun y => { y with acting := true } }) = u := by
  refine ⟨live .discharge, _, _, 1, 0, _, rfl, rfl, ?_, ?_, ?_, rfl⟩ <;> decide +kernel

theorem witness_DischargeSequence_2 : ∃ (s : State) (t : State) (dt : Nat) (b : Br) (c : Br),
    s.tick dt = t ∧ t.lead b = c ∧ t.dst c = .discharge ∧ t.vLink < t.par P.dcl_safe_v := by
  refine ⟨live .discharge, _, 1, 0, _, rfl, rfl, ?_, ?_⟩ <;> decide +kernel

theorem witness_DischargeSequence_3 : ∃ (s : State) (t : State) (dt : Nat) (b : Br) (c : Br) (d : Discharge),
    s.tick dt = t ∧ t.lead b = c ∧ t.dst c = .discharge ∧ t.bridges[c].dis = some d ∧ d.since + t.parN
      P.dcl_dis_time * msCounts ≤ t.now ∧ t.par P.dcl_safe_v ≤ t.vLink := by
  refine ⟨(charged (live .discharge)).upB 0 fun x => { x with dis := some ⟨false, 0, false, false, false⟩ }, _,
    4000000000000, 0, _, ⟨false, 0, false, false, false⟩, rfl, rfl, ?_, ?_, ?_, ?_⟩ <;> decide +kernel

theorem witness_DischargeSequence_4 : ∃ (s : State) (t : State) (dt : Nat) (w : Bool),
    s.tick dt = t ∧ t.autoMethod = some w ∧ t.parN P.dcl_auto_enable = 1 ∧ t.dcl.openedAlone = true ∧ t.mainOpen =
      true := by
  refine ⟨openedMain, _, 1, false, rfl, ?_, ?_, ?_, ?_⟩ <;> decide +kernel

theorem witness_DischargeSequence_5 : ∃ (s : State) (t : State) (dt : Nat) (n : Nat) (b : Br) (c : Br),
    s.tick dt = t ∧ t.lead b = c ∧ t.bridges[c].shutAt = some n ∧ n + 20 * msCounts ≤ t.now := by
  refine ⟨(live .standby).upB 0 fun x => { x with shutAt := some 0 }, _, 8000000, 0, 0, _, rfl, rfl, ?_,
    ?_⟩ <;> decide +kernel

theorem witness_ContactorsAndWeir_1 : ∃ (s : State) (t : State) (u : State) (dt : Nat) (k : Fin 6) (level : Bool),
    s.tick dt = t ∧ { t with dcl := { t.dcl with fb := t.dcl.fb.set k level } } = u :=
  ⟨live .run, _, _, 1, 0, true, rfl, rfl⟩

theorem witness_ContactorsAndWeir_2 : ∃ (s : State) (t : State) (u : State) (dt : Nat) (k : Fin 4),
    s.tick dt = t ∧ (t.withdraw 0).withdraw 1 = u ∧ t.parN (P.dcl_ctr_role k.val) ≠ 0 ∧ t.dcl.reqAt[k] + t.parN
      P.dcl_fb_time * msCounts < t.now ∧ (((t.fbClosed k false).getD t.dcl.req[k] ≠ t.dcl.req[k] ∨ (t.fbClosed k
      true).getD t.dcl.req[k] ≠ t.dcl.req[k])) := by
  refine ⟨withPar (withPar (withPar (live .run) (P.dcl_ctr_role 0) 1) (P.dcl_fb_a 0) 0) (P.dcl_fb_invert 0) 1, _,
    _, 4000000000, 0, rfl, rfl, ?_, ?_, ?_⟩ <;> decide +kernel

theorem witness_ContactorsAndWeir_3 : ∃ (s : State) (t : State) (dt : Nat) (k : Fin 4),
    s.tick dt = t ∧ (t.fbClosed k false).getD t.dcl.req[k] = t.dcl.req[k] ∧ (t.fbClosed k true).getD t.dcl.req[k] =
      t.dcl.req[k] := by
  refine ⟨live .run, _, 1, 0, rfl, ?_, ?_⟩ <;> decide +kernel

theorem witness_ContactorsAndWeir_4 : ∃ (s : State) (t : State) (u : State) (dt : Nat),
    s.tick dt = t ∧ t.ov2Settle = u ∧ u.ov2 = true :=
  ⟨overvolted, _, _, 1, rfl, rfl, by decide +kernel⟩

theorem witness_ContactorsAndWeir_5 : ∃ (s : State) (t : State) (u : State) (dt : Nat),
    s.tick dt = t ∧ t.ov2Settle.weirLimit State.weirGen = u ∧ t.ov2Settle.ov2 = false :=
  ⟨live .run, _, _, 1, rfl, rfl, by decide +kernel⟩

theorem witness_ContactorsAndWeir_6 : ∃ (u : State),
    u.dcl.chopAt + u.rd F.SYS_WEIR_CHOP0_MIN * usCounts ≤ u.now :=
  ⟨(live .run).tick 400000000, by decide +kernel⟩

theorem witness_ContactorsAndWeir_7 : ∃ (s : State) (t : State) (u : State) (dt : Nat),
    s.tick dt = t ∧ t.chopEnabled = true ∧ t.dcl.chopOn = true ∧ t.dcl.engAt + t.rd F.SYS_WEIR_CHOP0_CHECK *
      usCounts ≤ t.now ∧ t.ov2 = false ∧ t.dcl.vEng - t.rd F.SYS_WEIR_CHOP1_DROP ≤ t.vLink ∧ (t.rd
      F.SYS_WEIR_CHOP_OFF_MV : Int) ≤ t.vLink ∧ (t.chopSet false).flag F.SYS_WEIR_STATUS_CHOP_FAULTY 0 true = u := by
  refine ⟨chopping, _, _, 4000000000, rfl, ?_, ?_, ?_, ?_, ?_, ?_, rfl⟩ <;> decide +kernel

theorem witness_ContactorsAndWeir_8 : ∃ (s : State) (t : State) (dt : Nat),
    s.tick dt = t ∧ ((t.dcl.chopOn = false ∨ t.vLink < t.dcl.vEng - t.rd F.SYS_WEIR_CHOP1_DROP)) :=
  ⟨live .run, _, 1, rfl, by decide +kernel⟩

theorem witness_SafetyInputs_2 : ∃ (s : State) (t : State) (dt : Nat) (n : Nat),
    s.tick dt = t ∧ t.sto.diffSince = some n ∧ n + t.parN P.safety_sto_disc * msCounts < t.now := by
  refine ⟨{ live .run with sto := { (live .run).sto with diffSince := some 0 } }, _, 4000000000, 0, rfl, ?_,
    ?_⟩ <;> decide +kernel

theorem witness_SafetyInputs_3 : ∃ (s : State) (t : State) (u : State) (dt : Nat),
    s.tick dt = t ∧ t.bit F.FCR_STATUS_SS1 = false ∧ ((t.flag F.FCR_STATUS_SS1 0 true).irq 29) = u :=
  ⟨live .run, _, _, 1, rfl, by decide +kernel, rfl⟩

theorem witness_SafetyInputs_4 : ∃ (s : State) (t : State) (dt : Nat),
    s.tick dt = t ∧ t.bit F.FCR_STATUS_SS1 = true :=
  ⟨(live .run).flag F.FCR_STATUS_SS1 0 true, _, 1, rfl, by decide +kernel⟩

theorem witness_SafetyInputs_5 : ∃ (s : State) (t : State) (u : State) (dt : Nat),
    ((s.tick dt).flag F.FCR_STATUS_ACK_PIN 0 true).irq 29 = t ∧ t.ackRun (!t.bit F.FCR_ACK_LAST_TOGGLE) =
      (.accepted, u) :=
  ⟨live .run, _,
    ((((live .run).tick 1).flag F.FCR_STATUS_ACK_PIN 0 true).irq 29).ackRun (!((((live .run).tick 1).flag
    F.FCR_STATUS_ACK_PIN 0 true).irq 29).bit F.FCR_ACK_LAST_TOGGLE) |>.2, 1, rfl, by decide +kernel⟩

theorem witness_SafetyInputs_6 : ∃ (s : State) (t : State) (u : State) (dt : Nat) (n : Nat),
    ((s.tick dt).flag F.FCR_STATUS_ACK_PIN 0 true).irq 29 = t ∧ t.ackRun (!t.bit F.FCR_ACK_LAST_TOGGLE) = (.refused
      n, u) :=
  ⟨((live .fault).raiseOn FC.GUARD_CFG .device (fixedClass FC.GUARD_CFG)), _,
    (((((live .fault).raiseOn FC.GUARD_CFG .device (fixedClass FC.GUARD_CFG)).tick 1).flag F.FCR_STATUS_ACK_PIN 0
    true).irq 29).ackRun (!(((((live .fault).raiseOn FC.GUARD_CFG .device (fixedClass FC.GUARD_CFG)).tick 1).flag
    F.FCR_STATUS_ACK_PIN 0 true).irq 29).bit F.FCR_ACK_LAST_TOGGLE) |>.2, 1, 13, rfl, by decide +kernel⟩

theorem witness_ResetEvents_2 : ∃ (s : State) (dt : Nat) (sup : MainSupply) (ns : Nat),
    (s.tick dt).sys.standby = false ∧ 1000 ≤ ns := by
  refine ⟨live .run, 1, .vdda, 1000, ?_, ?_⟩ <;> decide +kernel

theorem witness_ResetEvents_3 : ∃ (s : State) (dt : Nat) (sup : MainSupply) (ns : Nat),
    ns < 1000 :=
  ⟨live .run, 1, .vdda, 999, by decide +kernel⟩

theorem witness_ResetEvents_4 : ∃ (s : State) (dt : Nat) (ns : Nat),
    (s.tick dt).sys.standby = false ∧ 1000 ≤ ns := by
  refine ⟨live .run, 1, 1000, ?_, ?_⟩ <;> decide +kernel

theorem witness_ResetEvents_5 : ∃ (s : State) (dt : Nat) (ns : Nat),
    ns < 200 :=
  ⟨live .run, 1, 199, by decide +kernel⟩

theorem witness_ResetEvents_6 : ∃ (s : State) (t : State) (dt : Nat),
    s.tick dt = t ∧ t.sys.standby = false :=
  ⟨live .run, _, 1, rfl, by decide +kernel⟩

theorem witness_ResetEvents_7 : ∃ (s : State) (t : State) (dt : Nat),
    s.tick dt = t ∧ t.sys.standby = true :=
  ⟨{ live .standby with sys := { (live .standby).sys with standby := true } }, _, 1, rfl, by decide +kernel⟩

theorem witness_ResetEvents_9 : ∃ (s : State) (t : State) (dt : Nat) (d : ClkDom),
    (s.tick dt).running = true ∧ (s.tick dt).clkSet (clkBit d) true = t :=
  ⟨live .run, _, 1, .pllEth, by decide +kernel, rfl⟩

theorem witness_ResetEvents_10 : ∃ (s : State) (t : State) (dt : Nat) (d : ClkDom),
    s.tick dt = t ∧ t.running = true ∧ t.sys.up[clkBit d] = false := by
  refine ⟨{ live .boot with sys := { (live .boot).sys with up := Vector.replicate 6 false } }, _, 1, .pllEth, rfl,
    ?_, ?_⟩ <;> decide +kernel

theorem witness_ClockEvents_1 : ∃ (s : State) (t : State) (u : State) (dt : Nat) (d : ClkDom),
    s.tick dt = t ∧ t.running = true ∧ t.sys.up[clkBit d] = true ∧ (t.each (t.lossOf d) fun v i => (v.clkSet i
      false).clkLost i) = u := by
  refine ⟨live .run, _, _, 1, .pllEth, rfl, ?_, ?_, rfl⟩ <;> decide +kernel

theorem witness_ClockEvents_2 : ∃ (s : State) (t : State) (dt : Nat) (n : Nat),
    s.tick dt = t ∧ t.running = true ∧ t.sys.clockRst = some n ∧ n + 40000 ≤ t.now := by
  refine ⟨{ live .run with sys := { (live .run).sys with clockRst := some 0 } }, _, 40000, 0, rfl, ?_, ?_,
    ?_⟩ <;> decide +kernel

theorem witness_ClockEvents_3 : ∃ (s : State) (t : State) (u : State) (dt : Nat),
    s.tick dt = t ∧ t.running = true ∧ t.sys.oscOk = true ∧ t.flag F.SYS_CLK_STATUS_OSC_FAIL 0 true = u := by
  refine ⟨live .run, _, _, 1, rfl, ?_, ?_, rfl⟩ <;> decide +kernel

theorem witness_FaultEvents_1 : ∃ (s : State) (t : State) (dt : Nat) (srcs : List FaultSrc),
    srcs.all FaultSrc.wf = true ∧ s.tick dt = t ∧ t.running = true ∧ t.sys.oscOk = true := by
  refine ⟨live .run, _, 1, [⟨255, .device, .report, true⟩], ?_, rfl, ?_, ?_⟩ <;> decide +kernel

theorem witness_FaultEvents_2 : ∃ (s : State) (dt : Nat) (srcs : List FaultSrc),
    srcs.all FaultSrc.wf = false :=
  ⟨live .run, 1, [⟨256, .device, .report, true⟩], by decide +kernel⟩

theorem witness_FaultEvents_3 : ∃ (s : State) (t : State) (dt : Nat) (n : Nat),
    s.tick dt = t ∧ t.running = true ∧ t.fcr.warmAt = some n ∧ n + 40000 ≤ t.now := by
  refine ⟨{ live .run with fcr := { (live .run).fcr with warmAt := some 0 } }, _, 40000, 0, rfl, ?_, ?_,
    ?_⟩ <;> decide +kernel

theorem witness_FaultEvents_4 : ∃ (s : State) (t : State) (dt : Nat),
    s.tick dt = t ∧ t.running = true ∧ t.sys.oscOk = true ∧ t.fcr.beatAt + 80000 ≤ t.now := by
  refine ⟨live .run, _, 80000, rfl, ?_, ?_, ?_⟩ <;> decide +kernel

theorem witness_FaultEvents_5 : ∃ (s : State) (t : State) (dt : Nat),
    s.tick dt = t ∧ t.running = true ∧ t.sys.oscOk = true := by
  refine ⟨live .run, _, 1, rfl, ?_, ?_⟩ <;> decide +kernel

theorem witness_FaultEvents_6 : ∃ (s : State) (t : State) (dt : Nat),
    s.tick dt = t ∧ t.aliveOk = true :=
  ⟨(live .ready).flag F.FCR_CTRL_ALIVE_EN 0 true, _, 1, rfl, by decide +kernel⟩

theorem witness_PilotEvents_1 : ∃ (s : State) (t : State) (dt : Nat) (c : Word),
    s.tick dt = t ∧ t.running = true ∧ t.bit F.SYS_RST_CTRL_PILOT_HOLD = false := by
  refine ⟨(live .run).flag F.SYS_RST_CTRL_PILOT_HOLD 0 false, _, 1, 0, rfl, ?_, ?_⟩ <;> decide +kernel

theorem witness_PilotEvents_2 : ∃ (s : State) (t : State) (dt : Nat) (n : Nat) (c : Word),
    s.tick dt = t ∧ t.pilot.chal = some (c, n) ∧ t.parN P.safety_wdg_period * msCounts * 9 ≤ (t.now - n) * 10 := by
  refine ⟨{ live .run with pilot := { (live .run).pilot with chal := some (0, 0) } }, _, 4000000000, 0, 0, rfl,
    ?_, ?_⟩ <;> decide +kernel

theorem witness_PilotEvents_4 : ∃ (s : State) (t : State) (u : State) (dt : Nat) (c : Word) (b : Br),
    s.tick dt = t ∧ t.pilot.runBank = some b ∧ t.running = true ∧ t.pilot.restarting = true ∧ t.pilot.heldForGood =
      false ∧ t.flag F.SYS_RST_CTRL_PILOT_HOLD 0 false = u := by
  refine ⟨{ live .run with pilot := { (live .run).pilot with restarting := true, runBank := some 0 } }, _, _, 1,
    0, 0, rfl, ?_, ?_, ?_, ?_, rfl⟩ <;> decide +kernel

theorem witness_PilotEvents_5 : ∃ (s : State) (t : State) (u : State) (v : State) (dt : Nat) (n : Nat) (b : Br),
    s.tick dt = t ∧ t.pilot.trialAt = some n ∧ t.bankOf .trial = some b ∧ n + 4000000000 ≤ t.now ∧ (if (t.bank
      (mate b)).st = BankSt.active then t.upBank (mate b) fun x => { x with st := .previous } else t) = u ∧
      u.upBank b (fun x => { x with st := .active }) = v := by
  refine ⟨onTrial, _, _, _, 4000000000, 0, 1, rfl, ?_, ?_, ?_, rfl, rfl⟩ <;> decide +kernel

theorem witness_TrustEvents_1 : ∃ (s : State) (t : State) (dt : Nat) (v : FwVerdict),
    s.tick dt = t ∧ t.trust.fw.phase = .verifying ∧ t.verifyReason v ≠ 0 := by
  refine ⟨session (live .run) .verifying, _, 1, ⟨true, true, true, true, []⟩, rfl, ?_, ?_⟩ <;> decide +kernel

theorem witness_TrustEvents_2 : ∃ (s : State) (t : State) (dt : Nat) (v : FwVerdict),
    s.tick dt = t ∧ t.trust.fw.phase = .verifying ∧ t.verifyReason v = 0 ∧ t.hdr8 4 = 0 ∧ t.hdr8 6 % 2 = 0 ∧
      t.trust.fw.patch = false := by
  refine ⟨image 0 0 false, _, 1, ⟨true, true, true, true, []⟩, rfl, ?_, ?_, ?_, ?_, ?_⟩ <;> decide +kernel

theorem witness_TrustEvents_3 : ∃ (s : State) (t : State) (u : State) (dt : Nat) (v : FwVerdict),
    s.tick dt = t ∧ t.trust.fw.phase = .verifying ∧ t.verifyReason v = 0 ∧ t.hdr8 4 = 0 ∧ t.hdr8 6 % 2 = 1 ∧
      t.trust.fw.patch = false ∧ t.setMemBytes (t.fwBase + 128) (v.plain.take (t.hdr32 12)) = u := by
  refine ⟨image 0 1 false, _, _, 1, ⟨true, true, true, true, []⟩, rfl, ?_, ?_, ?_, ?_, ?_, rfl⟩ <;> decide +kernel

theorem witness_TrustEvents_4 : ∃ (s : State) (t : State) (dt : Nat) (v : FwVerdict),
    s.tick dt = t ∧ t.trust.fw.phase = .verifying ∧ t.verifyReason v = 0 ∧ t.hdr8 4 = 1 ∧ t.hdr8 6 % 2 = 0 ∧
      t.trust.fw.patch = true := by
  refine ⟨image 1 0 true, _, 1, ⟨true, true, true, true, []⟩, rfl, ?_, ?_, ?_, ?_, ?_⟩ <;> decide +kernel

theorem witness_TrustEvents_5 : ∃ (s : State) (t : State) (u : State) (v : State) (dt : Nat) (j : StoreJob),
    s.tick dt = t ∧ t.params.job = some j ∧ { t with params := { t.params with job := none } }.storeWrite j = u ∧
      u.setWord F.NVMC_GEN_NEXT_GEN 0 (BitVec.ofNat 32 j.gen) = v :=
  ⟨{ live .run with params := { (live .run).params with job := some ⟨0, 1, [], [], 0⟩ } }, _, _, _, 1, ⟨0, 1, [],
    [], 0⟩, rfl, by decide +kernel, rfl, rfl⟩

theorem witness_TrustEvents_6 : ∃ (s : State) (t : State) (dt : Nat) (j : StoreJob),
    s.tick dt = t ∧ t.params.job = some j :=
  ⟨{ live .run with params := { (live .run).params with job := some ⟨0, 1, [], [], 0⟩ } }, _, 1, ⟨0, 1, [], [],
    0⟩, rfl, by decide +kernel⟩

theorem witness_TrustEvents_7 : ∃ (s : State) (t : State) (dt : Nat),
    s.tick dt = t :=
  ⟨live .run, _, 1, rfl⟩

theorem witness_TrustEvents_8 : ∃ (s : State) (t : State) (dt : Nat) (n : List Byte) (at_ : Nat),
    s.tick dt = t ∧ t.trust.nonce = some (n, at_) ∧ at_ + 4000000000 ≤ t.now := by
  refine ⟨{ live .run with trust := { (live .run).trust with nonce := some ([], 0) } }, _, 4000000000, [], 0, rfl,
    ?_, ?_⟩ <;> decide +kernel

theorem witness_TrustEvents_9 : ∃ (s : State) (t : State) (dt : Nat) (at_ : Nat),
    s.tick dt = t ∧ t.trust.lockedOut = some at_ ∧ at_ + 24000000000 ≤ t.now := by
  refine ⟨{ live .run with trust := { (live .run).trust with lockedOut := some 0 } }, _, 24000000000, 0, rfl, ?_,
    ?_⟩ <;> decide +kernel

theorem witness_TrustEvents_10 : ∃ (s : State) (t : State) (dt : Nat),
    s.tick dt = t ∧ t.running = true ∧ t.inBoot = false := by
  refine ⟨live .run, _, 1, rfl, ?_, ?_⟩ <;> decide +kernel

theorem witness_NvmEvents_3 : ∃ (s : State) (t : State) (dt : Nat) (c : Collect),
    s.tick dt = t ∧ t.recd.coll = some c ∧ c.quota ≤ c.after ∧ t.bit F.NVMC_STATUS_INHIBIT = false := by
  refine ⟨collecting (live .run), _, 1, collected, rfl, ?_, ?_, ?_⟩ <;> decide +kernel

theorem witness_NvmEvents_4 : ∃ (s : State) (t : State) (dt : Nat) (c : Collect),
    s.tick dt = t ∧ t.recd.coll = some c ∧ c.quota ≤ c.after ∧ t.bit F.NVMC_STATUS_INHIBIT = true := by
  refine ⟨(collecting (live .run)).flag F.NVMC_STATUS_INHIBIT 0 true, _, 1, collected, rfl, ?_, ?_,
    ?_⟩ <;> decide +kernel

theorem witness_NvmEvents_5 : ∃ (s : State) (t : State) (dt : Nat) (b : Br),
    s.tick dt = t ∧ t.running = true ∧ t.configured b = true ∧ t.flightRuns b = false := by
  refine ⟨live .run, _, 1, 0, rfl, ?_, ?_, ?_⟩ <;> decide +kernel

theorem witness_NvmEvents_6 : ∃ (s : State) (t : State) (dt : Nat) (vddm : Nat) (vddc : Nat) (inh : Bool),
    s.tick dt = t ∧ (decide (vddm < 1660) || decide (vddc < 750)) = inh :=
  ⟨live .run, _, 1, 1659, 750, _, rfl, rfl⟩

theorem witness_FlightEvents_1 : ∃ (s : State) (t : State) (u : State) (dt : Nat) (b : Br),
    s.tick dt = t ∧ (t.each (t.group b) fun v c => v.engineAdvance c) = u :=
  ⟨((live .run).flag F.FLT_STATUS_RUNNING 0 true), _, _, 1, 0, rfl, rfl⟩

theorem witness_FlightEvents_2 : ∃ (s : State) (t : State) (dt : Nat) (b : Br),
    (s.tick dt).standbyTimer = t :=
  ⟨live .run, _, 1, 0, rfl⟩

theorem witness_FlightEvents_3 : ∃ (s : State) (t : State) (dt : Nat) (b : Br),
    s.tick dt = t :=
  ⟨((live .run).flag F.FLT_STATUS_RUNNING 0 true), _, 1, 0, rfl⟩

theorem witness_FlightEvents_4 : ∃ (v : State) (c : Br) (sl : Slot),
    v.flights[c].firstSpec = some sl :=
  ⟨(live .run).upFl 0 fun f => { f with slots := f.slots.set 0 specSlot }, 0, specSlot, by decide +kernel⟩

theorem witness_FlightEvents_5 : ∃ (v : State) (c : Br) (n : Nat),
    v.flights[c].firstSpec = none ∧ v.nextStart c = some n ∧ v.bit F.FLT_CTRL_ENABLE c = true ∧ n ≤ v.dt +
      v.flights[c].cfg.lead := by
  refine ⟨ticked, 0, 0, ?_, ?_, ?_, ?_⟩ <;> decide +kernel

theorem witness_FlightEvents_6 : ∃ (s : State) (t : State) (dt : Nat) (b : Br),
    s.tick dt = t :=
  ⟨((live .run).flag F.FLT_STATUS_RUNNING 0 true), _, 1, 0, rfl⟩

theorem witness_FlightEvents_7 : ∃ (v : State) (c : Br) (sl : Slot),
    v.nextSlot c none = some sl :=
  ⟨firstStage, 0, (firstStage.nextSlot 0 none).get (by decide +kernel), (Option.some_get _).symm⟩

theorem witness_FlightEvents_8 : ∃ (s : State) (t : State) (dt : Nat) (b : Br) (sl : Slot),
    s.tick dt = t ∧ t.flightRuns b = true ∧ t.flights[b].predictOnly = false ∧ t.groupStage b = some sl := by
  refine ⟨grouped, _, 1, 0, slot0, rfl, ?_, ?_, ?_⟩ <;> decide +kernel

theorem witness_FlightEvents_9 : ∃ (s : State) (t : State) (dt : Nat) (n : Nat) (b : Br),
    s.tick dt = t ∧ (t.flightRuns b && !t.flights[b].predictOnly) = false ∧ t.rd F.MOD_PERIOD_CNT_COUNT b = n :=
  ⟨(live .run).flag F.MOD_CTRL_MODE 0 true, _, 1, _, 0, rfl, by decide +kernel, rfl⟩

theorem witness_FlightEvents_10 : ∃ (s : State) (t : State) (dt : Nat) (b : Br) (sl : Slot),
    s.tick dt = t ∧ t.flightRuns b = true ∧ t.flights[b].predictOnly = false ∧ t.groupStage b = some sl := by
  refine ⟨grouped, _, 800, 0, slot0, rfl, ?_, ?_, ?_⟩ <;> decide +kernel

theorem witness_FlightEvents_11 : ∃ (t : State) (u : State) (b : Br) (sl : Slot),
    (((((t.retire b sl).flag F.FLT_STATUS_GROUP_MISS b true).evt (E.FLIGHT_GROUP_MISS b)).dropGroup b sl.num).upFl
      b fun f => { f with missRun := f.missRun + 1 }) = u :=
  ⟨live .run, _, 0, slot0, rfl⟩

theorem witness_FlightEvents_12 : ∃ (s : State) (t : State) (dt : Nat) (b : Br),
    s.tick dt = t :=
  ⟨live .run, _, 1, 0, rfl⟩

theorem witness_ModulationEvents_1 : ∃ (s : State) (t : State) (dt : Nat) (k : LaneIx),
    s.tick dt = t ∧ ((t.bit F.MOD_CTRL_MODE (laneBr k) = false ∨ t.bit F.MOD_CTRL_ARM (laneBr k) = true)) :=
  ⟨live .run, _, 1, 0, rfl, by decide +kernel⟩

theorem witness_ModulationEvents_2 : ∃ (s : State) (t : State) (dt : Nat) (k : LaneIx),
    s.tick dt = t ∧ t.bit F.MOD_CTRL_MODE (laneBr k) = true ∧ t.bit F.MOD_CTRL_ARM (laneBr k) = false := by
  refine ⟨((live .run).flag F.MOD_CTRL_MODE 0 true), _, 1, 0, rfl, ?_, ?_⟩ <;> decide +kernel

theorem witness_ModulationEvents_3 : ∃ (s : State) (t : State) (u : State) (dt : Nat) (b : Br),
    s.tick dt = t ∧ t.bit F.MOD_CTRL_MODE b = true ∧ t.loadPoint b ≤ 32 * t.dt ∧ (if t.bit F.MOD_CTRL_LOAD_MID b
      then t.midLoad b else t.loadBuffer b) = u := by
  refine ⟨((live .run).flag F.MOD_CTRL_MODE 0 true), _, _, 20000, 0, rfl, ?_, ?_, rfl⟩ <;> decide +kernel

theorem witness_ModulationEvents_4 : ∃ (s : State) (t : State) (dt : Nat) (b : Br),
    s.tick dt = t ∧ ((t.bit F.MOD_CTRL_MODE b = false ∨ 32 * t.dt < t.loadPoint b)) :=
  ⟨live .run, _, 20000, 0, rfl, by decide +kernel⟩

theorem witness_ModulationEvents_5 : ∃ (s : State) (t : State) (u : State) (v : State) (w : State) (dt : Nat) (b :
  Br),
    s.tick dt = t ∧ t.bit F.MOD_CTRL_MODE b = true ∧ t.mods[b].perEnd ≤ 32 * t.dt ∧ (if t.bit F.MOD_CTRL_LOAD_MID b
      then t else t.loadBuffer b) = u ∧ u.directPeriod b (u.bit F.MOD_CTRL_ARM b) = v ∧ (if v.bit F.MOD_CTRL_ARM b
      then v.planRefresh b else v) = w := by
  refine ⟨((live .run).flag F.MOD_CTRL_MODE 0 true), _, _, _, _, 20000, 0, rfl, ?_, ?_, rfl, rfl,
    rfl⟩ <;> decide +kernel

theorem witness_ModulationEvents_6 : ∃ (s : State) (t : State) (dt : Nat) (b : Br),
    s.tick dt = t ∧ ((t.bit F.MOD_CTRL_MODE b = false ∨ 32 * t.dt < t.mods[b].perEnd)) :=
  ⟨live .run, _, 20000, 0, rfl, by decide +kernel⟩

theorem witness_PositionEvents_1 : ∃ (s : State) (t : State) (dt : Nat) (p : PortIx) (a : Bool) (bb : Bool) (c :
  Bool) (an : Bool) (bn : Bool) (cn : Bool) (old : Nat),
    (s.tick dt).ports[p].levels = old ∧ ((s.tick dt).upPort p fun x =>
      { x with levels := b2n c * 4 + b2n bb * 2 + b2n a, nlev := b2n cn * 4 + b2n bn * 2 + b2n an }) = t ∧
      (t.portCond p 0 (t.wireBad p)).portOn p = true :=
  ⟨(((live .run).flag F.PORT_CFG_ENABLE 0 true).wr F.PORT_CFG_MODE 0 1), _, 1, 0, true, false, false, false, true,
    true, _, rfl, rfl, by decide +kernel⟩

theorem witness_PositionEvents_2 : ∃ (s : State) (t : State) (u : State) (dt : Nat) (p : PortIx),
    s.tick dt = t ∧ t.portOn p = true ∧ 2 ≤ t.portMode p ∧ t.ports[p].q ≠ 2 ∧ t.ports[p].lastT + t.rd
      F.PORT_LIMITS_ZERO_TIMEOUT p * 400000 ≤ t.dt ∧ (t.upPort p fun y =>
      { y with spd := 0, q := 2, intervals := [] }).portShow p = u := by
  refine ⟨(((live .run).flag F.PORT_CFG_ENABLE 0 true).wr F.PORT_CFG_MODE 0 2).upPort 0 fun x => { x with q := 0 },
    _, _, 400000000, 0, rfl, ?_, ?_, ?_, ?_, rfl⟩ <;> decide +kernel

theorem witness_PositionEvents_3 : ∃ (s : State) (t : State) (dt : Nat) (p : PortIx),
    s.tick dt = t ∧ t.portOn p = true ∧ 4 ≤ t.portMode p := by
  refine ⟨(((live .run).flag F.PORT_CFG_ENABLE 0 true).wr F.PORT_CFG_MODE 0 4), _, 1, 0, rfl, ?_,
    ?_⟩ <;> decide +kernel

theorem witness_PositionEvents_4 : ∃ (s : State) (t : State) (dt : Nat) (p : PortIx) (w : Option Nat),
    s.tick dt = t ∧ t.portOn p = true :=
  ⟨(((live .run).flag F.PORT_CFG_ENABLE 0 true).wr F.PORT_CFG_MODE 0 4), _, 1, 0, none, rfl, by decide +kernel⟩

theorem witness_PositionEvents_5 : ∃ (s : State) (t : State) (dt : Nat) (p : PortIx),
    s.tick dt = t ∧ t.portOn p = true ∧ 4 ≤ t.portMode p ∧ t.ports[p].lastSampleAt + 80 * t.rd F.PORT_FRAME_PERIOD
      p ≤ t.now := by
  refine ⟨(((live .run).flag F.PORT_CFG_ENABLE 0 true).wr F.PORT_CFG_MODE 0 4), _, 100000000, 0, rfl, ?_, ?_,
    ?_⟩ <;> decide +kernel

theorem witness_PositionEvents_6 : ∃ (s : State) (t : State) (dt : Nat) (p : PortIx) (s1 : Int) (c1 : Int) (s2 :
  Int) (c2 : Int),
    s.tick dt = t ∧ t.portOn p = true ∧ t.convAssigned p = true ∧ t.portMode p = 0 ∧ t.ports[p].excN < t.excPairs p
      := by
  refine ⟨(((((live .run).flag F.PORT_CFG_ENABLE 0 true).wr F.PORT_CFG_MODE 0 0).wr F.PORT_EXC_FREQ 0 100).wr
    F.POS_CONV_PAIR0_PORT 0 0).upPort 0 fun x => { x with excAt := some 0 }, _, 4000000, 0, 100, -100, 50, -50,
    rfl, ?_, ?_, ?_, ?_⟩ <;> decide +kernel

theorem witness_PositionEvents_7 : ∃ (s : State) (t : State) (dt : Nat) (p : PortIx) (sn : Int) (cs : Int),
    s.tick dt = t ∧ t.portOn p = true ∧ t.convAssigned p = true ∧ t.portMode p = 1 := by
  refine ⟨(((live .run).flag F.PORT_CFG_ENABLE 0 true).wr F.PORT_CFG_MODE 0 1).wr F.POS_CONV_PAIR0_PORT 0 0, _, 1,
    0, 100, -100, rfl, ?_, ?_, ?_⟩ <;> decide +kernel

theorem witness_PositionEvents_8 : ∃ (s : State) (t : State) (dt : Nat) (p : PortIx),
    s.tick dt = t ∧ t.portOn p = true ∧ ((t.portMode p = 1 ∨ t.portMode p = 2)) := by
  refine ⟨(((live .run).flag F.PORT_CFG_ENABLE 0 true).wr F.PORT_CFG_MODE 0 2), _, 1, 0, rfl, ?_,
    ?_⟩ <;> decide +kernel

theorem witness_PositionEvents_9 : ∃ (s : State) (t : State) (dt : Nat) (p : PortIx) (f : PosFlag),
    s.tick dt = t ∧ f.val < 9 ∧ t.ports[p].cond.getLsbD f.val = true := by
  refine ⟨(live .run).upPort 0 fun x => { x with cond := 0x0100 }, _, 1, 0, 8, rfl, ?_, ?_⟩ <;> decide +kernel

theorem witness_PositionEvents_10 : ∃ (s : State) (t : State) (dt : Nat) (p : PortIx) (f : PosFlag),
    s.tick dt = t ∧ f.val < 9 :=
  ⟨live .run, _, 1, 0, 8, rfl, by decide +kernel⟩

theorem witness_PositionEvents_11 : ∃ (s : State) (t : State) (u : State) (v : State) (w : State) (dt : Nat) (n :
  Nat) (b : Br),
    s.tick dt = t ∧ t.aclks[b].diffSince = some n ∧ n + t.parN (P.pos_redund_time b.val) * 400 ≤ t.now ∧ ((if
      t.primary b = 4 ∨ t.redundant b = 4 then (t.upAclk b fun a => { a with obsCond := true }).flag
      (F.ACLK_STATUS_OBS_REDUND.at (16 * b.val)) 0 true else t) = u) ∧ (u.each (u.pairPorts b) fun x p =>
      (x.putCond p 9 true).putFlag p 9 true) = v ∧ (((v.each (v.pairPorts b) fun x p => (x.portShow p).irq
      7).upAclk b fun a => { a with diffSince := none }).posConds b) = w := by
  refine ⟨(live .run).upAclk 0 fun x => { x with diffSince := some 0 }, _, _, _, _, 100000000, 0, 0, rfl, ?_, ?_,
    rfl, rfl, rfl⟩ <;> decide +kernel

theorem witness_PositionEvents_12 : ∃ (s : State) (t : State) (dt : Nat) (b : Br) (offset : Word) (i : Int),
    s.tick dt = t ∧ t.bridges[b].align = some i ∧ (t.upB b fun x => { x with align := none }).primary b < 4 := by
  refine ⟨(withPar (live .ready) (P.pos_primary 0) 0).upB 0 fun x => { x with align := some 5 }, _, 1, 0, 7, 5,
    rfl, ?_, ?_⟩ <;> decide +kernel

theorem witness_ConversionEvents_1 : ∃ (s : State) (t : State) (u : State) (dt : Nat) (i : ConvIx),
    s.tick dt = t ∧ t.convOn i = true ∧ (((∃ (b : Br) (v : SampleEv), t.eventFor i none = some (b,
      v) ∧ t.takeEvent b v = u) ∨ (t.eventFor i none = none ∧ (t.byClock i = true ∨ i.val < 12) ∧ t = u))) :=
  ⟨((live .run).flag F.CONV_CFG_ENABLE 0 true), _, ((live .run).flag F.CONV_CFG_ENABLE 0 true).tick 1, 1, 0, rfl,
    by decide +kernel, Or.inr ⟨by decide +kernel, by decide +kernel, rfl⟩⟩

theorem witness_ConversionEvents_2 : ∃ (s : State) (t : State) (dt : Nat) (i : ConvIx) (e : Fin 16),
    s.tick dt = t ∧ t.convOn i = true :=
  ⟨((live .run).flag F.CONV_CFG_ENABLE 0 true), _, 1, 0, 15, rfl, by decide +kernel⟩

theorem witness_ConversionEvents_3 : ∃ (t : State) (i : ConvIx) (j : Job) (l : List Job),
    t.convs[i].busy.filter (t.jobMeets i (t.convEntry i j.entry)) = l :=
  ⟨live .run, 0, ⟨0, true, 5, 1, none⟩, _, rfl⟩

theorem witness_ConversionEvents_4 : ∃ (s : State) (t : State) (dt : Nat) (i : ConvIx) (r : ConvRes),
    r.wf = true ∧ s.tick dt = t ∧ t.convOn i = true := by
  refine ⟨((live .run).flag F.CONV_CFG_ENABLE 0 true), _, 1, 0, ⟨0, [5], true⟩, ?_, rfl, ?_⟩ <;> decide +kernel

theorem witness_ConversionEvents_5 : ∃ (t : State) (i : ConvIx) (r : ConvRes) (j : Job),
    (t.convs[i].busy.find? fun j => j.entry == r.entry) = some j :=
  ⟨converting, 0, ⟨0, [5], true⟩, ⟨0, true, 5, 1, none⟩, by decide +kernel⟩

theorem witness_ConversionEvents_6 : ∃ (t : State) (i : ConvIx) (r : ConvRes),
    (t.convs[i].busy.find? fun j => j.entry == r.entry) = none :=
  ⟨live .run, 0, ⟨0, [5], true⟩, by decide +kernel⟩

theorem witness_ConversionEvents_7 : ∃ (s : State) (dt : Nat) (i : ConvIx) (r : ConvRes),
    r.wf = false :=
  ⟨live .run, 1, 0, ⟨0, [], true⟩, by decide +kernel⟩

theorem witness_ConversionEvents_8 : ∃ (s : State) (t : State) (dt : Nat) (b : Br) (cu : Int) (cv : Int) (cw : Int),
    s.tick dt = t :=
  ⟨live .run, _, 1, 0, 100, 4096, -1, rfl⟩

theorem witness_ConversionEvents_9 : ∃ (s : State) (t : State) (u : State) (v : State) (w : State) (dt : Nat) (b :
  Br) (iu : Int) (iv : Int) (iw : Int) (l : List Int),
    s.tick dt = t ∧ t.convOn (monConv b) = true ∧ t.convs[monConv b].badRounds < 2 ∧ [iu, iv,
      iw].map (clampI 0 4095) = l ∧ (((t.scheduled b = false ∧ t = u) ∨ ∃ x : Br × SampleEv,
      t.scheduled b = true ∧ t.eventFor (monConv b) none = some x ∧ t.takeEvent b x.2 = u)) ∧ u.monStore b l = v ∧
      (v.upB b fun x => { x with mon := l.map fun c => v.monAmps b c }).irq 9 = w := by
  refine ⟨((live .run).flag F.CONV_CFG_ENABLE (monConv 0).val true), _,
    ((live .run).flag F.CONV_CFG_ENABLE (monConv 0).val true).tick 1, _, _, 1, 0, 100, -50, -50, _, rfl, ?_, ?_,
    rfl, Or.inl ⟨by decide +kernel, rfl⟩, rfl, rfl⟩ <;> decide +kernel

theorem witness_ConversionEvents_10 : ∃ (s : State) (t : State) (u : State) (v : State) (w : State) (dt : Nat) (hk
  : HkRound),
    hk.wf = true ∧ (s.tick dt).standbyTimer = t ∧ t.running = true ∧ ((t.stoSettle.each (List.finRange 15) fun x i
      => x.convDiag hk.checks i).each allLanes fun x k => x.tmodLane (clampI 0 65535 (hk.tmod.getD k.val 0))
      k).modFactors = u ∧ ((u.each (List.range 4) fun x k => (x.wrI (F.SYS_TEMP_EVEN.at k) 0 (hk.die.getD (2 * k)
      0)).wrI (F.SYS_TEMP_ODD.at k) 0 (hk.die.getD (2 * k + 1) 0)).wrI F.CONV_TEMP_TEMP 14 hk.diode) = v ∧
      ((v.crossCheck (v.tempPairs hk)).thermStep (((v.crossCheck (v.tempPairs hk)).dieReadings hk (v.tempPairs
      hk)).foldl max (hk.die.headD 0))).thermShut ((v.crossCheck (v.tempPairs hk)).dieReadings hk (v.tempPairs hk))
      = w := by
  refine ⟨live .run, _, _, _, _, 1, round, ?_, rfl, ?_, rfl, rfl, rfl⟩ <;> decide +kernel

theorem witness_ConversionEvents_11 : ∃ (s : State) (dt : Nat) (hk : HkRound),
    hk.wf = false :=
  ⟨live .run, 1, { round with die := [] }, by decide +kernel⟩

theorem witness_DownlinkFrames_1 : ∃ (s : State) (t : State) (dt : Nat),
    (s.tick dt).slotAlign = t :=
  ⟨live .run, _, 1, rfl⟩

theorem witness_DownlinkFrames_2 : ∃ (t : State) (k : LaneIx) (f : DownFrame),
    t.links[k].stopped = false :=
  ⟨live .run, 1, goodFrame 0x08 5, by decide +kernel⟩

theorem witness_DownlinkFrames_3 : ∃ (t : State) (k : LaneIx),
    t.links[k].stopped = true :=
  ⟨(live .run).upLink 1 fun l => { l with stopped := true }, 1, by decide +kernel⟩

theorem witness_DownlinkFrames_4 : ∃ (s : State) (t : State) (dt : Nat) (k : LaneIx) (f : DownFrame),
    s.tick dt = t ∧ t.laneHears k = true ∧ downOk f = true ∧ downKind f = 0 ∧ downFlag f = false := by
  refine ⟨hearing, _, 1, 1, goodFrame 0x08 5, rfl, ?_, goodFrame_ok _ _ (by decide), ?_, ?_⟩ <;> decide +kernel

theorem witness_DownlinkFrames_5 : ∃ (s : State) (t : State) (dt : Nat) (k : LaneIx) (f : DownFrame),
    s.tick dt = t ∧ t.laneHears k = true ∧ downOk f = true ∧ downKind f = 0 ∧ downFlag f = true := by
  refine ⟨hearing, _, 1, 1, goodFrame 0x0C 5, rfl, ?_, goodFrame_ok _ _ (by decide), ?_, ?_⟩ <;> decide +kernel

theorem witness_DownlinkFrames_6 : ∃ (s : State) (t : State) (dt : Nat) (k : LaneIx) (f : DownFrame),
    s.tick dt = t ∧ t.laneHears k = true ∧ downOk f = true ∧ downKind f = 1 := by
  refine ⟨hearing, _, 1, 1, goodFrame 0x48 5, rfl, ?_, goodFrame_ok _ _ (by decide), ?_⟩ <;> decide +kernel

theorem witness_DownlinkFrames_7 : ∃ (s : State) (t : State) (dt : Nat) (k : LaneIx) (f : DownFrame),
    s.tick dt = t ∧ t.laneHears k = true ∧ downOk f = true ∧ downKind f = 2 := by
  refine ⟨hearing, _, 1, 1, goodFrame 0x88 5, rfl, ?_, goodFrame_ok _ _ (by decide), ?_⟩ <;> decide +kernel

theorem witness_DownlinkFrames_8 : ∃ (s : State) (t : State) (dt : Nat) (n : Nat) (k : LaneIx),
    s.tick dt = t ∧ t.links[k].sentAt = some n :=
  ⟨(live .run).upLink 1 fun l => { l with sentAt := some 0 }, _, 600, 0, 1, rfl, by decide +kernel⟩

theorem witness_DownlinkFrames_9 : ∃ (s : State) (t : State) (dt : Nat) (k : LaneIx),
    s.tick dt = t ∧ t.links[k].sentAt = none :=
  ⟨live .run, _, 600, 1, rfl, by decide +kernel⟩

theorem witness_DownlinkCrcError_1 : ∃ (s : State) (t : State) (dt : Nat) (k : LaneIx) (f : DownFrame),
    s.tick dt = t ∧ t.laneHears k = true ∧ downOk f = false := by
  refine ⟨hearing, _, 1, 1, ⟨0xC0, 0, 0⟩, rfl, ?_, ?_⟩ <;> decide +kernel

theorem witness_UplinkAndRelay_1 : ∃ (s : State) (t : State) (u : State) (v : State) (w : State) (dt : Nat) (k :
  LaneIx) (rd : LaneReading) (two : Int) (three : Int),
    s.tick dt = t ∧ t.lanes[k].st ≠ .unlinked ∧ t.own k F.LANE_OV2_VDC_OV2 = two ∧ t.own k F.LANE_OV3_VDC_OV3 =
      three ∧ (t.upLane k fun l =>
      { l with ov2 := laneLow k && (decide (two < rd.vdc) || (l.ov2 && decide (98 * two ≤ 100 * rd.vdc))), ov3 := laneLow k && l.ov3 && decide (98 * three ≤ 100 * rd.vdc) }).shadow k rd = u ∧ (if u.statusShown k = t.statusShown k then u else u.irq 11) = v ∧ (v.upLink k fun l => { l with upAt := v.now, trained := v.lanes[k].trained && !v.lanes[k].hbLost }).condition FC.LANE_LINK (.lane k) false = w :=
  ⟨hearing, _, _, _, _, 1, 1, reading, _, _, rfl, by decide +kernel, rfl, rfl, rfl, rfl, rfl⟩

theorem witness_UplinkAndRelay_2 : ∃ (s : State) (t : State) (dt : Nat) (k : LaneIx) (rd : LaneReading),
    s.tick dt = t ∧ t.lanes[k].st = .unlinked :=
  ⟨(live .run).upLane 1 fun l => { l with st := .unlinked }, _, 1, 1, reading, rfl, by decide +kernel⟩

theorem witness_UplinkAndRelay_4 : ∃ (s : State) (t : State) (dt : Nat) (k : LaneIx),
    s.tick dt = t :=
  ⟨(live .run).upLink 1 fun l => { l with trained := true }, _, 1, 1, rfl⟩

theorem witness_UplinkAndRelay_5 : ∃ (s : State) (t : State) (u : State) (dt : Nat) (n : Nat) (w : Nat) (k :
  LaneIx) (near : List (LaneIx × Nat)),
    s.tick dt = t ∧ t.lanes[k].st.isOut = true ∧ t.lanes[k].tripAt = n ∧ t.trips.contains (k,
      n) = false ∧ t.parN (P.lane_pair_window (laneBr k).val) * usCounts = w ∧ (t.trips.filter fun x => laneBr x.1
      == laneBr k && decide (x.2 ≤ n + w ∧ n ≤ x.2 + w)) = near ∧
      { t with trips := (k, n) :: t.trips.filter fun x => x.1 != k }.urgent (lanePartner k) .legLock = u := by
  refine ⟨hearing.upLane 1 fun l => { l with st := .tripped, tripAt := 7 }, _, _, 1, _, _, 1, _, rfl, ?_, rfl, ?_,
    rfl, rfl, rfl⟩ <;> decide +kernel

theorem witness_UplinkAndRelay_6 : ∃ (s : State) (t : State) (dt : Nat) (k : LaneIx),
    s.tick dt = t ∧ ((t.lanes[k].st.isOut = false ∨ t.trips.contains (k, t.lanes[k].tripAt) = true)) :=
  ⟨hearing, _, 1, 1, rfl, by decide +kernel⟩

theorem witness_UplinkAndRelay_7 : ∃ (s : State) (t : State) (dt : Nat) (k : LaneIx),
    s.tick dt = t :=
  ⟨(live .run).upLane 1 fun l => { l with ov3 := true }, _, 1, 1, rfl⟩

theorem witness_LaneLinkEvents_1 : ∃ (s : State) (t : State) (u : State) (dt : Nat) (k : LaneIx),
    s.tick dt = t ∧ t.lanes[k].trained = true ∧ t.lanes[k].lastFrameAt + 260 ≤ t.now ∧ (t.upLane k fun l =>
      { l with hbLost := true, trained := false, auxBlocked := l.auxBlocked || t.own k F.LANE_PLAN_AUX_MODE == 1 })
      = u := by
  refine ⟨hearing, _, _, 260, 1, rfl, ?_, ?_, rfl⟩ <;> decide +kernel

theorem witness_LaneLinkEvents_2 : ∃ (s : State) (t : State) (u : State) (v : State) (dt : Nat) (rt : Nat) (k :
  LaneIx),
    s.tick dt = t ∧ t.lanes[k].selfTestBad = false ∧ t.lanes[k].st = .unlinked ∧ t.links[k].sentAt.isSome = true ∧
      (t.upLink k fun l => { l with trained := true, upAt := t.now }) = u ∧ (u.upLane k fun l =>
      { l with trained := true, half := divFree rt 2, slip := false, hbLost := false, lastFrameAt := u.now, st := .plan, plan := 0, planGiven := false }) = v := by
  refine ⟨(live .run).upLane 1 (fun l => { l with st := .unlinked }) |>.upLink 1 fun l =>
    { l with sentAt := some 0 }, _, _, _, 1, 7, 1, rfl, ?_, ?_, ?_, rfl, rfl⟩ <;> decide +kernel

theorem witness_LaneLinkEvents_3 : ∃ (s : State) (t : State) (u : State) (v : State) (w : State) (dt : Nat) (rt :
  Nat) (k : LaneIx),
    s.tick dt = t ∧ t.lanes[k].selfTestBad = false ∧ t.lanes[k].st ≠ .unlinked ∧ t.links[k].sentAt = none ∧
      (t.upLink k fun l => { l with toggle := t.lanes[k].toggle != some true }) = u ∧ (u.upLink k fun l =>
      { l with trained := true, upAt := u.now }) = v ∧ (v.upLane k fun l =>
      { l with trained := true, half := divFree rt 2, slip := false, hbLost := false, lastFrameAt := v.now }) = w
      := by
  refine ⟨hearing, _, _, _, _, 1, 7, 1, rfl, ?_, ?_, ?_, rfl, rfl, rfl⟩ <;> decide +kernel

theorem witness_LaneLinkEvents_4 : ∃ (s : State) (t : State) (dt : Nat) (k : LaneIx),
    (s.tick dt).laneBlank k = t :=
  ⟨live .run, _, 1, 1, rfl⟩

theorem witness_LaneProtection_1 : ∃ (s : State) (t : State) (dt : Nat) (n : Nat) (k : LaneIx) (r : ShortReading),
    s.tick dt = t ∧ 100 + 25 * t.own k F.LANE_DIDT_FILT_FILTER = n :=
  ⟨live .run, _, 1, _, 1, ⟨5, 1, 5⟩, rfl, rfl⟩

theorem witness_LaneProtection_2 : ∃ (s : State) (t : State) (dt : Nat) (held : Nat) (k : LaneIx) (mv : Int),
    s.tick dt = t :=
  ⟨live .run, _, 1, 1000, 1, 5, rfl⟩

theorem witness_LaneProtection_3 : ∃ (s : State) (t : State) (dt : Nat) (k : LaneIx) (mv : Int),
    ((s.tick dt).upLane k fun l => { l with vddl := mv }) = t ∧ mv < 11000 :=
  ⟨live .run, _, 1, 1, 10999, rfl, by decide +kernel⟩

theorem witness_LaneProtection_4 : ∃ (s : State) (t : State) (dt : Nat) (k : LaneIx) (mv : Int),
    ((s.tick dt).upLane k fun l => { l with veel := mv }) = t ∧ t.rdI F.LANE_PROT_VEEL_TRIP (laneOwn k) ≠ 0 ∧ t.rdI
      F.LANE_PROT_VEEL_TRIP (laneOwn k) < mv := by
  refine ⟨(live .run).wrI F.LANE_PROT_VEEL_TRIP (laneOwn 1) (-3000), _, 1, 1, -2999, rfl, ?_, ?_⟩ <;> decide +kernel

theorem witness_LaneProtection_5 : ∃ (s : State) (t : State) (u : State) (dt : Nat) (k : LaneIx) (mv : Int),
    ((s.tick dt).upLane k fun l => { l with vddl := mv }) = t ∧ mv < 12500 ∧ t.lanes[k].st ≠ .unlinked ∧
      ((t.ownFlag k F.LANE_STATUS_VDDL_WARN).evt (E.LANE_UV_WARN k)).raiseOn FC.LANE_UV_WARN (.lane k) .report = u
      := by
  refine ⟨hearing, _, _, 1, 1, 12499, rfl, ?_, ?_, rfl⟩ <;> decide +kernel

theorem witness_LaneProtection_6 : ∃ (s : State) (t : State) (dt : Nat) (k : LaneIx) (mv : Int) (hvs : Int),
    ((s.tick dt).upLane k fun l => { l with vddl := mv }) = t ∧ mv < 9000 :=
  ⟨live .run, _, 1, 1, 8999, 45000, rfl, by decide +kernel⟩

theorem witness_LaneProtection_7 : ∃ (s : State) (t : State) (dt : Nat) (k : LaneIx) (mv : Int),
    s.tick dt = t ∧ laneLow k = true ∧ t.lanes[k].ov3 = false ∧ t.lanes[k].st ≠ .unlinked ∧ (t.own k
      F.LANE_OV3_VDC_OV3 : Int) < mv := by
  refine ⟨hearing, _, 1, 1, 2000000, rfl, ?_, ?_, ?_, ?_⟩ <;> decide +kernel

theorem witness_LaneProtection_8 : ∃ (s : State) (t : State) (u : State) (dt : Nat) (k : LaneIx),
    s.tick dt = t ∧ t.lanes[k].st = .tripped ∧ t.lanes[k].retryAt + t.own k F.LANE_RETRY_WAIT * 400000 ≤ t.now ∧
      (t.laneHome k).evt (E.LANE_RETRY k) = u := by
  refine ⟨(live .run).upLane 1 fun l => { l with st := .tripped }, _, _, 40000000000, 1, rfl, ?_, ?_,
    rfl⟩ <;> decide +kernel

theorem witness_LaneProtection_9 : ∃ (s : State) (t : State) (dt : Nat) (k : LaneIx),
    s.tick dt = t ∧ t.lanes[k].ascWait = true ∧ t.lanes[k].onPlan = true ∧ t.lanes[k].ascAt + 800 < t.dt := by
  refine ⟨(live .run).upLane 1 fun l => { l with st := .plan, ascWait := true }, _, 801, 1, rfl, ?_, ?_,
    ?_⟩ <;> decide +kernel

theorem witness_LaneEdgesAndCapture_1 : ∃ (s : State) (t : State) (dt : Nat) (k : LaneIx) (env : EdgeEnv),
    s.tick dt = t :=
  ⟨live .run, _, 1, 1, ⟨true, false, false, 0⟩, rfl⟩

theorem witness_LaneEdgesAndCapture_2 : ∃ (s : State) (t : State) (dt : Nat) (k : LaneIx) (off : Bool) (ts : Nat),
    s.tick dt = t :=
  ⟨live .run, _, 1, 1, true, 255, rfl⟩

theorem witness_LaneEdgesAndCapture_3 : ∃ (s : State) (t : State) (dt : Nat) (ns : Nat) (k : LaneIx) (level : Bool),
    s.tick dt = t ∧ t.own k F.LANE_PLAN_AUX_MODE = 1 :=
  ⟨(live .run).wr F.LANE_PLAN_AUX_MODE (laneOwn 1) 1, _, 1, 1001, 1, true, rfl, by decide +kernel⟩

theorem witness_LaneEdgesAndCapture_4 : ∃ (s : State) (t : State) (dt : Nat) (k : LaneIx) (mv : Int),
    s.tick dt = t ∧ t.own k F.LANE_PLAN_AUX_MODE = 2 ∧ t.lanes[k].lastFrameAt + 80000000 ≤ t.now ∧ 50000 < mv ∧
      t.lanes[k].auxBlocked = false ∧ t.lanes[k].st ≠ .unlinked := by
  refine ⟨hearing.wr F.LANE_PLAN_AUX_MODE (laneOwn 1) 2, _, 80000000, 1, 50001, rfl, ?_, ?_, ?_, ?_,
    ?_⟩ <;> decide +kernel

theorem witness_LaneEdgesAndCapture_5 : ∃ (s : State) (t : State) (u : State) (dt : Nat) (k : LaneIx) (cause :
  AutoDisEnd),
    s.tick dt = t ∧ t.lanes[k].autoDis = true ∧ (t.upLane k fun l =>
      { l with autoDis := false, auxBlocked := true }) = u :=
  ⟨(live .run).upLane 1 fun l => { l with autoDis := true }, _, _, 1, 1, .below50V, rfl, by decide +kernel, rfl⟩

theorem witness_LaneEdgesAndCapture_6 : ∃ (s : State) (t : State) (dt : Nat) (k : LaneIx),
    s.tick dt = t ∧ t.lanes[k].cap = .post ∧ t.capFull k = true := by
  refine ⟨(live .run).upLane 1 fun l => { l with cap := .post, post := 65536 }, _, 40000000, 1, rfl, ?_,
    ?_⟩ <;> decide +kernel

theorem witness_LaneEdgesAndCapture_7 : ∃ (s : State) (t : State) (dt : Nat) (k : LaneIx),
    s.tick dt = t ∧ t.lanes[k].cap = .stopped :=
  ⟨(live .run).upLane 1 fun l => { l with cap := .stopped }, _, 1, 1, rfl, by decide +kernel⟩

theorem witness_CanEvents_1 : ∃ (s : State) (t : State) (dt : Nat) (ago : Nat) (c : Fin 4) (f : CanFrame),
    f.wf = true ∧ s.tick dt = t ∧ t.canOn c = true ∧ t.rd F.CAN_CTRL_MODE c ≠ 2 ∧ t.canRefuse c f = none ∧ ((f.fmt
      = .xl → f.data.length ≤ 256)) ∧ (t.canRxGood c).canMapped c = false := by
  refine ⟨withPar (canOnBus (live .run)) P.lock_can_map 0, _, 1, 1, 0, canFrame .fd 0x123 64, ?_, rfl, ?_, ?_, ?_,
    ?_, ?_⟩ <;> decide +kernel

theorem witness_CanEvents_2 : ∃ (s : State) (t : State) (dt : Nat) (k : Nat) (c : Fin 4),
    s.tick dt = t ∧ t.canMaySend c = true ∧ t.canChoice c = some k := by
  refine ⟨canPendingState, _, 1, 0, 0, rfl, ?_, ?_⟩ <;> decide +kernel

theorem witness_CanEvents_3 : ∃ (s : State) (t : State) (u : State) (v : State) (dt : Nat) (k : Nat) (c : Fin 4),
    s.tick dt = t ∧ t.cans[c].tx = some k ∧ k < 64 ∧ t.wr F.CAN_ECR_TEC c (t.rd F.CAN_ECR_TEC c - 1) = u ∧
      (u.canMeasure c (t.mbFrame (mbI c k))).canSent c k = v ∧ v.rd F.CAN_CTRL_MODE c ≠ 2 := by
  refine ⟨sending, _, _, _, 1, 0, 0, rfl, ?_, ?_, rfl, rfl, ?_⟩ <;> decide +kernel

theorem witness_CanEvents_4 : ∃ (s : State) (t : State) (dt : Nat) (k : Nat) (n : Nat) (c : Fin 4),
    s.tick dt = t ∧ t.cans[c].tx = some k ∧ k < 64 := by
  refine ⟨sending, _, 1, 0, 7, 0, rfl, ?_, ?_⟩ <;> decide +kernel

theorem witness_CanEvents_5 : ∃ (s : State) (t : State) (dt : Nat) (k : Nat) (c : Fin 4),
    s.tick dt = t ∧ t.cans[c].tx = some k ∧ k < 64 := by
  refine ⟨sending, _, 1, 0, 0, rfl, ?_, ?_⟩ <;> decide +kernel

theorem witness_CanEvents_6 : ∃ (s : State) (t : State) (dt : Nat) (c : Fin 4),
    s.tick dt = t ∧ 255 < t.rd F.CAN_ECR_TEC c ∧ t.cans[c].bus = .on := by
  refine ⟨(canOnBus (live .run)).wr F.CAN_ECR_TEC 0 256, _, 1, 0, rfl, ?_, ?_⟩ <;> decide +kernel

theorem witness_CanEvents_7 : ∃ (s : State) (t : State) (u : State) (dt : Nat) (c : Fin 4),
    s.tick dt = t ∧ t.cans[c].bus = .recovering ∧ (((((t.upCan c fun x => { x with bus := .on }).flag
      F.CAN_STATUS_SYNC c true).wr F.CAN_ECR_TEC c 0).wr F.CAN_ECR_REC c 0).canConf c) = u :=
  ⟨(live .run).upCan 0 fun c => { c with bus := .recovering }, _, _, 1, 0, rfl, by decide +kernel, rfl⟩

theorem witness_CanEvents_8 : ∃ (s : State) (t : State) (dt : Nat) (c : Fin 4),
    s.tick dt = t ∧ t.cans[c].bus = .integrating ∧ t.canUp = true := by
  refine ⟨(live .run).upCan 0 fun c => { c with bus := .integrating }, _, 1, 0, rfl, ?_, ?_⟩ <;> decide +kernel

theorem witness_EthernetEvents_1 : ∃ (s : State) (t : State) (dt : Nat) (mac : Fin 2) (fr : EthFrame),
    s.tick dt = t ∧ t.ethOn mac = true ∧ 1522 < fr.bytes.length := by
  refine ⟨withPar (live .run) (P.eth_enable 0) 1, _, 1, 0, ⟨List.replicate 1523 0, false, false⟩, rfl, ?_,
    ?_⟩ <;> decide +kernel

set_option maxRecDepth 100000 in
theorem witness_EthernetEvents_2 : ∃ (s : State) (t : State) (u : State) (dt : Nat) (mac : Fin 2) (fr : EthFrame)
  (id : Option Nat) (pl : List Byte),
    s.tick dt = t ∧ t.ethOn mac = true ∧ 64 ≤ fr.bytes.length ∧ fr.bytes.length ≤ 1522 ∧
      { t with net := { t.net with rxStamp := t.net.rxStamp.set mac (t.dtime.setWidth 32) } } = u ∧ (macsecRx
      (u.parBoot (P.eth_macsec mac)) fr.secTag fr.secValid).1 = true ∧ ethSplit (fr.bytes.take (fr.bytes.length -
      4)) = (id, 0x0806, pl) ∧ u.vlanOk mac id = true ∧ fr.bytes.take 6 = Config.macAddr mac := by
  refine ⟨withPar (live .run) (P.eth_enable 0) 1, _, _, 1, 0, ⟨ethBytes 0x0806, false, false⟩, none,
    List.replicate 46 0, rfl, ?_, ?_, ?_, rfl, ?_, rfl, ?_, rfl⟩ <;> decide +kernel

set_option maxRecDepth 100000 in
theorem witness_EthernetEvents_3 : ∃ (s : State) (t : State) (u : State) (dt : Nat) (mac : Fin 2) (fr : EthFrame)
  (id : Option Nat) (pl : List Byte),
    s.tick dt = t ∧ t.ethOn mac = true ∧ 64 ≤ fr.bytes.length ∧ fr.bytes.length ≤ 1522 ∧
      { t with net := { t.net with rxStamp := t.net.rxStamp.set mac (t.dtime.setWidth 32) } } = u ∧ (macsecRx
      (u.parBoot (P.eth_macsec mac)) fr.secTag fr.secValid).1 = true ∧ ethSplit (fr.bytes.take (fr.bytes.length -
      4)) = (id, 0x0800, pl) ∧ u.vlanOk mac id = true ∧ fr.bytes.take 6 = Config.macAddr mac := by
  refine ⟨withPar (live .run) (P.eth_enable 0) 1, _, _, 1, 0, ⟨ethBytes 0x0800, false, false⟩, none,
    List.replicate 46 0, rfl, ?_, ?_, ?_, rfl, ?_, rfl, ?_, rfl⟩ <;> decide +kernel

theorem witness_EthernetEvents_4 : ∃ (s : State) (t : State) (dt : Nat) (ns : Nat) (mac : Fin 2) (r : Rat),
    s.tick dt = t ∧ t.ethOn mac = true ∧ t.parBoot P.eth_gptp = mac.val := by
  refine ⟨withPar (withPar (live .run) (P.eth_enable 0) 1) P.eth_gptp 0, _, 1, 5, 0, 1, rfl, ?_,
    ?_⟩ <;> decide +kernel

theorem witness_EthernetEvents_5 : ∃ (s : State) (t : State) (dt : Nat),
    s.tick dt = t ∧ t.net.sync = 1 ∧ t.net.vehAt + t.parBoot P.eth_holdover * 400000 ≤ t.dtime.toNat := by
  refine ⟨{ live .run with net := { (live .run).net with sync := 1 } }, _, 40000000000, rfl, ?_,
    ?_⟩ <;> decide +kernel

theorem witness_EthernetEvents_6 : ∃ (s : State) (t : State) (dt : Nat) (mac : Fin 2),
    s.tick dt = t ∧ t.running = true :=
  ⟨live .run, _, 1, 0, rfl, by decide +kernel⟩

theorem witness_EthernetEvents_7 : ∃ (s : State) (t : State) (dt : Nat) (mac : Fin 2),
    s.tick dt = t ∧ t.ethOn mac = true :=
  ⟨withPar (live .run) (P.eth_enable 0) 1, _, 1, 0, rfl, by decide +kernel⟩

theorem witness_EthernetEvents_8 : ∃ (s : State) (t : State) (u : State) (dt : Nat) (mac : Fin 2),
    s.tick dt = t ∧ t.ethOn mac = true ∧ ({ t with net := { t.net with ethUp := t.net.ethUp.set mac true } }.irq
      (16 + mac.val)) = u :=
  ⟨withPar (live .run) (P.eth_enable 0) 1, _, _, 1, 0, rfl, by decide +kernel, rfl⟩

theorem witness_TowpathEvents_1 : ∃ (s : State) (t : State) (dt : Nat) (up : TowPeer),
    s.tick dt = t ∧ t.running = true ∧ t.parBoot P.tow_enable = 1 := by
  refine ⟨towLive (live .run), _, 1, ⟨false, 0, 0, 0, true⟩, rfl, ?_, ?_⟩ <;> decide +kernel

theorem witness_TowpathEvents_2 : ∃ (s : State) (t : State) (dt : Nat) (fr : List Byte),
    s.tick dt = t ∧ t.running = true ∧ t.towOn .up = true ∧ u8 fr 0 = 0 ∧ towAdmitted fr = true ∧ towCheck fr =
      true ∧ towLen fr = 8 := by
  refine ⟨towLive (live .run), _, 1, towFrame 0 0 1 towAll (List.replicate 8 0), rfl, ?_, ?_, ?_, ?_, ?_,
    ?_⟩ <;> decide +kernel

theorem witness_TowpathEvents_3 : ∃ (s : State) (t : State) (dt : Nat),
    s.tick dt = t ∧ t.running = true ∧ t.parBoot P.tow_enable = 1 ∧ t.net.towNum = some 0 ∧ t.net.towUp = false := by
  refine ⟨{ towLive (live .run) with net := { (towLive (live .run)).net with towUp := false } }, _, 1, rfl, ?_,
    ?_, ?_, ?_⟩ <;> decide +kernel

theorem witness_TowpathEvents_4 : ∃ (s : State) (t : State) (dt : Nat),
    s.tick dt = t ∧ t.running = true ∧ t.parBoot P.tow_enable = 1 ∧ t.net.towNum = some (t.parBoot P.tow_angle_src)
      := by
  refine ⟨withPar (towLive (live .run)) P.tow_angle_src 0, _, 1, rfl, ?_, ?_, ?_⟩ <;> decide +kernel

theorem witness_TowpathEvents_5 : ∃ (s : State) (t : State) (u : State) (dt : Nat) (p : TowPort) (fr : List Byte),
    s.tick dt = t ∧ t.running = true ∧ t.towOn p = true ∧ u8 fr 0 = 1 ∧ towAdmitted fr = true ∧ towCheck fr = true
      ∧ t.towForward p fr = u ∧ u.towMine fr = true := by
  refine ⟨towLive (live .run), _, _, 1, .up, towFrame 1 0 1 0 [], rfl, ?_, ?_, ?_, ?_, ?_, rfl, ?_⟩ <;> decide +kernel

theorem witness_TowpathEvents_6 : ∃ (s : State) (t : State) (u : State) (dt : Nat) (p : TowPort) (fr : List Byte),
    s.tick dt = t ∧ t.running = true ∧ t.towOn p = true ∧ u8 fr 0 = 2 ∧ towAdmitted fr = true ∧ towCheck fr = true
      ∧ t.towForward p fr = u ∧ u.towMine fr = true ∧ u.parBoot P.tow_share_enable = 1 ∧ towLen fr = 16 := by
  refine ⟨withPar (towLive (live .run)) P.tow_share_enable 1, _, _, 1, .up,
    towFrame 2 0 1 0 (List.replicate 16 0), rfl, ?_, ?_, ?_, ?_, ?_, rfl, ?_, ?_, ?_⟩ <;> decide +kernel

theorem witness_TowpathEvents_7 : ∃ (s : State) (t : State) (u : State) (dt : Nat) (b : Br) (c : Br),
    s.tick dt = t ∧ t.lead b = c ∧ t.parBoot P.tow_share_enable = 1 ∧ t.bridges[c].shareAt + t.parBoot
      P.tow_share_timeout * msCounts ≤ t.now ∧ (t.dst b).isDriving = true ∧ (t.each (t.group b) fun v d => v.upB d
      fun x => { x with shareAt := v.now }) = u := by
  refine ⟨withPar (live .run) P.tow_share_enable 1, _, _, 4000000000, 0, _, rfl, rfl, ?_, ?_, ?_,
    rfl⟩ <;> decide +kernel

theorem witness_TowpathEvents_8 : ∃ (s : State) (t : State) (dt : Nat) (p : TowPort),
    s.tick dt = t ∧ t.running = true ∧ t.towOn p = true := by
  refine ⟨towLive (live .run), _, 1, .dn, rfl, ?_, ?_⟩ <;> decide +kernel

theorem witness_TowpathEvents_9 : ∃ (s : State) (t : State) (u : State) (dt : Nat),
    s.tick dt = t ∧ t.net.towUp = true ∧ ({ t with net := { t.net with towUp := false } }.irq 18).raiseOn
      FC.TOW_LINK .device (fixedClass FC.TOW_LINK) = u :=
  ⟨towLive (live .run), _, _, 1, rfl, by decide +kernel, rfl⟩

theorem witness_TowpathEvents_10 : ∃ (s : State) (t : State) (dt : Nat) (fr : List Byte),
    s.tick dt = t ∧ t.running = true ∧ t.towOn .up = true ∧ u8 fr 0 = 0 ∧ towAdmitted fr = true ∧ towCheck fr =
      false := by
  refine ⟨towLive (live .run), _, 1, towFrame 0 0 1 towAll [] ++ [0], rfl, ?_, ?_, ?_, ?_, ?_⟩ <;> decide +kernel

theorem witness_ServiceEvents_1 : ∃ (s : State) (t : State) (u : State) (dt : Nat) (k : Fin 4) (fr : SentFrame)
  (bad : Bool),
    fr.wf = true ∧ s.tick dt = t ∧ t.running = true ∧ t.sentBad k fr = bad ∧
      { t with net := { t.net with sent := vupd t.net.sent k fun x => { x with sync := some fr.syncLen, irq := true, bad := bad } } }.irq 19 = u := by
  refine ⟨live .run, _, _, 1, 0, ⟨3584, [768], [0]⟩, _, ?_, rfl, ?_, rfl, rfl⟩ <;> decide +kernel

theorem witness_ServiceEvents_2 : ∃ (s : State) (t : State) (dt : Nat) (k : Fin 4) (fr : SentFrame),
    fr.wf = true ∧ s.tick dt = t ∧ t.running = false := by
  refine ⟨{ live .run with sys := { (live .run).sys with rst := some .warm } }, _, 1, 0, ⟨3584, [768], [0]⟩, ?_,
    rfl, ?_⟩ <;> decide +kernel

theorem witness_ServiceEvents_3 : ∃ (s : State) (dt : Nat) (k : Fin 4) (fr : SentFrame),
    fr.wf = false :=
  ⟨live .run, 1, 0, ⟨3584, [768], [16]⟩, by decide +kernel⟩

theorem witness_ServiceEvents_4 : ∃ (s : State) (t : State) (u : State) (dt : Nat) (k : Fin 4) (rx : List Byte)
  (bad : Bool) (x : AuxSpi),
    s.tick dt = t ∧ t.running = true ∧
      (match t.net.aspi[k].crcPos with | some n => decide (crc8 Config.auxCrc (rx.take n) ≠ byteAt rx n) | none => false) = bad ∧ { t.net.aspi[k] with busy := false, rx := rx, crcBad := bad } = x ∧ { t with net := { t.net with aspi := t.net.aspi.set k x } } = u :=
  ⟨live .run, _, _, 1, 0, [1, 2], _, _, rfl, by decide +kernel, rfl, rfl, rfl⟩

theorem witness_ServiceEvents_5 : ∃ (s : State) (t : State) (dt : Nat) (k : Fin 4) (rx : List Byte),
    s.tick dt = t ∧ t.running = false :=
  ⟨{ live .run with sys := { (live .run).sys with rst := some .warm } }, _, 1, 0, [1, 2], rfl, by decide +kernel⟩

theorem witness_ServiceEvents_6 : ∃ (s : State) (ir : TapIr),
    ((ir = .idcode ∨ (s.trust.dbgOpen = true ∨ s.trust.scanOpen = true) ∧ ((∃ c,
      ir = .other c) ∨ s.bothStandby = true))) :=
  ⟨live .run, .idcode, Or.inl rfl⟩

theorem witness_ServiceEvents_7 : ∃ (s : State) (ir : TapIr),
    ir ≠ .idcode ∧ s.trust.dbgOpen = false ∧ s.trust.scanOpen = false := by
  refine ⟨live .run, .extest, ?_, ?_, ?_⟩ <;> decide +kernel

theorem witness_ServiceEvents_8 : ∃ (s : State) (ir : TapIr),
    ir ≠ .idcode ∧ (∀ c, ir ≠ .other c) ∧ s.bothStandby = false := by
  refine ⟨live .run, .extest, ?_, nofun, ?_⟩ <;> decide +kernel

theorem witness_LockAndSystemRegisters_1 : ∃ (s : State) (t : State) (m : Master) (r : RegDef) (v : Word),
    s.busDone = t ∧ t.Reaches m 1 F.LOCK_DONE_LOCK.addr r v :=
  ⟨barge (live .run) 0x0101 [], _, keeper, reg 1 F.LOCK_DONE_LOCK.addr, 15, rfl, by constructor <;> decide +kernel⟩

theorem witness_LockAndSystemRegisters_2 : ∃ (s : State) (t : State) (m : Master) (r : RegDef) (v : Word),
    s.busDone = t ∧ t.Reaches m 1 F.LOCK_CTRL_ENABLE.addr r v :=
  ⟨live .ready, _, keeper, reg 1 F.LOCK_CTRL_ENABLE.addr, 0x00010001, rfl, by constructor <;> decide +kernel⟩

theorem witness_LockAndSystemRegisters_3 : ∃ (s : State) (t : State) (r : RegDef) (v : Word),
    s.busDone = t ∧ t.Reaches keeper 0 F.SYS_RST_CTRL_WARM.addr r v ∧ F.SYS_RST_CTRL_WARM.get v = 1 :=
  ⟨live .ready, _, reg 0 F.SYS_RST_CTRL_WARM.addr, F.SYS_RST_CTRL_WARM.put 0 1, rfl,
    by constructor <;> decide +kernel, by decide +kernel⟩

theorem witness_LockAndSystemRegisters_4 : ∃ (s : State) (t : State) (r : RegDef) (v : Word),
    s.busDone = t ∧ t.Reaches keeper 0 F.SYS_RST_CTRL_PILOT_HOLD.addr r v ∧ F.SYS_RST_CTRL_WARM.get v ≠ 1 :=
  ⟨live .ready, _, reg 0 F.SYS_RST_CTRL_PILOT_HOLD.addr, F.SYS_RST_CTRL_PILOT_HOLD.put 0 1, rfl,
    by constructor <;> decide +kernel, by decide +kernel⟩

theorem witness_LockAndSystemRegisters_5 : ∃ (s : State) (t : State) (m : Master) (r : RegDef) (v : Word) (busy :
  Bool),
    s.busDone = t ∧ t.Reaches m 0 F.SYS_BLK_RST_REQ.addr r v ∧ F.SYS_BLK_RST_REQ.get v = 1 :=
  ⟨live .ready, _, 2, reg 0 F.SYS_BLK_RST_REQ.addr, F.SYS_BLK_RST_REQ.put 0 1, false, rfl,
    by constructor <;> decide +kernel, by decide +kernel⟩

theorem witness_LockAndSystemRegisters_6 : ∃ (s : State) (t : State) (r : RegDef) (v : Word) (wake : Bool),
    { s with pins := { s.pins with wake := wake } }.busDone = t ∧ t.Reaches keeper 0 F.SYS_STANDBY_ENTER.addr r v ∧
      F.SYS_STANDBY_ENTER.get v = 1 :=
  ⟨live .standby, _, reg 0 F.SYS_STANDBY_ENTER.addr, F.SYS_STANDBY_ENTER.put 0 1, true, rfl,
    by constructor <;> decide +kernel, by decide +kernel⟩

theorem witness_FaultUnitRegisters_1 : ∃ (s : State) (t : State) (dt : Nat) (r : RegDef) (v : Word),
    (s.tick dt).busDone = t ∧ t.Reaches keeper 10 F.FCR_KEEPER_BEAT.addr r v :=
  ⟨live .ready, _, 1, reg 10 F.FCR_KEEPER_BEAT.addr, 0x5A, rfl, by constructor <;> decide +kernel⟩

theorem witness_FaultUnitRegisters_2 : ∃ (s : State) (t : State) (dt : Nat) (r : RegDef) (v : Word),
    (s.tick dt).busDone = t ∧ t.Reaches keeper 10 F.FCR_ACK_ACK.addr r v ∧ F.FCR_ACK_ACK.get v = 1 :=
  ⟨live .ready, _, 1, reg 10 F.FCR_ACK_ACK.addr, F.FCR_ACK_ACK.put 0 1, rfl, by constructor <;> decide +kernel,
    by decide +kernel⟩

theorem witness_FaultUnitRegisters_3 : ∃ (s : State) (t : State) (dt : Nat) (r : RegDef) (v : Word),
    (s.tick dt).busDone = t ∧ t.Reaches keeper 10 F.FCR_INJECT_CODE.addr r v :=
  ⟨live .ready, _, 1, reg 10 F.FCR_INJECT_CODE.addr, F.FCR_INJECT_CODE.put 0 3, rfl,
    by constructor <;> decide +kernel⟩

theorem witness_FaultUnitRegisters_4 : ∃ (s : State) (t : State) (dt : Nat) (m : Master) (r : RegDef) (v : Word),
    (s.tick dt).busDone = t ∧ t.Reaches m 0 F.SYS_WDG_ANS_VALUE.addr r v :=
  ⟨live .ready, _, 1, 0, reg 0 F.SYS_WDG_ANS_VALUE.addr, 0xFFFFFFFF, rfl, by constructor <;> decide +kernel⟩

theorem witness_FlightRegisters_1 : ∃ (s : State) (t : State) (dt : Nat) (m : Master) (r : RegDef) (v : Word),
    (s.tick dt).busDone = t ∧ t.Reaches m 4 F.FLT_IREF_D_IREF.addr r v :=
  ⟨live .ready, _, 1, 0, reg 4 F.FLT_IREF_D_IREF.addr, 5, rfl, by constructor <;> decide +kernel⟩

theorem witness_FlightRegisters_2 : ∃ (s : State) (t : State) (dt : Nat) (m : Master) (r : RegDef) (v : Word),
    (s.tick dt).busDone = t ∧ t.Reaches m 4 F.FLT_IREF_Q_IREF.addr r v :=
  ⟨live .ready, _, 1, 0, reg 4 F.FLT_IREF_Q_IREF.addr, 5, rfl, by constructor <;> decide +kernel⟩

theorem witness_FlightRegisters_3 : ∃ (s : State) (t : State) (u : State) (dt : Nat) (r : RegDef) (v : Word) (w :
  Word),
    (s.tick dt).busDone = t ∧ F.FLT_CTRL_ENABLE.put v 1 = w ∧ t.Reaches keeper 4 F.FLT_CTRL_ENABLE.addr r w ∧
      F.FLT_CTRL_HOLD.get w ≠ 1 ∧ t.wrote keeper F.FLT_CTRL_ENABLE.addr r w = u ∧ u.bit F.FLT_CTRL_HOLD (t.selFlt
      keeper) = false ∧ F.FLT_CTRL_ENABLE.get w = 1 := by
  refine ⟨live .ready, _, _, 1, reg 4 F.FLT_CTRL_ENABLE.addr, 0x800, _, rfl, rfl,
    by constructor <;> decide +kernel, ?_, rfl, ?_, ?_⟩ <;> decide +kernel

theorem witness_FlightRegisters_4 : ∃ (s : State) (t : State) (u : State) (dt : Nat) (r : RegDef) (v : Word) (w :
  Word),
    (s.tick dt).busDone = t ∧ F.FLT_CTRL_ENABLE.put v 0 = w ∧ t.Reaches keeper 4 F.FLT_CTRL_ENABLE.addr r w ∧
      F.FLT_CTRL_HOLD.get w ≠ 1 ∧ t.wrote keeper F.FLT_CTRL_ENABLE.addr r w = u ∧ u.bit F.FLT_CTRL_HOLD (t.selFlt
      keeper) = false ∧ F.FLT_CTRL_ENABLE.get w ≠ 1 := by
  refine ⟨live .ready, _, _, 1, reg 4 F.FLT_CTRL_ENABLE.addr, 0x801, _, rfl, rfl,
    by constructor <;> decide +kernel, ?_, rfl, ?_, ?_⟩ <;> decide +kernel

theorem witness_FlightRegisters_5 : ∃ (s : State) (t : State) (u : State) (dt : Nat) (r : RegDef) (v : Word),
    (s.tick dt).busDone = t ∧ t.Reaches keeper 4 F.FLT_CTRL_ENABLE.addr r v ∧ F.FLT_CTRL_HOLD.get v = 1 ∧ (t.wrote
      keeper F.FLT_CTRL_ENABLE.addr r v).holdBegin (t.selFlt keeper) = u ∧ F.FLT_CTRL_ENABLE.get v = 1 := by
  refine ⟨live .ready, _, _, 1, reg 4 F.FLT_CTRL_ENABLE.addr, 0x803, rfl, by constructor <;> decide +kernel, ?_,
    rfl, ?_⟩ <;> decide +kernel

theorem witness_FlightRegisters_6 : ∃ (s : State) (t : State) (u : State) (w : State) (dt : Nat) (r : RegDef) (v :
  Word),
    (s.tick dt).busDone = t ∧ t.Reaches keeper 4 F.FLT_CTRL_ENABLE.addr r v ∧ F.FLT_CTRL_HOLD.get v ≠ 1 ∧ t.wrote
      keeper F.FLT_CTRL_ENABLE.addr r v = u ∧ u.bit F.FLT_CTRL_HOLD (t.selFlt keeper) = true ∧ u.holdEnd (t.selFlt
      keeper) = w := by
  refine ⟨(live .ready).flag F.FLT_CTRL_HOLD 0 true, _, _, _, 1, reg 4 F.FLT_CTRL_ENABLE.addr, 0x801, rfl,
    by constructor <;> decide +kernel, ?_, rfl, ?_, rfl⟩ <;> decide +kernel

theorem witness_ModulationRegisters_1 : ∃ (s : State) (t : State) (u : State) (dt : Nat) (a : Nat) (m : Master)
  (off : BitVec 12) (r : RegDef) (v : Word),
    (s.tick dt).busDone = t ∧ 0x40030000 + off.toNat = a ∧ a / 4 * 4 = a ∧ t.Reaches m 3 a r v ∧ t.wrote m a r v =
      u ∧ a ≠ F.MOD_CTRL_MODE.addr ∧ a ≠ F.MOD_DEAD_DEAD_MIN.addr ∧ a ≠ F.MOD_COMMIT_COMMIT.addr ∧ (runFields.any
      fun f => f.addr == a && u.rd f (t.selMod m) != t.rd f (t.selMod m)) = false := by
  refine ⟨live .ready, _, _, 1, _, 0, 0x108, reg 3 0x40030108, 2000, rfl, rfl, ?_,
    by constructor <;> decide +kernel, rfl, ?_, ?_, ?_, ?_⟩ <;> decide +kernel

theorem witness_ModulationRegisters_2 : ∃ (s : State) (t : State) (u : State) (dt : Nat) (a : Nat) (m : Master)
  (off : BitVec 12) (r : RegDef) (v : Word),
    (s.tick dt).busDone = t ∧ 0x40030000 + off.toNat = a ∧ a / 4 * 4 = a ∧ t.Reaches m 3 a r v ∧ t.wrote m a r v =
      u ∧ a ≠ F.MOD_CTRL_MODE.addr ∧ a ≠ F.MOD_DEAD_DEAD_MIN.addr ∧ a ≠ F.MOD_COMMIT_COMMIT.addr ∧ (runFields.any
      fun f => f.addr == a && u.rd f (t.selMod m) != t.rd f (t.selMod m)) = true := by
  refine ⟨live .ready, _, _, 1, _, 0, 0x124, reg 3 0x40030124, 4000, rfl, rfl, ?_,
    by constructor <;> decide +kernel, rfl, ?_, ?_, ?_, ?_⟩ <;> decide +kernel

theorem witness_ModulationRegisters_3 : ∃ (s : State) (t : State) (u : State) (dt : Nat) (m : Master) (off : BitVec
  12) (r : RegDef) (v : Word),
    (s.tick dt).busDone = t ∧ 0x40030000 + off.toNat = F.MOD_DEAD_DEAD_MIN.addr ∧ t.Reaches m 3
      F.MOD_DEAD_DEAD_MIN.addr r v ∧ t.wrote m F.MOD_DEAD_DEAD_MIN.addr r v = u ∧ u.word F.MOD_DEAD_DEAD_MIN
      (t.selMod m) ≠ t.word F.MOD_DEAD_DEAD_MIN (t.selMod m) := by
  refine ⟨live .ready, _, _, 1, 0, BitVec.ofNat 12 (F.MOD_DEAD_DEAD_MIN.addr - 0x40030000),
    reg 3 F.MOD_DEAD_DEAD_MIN.addr, 0x00400040, rfl, ?_, by constructor <;> decide +kernel, rfl,
    ?_⟩ <;> decide +kernel

theorem witness_ModulationRegisters_4 : ∃ (s : State) (t : State) (dt : Nat) (m : Master) (r : RegDef) (v : Word),
    (s.tick dt).busDone = t ∧ t.Reaches m 3 F.MOD_COMMIT_COMMIT.addr r v ∧ F.MOD_COMMIT_COMMIT.get v = 1 :=
  ⟨live .ready, _, 1, 0, reg 3 F.MOD_COMMIT_COMMIT.addr, 1, rfl, by constructor <;> decide +kernel, by decide +kernel⟩

theorem witness_ModulationRegisters_5 : ∃ (s : State) (t : State) (p : State) (u : State) (dt : Nat) (b : Br) (r :
  RegDef) (v : Word),
    (s.tick dt).busDone = t ∧ t.ReachesUnpaused keeper 3 F.MOD_CTRL_MODE.addr r v ∧ t.rangeErr 3 = p ∧
      t.wroteUnpaused p keeper F.MOD_CTRL_MODE.addr r v = u ∧ p.selMod keeper = b ∧ ((p.bit F.MOD_CTRL_MODE b =
      true ∨ u.bit F.MOD_CTRL_MODE b = false)) ∧ p.bit F.MOD_CTRL_ARM b = true ∧ u.bit F.MOD_CTRL_ARM b = false := by
  refine ⟨(live .ready).flag F.MOD_CTRL_ARM 0 true, _, _, _, 1, _, reg 3 F.MOD_CTRL_MODE.addr, 0, rfl,
    by constructor <;> decide +kernel, rfl, rfl, rfl, ?_, ?_, ?_⟩ <;> decide +kernel

theorem witness_ModulationRegisters_6 : ∃ (s : State) (t : State) (u : State) (dt : Nat) (b : Br) (r : RegDef) (v :
  Word),
    (s.tick dt).busDone = t ∧ t.Reaches keeper 3 F.MOD_CTRL_MODE.addr r v ∧ t.wrote keeper F.MOD_CTRL_MODE.addr r v
      = u ∧ t.selMod keeper = b ∧ t.bit F.MOD_CTRL_MODE b = false ∧ u.bit F.MOD_CTRL_MODE b = true ∧ t.bit
      F.MOD_CTRL_ARM b = false := by
  refine ⟨live .ready, _, _, 1, _, reg 3 F.MOD_CTRL_MODE.addr, 1, rfl, by constructor <;> decide +kernel, rfl,
    rfl, ?_, ?_, ?_⟩ <;> decide +kernel

theorem witness_ModulationRegisters_7 : ∃ (s : State) (t : State) (u : State) (dt : Nat) (b : Br) (r : RegDef) (v :
  Word),
    (s.tick dt).busDone = t ∧ t.Reaches keeper 3 F.MOD_CTRL_MODE.addr r v ∧ t.wrote keeper F.MOD_CTRL_MODE.addr r v
      = u ∧ t.selMod keeper = b ∧ ((t.bit F.MOD_CTRL_MODE b = true ∨ u.bit F.MOD_CTRL_MODE b = false)) ∧ t.bit
      F.MOD_CTRL_ARM b = false := by
  refine ⟨live .ready, _, _, 1, _, reg 3 F.MOD_CTRL_MODE.addr, F.MOD_CTRL_ARM.put 0 1, rfl,
    by constructor <;> decide +kernel, rfl, rfl, ?_, ?_⟩ <;> decide +kernel

theorem witness_PositionRegisters_1 : ∃ (s : State) (t : State) (u : State) (m : Master) (r : RegDef) (v : Word),
    s.busDone = t ∧ t.Reaches m 6 F.PORT_CFG_ENABLE.addr r v ∧ t.wrote m F.PORT_CFG_ENABLE.addr r v = u ∧ t.portOn
      (t.selPort m) = false :=
  ⟨live .ready, _, _, 0, reg 6 F.PORT_CFG_ENABLE.addr,
    F.PORT_CFG_ENABLE.put ((live .ready).word F.PORT_CFG_ENABLE 0) 1, rfl, by constructor <;> decide +kernel, rfl,
    by decide +kernel⟩

theorem witness_PositionRegisters_2 : ∃ (s : State) (t : State) (q : State) (u : State) (m : Master) (p : PortIx)
  (r : RegDef) (v : Word),
    s.busDone = t ∧ t.ReachesUnpaused m 6 F.PORT_CFG_ENABLE.addr r v ∧ t.rangeErr 6 = q ∧ t.wroteUnpaused q m
      F.PORT_CFG_ENABLE.addr r v = u ∧ q.selPort m = p ∧ q.portOn p = true ∧ u.portOn p = false := by
  refine ⟨(live .ready).flag F.PORT_CFG_ENABLE 0 true, _, _, _, 0, _, reg 6 F.PORT_CFG_ENABLE.addr,
    F.PORT_CFG_ENABLE.put ((live .ready).word F.PORT_CFG_ENABLE 0) 0, rfl, by constructor <;> decide +kernel, rfl,
    rfl, rfl, ?_, ?_⟩ <;> decide +kernel

theorem witness_PositionRegisters_3 : ∃ (s : State) (t : State) (m : Master) (r : RegDef) (v : Word),
    s.busDone = t ∧ t.Reaches m 6 F.PORT_TURN_LO_TURN_LO.addr r v :=
  ⟨live .ready, _, 0, reg 6 F.PORT_TURN_LO_TURN_LO.addr, 0xFFFFFFFF, rfl, by constructor <;> decide +kernel⟩

theorem witness_PositionRegisters_4 : ∃ (s : State) (t : State) (m : Master) (r : RegDef) (v : Word),
    s.busDone = t ∧ t.Reaches m 6 F.PORT_TURN_HI_TURN_HI.addr r v :=
  ⟨live .ready, _, 0, reg 6 F.PORT_TURN_HI_TURN_HI.addr, 0xFFFF, rfl, by constructor <;> decide +kernel⟩

theorem witness_PositionRegisters_5 : ∃ (s : State) (u : State) (m : Master),
    s.onBus m = true ∧ s.blockUp 6 = true ∧ s.upCopy m (fun c => { c with portTurn := s.ports[s.selPort m].turn })
      = u := by
  refine ⟨live .ready, _, 0, ?_, ?_, rfl⟩ <;> decide +kernel

theorem witness_PositionRegisters_6 : ∃ (s : State) (u : State) (m : Master) (b : Br),
    s.onBus m = true ∧ s.blockUp 6 = true ∧ s.upCopy m (fun c =>
      { c with aclkTurn := c.aclkTurn.set b (s.aclkTurn b) }) = u := by
  refine ⟨live .ready, _, 0, 1, ?_, ?_, rfl⟩ <;> decide +kernel

theorem witness_LaneRegisters_1 : ∃ (s : State) (t : State) (dt : Nat) (m : Master) (r : RegDef) (v : Word),
    (s.tick dt).busDone = t ∧ t.Reaches m 2 F.LANE_CTRL_ARM.addr r v ∧ (r.fields.any fun g => (t.writeView m r
      F.LANE_CTRL_ARM.addr).takes g) = true :=
  ⟨live .ready, _, 1, keeper, reg 2 F.LANE_CTRL_ARM.addr, F.LANE_CTRL_ARM.put 0 1, rfl,
    by constructor <;> decide +kernel, by decide +kernel⟩

theorem witness_LaneRegisters_2 : ∃ (s : State) (t : State) (u : State) (dt : Nat) (m : Master) (r : RegDef) (v :
  Word),
    (s.tick dt).busDone = t ∧ t.Reaches m 2 F.LANE_PLAN_PLAN.addr r v ∧ (r.fields.any fun g => (t.writeView m r
      F.LANE_PLAN_PLAN.addr).takes g) = true ∧ t.laneSend (t.selLane m) ⟨F.LANE_PLAN_PLAN.addr, 31,
      0⟩ (t.laneWord m F.LANE_PLAN_PLAN.addr r false v) = u :=
  ⟨live .ready, _, _, 1, keeper, reg 2 F.LANE_PLAN_PLAN.addr, 2, rfl, by constructor <;> decide +kernel,
    by decide +kernel, rfl⟩

theorem witness_LaneRegisters_3 : ∃ (s : State) (t : State) (dt : Nat) (m : Master) (r : RegDef) (v : Word),
    (s.tick dt).busDone = t ∧ t.Reaches m 2 F.LANE_CMD_CLEAR.addr r v ∧ (r.fields.any fun g => (t.writeView m r
      F.LANE_CMD_CLEAR.addr).takes g) = true :=
  ⟨live .ready, _, 1, keeper, reg 2 F.LANE_CMD_CLEAR.addr, 1, rfl, by constructor <;> decide +kernel,
    by decide +kernel⟩

theorem witness_LaneRegisters_4 : ∃ (s : State) (t : State) (dt : Nat) (m : Master) (r : RegDef) (v : Word),
    (s.tick dt).busDone = t ∧ t.Reaches m 2 F.LANE_CAP_CTRL_ARM.addr r v ∧ (r.fields.any fun g => (t.writeView m r
      F.LANE_CAP_CTRL_ARM.addr).takes g) = true :=
  ⟨live .ready, _, 1, keeper, reg 2 F.LANE_CAP_CTRL_ARM.addr, F.LANE_CAP_CTRL_ARM.put 0 1, rfl,
    by constructor <;> decide +kernel, by decide +kernel⟩

theorem witness_LaneRegisters_5 : ∃ (s : State) (m : Master),
    s.onBus m = true ∧ s.blockUp 2 = true := by
  refine ⟨live .ready, 0, ?_, ?_⟩ <;> decide +kernel

theorem witness_NvmAndCanRegisters_1 : ∃ (s : State) (t : State) (dt : Nat) (m : Master) (r : RegDef) (v : Word),
    (s.tick dt).busDone = t ∧ t.Reaches m 11 F.NVMC_DATA_DATA.addr r v :=
  ⟨live .ready, _, 1, 0, reg 11 F.NVMC_DATA_DATA.addr, 0xFFFFFFFF, rfl, by constructor <;> decide +kernel⟩

theorem witness_NvmAndCanRegisters_2 : ∃ (s : State) (t : State) (dt : Nat) (r : RegDef) (v : Word),
    (s.tick dt).busDone = t ∧ t.Reaches keeper 11 F.NVMC_COMMIT_GO.addr r v :=
  ⟨live .ready, _, 1, reg 11 F.NVMC_COMMIT_GO.addr, F.NVMC_COMMIT_GO.put 0 1, rfl, by constructor <;> decide +kernel⟩

theorem witness_NvmAndCanRegisters_3 : ∃ (s : State) (t : State) (u : State) (dt : Nat) (mb : Nat) (m : Master) (r
  : RegDef) (v : Word),
    (s.tick dt).busDone = t ∧ t.Reaches m 7 F.MB_CMD_REQ.addr r v ∧ t.wrote m F.MB_CMD_REQ.addr r v = u ∧ t.busInst
      m r.win % 64 = mb ∧ F.MB_CMD_REQ.get v = 1 ∧ F.MB_CMD_CANCEL.get v ≠ 1 ∧ F.MB_CMD_RELEASE.get v ≠ 1 := by
  refine ⟨live .ready, _, _, 1, _, 0, reg 7 F.MB_CMD_REQ.addr, F.MB_CMD_REQ.put 0 1, rfl,
    by constructor <;> decide +kernel, rfl, rfl, ?_, ?_, ?_⟩ <;> decide +kernel

theorem witness_NvmAndCanRegisters_4 : ∃ (s : State) (t : State) (u : State) (dt : Nat) (mb : Nat) (m : Master) (r
  : RegDef) (v : Word),
    (s.tick dt).busDone = t ∧ t.Reaches m 7 F.MB_CMD_REQ.addr r v ∧ t.wrote m F.MB_CMD_REQ.addr r v = u ∧ t.busInst
      m r.win % 64 = mb ∧ F.MB_CMD_REQ.get v ≠ 1 ∧ F.MB_CMD_CANCEL.get v = 1 ∧ F.MB_CMD_RELEASE.get v ≠ 1 := by
  refine ⟨live .ready, _, _, 1, _, 0, reg 7 F.MB_CMD_REQ.addr, F.MB_CMD_CANCEL.put 0 1, rfl,
    by constructor <;> decide +kernel, rfl, rfl, ?_, ?_, ?_⟩ <;> decide +kernel

theorem witness_NvmAndCanRegisters_5 : ∃ (s : State) (t : State) (u : State) (dt : Nat) (mb : Nat) (m : Master) (r
  : RegDef) (v : Word),
    (s.tick dt).busDone = t ∧ t.Reaches m 7 F.MB_CMD_REQ.addr r v ∧ t.wrote m F.MB_CMD_REQ.addr r v = u ∧ t.busInst
      m r.win % 64 = mb ∧ F.MB_CMD_REQ.get v ≠ 1 ∧ F.MB_CMD_CANCEL.get v ≠ 1 ∧ F.MB_CMD_RELEASE.get v = 1 := by
  refine ⟨live .ready, _, _, 1, _, 0, reg 7 F.MB_CMD_REQ.addr, F.MB_CMD_RELEASE.put 0 1, rfl,
    by constructor <;> decide +kernel, rfl, rfl, ?_, ?_, ?_⟩ <;> decide +kernel

theorem witness_NvmAndCanRegisters_6 : ∃ (s : State) (t : State) (u : State) (dt : Nat) (m : Master) (r : RegDef)
  (v : Word),
    (s.tick dt).busDone = t ∧ t.Reaches m 7 F.CAN_CTRL_INIT.addr r v ∧ t.wrote m F.CAN_CTRL_INIT.addr r v = u ∧
      (F.CAN_CTRL_INIT.get v == 1) = t.bit F.CAN_CTRL_INIT (t.selCan m) ∧ F.CAN_CTRL_RECOVER.get v = 1 := by
  refine ⟨live .ready, _, _, 1, 0, reg 7 F.CAN_CTRL_INIT.addr,
    F.CAN_CTRL_RECOVER.put ((live .ready).word F.CAN_CTRL_INIT 0) 1, rfl, by constructor <;> decide +kernel, rfl,
    ?_, ?_⟩ <;> decide +kernel

theorem witness_NvmAndCanRegisters_7 : ∃ (s : State) (t : State) (u : State) (dt : Nat) (m : Master) (r : RegDef)
  (v : Word),
    (s.tick dt).busDone = t ∧ t.Reaches m 7 F.CAN_CTRL_INIT.addr r v ∧ t.wrote m F.CAN_CTRL_INIT.addr r v = u ∧
      (F.CAN_CTRL_INIT.get v == 1) ≠ t.bit F.CAN_CTRL_INIT (t.selCan m) ∧ F.CAN_CTRL_RECOVER.get v ≠ 1 := by
  refine ⟨live .ready, _, _, 1, 0, reg 7 F.CAN_CTRL_INIT.addr, F.CAN_CTRL_INIT.put 0 0, rfl,
    by constructor <;> decide +kernel, rfl, ?_, ?_⟩ <;> decide +kernel

theorem witness_CheckAndCounterRegisters_1 : ∃ (s : State) (t : State) (m : Master) (r : RegDef) (v : Word),
    s.busDone = t ∧ t.Reaches m 8 F.CRC_START_START.addr r v ∧ F.CRC_START_START.get v = 1 :=
  ⟨live .ready, _, 0, reg 8 F.CRC_START_START.addr, 1, rfl, by constructor <;> decide +kernel, by decide +kernel⟩

theorem witness_CheckAndCounterRegisters_2 : ∃ (s : State) (t : State) (m : Master) (r : RegDef) (v : Word) (size :
  AccSize),
    s.busDone = t ∧ t.Reaches m 8 F.CRC_DATA_DATA.addr r v :=
  ⟨live .ready, _, 0, reg 8 F.CRC_DATA_DATA.addr, 0xFF, .byte, rfl, by constructor <;> decide +kernel⟩

theorem witness_CheckAndCounterRegisters_3 : ∃ (s : State) (t : State) (m : Master) (r : RegDef) (v : Word),
    s.busDone = t ∧ t.Reaches m 8 F.CRC_VAL_LO_VALUE.addr r v :=
  ⟨live .ready, _, 0, reg 8 F.CRC_VAL_LO_VALUE.addr, 0xFFFFFFFF, rfl, by constructor <;> decide +kernel⟩

theorem witness_CheckAndCounterRegisters_4 : ∃ (s : State) (t : State) (m : Master) (r : RegDef) (v : Word),
    s.busDone = t ∧ t.Reaches m 8 F.CRC_VAL_HI_VALUE.addr r v :=
  ⟨(live .ready).upCrc 0 fun c => { c with poly := 4 }, _, 0, reg 8 F.CRC_VAL_HI_VALUE.addr, 0xFFFFFFFF, rfl,
    by constructor <;> decide +kernel⟩

theorem witness_CheckAndCounterRegisters_5 : ∃ (s : State) (u : State) (m : Master),
    s.onBus m = true ∧ s.blockUp 8 = true ∧ s.upCopy m (fun c =>
      { c with crcHi := (s.crcs[s.selCrc m].value >>> 32).setWidth 32 }) = u := by
  refine ⟨live .ready, _, 0, ?_, ?_, rfl⟩ <;> decide +kernel

theorem witness_CheckAndCounterRegisters_6 : ∃ (s : State) (u : State) (m : Master),
    s.onBus m = true ∧ s.blockUp 8 = true ∧ s.upCopy m (fun c =>
      { c with crcHi := (s.crcResult (s.selCrc m) >>> 32).setWidth 32 }) = u := by
  refine ⟨live .ready, _, 0, ?_, ?_, rfl⟩ <;> decide +kernel

theorem witness_CheckAndCounterRegisters_7 : ∃ (s : State) (t : State) (m : Master) (r : RegDef) (v : Word),
    s.busDone = t ∧ t.Reaches m 9 F.CNT_CMD_CLEAR.addr r v ∧ F.CNT_CMD_CLEAR.get v = 1 :=
  ⟨live .ready, _, 0, reg 9 F.CNT_CMD_CLEAR.addr, 1, rfl, by constructor <;> decide +kernel, by decide +kernel⟩

theorem witness_CheckAndCounterRegisters_8 : ∃ (s : State) (t : State) (m : Master) (r : RegDef) (v : Word),
    s.busDone = t ∧ t.Reaches m 9 F.CNT_CFG_SRC.addr r v :=
  ⟨live .ready, _, 0, reg 9 F.CNT_CFG_SRC.addr, 0, rfl, by constructor <;> decide +kernel⟩

theorem witness_CheckAndCounterRegisters_9 : ∃ (s : State) (t : State) (m : Master) (r : RegDef) (v : Word),
    s.busDone = t ∧ t.Reaches m 9 F.EVC_SNAP_SNAP.addr r v ∧ F.EVC_SNAP_SNAP.get v = 1 :=
  ⟨live .ready, _, 0, reg 9 F.EVC_SNAP_SNAP.addr, 1, rfl, by constructor <;> decide +kernel, by decide +kernel⟩

theorem witness_CheckAndCounterRegisters_10 : ∃ (s : State) (u : State) (m : Master),
    s.onBus m = true ∧ s.blockUp 9 = true ∧ s.upCopy m (fun c => { c with cntHi := s.cntHigh (s.selCnt m) false })
      = u := by
  refine ⟨live .ready, _, 0, ?_, ?_, rfl⟩ <;> decide +kernel

theorem witness_CheckAndCounterRegisters_11 : ∃ (s : State) (u : State) (m : Master),
    s.onBus m = true ∧ s.blockUp 9 = true ∧ s.upCopy m (fun c => { c with cntHi := s.cntHigh (s.selCnt m) true }) =
      u := by
  refine ⟨live .ready, _, 0, ?_, ?_, rfl⟩ <;> decide +kernel

theorem witness_AnyAccess_1 : ∃ (s : State) (t : State) (dt : Nat) (m : Master) (a : Word) (v : Word),
    (s.tick dt).busDone = t ∧ t.onBus m = true ∧ a.toNat / 4 * 4 = a.toNat ∧ (regionOf a.toNat = .pilotSram ∨
      regionOf a.toNat = .retained) := by
  refine ⟨live .ready, _, 1, 0, 0x205FFFFC, 0xFFFFFFFF, rfl, ?_, ?_, ?_⟩ <;> decide +kernel

theorem witness_AnyAccess_2 : ∃ (s : State) (t : State) (dt : Nat) (m : Master) (a : Word) (v : Word),
    s.tick dt = t ∧ t.running = true ∧ ((t.portOpen m = false ∨ mayWrite m (a.toNat / 4 * 4) (regionOf (a.toNat / 4
      * 4)) = false)) := by
  refine ⟨live .ready, _, 1, 0, 0x0002FFFC, 0, rfl, ?_, ?_⟩ <;> decide +kernel

theorem witness_AnyAccess_3 : ∃ (s : State) (t : State) (dt : Nat) (k : Nat) (m : Master) (a : Word) (v : Word) (r
  : RegDef),
    (s.tick dt).busDone = t ∧ t.onBus m = true ∧ a.toNat / 4 * 4 = a.toNat ∧ regionOf a.toNat = .regs k ∧ mayWrite
      m a.toNat (.regs k) = true ∧ t.blockUp k = true ∧ k ≠ 1 ∧ k ≠ 7 ∧ regFind k a.toNat = some r ∧ (t.writeView m
      r a.toNat).guards = false ∧ t.writeLegal (t.writeView m r a.toNat) v = false := by
  refine ⟨live .ready, _, 1, 2, 0, BitVec.ofNat 32 F.LANE_SEL_LANE.addr, 12, reg 2 F.LANE_SEL_LANE.addr, rfl, ?_,
    ?_, ?_, ?_, ?_, ?_, ?_, ?_, ?_, ?_⟩ <;> decide +kernel

theorem witness_AnyAccess_4 : ∃ (s : State) (t : State) (u : State) (dt : Nat) (k : Nat) (m : Master) (a : Word) (v
  : Word) (r : RegDef),
    (s.tick dt).busDone = t ∧ t.onBus m = true ∧ a.toNat / 4 * 4 = a.toNat ∧ regionOf a.toNat = .regs k ∧ mayWrite
      m a.toNat (.regs k) = true ∧ t.blockUp k = true ∧ k ≠ 1 ∧ k ≠ 7 ∧ regFind k a.toNat = some r ∧ (t.writeView m
      r a.toNat).guards = true ∧ t.raiseF FC.GUARD_WRITE .device = u ∧ u.writeLegal (t.writeView m r a.toNat) v =
      false := by
  refine ⟨live .ready, _, _, 1, 4, 0, BitVec.ofNat 32 F.FLT_CTRL_ENABLE.addr, 0x901, reg 4 F.FLT_CTRL_ENABLE.addr,
    rfl, ?_, ?_, ?_, ?_, ?_, ?_, ?_, ?_, ?_, rfl, ?_⟩ <;> decide +kernel

theorem witness_AnyAccess_5 : ∃ (s : State) (t : State) (dt : Nat) (k : Fin 4) (m : Master) (a : Word) (v : Word),
    (s.tick dt).busDone = t ∧ t.onBus m = true ∧ a.toNat = 0x400C0000 + 4096 * k.val := by
  refine ⟨live .ready, _, 1, 3, 0, 0x400C3000, 5, rfl, ?_, ?_⟩ <;> decide +kernel

theorem witness_AnyAccess_6 : ∃ (s : State) (t : State) (dt : Nat) (k : Nat) (m : Master) (a : Word) (v : Word),
    s.tick dt = t ∧ t.onBus m = true ∧ regionOf (a.toNat / 4 * 4) = .linkWin k ∧ a.toNat / 4 * 4 % 4096 ≠ 0 := by
  refine ⟨live .ready, _, 1, 0, 0, 0x400C0FFC, 0, rfl, ?_, ?_, ?_⟩ <;> decide +kernel

theorem witness_AnyAccess_7 : ∃ (s : State) (t : State) (dt : Nat) (m : Master) (a : Word),
    s.tick dt = t ∧ t.running = true ∧ ((t.portOpen m = false ∨ mayRead m (regionOf (a.toNat / 4 * 4)) = false)) ∧
      regionOf (a.toNat / 4 * 4) ≠ .nvm := by
  refine ⟨live .ready, _, 1, 0, 0x00030000, rfl, ?_, ?_, ?_⟩ <;> decide +kernel

theorem witness_AnyAccess_8 : ∃ (s : State) (t : State) (dt : Nat) (m : Master) (a : Word),
    s.tick dt = t ∧ t.onBus m = true ∧ (regionOf (a.toNat / 4 * 4) = .pilotSram ∨ regionOf (a.toNat / 4 * 4) =
      .retained) := by
  refine ⟨live .ready, _, 1, 0, 0x29001FFF, rfl, ?_, ?_⟩ <;> decide +kernel

theorem witness_AnyAccess_9 : ∃ (s : State) (t : State) (dt : Nat) (k : Nat) (m : Master) (a : Word),
    s.tick dt = t ∧ t.onBus m = true ∧ regionOf (a.toNat / 4 * 4) = .linkWin k ∧ a.toNat / 4 * 4 % 4096 ≠ 0 := by
  refine ⟨live .ready, _, 1, 1, 0, 0x400C1004, rfl, ?_, ?_, ?_⟩ <;> decide +kernel

theorem witness_AnyAccess_10 : ∃ (s : State) (t : State) (dt : Nat) (m : Master) (a : Word),
    s.tick dt = t ∧ t.onBus m = true ∧ regionOf (a.toNat / 4 * 4) = .nvm := by
  refine ⟨live .ready, _, 1, 0, 0x13FFFFFF, rfl, ?_, ?_⟩ <;> decide +kernel

theorem witness_IllFormedStops_1 : ∃ (s : State) (dt : Nat) (ago : Nat) (c : Fin 4) (f : CanFrame),
    f.wf = false :=
  ⟨live .run, 1, 0, 0, canFrame .classical 1 9, by decide +kernel⟩

theorem witness_IllFormedStops_2 : ∃ (s : State) (c : Fin 4) (f : CanFrame),
    f.wf = false :=
  ⟨live .run, 0, canFrame .classical 1 9, by decide +kernel⟩

theorem witness_IllFormedStops_3 : ∃ (s : State) (dt : Nat) (c : Fin 4) (f : CanFrame),
    f.wf = false :=
  ⟨live .run, 1, 0, canFrame .classical 1 9, by decide +kernel⟩

theorem witness_IllFormedStops_4 : ∃ (s : State) (dt : Nat) (c : Fin 4) (f : CanFrame),
    f.wf = false :=
  ⟨live .run, 1, 0, canFrame .classical 1 9, by decide +kernel⟩

theorem witness_StepKeepsSound_1 : ∃ (s : State) (t : State),
    s.Wf ∧ step s = .next t :=
  ⟨State.reset, State.reset.tick 1, reset_wf, rfl⟩

theorem witness_CountersSaturate_1 : ∃ (s : State) (code : Nat) (n : Nat) (k : Fin 32),
    s.cnts[k].wf = true :=
  ⟨(State.reset.setWord F.CNT_CFG_SRC 0 1), 1, 2, 0, by decide +kernel⟩

theorem witness_WrongLengthIsAnswered_1 : ∃ (s : State) (lk : Lk) (c : Instr) (code : Nat) (len : Nat),
    (c, code, len) ∈ ([ (.sysStatus lk, 0x0101, 0), (.sysTime lk, 0x0102, 0), (.standbyEnter lk, 0x0103, 0),
      (.driveStart lk, 0x0201, 4), (.driveStop lk, 0x0202, 4), (.torqueSet lk, 0x0203, 12), (.speedSet lk, 0x0204,
      12), (.currentSet lk, 0x0205, 12), (.driveStatus lk, 0x0206, 4), (.prechargeStart lk, 0x0207, 4),
      (.driveShutdown lk, 0x0208, 4), (.dischargeStart lk, 0x0209, 4), (.posStatus lk, 0x0301, 4),
      (.posSourceSet lk, 0x0302, 4), (.posAlign lk, 0x0303, 8), (.turnsSet lk, 0x0304, 8), (.safetyStatus lk,
      0x0901, 0), (.safetyConfirm lk, 0x0902, 4), (.faultAck lk, 0x0903, 4), (.laneClear lk, 0x0904, 4),
      (.safeStopReq lk, 0x0905, 4), (.faultList lk, 0x0906, 4), (.paramStore lk, 0x0B03, 4), (.paramCheck lk,
      0x0B04, 0), (.storeStatus lk, 0x0B05, 0), (.paramDefaults lk, 0x0B06, 0), (.paramRevert lk, 0x0B07, 0),
      (.recList lk, 0x0B10, 4), (.recRead lk, 0x0B11, 8), (.recTrigger lk, 0x0B12, 0), (.recPin lk, 0x0B13, 4),
      (.cntRead lk, 0x0B14, 4), (.cntConfig lk, 0x0B15, 4), (.fwVerify lk, 0x0D03, 0), (.fwStatus lk, 0x0D04, 0),
      (.fwActivate lk, 0x0D05, 0), (.pilotRestart lk, 0x0D06, 0), (.fwAbort lk, 0x0D07, 0), (.deviceIdent lk,
      0x0E00, 0), (.lcStatus lk, 0x0E01, 0), (.authChallenge lk, 0x0E02, 0), (.deviceReset lk, 0x0E05,
      0)] : List (Instr × Nat × Nat)) ∧ s.Serves lk code ∧ (s.payload lk).length ≠ len := by
  refine ⟨barge (live .run) 0x0101 [0], 0, .sysStatus 0, 0x0101, 0, ?_, by constructor <;> decide +kernel,
    ?_⟩ <;> decide +kernel

theorem witness_StepRunsFront_1 : ∃ (s : State) (c : Instr) (rest : List Instr),
    s.pending = c :: rest :=
  ⟨{ State.reset with pending := [.sysStatus 0] }, .sysStatus 0, [], by decide +kernel⟩

theorem witness_StepRunsFront_2 : ∃ (s : State),
    s.pending = [] :=
  ⟨State.reset, by decide +kernel⟩

theorem witness_StepTakesOneCommandInTime_1 : ∃ (s : State) (t : State),
    s.Wf ∧ step s = .next t :=
  ⟨State.reset, State.reset.tick 1, reset_wf, rfl⟩

theorem witness_EncodedNames_1 : ∃ (s : State) (b : Br),
    s.configured b = false :=
  ⟨live .run, 1, by decide +kernel⟩

theorem witness_EncodedNames_2 : ∃ (s : State) (b : Br),
    s.configured b = true :=
  ⟨live .run, 0, by decide +kernel⟩

theorem witness_DirectModeBarsEnable_1 : ∃ (s : State) (t : State) (x : State) (u : State) (dt : Nat) (b : Br) (r :
  RegDef) (v : Word) (w : Word),
    (s.tick dt).busDone = t ∧ t.Wf ∧ F.FLT_CTRL_ENABLE.put v 1 = w ∧ t.Reaches keeper 4 F.FLT_CTRL_ENABLE.addr r w
      ∧ t.selFlt keeper = b ∧ t.wrote keeper F.FLT_CTRL_ENABLE.addr r w = x ∧ (if F.FLT_CTRL_HOLD.get w = 1 then
      x.holdBegin b else if x.bit F.FLT_CTRL_HOLD b then x.holdEnd b else x) = u ∧ u.bit F.MOD_CTRL_MODE b = true :=
  ⟨(live .ready).flag F.MOD_CTRL_MODE 0 true, _, _, _, 1, _, reg 4 F.FLT_CTRL_ENABLE.addr, 0x800, _, rfl,
    by constructor <;> decide +kernel, rfl, by constructor <;> decide +kernel, rfl, rfl, rfl, by decide +kernel⟩

theorem witness_ClaimTimeoutEmptiesTheLock_1 : ∃ (s : State) (t : State) (dt : Nat) (k : Lk) (port : Fin 2),
    s.tick dt = t ∧ t.locks[k].gate = .empty ∧ t.locks[k].owner = some (.spi port) ∧ t.locks[k].claimedAt + t.parN
      P.lock_claim_timeout * msCounts ≤ t.now := by
  refine ⟨(live .run).upLock 0 fun l => { l with owner := some (.spi 1) }, _, 4000000000000, 0, 1, rfl, ?_, ?_,
    ?_⟩ <;> decide +kernel

theorem witness_StorageReadsBack_1 : ∃ (s : State) (f : Fld) (g : Fld) (i : Nat) (j : Nat) (w : Word),
    s.Wf ∧ f.addr < 2 ^ 32 ∧ g.addr < 2 ^ 32 := by
  refine ⟨State.reset, F.CNT_CFG_SRC, F.CNT_CFG_SRC, 0, 1, 5, reset_wf, ?_, ?_⟩ <;> decide +kernel

theorem witness_StorageReadsBack_2 : ∃ (s : State) (a : Nat) (c : Nat) (x : Byte),
    s.Wf :=
  ⟨State.reset, 0, 1, 5, reset_wf⟩

theorem witness_StorageReadsBack_3 : ∃ (s : State) (a : Nat) (w : Word),
    s.Wf :=
  ⟨State.reset, 0, 5, reset_wf⟩

theorem witness_StorageReadsBack_4 : ∃ (s : State) (a : Nat) (c : Nat) (w : Word),
    s.Wf ∧ ((c < a ∨ a + 4 ≤ c)) :=
  ⟨State.reset, 4, 3, 5, reset_wf, by decide +kernel⟩

/-! ## Witnesses of inner clauses -/

/-- A catch whose line-to-line peak is `e`; with `seen`, two periods of u_UV have been seen. -/
def catchAt (e : Int) (seen : Bool) : State :=
  (withPar (withPar (live .catching) P.drive_catch_emf_min 1000) P.drive_catch_env 95).upB 0 fun x => { x with
    catchRec := { x.catchRec with
      ePeak := e
      crossings := ⟨1, true, 110⟩ :: ⟨0, true, 100⟩ :: (if seen then
        [⟨0, false, 80⟩, ⟨0, true, 60⟩, ⟨0, false, 40⟩, ⟨0, true, 20⟩] else []) } }

/-- A sensor holds the angle and the speed of bridge A. -/
def withSensor (s : State) : State := (s.wr F.ACLK_STATUS_SOURCE 0 0).wr F.ACLK_STATUS_QUALITY 0 0

/-- What a catch on this state decides after 400,000,000 counts, with what the measurement gives; a sensor is present or not;
direct mode or not. -/
def choice (s : State) (o : CatchOut) (sens direct : Bool) : Bool :=
  let t := s.tick 400000000
  let c := t.bridges[(0 : Br)].catchRec
  match c.dir with
  | none => false
  | some d =>
    let om := c.freq * (d : Rat) * t.spend.phaseSense 0
    t.lead 0 == 0 && t.dst 0 == .catching && t.isPm 0 && t.windowOver 0 &&
      decide (t.spend.catchChoose 0 (c.angle (t.spend.phaseSense 0) om t.now) om = o) && t.spend.sensorPresent 0 == sens &&
      t.bit F.MOD_CTRL_MODE (0 : Fin 2) == direct

/-- The six outcomes of the second clause of `CatchEvents`, each with all its hypotheses. -/
theorem witness_CatchEvents_2_fail : choice (catchAt 5000 false) .fail false false = true := by decide +kernel
theorem witness_CatchEvents_2_pos : choice (withSensor (catchAt 5000 true)) .pos true false = true := by
  decide +kernel
theorem witness_CatchEvents_2_high : choice (catchAt 3999 true) .high false false = true := by decide +kernel
theorem witness_CatchEvents_2_over :
    choice ((catchAt 4000 true).flag F.MOD_CTRL_MODE 0 true) .weaken false true = true := by decide +kernel
theorem witness_CatchEvents_2_weaken : choice ((withPar (withPar (withSensor (catchAt 5000 true)) P.drive_catch_tol 65535) P.drive_catch_speed_tol 100).wrI F.ACLK_SPEED_SPEED 0 1000000000) .weaken true false = true := by
  decide +kernel
theorem witness_CatchEvents_2_zero : choice (withSensor (catchAt 999 false)) .zero true false = true := by
  decide +kernel

theorem witness_PositionEvents_4_sent : ∃ (s : State) (t : State) (dt : Nat) (p : PortIx),
    s.tick dt = t ∧ t.portOn p = true ∧ t.portMode p = 5 :=
  ⟨((live .run).flag F.PORT_CFG_ENABLE 0 true).wr F.PORT_CFG_MODE 0 5, _, 1, 0, rfl, by decide +kernel,
    by decide +kernel⟩

theorem witness_PositionEvents_4_spi : ∃ (s : State) (t : State) (dt : Nat) (p : PortIx),
    s.tick dt = t ∧ t.portOn p = true ∧ t.portMode p = 6 :=
  ⟨((live .run).flag F.PORT_CFG_ENABLE 0 true).wr F.PORT_CFG_MODE 0 6, _, 1, 0, rfl, by decide +kernel,
    by decide +kernel⟩

/-- Lane 1 armed, its gate on since the start of time. -/
def conducting : State := (live .run).upLane 1 fun l => { l with st := .armed, gate := true }

theorem witness_LaneProtection_1_cases :
    let t := conducting.tick 4000
    let n := 100 + 25 * t.own 1 F.LANE_DIDT_FILT_FILTER
    ((t.own 1 F.LANE_DIDT_TRIP : Int) < 65536 ∧ n ≤ 10000 ∧
        n + (300 + 25 * t.own 1 F.LANE_DIDT_MASK) ≤ 25 * (t.dt - t.lanes[(1 : LaneIx)].gateAt)) ∧
      ((0 : Int) ≤ t.own 1 F.LANE_DIDT_TRIP ∧ t.lanes[(1 : LaneIx)].gate = true ∧
        t.lanes[(1 : LaneIx)].st = .armed ∧ t.own 1 F.LANE_INTEG_TRIP < Int.natAbs 65536) ∧
      (t.own 1 F.LANE_INTEG_TRIP : Nat) ≥ Int.natAbs 0 := by decide +kernel

theorem witness_LaneProtection_2_cases :
    let t := conducting.tick 4000
    t.lanes[(1 : LaneIx)].gate = true ∧ (t.own 1 F.LANE_DESAT_VOLT : Int) < 65536 ∧
      1000 + 10 * t.own 1 F.LANE_DESAT_BLANK ≤ 25 * (t.dt - t.lanes[(1 : LaneIx)].gateAt) ∧
      ((live .run).tick 1).lanes[(1 : LaneIx)].gate = false := by decide +kernel

theorem witness_LaneProtection_6_hvs : ∃ (s : State) (t : State) (dt : Nat) (k : LaneIx) (mv hvs : Int),
    ((s.tick dt).upLane k fun l => { l with vddl := mv }) = t ∧ mv < 9000 ∧ laneLow k = true ∧ 45000 ≤ hvs ∧
      t.lanes[k].st ≠ .unlinked :=
  ⟨hearing, _, 1, 1, 8999, 45000, rfl, by decide +kernel, by decide +kernel, by decide +kernel, by decide +kernel⟩

theorem witness_LaneProtection_6_lost : ∃ (s : State) (t : State) (dt : Nat) (k : LaneIx) (mv hvs : Int),
    ((s.tick dt).upLane k fun l => { l with vddl := mv }) = t ∧ mv < 9000 ∧ (laneLow k = false ∨ hvs < 45000) :=
  ⟨hearing, _, 1, 1, 8999, 44999, rfl, by decide +kernel, by decide +kernel⟩

theorem witness_LaneProtection_8_cases :
    let s (v : Int) := ((live .run).upLane 1 fun l => { l with st := .tripped, cause := some .vddl, vddl := v }).tick 40000000000
    (s 11499).supplyBad 1 = true ∧ (s 11500).supplyBad 1 = false := by decide +kernel

theorem witness_LaneEdgesAndCapture_3_cases :
    let t := ((live .run).wr F.LANE_PLAN_AUX_MODE (laneOwn 1) 1).tick 1
    t.own 1 F.LANE_PLAN_AUX_MODE = 1 ∧ t.lanes[(1 : LaneIx)].aux ≠ true ∧ t.lanes[(1 : LaneIx)].aux = false := by
  decide +kernel

/-- Lane 1 with a turn-on queued at the start of time. -/
def queued : State := (live .run).upLane 1 fun l => { l with st := .armed, queue := [⟨0, 0, false, false, false⟩] }

theorem witness_LaneEdgesAndCapture_1_due : ((queued.tick 1).edgeFirst 1 ⟨true, false, false, 0⟩).isSome = true := by
  decide +kernel

theorem witness_LaneEdgesAndCapture_1_none : ((live .run).tick 1).edgeFirst 1 ⟨true, false, false, 0⟩ = none := by
  decide +kernel

theorem witness_SpiFrameCrcError_each : (live .run).spiUp = true ∧
    ∀ i ∈ [0x20, 0x21, 0x22, 0x23, 0x24, 0x10], (0 : Byte) ≠ spiCrc (spiHead i 0 0 0) := by decide +kernel


theorem witness_ContactorsAndWeir_1_cases :
    let u (v : State) (k : Fin 6) (l : Bool) := { v with dcl := { v.dcl with fb := v.dcl.fb.set k l } }
    let shut := withPar (withPar (withPar (live .run) (P.dcl_ctr_role 0) 1) (P.dcl_fb_a 0) 0) (P.dcl_fb_invert 0) 0
    let asked := { shut with dcl := { shut.dcl with req := shut.dcl.req.set 0 true } }
    let opened := u asked 0 true
    (u opened 0 true).mainOpen = false ∧ ((u shut 1 true).mainOpen = true ∧ shut.mainOpen = true) ∧
      ((u opened 0 false).mainOpen = true ∧ opened.mainOpen = false ∧ (u opened 0 false).dcl.req[(0 : Fin 4)] = true ∧
        (u opened 0 false).parN (P.dcl_ctr_role 0) = 1) := by decide +kernel

/-- The chopper is enabled, at a link voltage, on or off, mismatched or not. -/
def chopAt (on bad : Bool) : State :=
  let s := ((charged (live .run)).wr F.SYS_WEIR_CHOP1_LANE 0 1).wr F.SYS_WEIR_OV2_MV 0 900000
  { s with dcl := { s.dcl with chopOn := on, mismatch := bad } }

theorem witness_ContactorsAndWeir_5_cases :
    let u (s : State) := (s.tick 1).ov2Settle.weirLimit State.weirGen
    ((u (live .run)).chopEnabled = false ∧ (u (live .run)).dcl.chopOn = false) ∧
      ((u { live .run with dcl := { (live .run).dcl with chopOn := true } }).chopEnabled = false ∧
        (u { live .run with dcl := { (live .run).dcl with chopOn := true } }).dcl.chopOn = true) ∧
      ((u (chopAt false false)).chopEnabled = true ∧ (u (chopAt false false)).chopSwitch.dcl.mismatch = false ∧
        (u (chopAt false false)).chopSwitch.chopNoFall = false) ∧
      ((u (chopAt true false)).chopEnabled = true ∧ (u (chopAt true false)).chopSwitch.dcl.mismatch = false) ∧
      (u (chopAt false true)).chopEnabled = true ∧ (u (chopAt false true)).chopSwitch.dcl.mismatch = true := by
  decide +kernel

theorem witness_ContactorsAndWeir_6_cases :
    (((chopAt false false).wr F.SYS_WEIR_CHOP_ON_MV 0 400000).dcl.chopOn = false ∧
      (((chopAt false false).wr F.SYS_WEIR_CHOP_ON_MV 0 400000).rd F.SYS_WEIR_CHOP_ON_MV : Int) <
        ((chopAt false false).wr F.SYS_WEIR_CHOP_ON_MV 0 400000).vLink) ∧
      ((chopAt true false).wr F.SYS_WEIR_CHOP_OFF_MV 0 600000).dcl.chopOn = true ∧
      ((chopAt true false).wr F.SYS_WEIR_CHOP_OFF_MV 0 600000).vLink <
        ((chopAt true false).wr F.SYS_WEIR_CHOP_OFF_MV 0 600000).rd F.SYS_WEIR_CHOP_OFF_MV := by decide +kernel

/-- A device that a warm reset holds. -/
def warmHeld : State := { live .run with sys := { (live .run).sys with rst := some .warm } }

theorem witness_FlightEvents_1_cases : (grouped.tick 1).flightRuns 0 = true ∧ ((live .run).tick 1).flightRuns 0 = false := by
  decide +kernel

theorem witness_FlightEvents_2_cases :
    ((live .run).tick 1).standbyTimer.running = true ∧ (warmHeld.tick 1).standbyTimer.running = false := by
  decide +kernel

theorem witness_FlightEvents_4_cases :
    let v (sl : Slot) := (live .run).upFl 0 fun f => { f with slots := f.slots.set 0 sl }
    let late : Slot := { specSlot with start := 1000000 }
    ((v specSlot).flights[(0 : Br)].firstSpec = some specSlot ∧ (v specSlot).commitAt 0 specSlot ≤ (v specSlot).dt) ∧
      ((v late).flights[(0 : Br)].firstSpec = some late ∧ (v late).dt < (v late).commitAt 0 late) := by decide +kernel

/-- What the next stage of bridge A meets in the seventh clause of `FlightEvents`. -/
def takes (s : State) (late : Bool) : Bool :=
  match s.nextSlot 0 none with
  | none => false
  | some sl =>
    let t := s.takeSlot 0 sl
    if late then decide (t.commitAt 0 sl ≤ t.dt)
    else decide (t.dt < t.commitAt 0 sl) && decide (t.flights[(0 : Br)].verified < sl.num)

/-- The Flight of bridge A predicts, and its first stage begins far ahead. -/
def laterStage : State :=
  firstStage.upFl 0 fun f => { f with slots := f.slots.set 0 { slot0 with start := 1000000 }, next := 1 }

theorem witness_FlightEvents_7_cases : takes laterStage false = true ∧ takes firstStage true = true := by
  decide +kernel

/-- The group of stage 0 of bridge A holds three currents. -/
def measuredState (s : State) : State :=
  s.upFl 0 fun f => { f with groups := [⟨0, [some 1, some 2, some (-3)], []⟩] }

theorem witness_FlightEvents_8_cases :
    let whole := (measuredState grouped).tick 1
    let opened := ((measuredState grouped).upFl 0 fun f => { f with due := [⟨0, some 0, 0, 1, 0⟩] }).tick 1
    let short := grouped.tick 800
    (whole.groupStage 0 = some slot0 ∧ (∀ c ∈ whole.verifySet 0, whole.groupOpen c 0 = false ∧
        (whole.measured c 0).missing = false)) ∧
      (opened.groupStage 0 = some slot0 ∧ opened.groupOpen 0 0 = true) ∧
      (short.groupStage 0 = some slot0 ∧ (∀ c ∈ short.verifySet 0, short.groupOpen c 0 = false) ∧
        (short.measured 0 0).missing = true ∧ slot0.start + slot0.dur + 400 ≤ short.dt) := by decide +kernel

theorem witness_FlightEvents_9_cases :
    let s := ((measuredState (live .run)).flag F.MOD_CTRL_MODE 0 true).flag F.MOD_CTRL_ARM 0 true
    ((s.tick 1).directArmed 0 = true ∧ ((s.tick 1).measured 0 0).missing = false ∧ (s.tick 1).groupOpen 0 0 = false) ∧
      ((live .run).tick 1).directArmed 0 = false := by decide +kernel

theorem witness_FlightEvents_10_cases :
    (grouped.tick 800).groupStage 0 = some slot0 ∧ 800 ≤ (grouped.tick 800).dt ∧
      (grouped.tick 799).groupStage 0 = some slot0 ∧ (grouped.tick 799).dt < 800 := by decide +kernel

theorem witness_FlightEvents_12_cases :
    let s := (live .run).upFl 0 fun f => { f with ending := true }
    (s.tick 1).flights[(0 : Br)].ending = true ∧ (s.tick 1).hasCommitted 0 = false ∧
      (grouped.tick 1).hasCommitted 0 = true := by decide +kernel

theorem witness_PositionEvents_1_cases :
    let s (m : Nat) := (((live .run).flag F.PORT_CFG_ENABLE 0 true).wr F.PORT_CFG_MODE 0 m).tick 1
    (∀ m ∈ [1, 2, 3], ((s m).portCond 0 0 ((s m).wireBad 0)).portOn 0 = true ∧
      ((s m).portCond 0 0 ((s m).wireBad 0)).portMode 0 = m) := by decide +kernel

theorem witness_ConversionEvents_2_cases :
    let on (s : State) := (s.flag F.CONV_CFG_ENABLE 0 true).tick 1
    let stage := (live .run).flag F.FLT_STATUS_RUNNING 0 true
    let switching := stage.upFl 0 fun f => { f with predictOnly := false }
    let sampling := switching.upFl 0 fun f => { f with due := [⟨0, some 15, 0, 1, 0⟩] }
    ((on sampling).eventFor 0 (some 15)).isSome = true ∧
      ((on (live .run)).eventFor 0 (some 15) = none ∧ (on (live .run)).byClock 0 = true) ∧
      (on switching).eventFor 0 (some 15) = none ∧ (on switching).byClock 0 = false := by decide +kernel

theorem witness_ConversionEvents_3_cases :
    let held (p : Bool) := (live .run).upConv 0 fun c => { c with busy := [⟨0, p, 5, 1, none⟩] }
    let l (s : State) := s.convs[(0 : ConvIx)].busy.filter (s.jobMeets 0 (s.convEntry 0 (0 : Fin 16)))
    l (live .run) = [] ∧ l (held false) ≠ [] ∧ (∀ x ∈ l (held false), x.prio = false) ∧
      (∃ x ∈ l (held true), x.prio = true) := by decide +kernel

theorem witness_DownlinkFrames_1_cases :
    ((live .run).tick 1).slotAlign.linksRun = true ∧
      ({ live .run with sys := { (live .run).sys with standby := true } }.tick 1).slotAlign.linksRun = false := by
  decide +kernel

theorem witness_DownlinkFrames_2_cases :
    let s (m : Nat) (ws : List (Nat × Word)) := (live .run).upLink 1 fun l => { l with sinceMark := m, writes := ws }
    let e := (live .run).upLink 1 fun l => { l with edges := [(⟨5, 0, true, false, false⟩, 0, false)] }
    e.links[(1 : LaneIx)].edges ≠ [] ∧ 15 ≤ (s 15 []).links[(1 : LaneIx)].sinceMark ∧
      (s 14 [(4, 1)]).links[(1 : LaneIx)].writes = [(4, 1)] ∧ (s 14 []).links[(1 : LaneIx)].writes = [] := by
  decide +kernel

theorem witness_DownlinkFrames_8_cases :
    let s := (live .run).upLink 1 fun l => { l with sentAt := some 0 }
    600 ≤ (s.tick 600).now ∧ (s.tick 599).now < 600 := by decide +kernel

theorem witness_UplinkAndRelay_4_cases :
    let s (n : Nat) := ((live .run).upLink 1 fun l => { l with trained := true, upAt := 0 }).tick n
    ((s 800).links[(1 : LaneIx)].trained = true ∧ (s 800).condActive FC.LANE_LINK (.lane 1) = false ∧
        (s 800).links[(1 : LaneIx)].upAt + 800 ≤ (s 800).now) ∧
      (s 799).now < (s 799).links[(1 : LaneIx)].upAt + 800 ∧
      ((live .run).tick 1).links[(1 : LaneIx)].trained = false := by decide +kernel

/-- The four ways a trip meets those near it: alone, with its partner, with another leg, with both. -/
theorem witness_UplinkAndRelay_5_cases :
    let near (ts : List (LaneIx × Nat)) (k : LaneIx) :=
      let t := { hearing with trips := ts }
      t.trips.filter fun x => laneBr x.1 == laneBr k && decide (x.2 ≤ 7 ∧ 7 ≤ x.2)
    let mate (l : List (LaneIx × Nat)) := (l.find? fun y => y.1 == lanePartner 1).isSome
    let leg (l : List (LaneIx × Nat)) := (l.find? fun y => y.1.val / 2 != 0).isSome
    near [] 1 = [] ∧ (mate (near [(0, 7)] 1) = true ∧ leg (near [(0, 7)] 1) = false) ∧
      (mate (near [(3, 7)] 1) = false ∧ leg (near [(3, 7)] 1) = true) ∧
      mate (near [(0, 7), (3, 7)] 1) = true ∧ leg (near [(0, 7), (3, 7)] 1) = true := by decide +kernel

theorem witness_UplinkAndRelay_7_cases :
    laneLow 1 = true ∧ (((live .run).upLane 1 fun l => { l with ov3 := true }).tick 1).lanes[(1 : LaneIx)].ov3 = true ∧
      laneLow 0 = false := by decide +kernel

theorem witness_ServiceEvents_1_cases :
    let good := sentCrc (sentData [0, 0, 0])
    let bad (f : SentFrame) := ((live .run).tick 1).sentBad 0 f
    let serves := ((live .run).flag F.PORT_CFG_ENABLE 0 true).wr F.PORT_CFG_MODE 0 5
    bad ⟨3584, [768, 768, 768], [0, 0, good]⟩ = false ∧ bad ⟨3584, [768], [0, 0, good]⟩ = false ∧
      bad ⟨168, [], []⟩ = true ∧ serves.sentServes 0 = true ∧ (live .run).sentServes 0 = false := by decide +kernel

theorem witness_FlightRegisters_6_cases : F.FLT_CTRL_ENABLE.get 0x801 = 1 ∧ F.FLT_CTRL_ENABLE.get 0x800 ≠ 1 := by
  decide +kernel

theorem witness_AnyAccess_5_cases : (linkLast 3 : Nat) ≤ linkLast 3 ∧ linkLast 3 < linkLast 3 + 1 := by decide +kernel

end Sys2Proof.Tests
end

section
/-! PROOFS. The codes of states and classes, and the Lock whose claim over SPI ran out. -/

namespace Sys2Proof.Machine

/-! ## The codes of R47, R93 and R100 -/

theorem State.stCode_of_not_configured {s : State} {b : Br} (h : s.configured b = false) : s.stCode b = 0xFF := by
  simp [State.stCode, h]

theorem State.stCode_of_configured {s : State} {b : Br} (h : s.configured b = true) :
    s.stCode b = (s.dst b).code := by
  simp [State.stCode, h]

@[simp] theorem clsOf_clsCode (c : RClass) : clsOf (clsCode c) = c := by
  cases c <;> rfl

/-- Settles O57: a bridge that is not configured shows 0xFF, a configured one the code of its state; the class
codes read back. -/
theorem encodedNames : Obligations.EncodedNames := by
  unfold Obligations.EncodedNames
  refine ⟨fun _ _ => State.stCode_of_not_configured, fun s b hb => ?_,
    ⟨rfl, rfl, rfl, rfl, rfl, rfl, rfl, rfl, clsOf_clsCode⟩, rfl, rfl, rfl, rfl, rfl, rfl⟩
  rw [State.stCode_of_configured hb]
  cases s.dst b <;> rfl

/-! ## The claim of a Lock (R61) -/

@[simp] theorem State.lockEmpty_lock_self (s : State) (k : Lk) :
    (s.lockEmpty k).locks[k] = { s.locks[k] with gate := .empty, owner := none, buf := [], got := 0 } := by
  simp only [State.lockEmpty, State.upLock_locks, vupd_self]

theorem State.lockEmpty_lock_other (s : State) {j k : Lk} (h : j ≠ k) :
    (s.lockEmpty k).locks[j] = s.locks[j] := by
  simp only [State.lockEmpty, State.upLock_locks, vupd_other _ _ _ _ h.symm]

/-- Emptying a Lock touches no state but the Locks. -/
theorem State.lockEmpty_frame (s : State) (k : Lk) : s.lockEmpty k = { s with locks := (s.lockEmpty k).locks } := rfl

theorem exec_lockClaimTimeout (dt : Nat) (k : Lk) (s : State) :
    exec (.lockClaimTimeout dt k) s = execLockClaimTimeout dt k s := rfl

/-- The event of R61 at an empty Lock whose SPI claim has run out by the moment of the event. -/
theorem exec_lockClaimTimeout_of_expired {s : State} {dt : Nat} {k : Lk} {port : Fin 2}
    (hgate : (s.tick dt).locks[k].gate = .empty) (howner : (s.tick dt).locks[k].owner = some (.spi port))
    (hdue : (s.tick dt).locks[k].claimedAt + (s.tick dt).parN P.lock_claim_timeout * msCounts ≤ (s.tick dt).now) :
    exec (.lockClaimTimeout dt k) s = .next ((s.tick dt).lockEmpty k) := by
  simp only [exec_lockClaimTimeout, execLockClaimTimeout, hgate, howner, hdue, and_self, if_true]

/-- Settles O59: the event is the emptying of the one Lock in the state at its moment. -/
theorem claimTimeoutEmptiesTheLock : Obligations.ClaimTimeoutEmptiesTheLock := by
  unfold Obligations.ClaimTimeoutEmptiesTheLock
  rintro s t dt k port rfl hgate howner hdue
  refine ⟨(s.tick dt).lockEmpty k, exec_lockClaimTimeout_of_expired hgate howner hdue, ?gate, ?owner, ?buf, ?got,
    fun _ hj => State.lockEmpty_lock_other _ hj, State.lockEmpty_frame _ k⟩
  all_goals rw [State.lockEmpty_lock_self]

end Sys2Proof.Machine
end

section
/-! PROOFS. Writes of a register around its acting fields, and `FLT_CTRL.ENABLE` in direct modulation mode. -/

namespace Sys2Proof.Machine

/-! ## Fields of a word -/

/-- A field lies inside a word. -/
def Fld.inWord (f : Fld) : Prop := f.lo ≤ f.hi ∧ f.hi < 32

theorem Fld.get_eq_mod_div {f : Fld} (h : f.lo ≤ f.hi) (w : Word) :
    f.get w = w.toNat % 2 ^ (f.hi + 1) / 2 ^ f.lo := by
  have hsplit : 2 ^ (f.hi + 1) = 2 ^ f.lo * 2 ^ (f.hi + 1 - f.lo) := by
    rw [← Nat.pow_add]; congr 1; omega
  rw [Fld.get, hsplit, Nat.mod_mul_right_div_self]

/-- Up to the top of a field that was written, the word holds the value over what stood below the field. -/
theorem Fld.toNat_put_mod {f : Fld} (h : f.inWord) (w : Word) (v : Nat) :
    (f.put w v).toNat % 2 ^ (f.hi + 1) = v % 2 ^ (f.hi + 1 - f.lo) * 2 ^ f.lo + w.toNat % 2 ^ f.lo := by
  obtain ⟨hlo, hhi⟩ := h
  have hsplit : 2 ^ (f.hi + 1) = 2 ^ (f.hi + 1 - f.lo) * 2 ^ f.lo := by
    rw [← Nat.pow_add]; congr 1; omega
  have hv : v % 2 ^ (f.hi + 1 - f.lo) < 2 ^ (f.hi + 1 - f.lo) := Nat.mod_lt _ (Nat.two_pow_pos _)
  have hw : w.toNat % 2 ^ f.lo < 2 ^ f.lo := Nat.mod_lt _ (Nat.two_pow_pos _)
  have hlt : v % 2 ^ (f.hi + 1 - f.lo) * 2 ^ f.lo + w.toNat % 2 ^ f.lo < 2 ^ (f.hi + 1) := by
    have hstep := Nat.mul_le_mul_right (2 ^ f.lo) hv
    rw [Nat.succ_mul] at hstep
    omega
  rw [Fld.put, BitVec.toNat_ofNat, Nat.mod_mod_of_dvd _ (Nat.pow_dvd_pow 2 hhi), Nat.add_assoc,
    Nat.mul_add_mod_self_right, Nat.mod_eq_of_lt hlt]

/-- A field reads as written, modulo its width. -/
theorem Fld.get_put {f : Fld} (h : f.inWord) (w : Word) (v : Nat) :
    f.get (f.put w v) = v % 2 ^ (f.hi + 1 - f.lo) := by
  rw [Fld.get_eq_mod_div h.1, f.toNat_put_mod h, Nat.mul_comm, Nat.mul_add_div (Nat.two_pow_pos _),
    Nat.div_eq_of_lt (Nat.mod_lt _ (Nat.two_pow_pos _)), Nat.add_zero]

/-- A write of a field leaves the fields below it as they were. -/
theorem Fld.get_put_above {f g : Fld} (hf : f.lo ≤ f.hi) (hg : g.inWord) (h : f.hi < g.lo) (w : Word) (v : Nat) :
    f.get (g.put w v) = f.get w := by
  have hbelow : (g.put w v).toNat % 2 ^ g.lo = w.toNat % 2 ^ g.lo := by
    rw [← Nat.mod_mod_of_dvd _ (Nat.pow_dvd_pow 2 (Nat.le_succ_of_le hg.1)), g.toNat_put_mod hg,
      Nat.mul_add_mod_self_right, Nat.mod_mod]
  rw [Fld.get_eq_mod_div hf, Fld.get_eq_mod_div hf, ← Nat.mod_mod_of_dvd (g.put w v).toNat (Nat.pow_dvd_pow 2 h),
    hbelow, Nat.mod_mod_of_dvd _ (Nat.pow_dvd_pow 2 h)]

/-! ## What a register write stores at a field that acts -/

/-- A field of the register at an address is the field `f` itself, or lies above it in the word. -/
def FieldDef.spares (d : FieldDef) (a : Nat) (f : Fld) : Prop :=
  d.at a = f ∨ (f.hi < d.lo ∧ (d.at a).inWord)

/-- The write of one field of a register either changes nothing in its word or puts that field, which then is no
acting one. -/
theorem WriteView.put_cases (v : WriteView) (w x : Word) (d : FieldDef) :
    v.put w x d = x ∨ d.at v.a ∉ actingFields ∧ ∃ y, v.put w x d = (d.at v.a).put x y := by
  by_cases hact : d.at v.a ∈ actingFields
  · exact .inl (by simp [WriteView.put, hact])
  · cases hacc : v.acc d with
    | ro | wo | w1s => exact .inl (by simp [WriteView.put, hact, hacc])
    | w1c => exact .inr ⟨hact, (d.at v.a).get (x &&& ~~~w), by simp [WriteView.put, hact, hacc]⟩
    | rw | rwg | rwp =>
      by_cases htakes : v.takes d = true
      · exact .inr ⟨hact, (d.at v.a).get w, by simp [WriteView.put, hact, hacc, htakes]⟩
      · exact .inl (by simp [WriteView.put, hact, hacc, htakes])

/-- An acting field keeps its value, when the field written is itself or lies above it. -/
theorem WriteView.get_put_of_acting {v : WriteView} {f : Fld} {d : FieldDef} (hact : f ∈ actingFields)
    (hf : f.lo ≤ f.hi) (hd : d.spares v.a f) (w x : Word) : f.get (v.put w x d) = f.get x := by
  obtain hsame | ⟨hstores, y, hput⟩ := v.put_cases w x d
  · rw [hsame]
  · obtain heq | ⟨habove, hin⟩ := hd
    · exact absurd (heq ▸ hact) hstores
    · rw [hput, Fld.get_put_above hf hin habove]

theorem WriteView.get_stored_of_acting {v : WriteView} {f : Fld} (hact : f ∈ actingFields) (hf : f.lo ≤ f.hi)
    (hds : ∀ d ∈ v.reg.fields, d.spares v.a f) (old w : Word) : f.get (v.stored old w) = f.get old :=
  List.foldlRecOn v.reg.fields (v.put w) (motive := fun x => f.get x = f.get old) rfl fun x hx d hd =>
    (WriteView.get_put_of_acting hact hf (hds d hd) w x).trans hx

theorem State.word_setWord_self {s : State} (h : s.Wf) {f g : Fld} (hg : g.addr = f.addr) (i : Nat) (w : Word) :
    (s.setWord f i w).word g i = w := by
  rw [State.word, State.setWord, hg, sget_sset h.regs, if_pos rfl]

/-- After a bus write the register that the master reaches holds what its fields store of the word written. -/
theorem State.word_wrote {t : State} (h : t.Wf) (m : Master) (r : RegDef) (f : Fld) (w : Word) :
    (t.wrote m f.addr r w).word f (t.busInst m r.win) =
      (t.writeView m r f.addr).stored (t.word f (t.busInst m r.win)) w :=
  State.word_setWord_self h rfl _ _

/-- A bus write leaves an acting field of its register as it was, until the register's rule acts. -/
theorem State.bit_wrote_of_acting {t : State} {m : Master} {r : RegDef} {f : Fld} (hwf : t.Wf)
    (hact : f ∈ actingFields) (hf : f.lo ≤ f.hi) (hds : ∀ d ∈ r.fields, d.spares f.addr f) (w : Word) :
    (t.wrote m f.addr r w).bit f (t.busInst m r.win) = t.bit f (t.busInst m r.win) := by
  rw [State.bit, State.bit, State.rd, State.rd, State.word_wrote hwf, WriteView.get_stored_of_acting hact hf hds]

/-! ## `FLT_CTRL` by the Lockkeeper -/

theorem regFind_fltCtrl {r : RegDef} (h : regFind 4 F.FLT_CTRL_ENABLE.addr = some r) :
    r.win = .fltBridge ∧ ∀ d ∈ r.fields, d.spares F.FLT_CTRL_ENABLE.addr F.FLT_CTRL_ENABLE := by
  obtain rfl := Option.some.inj (h.symm.trans (rfl : _ = some (⟨0x40040100, 1, 0, .fltBridge,
    [⟨11, 8, .rw, 8, 1, 8⟩, ⟨2, 2, .rw, 0, 0, 1⟩, ⟨1, 1, .rwg, 0, 0, 1⟩, ⟨0, 0, .rwg, 0, 0, 1⟩]⟩ : RegDef)))
  unfold FieldDef.spares Fld.inWord
  decide

theorem exec_fltEnableSet (dt : Nat) (m : Master) (v : Word) (s : State) :
    exec (.fltEnableSet dt m v) s = execFltEnableSet dt m v s := rfl

/-- The Lockkeeper's write with `ENABLE` 1 stores its word and runs the rule of `FLT_CTRL`. -/
theorem exec_fltEnableSet_of_reaches {s t : State} {dt : Nat} {r : RegDef} {v w : Word}
    (hd : (s.tick dt).busDone = t) (hw : F.FLT_CTRL_ENABLE.put v 1 = w)
    (h : t.Reaches keeper 4 F.FLT_CTRL_ENABLE.addr r w) :
    exec (.fltEnableSet dt keeper v) s =
      .next ((t.wrote keeper F.FLT_CTRL_ENABLE.addr r w).fltCtrl (t.selFlt keeper) w) := by
  rw [exec_fltEnableSet, execFltEnableSet, hw, State.busWrite, State.busWriteX_of_reaches .word false hd h
    (by decide) (by decide) (by decide) (by decide) (by decide)]
  rfl

/-- `FLT_CTRL` with `ENABLE` 1 in direct modulation mode: `HOLD` takes effect, then `RANGE` is set. -/
theorem State.fltCtrl_of_direct {x u : State} {b : Br} {w : Word} (hen : F.FLT_CTRL_ENABLE.get w = 1)
    (hu : (if F.FLT_CTRL_HOLD.get w = 1 then x.holdBegin b
      else if x.bit F.FLT_CTRL_HOLD b then x.holdEnd b else x) = u)
    (hdirect : u.bit F.MOD_CTRL_MODE b = true) :
    x.fltCtrl b w = u.flag F.FLT_ERR_RANGE 0 true := by
  simp only [State.fltCtrl, State.when, hu, hen, State.flightStart, hdirect, if_true]

/-- Settles O58: the rule of `FLT_CTRL` ends in `RANGE`, and the word stored before it spares `ENABLE`, a field whose
write acts. -/
theorem directModeBarsEnable : Obligations.DirectModeBarsEnable := by
  unfold Obligations.DirectModeBarsEnable
  rintro s t x u dt b r v w hd hwf hw hreach rfl rfl hu hdirect
  obtain ⟨hwin, hfields⟩ := regFind_fltCtrl hreach.reg
  have hinst : t.busInst keeper r.win = t.selFlt keeper := by rw [hwin]; rfl
  have hen : F.FLT_CTRL_ENABLE.get w = 1 := by rw [← hw, Fld.get_put (by unfold Fld.inWord; decide)]; rfl
  constructor
  · rw [exec_fltEnableSet_of_reaches hd hw hreach, State.fltCtrl_of_direct hen hu hdirect]
  · rw [← hinst]
    exact State.bit_wrote_of_acting hwf (by decide) (by decide) hfields w

end Sys2Proof.Machine
end

section
/-! PROOFS. The whole block: soundness, the queue and time over every step; storage, counters, and the state after
reset. -/

namespace Sys2Proof.Machine

/-! ## Every step keeps the sound parts, the queue's rest and time -/

/-- Whatever the command, its execution keeps the queue it was given, time and the sound parts. -/
theorem exec_keeps {q : List Instr} {n : Nat} {s : State} (i : Instr) (h : Keeps q n s) :
    KeepsOut q n (exec i s) := by
  cases i with
  | sysStatus => exact execSysStatus_keeps h
  | sysTime => exact execSysTime_keeps h
  | standbyEnter => exact execStandbyEnter_keeps h
  | driveStart => exact execDriveStart_keeps h
  | driveStop => exact execDriveStop_keeps h
  | torqueSet => exact execTorqueSet_keeps h
  | speedSet => exact execSpeedSet_keeps h
  | currentSet => exact execCurrentSet_keeps h
  | driveStatus => exact execDriveStatus_keeps h
  | prechargeStart => exact execPrechargeStart_keeps h
  | driveShutdown => exact execDriveShutdown_keeps h
  | dischargeStart => exact execDischargeStart_keeps h
  | posStatus => exact execPosStatus_keeps h
  | posSourceSet => exact execPosSourceSet_keeps h
  | posAlign => exact execPosAlign_keeps h
  | turnsSet => exact execTurnsSet_keeps h
  | paramGet => exact execParamGet_keeps h
  | paramSet => exact execParamSet_keeps h
  | paramStore => exact execParamStore_keeps h
  | paramCheck => exact execParamCheck_keeps h
  | storeStatus => exact execStoreStatus_keeps h
  | paramDefaults => exact execParamDefaults_keeps h
  | paramRevert => exact execParamRevert_keeps h
  | safetyStatus => exact execSafetyStatus_keeps h
  | safetyConfirm => exact execSafetyConfirm_keeps h
  | faultAck => exact execFaultAck_keeps h
  | laneClear => exact execLaneClear_keeps h
  | safeStopReq => exact execSafeStopReq_keeps h
  | faultList => exact execFaultList_keeps h
  | recList => exact execRecList_keeps h
  | recRead => exact execRecRead_keeps h
  | recTrigger => exact execRecTrigger_keeps h
  | recPin => exact execRecPin_keeps h
  | cntRead => exact execCntRead_keeps h
  | cntConfig => exact execCntConfig_keeps h
  | fwBegin => exact execFwBegin_keeps h
  | fwData => exact execFwData_keeps h
  | fwVerify => exact execFwVerify_keeps h
  | fwStatus => exact execFwStatus_keeps h
  | fwActivate => exact execFwActivate_keeps h
  | pilotRestart => exact execPilotRestart_keeps h
  | fwAbort => exact execFwAbort_keeps h
  | deviceIdent => exact execDeviceIdent_keeps h
  | lcStatus => exact execLcStatus_keeps h
  | authChallenge => exact execAuthChallenge_keeps h
  | lcAdvance => exact execLcAdvance_keeps h
  | debugOpen => exact execDebugOpen_keeps h
  | deviceReset => exact execDeviceReset_keeps h
  | unknownCommand => exact execUnknownCommand_keeps h
  | lkWrite => exact execLkWrite_keeps h
  | lkSubmit => exact execLkSubmit_keeps h
  | lkRead => exact execLkRead_keeps h
  | lkDrain => exact execLkDrain_keeps h
  | lkGates => exact execLkGates_keeps h
  | stRead => exact execStRead_keeps h
  | canXlBarge => exact execCanXlBarge_keeps h
  | canFdSegment => exact execCanFdSegment_keeps h
  | udpBarge => exact execUdpBarge_keeps h
  | uartFrame => exact execUartFrame_keeps h
  | towTunnelFrame => exact execTowTunnelFrame_keeps h
  | lockDone => exact execLockDone_keeps h
  | lockTimeout => exact execLockTimeout_keeps h
  | lockClaimTimeout => exact execLockClaimTimeout_keeps h
  | lockSegGapTimeout => exact execLockSegGapTimeout_keeps h
  | lockAutoDrain => exact execLockAutoDrain_keeps h
  | lockCtrlWrite => exact execLockCtrlWrite_keeps h
  | directSetpointFrame => exact execDirectSetpointFrame_keeps h
  | setpointTimeout => exact execSetpointTimeout_keeps h
  | catchDecision => exact execCatchDecision_keeps h
  | catchImSearchEnd => exact execCatchImSearchEnd_keeps h
  | initialPositionDetection => exact execInitialPositionDetection_keeps h
  | driveStopRampDone => exact execDriveStopRampDone_keeps h
  | driveStopStandstill => exact execDriveStopStandstill_keeps h
  | driveStopTimeout => exact execDriveStopTimeout_keeps h
  | safeStopComplete => exact execSafeStopComplete_keeps h
  | degradedTimerExpiry => exact execDegradedTimerExpiry_keeps h
  | pilotHoldTimeout => exact execPilotHoldTimeout_keeps h
  | prechargeFeedback => exact execPrechargeFeedback_keeps h
  | prechargeSettled => exact execPrechargeSettled_keeps h
  | prechargeTimeout => exact execPrechargeTimeout_keeps h
  | prechargeComplete => exact execPrechargeComplete_keeps h
  | dischargeContactorsOpen => exact execDischargeContactorsOpen_keeps h
  | dischargeComplete => exact execDischargeComplete_keeps h
  | dischargeTimeout => exact execDischargeTimeout_keeps h
  | autoDischargeStart => exact execAutoDischargeStart_keeps h
  | shutdownNegRelease => exact execShutdownNegRelease_keeps h
  | contactorFeedbackChange => exact execContactorFeedbackChange_keeps h
  | contactorMismatch => exact execContactorMismatch_keeps h
  | stoInputChange => exact execStoInputChange_keeps h
  | stoDiscrepancy => exact execStoDiscrepancy_keeps h
  | ss1Input => exact execSs1Input_keeps h
  | faultAckPinEdge => exact execFaultAckPinEdge_keeps h
  | wakePin => exact execWakePin_keeps h
  | rstNPin => exact execRstNPin_keeps h
  | powerOn => exact execPowerOn_keeps h
  | brownOut dt sup ns => exact execBrownOut_keeps (_sup := sup) h
  | resetRelease => exact execResetRelease_keeps h
  | blockRelease => exact execBlockRelease_keeps h
  | blockClockTimeout => exact execBlockClockTimeout_keeps h
  | deviceWarmReset => exact execDeviceWarmReset_keeps h
  | pilotHoldWrite => exact execPilotHoldWrite_keeps h
  | sysBlkRst => exact execSysBlkRst_keeps h
  | sysStandbyEnter => exact execSysStandbyEnter_keeps h
  | clockLoss => exact execClockLoss_keeps h
  | clockLossReset => exact execClockLossReset_keeps h
  | oscFail => exact execOscFail_keeps h
  | housekeepingRound => exact execHousekeepingRound_keeps h
  | faultSourceAssert => exact execFaultSourceAssert_keeps h
  | fcrWarmResetTimer => exact execFcrWarmResetTimer_keeps h
  | keeperBeat => exact execKeeperBeat_keeps h
  | keeperHbTimeout => exact execKeeperHbTimeout_keeps h
  | keeperLockstep => exact execKeeperLockstep_keeps h
  | fcrAckWrite => exact execFcrAckWrite_keeps h
  | fcrInject => exact execFcrInject_keeps h
  | aliveToggle => exact execAliveToggle_keeps h
  | wdgChallenge => exact execWdgChallenge_keeps h
  | wdgAnswer => exact execWdgAnswer_keeps h
  | wdgAnswerTimeout => exact execWdgAnswerTimeout_keeps h
  | pilotLockstepError => exact execPilotLockstepError_keeps h
  | pilotRelease => exact execPilotRelease_keeps h
  | fwTrialPass => exact execFwTrialPass_keeps h
  | fwVerifyDone => exact execFwVerifyDone_keeps h
  | paramStoreDone => exact execParamStoreDone_keeps h
  | vaultEraseDone => exact execVaultEraseDone_keeps h
  | nonceExpiry => exact execNonceExpiry_keeps h
  | authLockoutEnd => exact execAuthLockoutEnd_keeps h
  | guardReadback => exact execGuardReadback_keeps h
  | stageBoundary => exact execStageBoundary_keeps h
  | planRefresh => exact execPlanRefresh_keeps h
  | stageCommit => exact execStageCommit_keeps h
  | stageCompute => exact execStageCompute_keeps h
  | groupVerify => exact execGroupVerify_keeps h
  | groupMissing => exact execGroupMissing_keeps h
  | fltIrefWrite => exact execFltIrefWrite_keeps h
  | fltEnableSet => exact execFltEnableSet_keeps h
  | fltEnableClear => exact execFltEnableClear_keeps h
  | flightStopEnd => exact execFlightStopEnd_keeps h
  | fltHoldWrite => exact execFltHoldWrite_keeps h
  | edgeSend => exact execEdgeSend_keeps h
  | modFieldWrite => exact execModFieldWrite_keeps h
  | modCommit => exact execModCommit_keeps h
  | modLoadPoint => exact execModLoadPoint_keeps h
  | modArmWrite => exact execModArmWrite_keeps h
  | posEdge => exact execPosEdge_keeps h
  | posZeroTimeout => exact execPosZeroTimeout_keeps h
  | posSamplePeriod => exact execPosSamplePeriod_keeps h
  | posSample => exact execPosSample_keeps h
  | posStale => exact execPosStale_keeps h
  | posResolverSample => exact execPosResolverSample_keeps h
  | posSincosSample => exact execPosSincosSample_keeps h
  | posIndexMark => exact execPosIndexMark_keeps h
  | posFaultFilter => exact execPosFaultFilter_keeps h
  | posRedundTimeout => exact execPosRedundTimeout_keeps h
  | portCfgWrite => exact execPortCfgWrite_keeps h
  | portTurnLoWrite => exact execPortTurnLoWrite_keeps h
  | portTurnHiWrite => exact execPortTurnHiWrite_keeps h
  | portAngleRead => exact execPortAngleRead_keeps h
  | aclkAngleRead => exact execAclkAngleRead_keeps h
  | convSequenceStart => exact execConvSequenceStart_keeps h
  | convSample => exact execConvSample_keeps h
  | convResult => exact execConvResult_keeps h
  | vdcConversion => exact execVdcConversion_keeps h
  | monitorRound => exact execMonitorRound_keeps h
  | weirEvaluate => exact execWeirEvaluate_keeps h
  | chopperCheckExpiry => exact execChopperCheckExpiry_keeps h
  | downlinkSlot => exact execDownlinkSlot_keeps h
  | laneTimeMark => exact execLaneTimeMark_keeps h
  | laneTimeStep => exact execLaneTimeStep_keeps h
  | laneEdgeFrame => exact execLaneEdgeFrame_keeps h
  | laneRegWriteFrame => exact execLaneRegWriteFrame_keeps h
  | laneWriteRetry => exact execLaneWriteRetry_keeps h
  | laneEdgeExecute => exact execLaneEdgeExecute_keeps h
  | laneEdgeComplete => exact execLaneEdgeComplete_keeps h
  | laneHeartbeatLoss => exact execLaneHeartbeatLoss_keeps h
  | laneTrained => exact execLaneTrained_keeps h
  | lanePowerUp => exact execLanePowerUp_keeps h
  | laneStatusFrame => exact execLaneStatusFrame_keeps h
  | laneUplinkLoss => exact execLaneUplinkLoss_keeps h
  | tripSymbol => exact execTripSymbol_keeps h
  | ov3Symbol => exact execOv3Symbol_keeps h
  | planNowSymbol => exact execPlanNowSymbol_keeps h
  | ascNowSymbol => exact execAscNowSymbol_keeps h
  | legLockSymbol => exact execLegLockSymbol_keeps h
  | legFreeSymbol => exact execLegFreeSymbol_keeps h
  | laneShortCircuit => exact execLaneShortCircuit_keeps h
  | laneDesat => exact execLaneDesat_keeps h
  | laneVddlTrip => exact execLaneVddlTrip_keeps h
  | laneVeelTrip => exact execLaneVeelTrip_keeps h
  | laneVddlWarn => exact execLaneVddlWarn_keeps h
  | laneSupplyLoss => exact execLaneSupplyLoss_keeps h
  | laneOv3 => exact execLaneOv3_keeps h
  | laneRetryWaitEnd => exact execLaneRetryWaitEnd_keeps h
  | laneAscWaitTimeout => exact execLaneAscWaitTimeout_keeps h
  | laneChopMismatch => exact execLaneChopMismatch_keeps h
  | laneCtrlArmWrite => exact execLaneCtrlArmWrite_keeps h
  | lanePlanWrite => exact execLanePlanWrite_keeps h
  | laneCmdRelease => exact execLaneCmdRelease_keeps h
  | laneCmdClear => exact execLaneCmdClear_keeps h
  | laneCapArm => exact execLaneCapArm_keeps h
  | laneCapFire => exact execLaneCapFire_keeps h
  | laneCapStop => exact execLaneCapStop_keeps h
  | laneCapCopied => exact execLaneCapCopied_keeps h
  | laneCapDataRead => exact execLaneCapDataRead_keeps h
  | laneAutoDischarge => exact execLaneAutoDischarge_keeps h
  | laneAutoDischargeEnd => exact execLaneAutoDischargeEnd_keeps h
  | nvmcDataWrite => exact execNvmcDataWrite_keeps h
  | nvmcWordDone => exact execNvmcWordDone_keeps h
  | nvmcInvalidate => exact execNvmcInvalidate_keeps h
  | nvmcGo => exact execNvmcGo_keeps h
  | recCollectionEnd => exact execRecCollectionEnd_keeps h
  | recIdleRecord => exact execRecIdleRecord_keeps h
  | canRxFrame => exact execCanRxFrame_keeps h
  | mbReq => exact execMbReq_keeps h
  | mbCancel => exact execMbCancel_keeps h
  | mbRelease => exact execMbRelease_keeps h
  | canTxSelect => exact execCanTxSelect_keeps h
  | canTxEnd => exact execCanTxEnd_keeps h
  | canBusOff => exact execCanBusOff_keeps h
  | canRecoverWrite => exact execCanRecoverWrite_keeps h
  | canRecoveryDone => exact execCanRecoveryDone_keeps h
  | canInitWrite => exact execCanInitWrite_keeps h
  | canIntegrated => exact execCanIntegrated_keeps h
  | ethFrameRx => exact execEthFrameRx_keeps h
  | gptpSync => exact execGptpSync_keeps h
  | timeHoldoverEnd => exact execTimeHoldoverEnd_keeps h
  | macsecKeyInstall => exact execMacsecKeyInstall_keeps h
  | towTraining => exact execTowTraining_keeps h
  | towTimeMark => exact execTowTimeMark_keeps h
  | towAngleRef => exact execTowAngleRef_keeps h
  | towTorqueShare => exact execTowTorqueShare_keeps h
  | towShareTimeout => exact execTowShareTimeout_keeps h
  | towFaultSymbol => exact execTowFaultSymbol_keeps h
  | towUpLost => exact execTowUpLost_keeps h
  | sentFrame => exact execSentFrame_keeps h
  | tapInstruction => exact execTapInstruction_keeps h
  | crcStart => exact execCrcStart_keeps h
  | crcData => exact execCrcData_keeps h
  | crcValWrite => exact execCrcValWrite_keeps h
  | crcValRead => exact execCrcValRead_keeps h
  | cntClear => exact execCntClear_keeps h
  | cntCfgWrite => exact execCntCfgWrite_keeps h
  | evcSnap => exact execEvcSnap_keeps h
  | cntValRead => exact execCntValRead_keeps h
  | registerWrite => exact execRegisterWrite_keeps h
  | posAlignDone => exact execPosAlignDone_keeps h
  | directPeriodBoundary => exact execDirectPeriodBoundary_keeps h
  | ethLinkChange => exact execEthLinkChange_keeps h
  | towRootTimeMark => exact execTowRootTimeMark_keeps h
  | towAngleRefSend => exact execTowAngleRefSend_keeps h
  | auxSpiTransferDone => exact execAuxSpiTransferDone_keeps h
  | nvmWriteInhibit => exact execNvmWriteInhibit_keeps h
  | busReadError => exact execBusReadError_keeps h

theorem State.Wf.keeps {s : State} (h : s.Wf) : Keeps s.pending s.now s := ⟨rfl, Nat.le_refl _, h⟩

/-- A step keeps the queue behind its front command, time and the sound parts. -/
theorem step_keeps {s : State} (h : s.Wf) : KeepsOut s.pending.tail s.now (step s) := by
  unfold step
  split
  next hnone => exact State.tick_keeps ⟨by simp [hnone], Nat.le_refl _, h⟩
  next c rest hfront => exact exec_keeps c ⟨by simp [hfront], Nat.le_refl _, h⟩

theorem step_next_keeps {s t : State} (h : s.Wf) (hstep : step s = .next t) : Keeps s.pending.tail s.now t := by
  have hkeeps := step_keeps h
  rw [hstep] at hkeeps
  exact hkeeps

/-- Settles O52: soundness is a part of what every step keeps. -/
theorem stepKeepsSound : Obligations.StepKeepsSound := by
  unfold Obligations.StepKeepsSound
  exact fun _ _ h hstep => (step_next_keeps h hstep).wf

/-- Settles O56: so are the rest of the queue and time. -/
theorem stepTakesOneCommandInTime : Obligations.StepTakesOneCommandInTime := by
  unfold Obligations.StepTakesOneCommandInTime
  exact fun _ _ h hstep => ⟨(step_next_keeps h hstep).queue, (step_next_keeps h hstep).time⟩

/-- Settles O55: the two cases of the definition of a step. -/
theorem stepRunsFront : Obligations.StepRunsFront := by
  unfold Obligations.StepRunsFront
  exact ⟨fun s c rest hfront => by simp only [step, hfront], fun s hnone => by simp only [step, hnone]⟩

/-! ## Counters (R427) -/

theorem State.evtN_cnt (s : State) (code n : Nat) (k : Fin 32) :
    (s.evtN code n).cnts[k] = if s.counts k code then s.cnts[k].add n else s.cnts[k] := by
  simp [State.evtN]

theorem Counter.add_value {c : Counter} (n : Nat) : (c.add n).value = min (c.value + n) (2 ^ 48 - 1) := by
  unfold Counter.add
  split <;> simp only <;> omega

theorem Counter.add_sat (c : Counter) (n : Nat) :
    (c.add n).sat = (c.sat || decide (2 ^ 48 - 1 < c.value + n)) := by
  unfold Counter.add
  split
  next hover => simp [hover]
  next hfits => simp [hfits]

@[simp] theorem Counter.add_snap (c : Counter) (n : Nat) : (c.add n).snap = c.snap := by
  unfold Counter.add
  split <;> rfl

/-- Settles O53: an event adds at the counters that count its source and nowhere else. -/
theorem countersSaturate : Obligations.CountersSaturate := by
  unfold Obligations.CountersSaturate
  intro s code n k _
  rw [State.evtN_cnt]
  cases hcounts : s.counts k code with
  | true => simp [Counter.add_value, Counter.add_sat]
  | false => simp

/-! ## The state after reset -/

/-- Settles O50: every part of the reset state stands as its rule gives it. -/
theorem resetState : Obligations.ResetState := by
  unfold Obligations.ResetState
  refine ⟨⟨rfl, rfl, rfl, rfl, by decide, by decide⟩, rfl, fun k => ⟨?_, ?_, ?_⟩, fun lk => ⟨?_, ?_⟩, rfl⟩
  · revert k; decide
  · revert k; decide
  · revert k; decide
  · revert lk; decide
  · revert lk; decide

/-! ## Storage -/

theorem regKey_inj {i j a b : Nat} (ha : a < 2 ^ 32) (hb : b < 2 ^ 32) : regKey j b = regKey i a ↔ i = j ∧ a = b := by
  unfold regKey
  omega

theorem State.word_setWord {s : State} (h : s.Wf) {f g : Fld} (hf : f.addr < 2 ^ 32) (hg : g.addr < 2 ^ 32)
    (i j : Nat) (w : Word) : (s.setWord f i w).word g j = if i = j ∧ f.addr = g.addr then w else s.word g j := by
  simp only [State.word, State.setWord, sget_sset h.regs, regKey_inj hf hg]

theorem State.memB_setMemB {s : State} (h : s.Wf) (a c : Nat) (x : Byte) :
    (s.setMemB a x).memB c = if c = a then x else s.memB c :=
  sget_sset h.mem a c x

theorem State.setMemB_wf {s : State} (h : s.Wf) (a : Nat) (x : Byte) : (s.setMemB a x).Wf :=
  (State.setMemB_keeps h.keeps).wf

/-- Bytes written at rising addresses leave every byte outside their interval as it was. -/
theorem State.memB_setMemBytes_outside {s : State} (h : s.Wf) {a c : Nat} {l : List Byte}
    (hc : c < a ∨ a + l.length ≤ c) : (s.setMemBytes a l).memB c = s.memB c := by
  induction l generalizing s a with
  | nil => rfl
  | cons b l ih =>
    rw [List.length_cons] at hc
    rw [State.setMemBytes, ih (State.setMemB_wf h a b) (by omega), State.memB_setMemB h, if_neg (by omega)]

/-- Bytes written at rising addresses read back in their order. -/
theorem State.memB_setMemBytes_inside {s : State} (h : s.Wf) {a k : Nat} {l : List Byte} (hk : k < l.length) :
    (s.setMemBytes a l).memB (a + k) = l[k] := by
  induction l generalizing s a k with
  | nil => exact absurd hk (Nat.not_lt_zero k)
  | cons b l ih =>
    cases k with
    | zero =>
      rw [State.setMemBytes, State.memB_setMemBytes_outside (State.setMemB_wf h a b) (by omega),
        State.memB_setMemB h, if_pos (Nat.add_zero a)]
      rfl
    | succ k =>
      rw [State.setMemBytes, show a + (k + 1) = a + 1 + k by omega]
      exact ih (State.setMemB_wf h a b) (Nat.lt_of_succ_lt_succ hk)

theorem State.memBytes_setMemBytes {s : State} (h : s.Wf) (a : Nat) (l : List Byte) :
    (s.setMemBytes a l).memBytes a l.length = l := by
  refine List.ext_getElem (by simp [State.memBytes]) fun k _ hk => ?_
  simpa [State.memBytes] using State.memB_setMemBytes_inside h hk

@[simp] theorem length_leBytes (n v : Nat) : (leBytes n v).length = n := by
  induction n generalizing v with
  | zero => rfl
  | succ n ih => simp [leBytes, ih]

/-- The little-endian bytes of a number spell it, modulo what they can hold. -/
theorem leVal_leBytes (n v : Nat) : leVal (leBytes n v) = v % 256 ^ n := by
  induction n generalizing v with
  | zero => simp [leBytes, leVal, Nat.mod_one]
  | succ n ih =>
    rw [leBytes, leVal, ih, BitVec.toNat_ofNat, Nat.pow_succ 256, Nat.mul_comm (256 ^ n) 256, Nat.mod_mul]

theorem State.memW_setMemW {s : State} (h : s.Wf) (a : Nat) (w : Word) : (s.setMemW a w).memW a = w := by
  have hbytes := State.memBytes_setMemBytes h a (leBytes 4 w.toNat)
  rw [length_leBytes] at hbytes
  rw [State.memW, State.setMemW, hbytes, leVal_leBytes, Nat.mod_eq_of_lt (by exact w.isLt),
    BitVec.ofNat_toNat, BitVec.setWidth_eq]

/-- Settles O60: reads over writes of the register file and of memory. -/
theorem storageReadsBack : Obligations.StorageReadsBack := by
  unfold Obligations.StorageReadsBack
  exact ⟨fun _ _ _ i j w h hf hg => State.word_setWord h hf hg i j w, fun _ a c x h => State.memB_setMemB h a c x,
    fun _ a w h => State.memW_setMemW h a w,
    fun _ _ _ w h hc => State.memB_setMemBytes_outside h (by rwa [length_leBytes])⟩

end Sys2Proof.Machine
end

section
/-! PROOFS. The commands in the Locks that read, drive, place and set parameters (R81 to R91), and the length check
before them. -/

namespace Sys2Proof.Machine

/-! ## A Barge that is served -/

/-- A Barge whose turn has come is answered as the body of its code says. -/
theorem State.serveCode_eq {s t : State} {lk : Lk} {c st : Nat} {p pl : List Byte} {f : State → List Byte → Ans}
    (h : s.Serves lk c) (hp : s.payload lk = p) (hf : f s p = (st, pl, t)) :
    s.serveCode lk c f = .next (t.answered lk st pl) := by
  rw [State.serveCode_of_serves h, hp, hf]

/-- With no check failing the answer is that of the checked body. -/
theorem State.serveCode_checked {s t : State} {lk : Lk} {c st : Nat} {p pl : List Byte}
    {cs : State → List Byte → List (Bool × Nat)} {k : State → List Byte → State → Ans} (h : s.Serves lk c)
    (hp : s.payload lk = p) (hcs : firstFail (cs s p) = none) (hk : k s p s = (st, pl, t)) :
    s.serveCode lk c (fun s p => checked s (cs s p) (k s p)) = .next (t.answered lk st pl) :=
  State.serveCode_eq h hp (by rw [checked_ok hcs, hk])

/-- A payload whose bridge selector stands, taken apart. -/
theorem State.selects_iff {s : State} {p : List Byte} {len o : Nat} :
    s.selects p len o = true ↔
      p.length = len ∧ selBad (u8 p 0) = false ∧ s.selRefused (u8 p 0) = false ∧ zeros p o (len - o) = true := by
  simp [State.selects, and_assoc]

theorem selBad_of_le {n : Nat} (h : n ≤ 2) : selBad n = false := by simp [selBad, h]

/-! ## R81, R82 -/

/-- Settles O1: no check fails, and the body is the answer. -/
theorem systemCommands : Obligations.SystemCommands := by
  unfold Obligations.SystemCommands
  refine ⟨fun s lk h hp => ?status, fun s lk h hp => ?time, fun s lk h hp hboth => ?standby⟩
  case status => exact (State.serveCode_checked h hp (by simp) rfl : execSysStatus lk s = _)
  case time => exact (State.serveCode_checked h hp (by simp) rfl : execSysTime lk s = _)
  case standby => exact (State.serveCode_checked h hp (by simp [hboth]) rfl : execStandbyEnter lk s = _)

/-! ## R83, R106 -/

/-- The other bridge does not stand against a discharge. -/
theorem not_otherBusy {s : State} {o : Br} (h : s.lockedPair = true ∨ s.configured o = false ∨
    ((s.dst o).isActive = false ∧ s.dst o ≠ .precharge)) :
    (!s.lockedPair && s.configured o && ((s.dst o).isActive || s.dst o == .precharge)) = false := by
  obtain hpair | hnone | ⟨hactive, hpre⟩ := h
  · simp [hpair]
  · simp [hnone]
  · simp [hactive, hpre]

/-- Settles O2: with the selector and the state as the command asks, no check fails. -/
theorem driveTransitionCommands : Obligations.DriveTransitionCommands := by
  unfold Obligations.DriveTransitionCommands
  refine ⟨?start, ?stop, ?precharge, ?shutdown, ?discharge⟩
  case start =>
    intro s lk p h hp hsel hmode hst hsto hconf
    obtain ⟨hlen, hbad, href, hzero⟩ := State.selects_iff.mp hsel
    exact (State.serveCode_checked h hp (by simp [hlen, hbad, href, hzero, hst, hsto, hconf, hmode]) rfl :
      execDriveStart lk s = _)
  case stop =>
    intro s lk p h hp hsel hmode hst
    obtain ⟨hlen, hbad, href, hzero⟩ := State.selects_iff.mp hsel
    exact (State.serveCode_checked h hp (by simp [hlen, hbad, href, hzero, hst, hmode]) rfl :
      execDriveStop lk s = _)
  case precharge =>
    intro s lk p h hp hsel hst hweld
    obtain ⟨hlen, hbad, href, hzero⟩ := State.selects_iff.mp hsel
    exact (State.serveCode_checked h hp (by simp [hlen, hbad, href, hzero, hst, hweld]) rfl :
      execPrechargeStart lk s = _)
  case shutdown =>
    intro s lk p h hp hsel hst
    obtain ⟨hlen, hbad, href, hzero⟩ := State.selects_iff.mp hsel
    exact (State.serveCode_checked h hp
      (by rcases hst with hst | hst <;> simp [hlen, hbad, href, hzero, hst]) rfl : execDriveShutdown lk s = _)
  case discharge =>
    intro s lk p h hp hsel hmode hmethod hdirect hidle hother
    obtain ⟨hlen, hbad, href, hzero⟩ := State.selects_iff.mp hsel
    have hbit : b2n (u8 p 1 == 1) = u8 p 1 := by
      obtain hm | hm : u8 p 1 = 0 ∨ u8 p 1 = 1 := by omega
      all_goals rw [hm]; rfl
    have hwind : (u8 p 1 == 1 && s.bit F.MOD_CTRL_MODE (s.selBr (u8 p 0)).val) = false := by
      simpa using hdirect
    exact (State.serveCode_checked h hp
      (by simp [hlen, hbad, href, hzero, Nat.not_lt.mpr hmode, hbit, hmethod, hwind, hidle, not_otherBusy hother]) rfl :
      execDischargeStart lk s = _)

/-! ## R83 to R85 -/

theorem brOf_val (b : Br) : (if b.val = 1 then 1 else 0 : Br) = b := by
  revert b; decide

/-- Settles O3: no check fails; a setpoint held at zero speed is answered as 0. -/
theorem setpointCommands : Obligations.SetpointCommands := by
  unfold Obligations.SetpointCommands
  refine ⟨?torque, ?speed, ?current, ?status⟩
  case torque =>
    rintro s lk p b t h hp hlen hzero hsel href rfl rfl hlim hsp hshare hdrive hmode
    refine (State.serveCode_checked h hp
      (by simp [-Fin.getElem_fin, hlen, selBad_of_le hsel, href, hzero, Int.not_lt.mpr hlim, hsp, hshare,
        hdrive, hmode]) ?_ :
      execTorqueSet lk s = _)
    split <;> rfl
  case speed =>
    rintro s lk p b v h hp hlen hzero hsel href rfl rfl hlim hdrive hmode
    exact (State.serveCode_checked h hp
      (by simp [-Fin.getElem_fin, hlen, selBad_of_le hsel, href, hzero, Int.not_lt.mpr hlim, hdrive, hmode]) rfl :
        execSpeedSet lk s = _)
  case current =>
    rintro s lk p b d q h hp hlen hzero hsel href rfl rfl rfl hst hmode
    exact (State.serveCode_checked h hp
      (by simp [-Fin.getElem_fin, hlen, selBad_of_le hsel, href, hzero, hst, hmode]) rfl : execCurrentSet lk s = _)
  case status =>
    intro s lk p b h hp hlen hb hzero hconf
    have hname : (if u8 p 0 = 1 then 1 else 0 : Br) = b := by rw [hb, brOf_val]
    have hle : u8 p 0 ≤ 1 := by omega
    refine (State.serveCode_checked h hp (by simp [hlen, hle, hzero, hname, hconf]) ?_ : execDriveStatus lk s = _)
    rw [hname]
    rfl

/-! ## R86 -/

theorem portOf_val (k : PortIx) : portOf k.val = k := by
  revert k; decide

/-- Settles O4: no check fails; the port of a payload is the one its byte names. -/
theorem positionCommands : Obligations.PositionCommands := by
  unfold Obligations.PositionCommands
  refine ⟨?status, ?source, ?align, ?turns⟩
  case status =>
    intro s lk p k h hp hlen hk hzero
    have hle : u8 p 0 ≤ 3 := by omega
    refine (State.serveCode_checked h hp (by simp [hlen, hle, hzero]) ?_ : execPosStatus lk s = _)
    rw [hk, portOf_val]
    rfl
  case source =>
    rintro s lk p b h hp hsel rfl hsrc hnot hst
    obtain ⟨hlen, hbad, href, hzero⟩ := State.selects_iff.mp hsel
    exact (State.serveCode_checked h hp (by simp [hlen, hbad, href, hzero, hsrc, hnot, hst]) rfl :
      execPosSourceSet lk s = _)
  case align =>
    rintro s lk p b h hp hlen hsel href hzero rfl hpos hst
    exact (State.serveCode_checked h hp (by simp [hlen, selBad_of_le hsel, href, hzero, hpos, hst]) rfl :
      execPosAlign lk s = _)
  case turns =>
    intro s lk p k h hp hlen hk hzero hst
    have hle : u8 p 0 ≤ 3 := by omega
    have hport : portOf (u8 p 0) = k := by rw [hk, portOf_val]
    refine (State.serveCode_checked h hp
      (by rcases hst with hst | hst <;> simp [hlen, hle, hport, hzero, hst]) ?_ : execTurnsSet lk s = _)
    rw [hport]
    rfl

/-! ## R88, R90, R349, R350 -/

theorem not_badCount {n : Nat} (h : 1 ≤ n) (h' : n ≤ 29) : badCount n = false := by
  simp [badCount, h', Nat.ne_of_gt h]

/-- Settles O5: no check fails; `PARAM_SET`, whose entries all stand, accepts them in their order. -/
theorem parameterCommands : Obligations.ParameterCommands := by
  unfold Obligations.ParameterCommands
  refine ⟨?get, ?set, ?check, ?store, ?status, ?defaults, ?revert⟩
  case get =>
    rintro s lk p n h hp rfl hn hn' hlen hzero
    exact (State.serveCode_checked h hp (by simp [hlen, not_badCount hn hn', hzero]) rfl : execParamGet lk s = _)
  case set =>
    rintro s lk p n h hp rfl hn hn' hlen hzero hres hrange hstate
    refine (State.serveCode_eq h hp ?_ : execParamSet lk s = _)
    simp [hlen, not_badCount hn hn', hzero, hres, hrange, hstate, okWith]
  case check =>
    intro s lk h hp
    split
    all_goals
      refine (State.serveCode_checked h hp (by simp) ?_ : execParamCheck lk s = _)
      simp [*, okWith]
  case store =>
    intro s lk p h hp hlen hjob hcheck hgen hsafe hinh
    refine (State.serveCode_checked h hp ?_ rfl : execParamStore lk s = _)
    cases hd : s.safetyDiffers with
    | false => simp [hlen, hjob, hcheck, hinh]; omega
    | true => simp [hlen, hjob, hcheck, hinh, hsafe hd]; omega
  case status =>
    intro s lk h hp
    exact (State.serveCode_checked h hp (by simp) rfl : execStoreStatus lk s = _)
  case defaults =>
    intro s lk h hp hjob hidle
    exact (State.serveCode_checked h hp (by simp [hjob, hidle]) rfl : execParamDefaults lk s = _)
  case revert =>
    intro s lk h hp hjob hidle
    exact (State.serveCode_checked h hp (by simp [hjob, hidle]) rfl : execParamRevert lk s = _)

end Sys2Proof.Machine
end

section
/-! PROOFS. The length check that comes first, and the commands in the Locks for safety, recorder, firmware and life
cycle (R92 to R102). -/

namespace Sys2Proof.Machine

/-! ## The first check (R75) -/

/-- The first of a command's checks, failing, gives the answer. -/
theorem State.serveCode_firstFails {s : State} {lk : Lk} {c st : Nat} {g : State → List Byte → Bool}
    {cs : State → List Byte → List (Bool × Nat)} {k : State → List Byte → State → Ans} (h : s.Serves lk c)
    (hg : g s (s.payload lk) = true) :
    s.serveCode lk c (fun s p => checked s ((g s p, st) :: cs s p) (k s p)) = .next (s.answered lk st []) :=
  State.serveCode_eq h rfl (checked_fail (by rw [firstFail_cons, hg, if_pos rfl]))

/-- Settles O54: each of these commands checks its length first. -/
theorem wrongLengthIsAnswered : Obligations.WrongLengthIsAnswered := by
  unfold Obligations.WrongLengthIsAnswered
  intro s lk c code len hmem
  simp only [List.mem_cons, List.not_mem_nil, or_false, Prod.mk.injEq] at hmem
  repeat' refine Or.elim hmem (fun hmem => ?_) fun hmem => ?_
  all_goals
    obtain ⟨rfl, rfl, rfl⟩ := hmem
    intro h hlen
    unfold exec
    exact State.serveCode_firstFails h (by simp [hlen])

/-! ## R92, R94, R309 -/

/-- Settles O6: no check fails; an acknowledge answers what its run says. -/
theorem safetyCommands : Obligations.SafetyCommands := by
  unfold Obligations.SafetyCommands
  refine ⟨?status, ?confirm, ?accepted, ?refused, ?clear, ?stop, ?list⟩
  case status =>
    intro s lk h hp
    exact (State.serveCode_checked h hp (by simp) rfl : execSafetyStatus lk s = _)
  case confirm =>
    intro s lk p h hp hlen hidle hval
    refine (State.serveCode_checked h hp (by simp [hlen, hidle, hval]) ?_ : execSafetyConfirm lk s = _)
    rw [hval]
    rfl
  case accepted =>
    intro s lk p t h hp hlen hb hzero hrun
    refine (State.serveCode_checked h hp (by simp [hlen, hb, hzero]) ?_ : execFaultAck lk s = _)
    rw [hrun]
    rfl
  case refused =>
    intro s lk p c t h hp hlen hb hzero hrun
    refine (State.serveCode_checked h hp (by simp [hlen, hb, hzero]) ?_ : execFaultAck lk s = _)
    rw [hrun]
  case clear =>
    intro s lk p h hp hlen hmask hzero hidle hgood
    have hnone : (maskLanes (u16 p 0)).find? s.laneFaulty = none := by simpa using hgood
    have hany : ((maskLanes (u16 p 0)).any fun k => !s.idle (laneBr k)) = false := by simpa using hidle
    refine (State.serveCode_checked h hp (by simp [hlen, hmask, hzero, hany]) ?_ : execLaneClear lk s = _)
    rw [hnone]
    rfl
  case stop =>
    intro s lk p h hp hsel hst
    obtain ⟨hlen, hbad, href, hzero⟩ := State.selects_iff.mp hsel
    exact (State.serveCode_checked h hp (by simp [hlen, hbad, href, hzero, hst]) rfl : execSafeStopReq lk s = _)
  case list =>
    rintro s lk p t h hp hlen hzero rfl
    exact (State.serveCode_checked h hp (by simp [hlen, hzero]) rfl : execFaultList lk s = _)

/-! ## R95, R96, R354 to R356, R429 -/

theorem cntOf_val (k : Fin 32) : cntOf k.val = k := by
  revert k; decide

/-- Settles O7: no check fails; a trigger answers the slot under collection, or a free one. -/
theorem recorderCommands : Obligations.RecorderCommands := by
  unfold Obligations.RecorderCommands
  refine ⟨?list, ?read, ?found, ?none, ?pin, ?counts, ?config⟩
  case list =>
    rintro s lk p l h hp hlen hzero rfl
    exact (State.serveCode_checked h hp (by simp [hlen, hzero]) rfl : execRecList lk s = _)
  case read =>
    intro s lk p h hp hlen hend hn hn' hzero hsnap
    exact (State.serveCode_checked h hp
      (by simp [hlen, Nat.not_lt.mpr hend, Nat.ne_of_gt hn, Nat.not_lt.mpr hn', hzero, hsnap]) rfl :
        execRecRead lk s = _)
  case found =>
    intro s lk c h hp hcoll
    refine (State.serveCode_checked h hp (by simp) ?_ : execRecTrigger lk s = _)
    simp only [hcoll]
    rfl
  case none =>
    intro s lk h hp hcoll
    refine ⟨Config.freeNat (s.recTrigger 0 none).free, ?_⟩
    refine (State.serveCode_checked h hp (by simp) ?_ : execRecTrigger lk s = _)
    simp only [hcoll]
    rfl
  case pin =>
    intro s lk p h hp hlen hon hzero hsnap hroom
    have hfull : (u8 p 2 == 1 && !s.recd.pins.contains (u16 p 0) && s.pinFull) = false := by
      cases hone : (u8 p 2 == 1) with
      | false => rfl
      | true => rcases hroom (by simpa using hone) with hpin | hroom <;> simp only [*] <;> simp
    exact (State.serveCode_checked h hp (by simp only [hlen, hfull]; simp [hon, hzero, hsnap]) rfl :
      execRecPin lk s = _)
  case counts =>
    intro s lk p h hp hlen hend hn hn' hzero
    exact (State.serveCode_checked h hp
      (by simp [hlen, Nat.not_lt.mpr hend, Nat.ne_of_gt hn, Nat.not_lt.mpr hn', hzero]) rfl : execCntRead lk s = _)
  case config =>
    intro s lk p k h hp hlen hk hsrc hfl hzero
    have hle : u8 p 0 ≤ 31 := by omega
    have hcnt : cntOf (u8 p 0) = k := by rw [hk, cntOf_val]
    refine (State.serveCode_checked h hp (by simp [hlen, hle, hsrc, hfl, hzero]) ?_ : execCntConfig lk s = _)
    rw [hcnt]
    rfl

/-! ## R97, R98, R331 to R334 -/

/-- Settles O8: no check fails; an activation takes the branch of what was verified. -/
theorem firmwareCommands : Obligations.FirmwareCommands := by
  unfold Obligations.FirmwareCommands
  refine ⟨?image, ?patch, ?data, ?verify, ?status, ?actImage, ?actPatch, ?actKeys, ?restart, ?abort⟩
  case image =>
    intro s lk p bank h hp hlen hkind hsize hzero hidle hbank
    refine (State.serveCode_checked h hp (by simp [hlen, hkind, hsize, hzero, hidle]) ?_ : execFwBegin lk s = _)
    simp [hkind, hbank, okWith]
  case patch =>
    intro s lk p bank h hp hlen hkind hsize hzero hidle hbank
    refine (State.serveCode_checked h hp (by simp [hlen, hkind, hsize, hzero, hidle]) ?_ : execFwBegin lk s = _)
    simp [hkind, hbank, okWith]
  case data =>
    intro s lk p h hp hlen hphase hend
    exact (State.serveCode_checked h hp (by simp [Nat.not_lt.mpr hlen, hphase, Nat.not_lt.mpr hend]) rfl :
      execFwData lk s = _)
  case verify =>
    intro s lk h hp hphase
    exact (State.serveCode_checked h hp (by simp [hphase]) rfl : execFwVerify lk s = _)
  case status =>
    rintro s lk va vi h hp rfl rfl
    exact (State.serveCode_checked h hp (by simp) rfl : execFwStatus lk s = _)
  case actImage =>
    intro s lk h hp hrestart hphase hpatch hkind hallowed hheld
    refine (State.serveCode_checked h hp (by simp [hrestart, hphase, hpatch, hkind, hallowed, hheld]) ?_ :
      execFwActivate lk s = _)
    simp [hpatch, hkind, okWith]
  case actPatch =>
    intro s lk h hp hrestart hphase hpatch hidle
    refine (State.serveCode_checked h hp (by simp [hrestart, hphase, hpatch, hidle]) ?_ : execFwActivate lk s = _)
    simp [hpatch, okWith]
  case actKeys =>
    intro s lk es h hp hrestart hphase hpatch hkind hboth hrec hperm
    refine (State.serveCode_checked h hp
      (by simpa [hrestart, hphase, hpatch, hkind, hboth, hrec] using hperm) ?_ : execFwActivate lk s = _)
    simp [hpatch, hkind, hrec, okWith]
  case restart =>
    intro s lk h hp hheld hrestart hallowed
    exact (State.serveCode_checked h hp (by simp [hheld, hrestart, hallowed]) rfl : execPilotRestart lk s = _)
  case abort =>
    intro s lk h hp hphase
    exact (State.serveCode_checked h hp (by rcases hphase with hph | hph | hph <;> simp [hph]) rfl :
      execFwAbort lk s = _)

/-! ## R99 to R102, R337 to R341 -/

@[simp] theorem length_freshNonce (n : Nat) : ((Config.freeBytes n ++ List.replicate 16 0).take 16).length = 16 := by
  simp

theorem lifePermitted_scrap {l : Life} (h : l ≠ .scrapped) : lifePermitted l 5 = true := by
  cases l with
  | scrapped => exact absurd rfl h
  | _ => rfl

/-- Settles O9: no check but that of the signature fails, and that one decides between the state moved and `AUTH`. -/
theorem lifeCycleCommands : Obligations.LifeCycleCommands := by
  unfold Obligations.LifeCycleCommands
  refine ⟨?ident, ?status, ?challenge, ?advance, ?scrap, ?openNow, ?openErase, ?reset, ?unknown⟩
  case ident =>
    intro s lk h hp
    exact (State.serveCode_checked h hp (by simp) rfl : execDeviceIdent lk s = _)
  case status =>
    intro s lk h hp
    exact (State.serveCode_checked h hp (by simp) rfl : execLcStatus lk s = _)
  case challenge =>
    intro s lk h hp
    exact ⟨_, length_freshNonce s.free, (State.serveCode_checked h hp (by simp) rfl : execAuthChallenge lk s = _)⟩
  case advance =>
    intro s lk p t h hp hlen hcode ht hzero hlock hperm hboth
    have hle : t ≤ 5 := by omega
    have hscrap : t ≠ 5 := by omega
    split
    next hauth =>
      refine (State.serveCode_eq h hp ?_ : execLcAdvance lk s = _)
      by_cases hsealed : t = 3
      · subst hsealed
        simp [hlen, hcode, hzero, hlock, hperm, hboth, hauth, okWith, State.useNonce]
      · simp [hlen, hcode, Nat.not_lt.mpr hle, hzero, hlock, hperm, hboth, hauth, hscrap, hsealed, okWith,
          State.useNonce]
    next hauth =>
      refine (State.serveCode_eq h hp ?_ : execLcAdvance lk s = _)
      simp [hlen, hcode, Nat.not_lt.mpr hle, hzero, hlock, hperm, hboth, hauth, failWith]
  case scrap =>
    intro s lk p h hp hlen ht hzero hlock hlife hboth
    have hperm := lifePermitted_scrap hlife
    split
    next hauth =>
      refine (State.serveCode_eq h hp ?_ : execLcAdvance lk s = _)
      simp [hlen, ht, hzero, hlock, hperm, hboth, hauth, okWith, State.useNonce, lifeOf]
    next hauth =>
      refine (State.serveCode_eq h hp ?_ : execLcAdvance lk s = _)
      simp [hlen, ht, hzero, hlock, hperm, hboth, hauth, failWith]
  case openNow =>
    intro s lk p h hp hlen hport hzero hlock hlife hsealed hboth
    split
    next hauth =>
      refine (State.serveCode_eq h hp ?_ : execDebugOpen lk s = _)
      simp [hlen, hport, hzero, hlock, hlife, hsealed, hboth, hauth, okWith, State.useNonce, State.openAccess]
    next hauth =>
      refine (State.serveCode_eq h hp ?_ : execDebugOpen lk s = _)
      simp [hlen, hport, hzero, hlock, hlife, hboth, hauth, failWith]
  case openErase =>
    intro s lk p h hp hlen hport hzero hlock hlife herase hboth
    split
    next hauth =>
      refine (State.serveCode_eq h hp ?_ : execDebugOpen lk s = _)
      by_cases hsealed : s.trust.life = .sealed
      · simp [hlen, Nat.not_lt.mpr hport, hzero, hlock, hsealed, hboth, hauth, okWith, State.useNonce, State.eraseVault]
      · have hscan := herase.resolve_right hsealed
        simp [hlen, hscan, hzero, hlock, hlife, hsealed, hboth, hauth, okWith, State.useNonce, State.eraseVault]
    next hauth =>
      refine (State.serveCode_eq h hp ?_ : execDebugOpen lk s = _)
      simp [hlen, Nat.not_lt.mpr hport, hzero, hlock, hlife, hboth, hauth, failWith]
  case reset =>
    intro s lk h hp hidle
    exact (State.serveCode_checked h hp (by simp [hidle]) rfl : execDeviceReset lk s = _)
  case unknown =>
    intro s lk c h hc
    exact (State.serve_of_serves h (by simp only [hc]; rfl) _ : execUnknownCommand lk s = _)

end Sys2Proof.Machine
end

section
/-! PROOFS. The transports of the Locks: host SPI frames, CAN, Ethernet, UART and Towpath; the Locks' own events; and
frames that no wire can carry. -/

namespace Sys2Proof.Machine

/-! ## A host SPI frame (R411 to R413) -/

theorem State.spiFrame_of_badCrc {s : State} {port : Fin 2} {op : Nat} {lock crc : Byte} {off count : BitVec 16}
    {data : List Byte} (act : State → Option (State × List Byte)) (hup : s.spiUp = true)
    (hcrc : crc ≠ spiCrc (spiHead op lock off count ++ data)) :
    s.spiFrame port op lock off count data crc act = s.spiEnd port .crc [] := by
  simp [State.spiFrame, hup, hcrc]

/-- A frame with a right check value and length, which the port serves, ends with what its instruction returns. -/
theorem State.spiFrame_done {s t : State} {port : Fin 2} {op : Nat} {lock crc : Byte} {off count : BitVec 16}
    {data out : List Byte} {act : State → Option (State × List Byte)} (hup : s.spiUp = true)
    (hheld : s.safeHeld = false ∨ op = 0x10) (hcrc : crc = spiCrc (spiHead op lock off count ++ data))
    (hlen : op = 0x20 → data.length = count.toNat) (hact : act s = some (t, out)) :
    s.spiFrame port op lock off count data crc act = t.spiEnd port .done out := by
  have hlong : ¬ (op = 0x20 ∧ data.length ≠ count.toNat) := fun ⟨hop, hne⟩ => hne (hlen hop)
  have hserved : (s.safeHeld && op != 0x10) = false := by rcases hheld with hheld | hheld <;> simp [hheld]
  unfold State.spiFrame
  rw [if_neg (by simp [hup]), if_neg (by simp [hcrc]), if_neg hlong, if_neg (by simp [hserved]), hact]

/-- A Barge with every check of R53 passed and the sequence of R55 right brings its Lock to `SERVICE`. -/
theorem State.lockSubmit_of_good {s : State} {k : Lk} (hplen : s.locks[k].plen ≤ 236)
    (hgot : s.locks[k].got = 20 + s.locks[k].plen) (hcrc : s.locks[k].crcOk k = true)
    (hzero : s.locks[k].headZero = true)
    (hseq : s.locks[k].last = none ∨ ∃ q t, s.locks[k].last = some (q, t) ∧ s.locks[k].seq = (q + 1) % 65536 ∧
      s.locks[k].toggle ≠ t) :
    s.lockSubmit k = (s.lockNote k).lockServe k := by
  have hext : ¬ (236 < s.locks[k].plen ∨ s.locks[k].got ≠ 20 + s.locks[k].plen) := by omega
  rw [State.lockSubmit_eq, if_neg hext, hcrc, hzero, if_neg Bool.noConfusion, if_neg Bool.noConfusion,
    State.lockSequence]
  obtain hnone | ⟨q, t, hlast, hnext, htoggle⟩ := hseq
  · simp only [State.lockNote_last, hnone]
  · simp only [State.lockNote_last, State.lockNote_seq, State.lockNote_toggle, hlast]
    rw [if_pos ⟨hnext, htoggle⟩]

/-- With nothing announced by a response, a drain only empties the Lock. -/
theorem State.lockDrain_of_quiet {s : State} {k : Lk} (hstandby : s.sys.standbyDue = false)
    (hreset : s.sys.resetDue = false) : s.lockDrain k = s.lockEmpty k := by
  have hsys : (s.lockEmpty k).sys = s.sys := rfl
  simp only [State.lockDrain, hsys, hstandby, hreset, Bool.false_eq_true, and_false, if_false]

/-- Settles O10: each frame is served, and its instruction has its effect. -/
theorem hostSpiFrames : Obligations.HostSpiFrames := by
  unfold Obligations.HostSpiFrames
  refine ⟨?write, ?submit, ?read, ?drain, ?gates, ?status⟩
  case write =>
    intro s port k lock off count data crc hup hheld hk hcrc hlen hpos hend hgate howner
    refine congrArg _ (State.spiFrame_done hup (.inl hheld) hcrc (fun _ => hlen) ?_)
    simp only [hk, hgate, howner, hpos, hend, decide_true, Bool.and_self, and_self, if_true]
  case submit =>
    intro s port k lock crc hup hheld hk hcrc hen hgate howner hplen hgot hok hzero hseq
    refine congrArg _ (State.spiFrame_done hup (.inl hheld) (by simpa using hcrc) (absurd · (by decide)) ?_)
    simp only [hk, hen, hgate, howner, and_self, if_true, State.lockSubmit_of_good hplen hgot hok hzero hseq]
  case read =>
    intro s port k lock off count crc hup hheld hk hcrc hgate hpos hend
    refine congrArg _ (State.spiFrame_done hup (.inl hheld) (by simpa using hcrc) (absurd · (by decide)) ?_)
    simp only [hk, hgate, hpos, hend, and_self, if_true]
  case drain =>
    intro s port k lock crc hup hheld hk hcrc hgate hstandby hreset
    refine congrArg _ (State.spiFrame_done hup (.inl hheld) (by simpa using hcrc) (absurd · (by decide)) ?_)
    simp only [hk, hgate, and_self, if_true, State.lockDrain_of_quiet hstandby hreset]
  case gates =>
    intro s port crc hup hheld hcrc
    exact congrArg _ (State.spiFrame_done hup (.inl hheld) (by simpa using hcrc) (absurd · (by decide)) (by rfl))
  case status =>
    intro s port crc hup hcrc
    exact congrArg _ (State.spiFrame_done hup (.inr rfl) (by simpa using hcrc) (absurd · (by decide)) (by rfl))

/-- Settles O11: the check value comes before every instruction. -/
theorem spiFrameCrcError : Obligations.SpiFrameCrcError := by
  unfold Obligations.SpiFrameCrcError
  intro s port lock off count data crc hup
  refine ⟨fun hcrc => ?_, fun hcrc => ?_, fun hcrc => ?_, fun hcrc => ?_, fun hcrc => ?_, fun hcrc => ?_⟩
  · exact congrArg _ (State.spiFrame_of_badCrc _ hup hcrc)
  all_goals exact congrArg _ (State.spiFrame_of_badCrc _ hup (by simpa using hcrc))

/-! ## CAN (R62, R63, R67 to R69) -/

/-- A frame that a controller accepts and that fits a Lock's chamber or the message buffers. -/
structure State.CanTakes (s : State) (c : Fin 4) (f : CanFrame) : Prop where
  on : s.canOn c = true
  mode : s.rd F.CAN_CTRL_MODE c ≠ 2
  accepts : s.canRefuse c f = none
  short : f.fmt = .xl → f.data.length ≤ 256

section
variable {s : State} {c : Fin 4} {f : CanFrame} (h : s.CanTakes c f) (stamp : Word)
include h

theorem State.CanTakes.receives : (s.canOn c && s.rd F.CAN_CTRL_MODE c != 2) = true := by
  rw [h.on, bne_iff_ne.mpr h.mode, Bool.and_self]

theorem State.CanTakes.not_long : ¬ (f.fmt = .xl ∧ 256 < f.data.length) :=
  fun ⟨hxl, hlong⟩ => absurd (h.short hxl) (Nat.not_le.mpr hlong)

/-- A frame on a request identifier goes to the Lock it names. -/
theorem State.canReceive_toLock {k : Lk} (hmap : (s.canRxGood c).canMapped c = true)
    (hlock : (s.canRxGood c).canReqLock f = some k) : s.canReceive c stamp f = (s.canRxGood c).canLock c k f := by
  simp only [State.canReceive, h.receives, h.accepts, h.not_long, hmap, hlock, if_true, if_false]

/-- A frame on the setpoint identifier goes to the setpoints. -/
theorem State.canReceive_toSetpoint (hmap : (s.canRxGood c).canMapped c = true)
    (hlock : (s.canRxGood c).canReqLock f = none) (hid : f.id = (s.canRxGood c).parN P.lock_sp_can_id) :
    s.canReceive c stamp f = (s.canRxGood c).canSetpoint f := by
  simp only [State.canReceive, h.receives, h.accepts, h.not_long, hmap, hlock, if_pos hid, if_true, if_false]

/-- A frame on a controller that carries no Barges goes to the message buffers. -/
theorem State.canReceive_toBuffers (hmap : (s.canRxGood c).canMapped c = false) :
    s.canReceive c stamp f = (s.canRxGood c).mbStore c f stamp := by
  simp only [State.canReceive, h.receives, h.accepts, h.not_long, hmap, if_true, if_false, Bool.false_eq_true]

end

/-! ## Delivery by the other transports -/

theorem le_length_of_lockOf {bs : List Byte} {k : Lk} (h : lockOf bs = some k) : 6 ≤ bs.length := by
  unfold lockOf at h
  split at h
  · split at h
    · assumption
    · cases h
  · cases h

theorem State.lockByFive_of_lockOf {s : State} {bs : List Byte} {k : Lk} (tr : Transport) (h : lockOf bs = some k) :
    s.lockByFive tr bs = s.lockDeliver tr k bs := by
  simp only [State.lockByFive, h]

/-- Settles O12: each transport takes the frame and hands its bytes to the Lock named. -/
theorem transportDelivery : Obligations.TransportDelivery := by
  unfold Obligations.TransportDelivery
  refine ⟨?xl, ?segment, ?setpoint, ?udp, ?udpLength, ?uart, ?tunnel⟩
  case xl =>
    intro s c f k hwf hfmt hlen hmap hlock hon hmode hacc hmap' hlock'
    have hrx := State.canReceive_toLock ⟨hon, hmode, hacc, fun _ => hlen⟩ s.stamp hmap' hlock'
    show execCanXlBarge c f s = _
    simp only [execCanXlBarge, hwf, if_true, hfmt, State.isBarge, hmap, hlock, Option.isSome_some,
      Bool.and_self, and_self,
      hrx, State.canLock]
  case segment =>
    intro s dt c f k hwf hfmt hext hmap hlock hon hmode hacc hmap' hlock'
    have hrx := State.canReceive_toLock ⟨hon, hmode, hacc, by simp [hfmt]⟩ (s.tick dt).stamp hmap' hlock'
    show execCanFdSegment dt c f s = _
    simp only [execCanFdSegment, hwf, if_true, hfmt, State.isBarge, hmap, hlock, Option.isSome_some,
      Bool.and_self, and_self,
      hrx, State.canLock, hext, Bool.false_eq_true, if_false]
  case setpoint =>
    intro s dt c f hwf hfmt hlen hmap hlock hid hon hmode hacc hmap' hlock' hid' hen
    have hrx := State.canReceive_toSetpoint ⟨hon, hmode, hacc, fun _ => by omega⟩ (s.tick dt).stamp hmap' hlock' hid'
    have hid : f.id = (s.tick dt).parN P.lock_sp_can_id := hid
    show execDirectSetpointFrame dt c f s = _
    simp only [execDirectSetpointFrame, hwf, if_true, hmap, hlock, if_pos hid, true_and, hrx,
      State.canSetpoint, hfmt, hlen, ne_eq, not_true_eq_false, or_self, if_false, hen]
  case udp =>
    intro s mac src sport bs k hon hk
    show execUdpBarge mac src sport bs s = _
    simp only [execUdpBarge, hon, if_true, State.udpIn, hk]
  case udpLength =>
    intro s mac src sport bs k hon hnone hen hlen hk
    have hlk : (⟨u8 bs 5 % 16, Nat.mod_lt _ (by decide)⟩ : Lk) = k := Fin.ext hk.symm
    show execUdpBarge mac src sport bs s = _
    simp only [execUdpBarge, hon, if_true, State.udpIn, hnone, hen, bne_iff_ne.mpr hlen, Bool.and_self, hlk]
  case uart =>
    intro s raw bs k hup hraw hk
    have hne : bs ≠ [] := by
      rintro rfl
      exact absurd (le_length_of_lockOf hk) (by decide)
    show execUartFrame raw false s = _
    simp only [execUartFrame, hup, hraw, Bool.and_false, Bool.false_eq_true, if_false, if_true]
    rw [State.lockByFive_of_lockOf _ hk]
  case tunnel =>
    intro s port fr k hup hon hkind hreq hadm hcheck hnum hk
    show execTowTunnelFrame port fr s = _
    have hreq : ¬ u8 fr 1 % 2 = 1 := by omega
    simp only [execTowTunnelFrame, hup, hon, hkind, hadm, hcheck, hnum, hreq, beq_self_eq_true, Bool.and_self, if_true,
      if_false, State.lockByFive_of_lockOf _ hk]

/-! ## The Locks' own events -/

/-- Settles O14: with its time over, each event does what its rule says. -/
theorem lockEvents : Obligations.LockEvents := by
  unfold Obligations.LockEvents
  refine ⟨?timeout, ?gap, ?drain, ?setpoint⟩
  case timeout =>
    rintro s dt k t u rfl hgate hdue rfl
    show execLockTimeout dt k s = _
    simp only [execLockTimeout, hgate, hdue, and_self, if_true]
  case gap =>
    intro s dt c p hp hdue
    show execLockSegGapTimeout dt c s = _
    simp only [execLockSegGapTimeout, hp, hdue, if_true, State.segDrop]
  case drain =>
    rintro s k mac ip port bs hgate howner rfl
    show execLockAutoDrain k s = _
    simp only [execLockAutoDrain, hgate, howner, State.respSend]
  case setpoint =>
    rintro s t u dt b c rfl rfl hen hdue hdrive rfl
    show execSetpointTimeout dt b s = _
    simp only [execSetpointTimeout, hen, State.spSilent, Bool.false_eq_true, if_false, hdue, decide_true,
      and_self, if_true,
      State.spTimeout, hdrive, State.spHeard]

/-! ## Frames that no wire can carry -/

/-- Settles O51: each of these commands tests its frame before anything else. -/
theorem illFormedStops : Obligations.IllFormedStops := by
  unfold Obligations.IllFormedStops
  refine ⟨fun s dt ago c f hf => ?rx, fun s c f hf => ?xl, fun s dt c f hf => ?segment, fun s dt c f hf => ?setpoint⟩
  case rx => exact if_neg (by simp [hf])
  case xl => exact if_neg (by simp [hf])
  case segment => exact if_neg (by simp [hf])
  case setpoint => exact if_neg (by simp [hf])

end Sys2Proof.Machine
end

section
/-! PROOFS. The ends of stops and catches, the steps of precharge, discharge and shutdown, the contactors and the
Weir. -/

namespace Sys2Proof.Machine

/-! ## Stops (R119, R120, R124, R125, R309) -/

/-- Settles O15: with its time over or its ramp done, each event ends what it is the end of. -/
theorem stopEvents : Obligations.StopEvents := by
  unfold Obligations.StopEvents
  refine ⟨?ramp, ?standstill, ?timeout, ?complete, ?degraded, ?hold⟩
  case ramp =>
    rintro s t dt b c n rfl rfl hstop hdrive hover
    show execDriveStopRampDone dt b s = _
    simp only [execDriveStopRampDone, hstop, hdrive, State.rampOver, hover, decide_true, Bool.and_self, if_true]
  case standstill =>
    rintro s t dt b c n m rfl rfl hstop hdrive hslow hheld
    show execDriveStopStandstill dt b s = _
    simp only [execDriveStopStandstill, hstop, hdrive, State.standsStill, hslow, hheld, decide_true, Bool.and_self,
      if_true]
  case timeout =>
    rintro s t dt b c n rfl rfl hstop hdrive hover
    show execDriveStopTimeout dt b s = _
    simp only [execDriveStopTimeout, hstop, hdrive, hover, decide_true, Bool.and_self, if_true, State.stopRamp]
  case complete =>
    rintro s t dt b c rfl rfl hst hslow
    show execSafeStopComplete dt b s = _
    simp only [execSafeStopComplete, hst, hslow, and_self, if_true, State.safeStopDone, Bool.false_or]
    cases ((s.tick dt).noLatched) <;> rfl
  case degraded =>
    rintro s t dt b c rfl rfl hst hleft
    show execDegradedTimerExpiry dt b s = _
    simp only [execDegradedTimerExpiry, hst, hleft, and_self, if_true]
  case hold =>
    rintro s t dt n b c rfl rfl hheld hdrive hsince hover
    show execPilotHoldTimeout dt b s = _
    simp only [execPilotHoldTimeout, hsince, hheld, hdrive, hover, decide_true, Bool.and_self, if_true]

/-! ## Catches (R115 to R117, R157, R220) -/

/-- What the decision does with the outcome that it chose (R116): `direct` is direct modulation mode, `seen` that two
periods were seen. -/
def State.catchAct (u : State) (c : Br) (th om : Rat) (direct seen : Bool) : CatchOut → State
  | .fail => u.catchFail c FC.CATCH_FAIL
  | .pos => u.catchFail c FC.CATCH_POS
  | .high => u.catchOver c
  | .weaken =>
    if direct then u.catchOver c
    else (if u.sensorPresent c then u else u.observerStart c th om).catchRun c (u.weakenD c om) 0
  | .zero =>
    let v := (if u.sensorPresent c || direct || !seen then u else u.observerStart c th om).catchRun c 0 0
    if !seen && !u.sensorPresent c && !direct then
      v.each (v.group c) fun w d => w.upB d fun x => { x with ipd := true }
    else v

/-- A permanent-magnet machine's catch whose window is over and whose crossings show the direction does what
`catchChoose` says of the angle and the speed measured. -/
theorem execCatchDecision_of_measured {s t u : State} {dt : Nat} {b c : Br} {d : Int} {om th : Rat}
    (ht : s.tick dt = t) (hu : t.spend = u) (hc : t.lead b = c) (hst : t.dst c = .catching) (hpm : t.isPm c = true)
    (hover : t.windowOver c = true) (hdir : t.bridges[c].catchRec.dir = some d)
    (hom : t.bridges[c].catchRec.freq * (d : Rat) * u.phaseSense c = om)
    (hth : t.bridges[c].catchRec.angle (u.phaseSense c) om t.now = th) :
    execCatchDecision dt b s = .next (u.catchAct c th om (t.bit F.MOD_CTRL_MODE c) t.bridges[c].catchRec.seen
      (u.catchChoose c th om)) := by
  have hnow : t.spend.now = t.now := rfl
  subst ht hu hc hom
  rw [← hnow] at hth
  simp only [execCatchDecision, hst, hpm, hover, hdir, Option.getD_some, bne_self_eq_false, Bool.not_true,
    Bool.false_and, Bool.or_self, Bool.false_eq_true, if_false, hth]
  generalize State.catchChoose _ _ _ _ = chosen
  cases chosen <;> rfl

/-- Settles O16: each end of a catch takes the branch of what was found. -/
theorem catchEvents : Obligations.CatchEvents := by
  unfold Obligations.CatchEvents
  refine ⟨?direct, ?decision, ?found, ?notFound, ?located, ?open_⟩
  case direct =>
    rintro s t dt b c rfl rfl hst hpm hdirect
    show execCatchDecision dt b s = _
    simp only [execCatchDecision, hst, hpm, hdirect, bne_self_eq_false, Bool.not_false, Bool.not_true, Bool.and_false,
      Bool.or_self, Bool.false_eq_true, if_false, if_true]
  case decision =>
    intro s t u dt b c d om th ht hu hc hst hpm hover hdir hom hth
    have hexec : exec (.catchDecision dt b) s = _ := execCatchDecision_of_measured ht hu hc hst hpm hover hdir hom hth
    refine ⟨fun h => ?_, fun h => ?_, fun h => ?_, fun h hd => ?_, fun h hd hs => ?_, fun h hs => ?_⟩
    · rw [hexec, h, State.catchAct]
    · rw [hexec, h, State.catchAct]
    · rw [hexec, h, State.catchAct]
    · rw [hexec, h, hd, State.catchAct, if_pos rfl]
    · rw [hexec, h, hd, State.catchAct, if_neg Bool.noConfusion, if_pos hs]
    · simp only [hexec, h, State.catchAct, hs, Bool.true_or, if_true, Bool.not_true, Bool.and_false, Bool.false_and,
        Bool.false_eq_true, if_false]
  case found =>
    rintro s t u dt b c f n rfl rfl hst hsearch hin rfl
    show execCatchImSearchEnd dt b (some f) s = _
    simp only [execCatchImSearchEnd, hst, hsearch, if_true, Nat.not_lt.mpr hin, if_false]
  case notFound =>
    rintro s t dt b c f n rfl rfl hst hsearch hnone
    show execCatchImSearchEnd dt b f s = _
    cases f with
    | none => simp only [execCatchImSearchEnd, hst, hsearch, if_true]
    | some f =>
      have hlate := hnone.resolve_left (by simp)
      simp only [execCatchImSearchEnd, hst, hsearch, if_true, hlate]
  case located =>
    rintro s t dt b c w n rfl rfl hipd hsal
    show execInitialPositionDetection dt b ⟨w, n, true⟩ s = _
    simp only [execInitialPositionDetection, hipd, hsal, decide_true, Bool.and_self, if_true]
  case open_ =>
    rintro s t dt b c w n o rfl rfl hipd hbad
    have hok : (o && decide (1050 ≤ n)) = false := by
      obtain hsal | hpol := hbad
      · rw [decide_eq_false (Nat.not_le.mpr hsal), Bool.and_false]
      · rw [hpol, Bool.false_and]
    show execInitialPositionDetection dt b ⟨w, n, o⟩ s = _
    simp only [execInitialPositionDetection, hipd, hok, if_true, Bool.false_eq_true, if_false]

/-! ## Precharge, discharge and shutdown (R90, R104, R291 to R294) -/

/-- Settles O17: in the step that it ends, each event begins the next. -/
theorem prechargeSequence : Obligations.PrechargeSequence := by
  unfold Obligations.PrechargeSequence
  refine ⟨?negative, ?settled, ?positive, ?ready, ?paramBad, ?timeout⟩
  case negative =>
    rintro s t dt b c rfl rfl hpre hshows
    show execPrechargeFeedback dt b s = _
    simp only [execPrechargeFeedback, hpre, hshows, if_true]
  case settled =>
    rintro s t dt b c rfl rfl hpre hsettled
    show execPrechargeSettled dt b s = _
    simp only [execPrechargeSettled, hpre, hsettled, and_self, if_true]
  case positive =>
    rintro s t dt b c rfl rfl hpre hshows
    show execPrechargeFeedback dt b s = _
    simp only [execPrechargeFeedback, hpre, hshows, if_true]
  case ready =>
    rintro s t dt b c rfl rfl hpre hclosed htrained hsto hparams
    show execPrechargeComplete dt b s = _
    simp only [execPrechargeComplete, hpre, hclosed, htrained, hsto, hparams, and_self, if_true]
  case paramBad =>
    rintro s t dt b c rfl rfl hpre hclosed htrained hsto hparams
    show execPrechargeComplete dt b s = _
    simp only [execPrechargeComplete, hpre, hclosed, htrained, hsto, hparams, and_self, if_true, if_false]
  case timeout =>
    rintro s t dt b c rfl rfl hpre hover
    show execPrechargeTimeout dt b s = _
    simp only [execPrechargeTimeout, hpre, hover, and_self, if_true]

/-- Settles O18: with its condition met, each event takes its step. -/
theorem dischargeSequence : Obligations.DischargeSequence := by
  unfold Obligations.DischargeSequence
  refine ⟨?contactors, ?complete, ?timeout, ?auto, ?shutdown⟩
  case contactors =>
    rintro s t u dt b c rfl rfl hst hpos hneg rfl
    show execDischargeContactorsOpen dt b s = _
    simp only [execDischargeContactorsOpen, hst, hpos, hneg, and_self, if_true]
  case complete =>
    rintro s t dt b c rfl rfl hst hlow
    show execDischargeComplete dt b s = _
    simp only [execDischargeComplete, hst, hlow, and_self, if_true]
  case timeout =>
    rintro s t dt b c d rfl rfl hst hdis hover hhigh
    show execDischargeTimeout dt b s = _
    simp only [execDischargeTimeout, hdis, hst, hover, hhigh, and_self, if_true]
  case auto =>
    rintro s t dt w rfl hmethod hen halone hopen
    show execAutoDischargeStart dt s = _
    simp only [execAutoDischargeStart, hmethod, hen, halone, hopen, and_self, if_true]
  case shutdown =>
    rintro s t dt n b c rfl rfl hshut hover
    show execShutdownNegRelease dt b s = _
    simp only [execShutdownNegRelease, hshut, hover, if_true]

/-! ## Contactors and Weir (R283 to R289, R292) -/

/-- A bridge that requests no contactor. -/
structure Bridge.Withdrawn (x : Bridge) : Prop where
  neg : x.reqNeg = false
  pre : x.reqPre = false
  pos : x.reqPos = false

theorem State.wantRole_of_withdrawn {s : State} (h : ∀ b : Br, s.bridges[b].Withdrawn) (role : Nat) :
    s.wantRole role = false := by
  have hnone : ∀ b : Br, (if role = 1 then s.bridges[b].reqPos else if role = 2 then s.bridges[b].reqNeg
      else if role = 3 then s.bridges[b].reqPre else if role = 4 then s.bridges[b].reqPos else false) = false := by
    intro b
    simp only [(h b).neg, (h b).pre, (h b).pos, ite_self]
  rw [State.wantRole, Bool.and_eq_false_iff, List.any_eq_false]
  exact .inr fun b _ => by simp only [hnone, Bool.false_eq_true, not_false_eq_true]

@[simp] theorem State.contactors_bridges (s : State) : s.contactors.bridges = s.bridges := rfl

theorem State.withdraw_withdrawn (s : State) (b : Br) : (s.withdraw b).bridges[b].Withdrawn := by
  simp only [State.withdraw, State.contactors_bridges, State.upB_bridges, vupd_self]
  exact ⟨rfl, rfl, rfl⟩

theorem State.withdraw_other (s : State) {b c : Br} (h : b ≠ c) : (s.withdraw b).bridges[c] = s.bridges[c] := by
  simp only [State.withdraw, State.contactors_bridges, State.upB_bridges, vupd_other _ _ _ _ h]

/-- With the requests of both bridges withdrawn every output is off. -/
theorem State.withdrawAll_req (s : State) (j : Fin 4) : s.withdrawAll.dcl.req[j] = false := by
  have hall : ∀ b : Br, s.withdrawAll.bridges[b].Withdrawn := by
    intro b
    match b with
    | 0 =>
      rw [State.withdrawAll, State.withdraw_other _ (by decide)]
      exact s.withdraw_withdrawn 0
    | 1 => exact (s.withdraw 0).withdraw_withdrawn 1
  have hreq : s.withdrawAll.dcl.req[j] = s.withdrawAll.wantRole (s.parN (P.dcl_ctr_role j.val)) := by
    simp [State.withdrawAll, State.withdraw, State.contactors]
    rfl
  rw [hreq, State.wantRole_of_withdrawn hall]

/-- The Weir with no OV2 decision sets the limits, then works the chopper. -/
theorem State.weirEval_of_quiet {t u : State} (hu : t.ov2Settle.weirLimit State.weirGen = u)
    (hquiet : t.ov2Settle.ov2 = false) :
    t.weirEval =
      if u.chopEnabled then
        if u.chopSwitch.dcl.mismatch || (u.chopSwitch.chopLate && u.chopSwitch.chopNoFall) then u.chopSwitch.chopFault
        else u.chopSwitch
      else if u.dcl.chopOn then u.chopSet false else u := by
  subst hu
  simp only [State.weirEval, hquiet, Bool.false_eq_true, if_false]

theorem State.chopNoFall_eq_false {t : State}
    (h : t.dcl.chopOn = false ∨ t.vLink < t.dcl.vEng - t.rd F.SYS_WEIR_CHOP1_DROP) : t.chopNoFall = false := by
  obtain hoff | hfell := h
  · simp only [State.chopNoFall, hoff, Bool.false_and]
  · simp only [State.chopNoFall, decide_eq_false (Int.not_le.mpr hfell), Bool.and_false, Bool.false_and]

/-- Settles O19: each event takes the branch of the feedback or of the link value it comes with. -/
theorem contactorsAndWeir : Obligations.ContactorsAndWeir := by
  unfold Obligations.ContactorsAndWeir
  refine ⟨?feedback, ?mismatch, ?agrees, ?ov2, ?weir, ?hysteresis, ?late, ?fell⟩
  case feedback =>
    rintro s t u dt k level rfl rfl
    refine ⟨fun hopen => ?_, fun hopen hwas => ?_, fun j hopen hwas hrole hreq => ?_⟩
    all_goals show execContactorFeedbackChange dt k level s = _
    · simp only [execContactorFeedbackChange, State.feedbackSet, hopen, Bool.false_and, Bool.false_eq_true, if_false]
    · simp only [execContactorFeedbackChange, State.feedbackSet, hopen, hwas, Bool.not_true, Bool.and_false,
        Bool.false_and, Bool.false_eq_true, if_false, if_true]
    · have hasked : ((List.finRange 4).any fun i => (s.tick dt).parN (P.dcl_ctr_role i.val) == 1 &&
          (s.tick dt).dcl.req[i]) = true :=
        List.any_eq_true.mpr ⟨j, List.mem_finRange j, by
          rw [Bool.and_eq_true, beq_iff_eq]
          exact ⟨hrole, hreq⟩⟩
      refine congrArg (fun v : State => (.next v.contactorSettle : Out)) (if_pos ?_)
      rw [hopen, hwas, Bool.not_false, Bool.and_self, Bool.true_and]
      exact hasked
  case mismatch =>
    rintro s t u dt k rfl rfl hrole hlate hdiff
    refine ⟨State.withdrawAll_req _, ?_⟩
    have hdiff : (((s.tick dt).fbClosed k false).getD (s.tick dt).dcl.req[k] != (s.tick dt).dcl.req[k] ||
        ((s.tick dt).fbClosed k true).getD (s.tick dt).dcl.req[k] != (s.tick dt).dcl.req[k]) = true := by
      rw [Bool.or_eq_true, bne_iff_ne, bne_iff_ne]
      exact hdiff
    show execContactorMismatch dt k s = _
    simp only [execContactorMismatch, bne_iff_ne.mpr hrole, hlate, hdiff, decide_true, Bool.and_self, if_true,
      State.withdrawAll]
  case agrees =>
    rintro s t dt k rfl ha hb
    show execContactorMismatch dt k s = _
    simp only [execContactorMismatch, ha, hb, bne_self_eq_false, Bool.or_self, Bool.and_false, Bool.false_eq_true,
      if_false]
  case ov2 =>
    rintro s t u dt rfl rfl hov2
    show execWeirEvaluate dt s = _
    simp only [execWeirEvaluate, State.weirEval, hov2, if_true]
  case weir =>
    rintro s t u dt rfl hu hquiet
    have hweir := State.weirEval_of_quiet hu hquiet
    refine ⟨fun hdis hoff => ?_, fun hdis hon => ?_, fun v hen hv hmis hfell => ?_, fun v hen hv hmis => ?_⟩
    all_goals show execWeirEvaluate dt s = _
    · simp only [execWeirEvaluate, hweir, hdis, hoff, Bool.false_eq_true, if_false]
    · simp only [execWeirEvaluate, hweir, hdis, hon, Bool.false_eq_true, if_false, if_true]
    · have hgood : (v.chopLate && v.chopNoFall) = false := by rcases hfell with h | h <;> simp [h]
      simp only [execWeirEvaluate, hweir, hen, hv, hmis, hgood, Bool.or_self, Bool.false_eq_true, if_false, if_true]
    · simp only [execWeirEvaluate, hweir, hen, hv, hmis, Bool.true_or, if_true]
  case hysteresis =>
    intro u hheld
    refine ⟨fun hoff hhigh => ?_, fun hon hlow => ?_⟩
    · simp only [State.chopSwitch, hoff, hhigh, hheld, decide_true, Bool.not_false, Bool.and_self, if_true]
    · simp only [State.chopSwitch, hon, hlow, hheld, decide_true, Bool.not_true, Bool.false_and, Bool.and_self,
        Bool.false_eq_true, if_false, if_true]
  case late =>
    rintro s t u dt rfl hen hon hlate hquiet hhigh hoff rfl
    show execChopperCheckExpiry dt s = _
    simp only [execChopperCheckExpiry, hen, State.chopLate, hlate, State.chopNoFall, hon, hhigh, hoff, hquiet,
      decide_true, Bool.not_false, Bool.and_self, if_true, State.chopFault]
  case fell =>
    rintro s t dt rfl hfell
    show execChopperCheckExpiry dt s = _
    simp only [execChopperCheckExpiry, State.chopNoFall_eq_false hfell, Bool.and_false, Bool.false_and,
      Bool.false_eq_true, if_false]

end Sys2Proof.Machine
end

section
/-! PROOFS. The safety inputs, resets and clocks, the fault unit's events, the Pilot, trust, and the NVM. -/

namespace Sys2Proof.Machine

/-! ## Safety inputs (R304 to R309) -/

theorem State.ackHere_of_accepted {t u : State} {toggle : Bool} (h : t.ackRun toggle = (.accepted, u)) :
    t.ackHere toggle = u.ackWaits true := by
  unfold State.ackHere
  rw [h]

theorem State.ackHere_of_refused {t u : State} {toggle : Bool} {n : Nat} (h : t.ackRun toggle = (.refused n, u)) :
    t.ackHere toggle = u := by
  unfold State.ackHere
  rw [h]

/-- Settles O20: each input's event with its condition met, the acknowledge by its answer. -/
theorem safetyInputs : Obligations.SafetyInputs := by
  unfold Obligations.SafetyInputs
  refine ⟨fun s dt ch low => rfl, ?discrepancy, ?asserted, ?released, ?accepted, ?refused⟩
  case discrepancy =>
    rintro s t dt n rfl hdiff hlate
    show execStoDiscrepancy dt s = _
    simp only [execStoDiscrepancy, hdiff, hlate, if_true]
  case asserted =>
    rintro s t u dt rfl hwas rfl
    show execSs1Input dt true s = _
    simp only [execSs1Input, hwas, Bool.false_eq_true, if_false, if_true]
  case released =>
    rintro s t dt rfl hwas
    show execSs1Input dt false s = _
    simp only [execSs1Input, hwas, Bool.true_eq_false, Bool.false_eq_true, if_false]
  case accepted =>
    rintro s t u dt rfl hack
    exact congrArg (fun v : State => (.next v : Out)) (State.ackHere_of_accepted hack)
  case refused =>
    rintro s t u dt n rfl hack
    exact congrArg (fun v : State => (.next v : Out)) (State.ackHere_of_refused hack)

/-! ## Resets and clocks (R359 to R374) -/

/-- Settles O21: a pulse too short is ignored, each other event has its reset or release. -/
theorem resetEvents : Obligations.ResetEvents := by
  unfold Obligations.ResetEvents
  refine ⟨fun s dt => rfl, ?brownOut, ?brownOutShort, ?pin, ?pinShort, ?wake, ?wakeStandby, fun s dt env => rfl,
    ?release, ?clockTimeout⟩
  case brownOut =>
    intro s dt sup ns hawake hlong
    show execBrownOut dt sup ns s = _
    simp only [execBrownOut, hawake, Nat.not_lt.mpr hlong, Bool.false_eq_true, or_self, if_false]
  case brownOutShort =>
    intro s dt sup ns hshort
    exact congrArg (fun v : State => (.next v : Out)) (if_pos (.inr hshort))
  case pin =>
    intro s dt ns hawake hlong
    have hlong' : ¬ ns < 200 := by omega
    show execRstNPin dt ns s = _
    simp only [execRstNPin, hawake, hlong, hlong', Bool.false_eq_true, or_self, if_false, if_true]
  case pinShort =>
    intro s dt ns hshort
    exact if_pos (.inr hshort)
  case wake =>
    rintro s t dt rfl hawake
    show execWakePin dt s = _
    simp only [execWakePin, hawake, Bool.false_eq_true, if_false]
  case wakeStandby =>
    rintro s t dt rfl hstandby
    show execWakePin dt s = _
    simp only [execWakePin, hstandby, if_true]
  case release =>
    rintro s t dt d hrun rfl
    exact if_pos hrun
  case clockTimeout =>
    rintro s t dt d rfl hrun hdown
    show execBlockClockTimeout dt d s = _
    simp only [execBlockClockTimeout, hrun, hdown, Bool.not_false, Bool.and_self, if_true]

/-- Settles O22: in a device that runs each loss takes its domains, and the armed reset follows. -/
theorem clockEvents : Obligations.ClockEvents := by
  unfold Obligations.ClockEvents
  refine ⟨?loss, ?reset, ?oscillator⟩
  case loss =>
    rintro s t u dt d rfl hrun hup rfl
    exact if_pos (Bool.and_eq_true_iff.mpr ⟨hrun, hup⟩)
  case reset =>
    rintro s t dt n rfl hrun harmed hover
    have hover : n + 100 * usCounts ≤ (s.tick dt).now := hover
    show execClockLossReset dt s = _
    simp only [execClockLossReset, harmed, hrun, hover, decide_true, Bool.and_self, if_true]
  case oscillator =>
    rintro s t u dt rfl hrun hok rfl
    exact if_pos (Bool.and_eq_true_iff.mpr ⟨hrun, hok⟩)

/-! ## Faults and the Pilot (R299 to R319, R332) -/

/-- Settles O23: each event of the fault unit under its condition. -/
theorem faultEvents : Obligations.FaultEvents := by
  unfold Obligations.FaultEvents
  refine ⟨?lines, ?illFormed, ?warm, ?heartbeat, ?lockstep, ?alive⟩
  case lines =>
    rintro s t dt srcs hwf rfl hrun hok
    show execFaultSourceAssert dt srcs s = _
    simp only [execFaultSourceAssert, hwf, hrun, hok, Bool.not_true, Bool.and_self, Bool.false_eq_true, if_false,
      if_true]
  case illFormed =>
    intro s dt srcs hwf
    exact if_pos (by rw [hwf]; rfl)
  case warm =>
    rintro s t dt n rfl hrun harmed hover
    have hover : n + 100 * usCounts ≤ (s.tick dt).now := hover
    show execFcrWarmResetTimer dt s = _
    simp only [execFcrWarmResetTimer, harmed, hrun, hover, decide_true, Bool.and_self, if_true]
  case heartbeat =>
    rintro s t dt rfl hrun hok hlate
    have hlate : (s.tick dt).fcr.beatAt + beatLimit ≤ (s.tick dt).now := hlate
    show execKeeperHbTimeout dt s = _
    simp only [execKeeperHbTimeout, hrun, hok, hlate, decide_true, Bool.and_self, if_true]
  case lockstep =>
    rintro s t dt rfl hrun hok
    show execKeeperLockstep dt s = _
    simp only [execKeeperLockstep, hrun, hok, Bool.and_self, if_true]
  case alive =>
    rintro s t dt rfl hok
    exact congrArg (fun v : State => (.next v : Out)) (if_pos hok)

/-- Settles O24: each event of the Pilot's supervision under its condition. -/
theorem pilotEvents : Obligations.PilotEvents := by
  unfold Obligations.PilotEvents
  refine ⟨?challenge, ?noAnswer, fun s dt => rfl, ?release, ?trialPass⟩
  case challenge =>
    rintro s t dt c rfl hrun hfree
    show execWdgChallenge dt c s = _
    simp only [execWdgChallenge, hrun, hfree, Bool.not_false, Bool.and_self, if_true]
  case noAnswer =>
    rintro s t dt n c rfl hchal hlate
    show execWdgAnswerTimeout dt s = _
    simp only [execWdgAnswerTimeout, hchal, hlate, if_true]
  case release =>
    rintro s t u dt c b rfl hbank hrun hrestarting hnotForGood rfl
    show execPilotRelease dt c s = _
    have hsame : ((s.tick dt).flag F.SYS_RST_CTRL_PILOT_HOLD 0 false).bank b = (s.tick dt).bank b := by
      rw [State.bank, State.flag_trust, State.bank]
    simp only [execPilotRelease, hbank, hrun, hrestarting, hnotForGood, Bool.not_false, Bool.and_self, if_true, hsame,
      State.flag_now, beq_iff_eq]
  case trialPass =>
    rintro s t u v dt n b rfl htrial hbank hover rfl rfl
    have hover : n + 10000 * msCounts ≤ (s.tick dt).now := hover
    show execFwTrialPass dt s = _
    simp only [execFwTrialPass, htrial, hbank, hover, if_true]

/-! ## Trust (R101, R316, R330, R340, R349) -/

@[simp] theorem State.setMemBytes_trust (s : State) (a : Nat) (bs : List Byte) :
    (s.setMemBytes a bs).trust = s.trust := by
  induction bs generalizing s a with
  | nil => rfl
  | cons b bs ih => rw [State.setMemBytes, ih, State.setMemB_trust]

/-- Settles O25: the verification by what its checks give, each other end under its condition. -/
theorem trustEvents : Obligations.TrustEvents := by
  unfold Obligations.TrustEvents
  refine ⟨?fails, ?plain, ?encrypted, ?patch, ?stored, ?notStored, fun s t dt h => by rw [← h]; rfl, ?nonce, ?lockout,
    ?readback⟩
  case fails =>
    rintro s t dt v rfl hphase hreason
    show execFwVerifyDone dt v s = _
    simp only [execFwVerifyDone, hphase, hreason, if_true, if_false]
  case plain =>
    rintro s t dt v rfl hphase hreason hkind henc hbank
    show execFwVerifyDone dt v s = _
    simp only [execFwVerifyDone, hphase, hreason, hkind, henc, hbank, if_true, Bool.false_eq_true,
      Nat.reduceEqDiff, false_and, Nat.zero_ne_one, if_false]
  case encrypted =>
    rintro s t u dt v rfl hphase hreason hkind henc hbank rfl
    show execFwVerifyDone dt v s = _
    simp only [execFwVerifyDone, hphase, hreason, hkind, henc, State.setMemBytes_trust, hbank, if_true,
      Bool.false_eq_true, Nat.reduceEqDiff, false_and, if_false]
  case patch =>
    rintro s t dt v rfl hphase hreason hkind henc hpatch
    show execFwVerifyDone dt v s = _
    simp only [execFwVerifyDone, hphase, hreason, hkind, henc, hpatch, if_true, Nat.reduceEqDiff, false_and,
      Nat.zero_ne_one, if_false]
  case stored =>
    rintro s t u v dt j rfl hjob rfl rfl
    show execParamStoreDone dt true s = _
    simp only [execParamStoreDone, hjob, if_true]
  case notStored =>
    rintro s t dt j rfl hjob
    have hexec : exec (.paramStoreDone dt false) s = execParamStoreDone dt false s := rfl
    cases hfree : Config.freeBool (s.tick dt).free with
    | true =>
      refine ⟨_, .inr rfl, hexec.trans ?_⟩
      simp only [execParamStoreDone, hjob, hfree, Bool.false_eq_true, if_false, if_true]
    | false =>
      refine ⟨_, .inl rfl, hexec.trans ?_⟩
      simp only [execParamStoreDone, hjob, hfree, Bool.false_eq_true, if_false]
  case nonce =>
    rintro s t dt n at_ rfl hnonce hover
    have hover : at_ + 10000 * msCounts ≤ (s.tick dt).now := hover
    show execNonceExpiry dt s = _
    simp only [execNonceExpiry, hnonce, hover, if_true, State.useNonce]
  case lockout =>
    rintro s t dt at_ rfl hlocked hover
    have hover : at_ + 60000 * msCounts ≤ (s.tick dt).now := hover
    show execAuthLockoutEnd dt s = _
    simp only [execAuthLockoutEnd, hlocked, hover, if_true]
  case readback =>
    rintro s t dt rfl hrun hbooted
    show execGuardReadback dt s = _
    simp only [execGuardReadback, hrun, hbooted, Bool.not_false, Bool.and_self, if_true]

/-! ## NVM and recorder (R345, R353 to R358) -/

/-- Settles O26: each event of the NVM and the recorder under its condition. -/
theorem nvmEvents : Obligations.NvmEvents := by
  unfold Obligations.NvmEvents
  refine ⟨fun s dt => rfl, fun s dt => ⟨_, rfl⟩, ?written, ?inhibited, ?idle, ?threshold⟩
  case written =>
    rintro s t dt c rfl hcoll hfull hfree
    show execRecCollectionEnd dt s = _
    simp only [execRecCollectionEnd, hcoll, hfull, if_true, State.recEnd, hfree, Bool.false_eq_true, if_false]
  case inhibited =>
    rintro s t dt c rfl hcoll hfull hinh
    show execRecCollectionEnd dt s = _
    simp only [execRecCollectionEnd, hcoll, hfull, if_true, State.recEnd, hinh]
  case idle =>
    rintro s t dt b rfl hrun hconf hstopped
    show execRecIdleRecord dt b s = _
    simp only [execRecIdleRecord, hrun, hconf, hstopped, Bool.not_false, Bool.and_self, if_true]
  case threshold =>
    rintro s t dt vddm vddc inh rfl rfl
    rfl

end Sys2Proof.Machine
end

section
/-! PROOFS. The events of the Flight and of the modulation, of the position ports and of the converters. -/

namespace Sys2Proof.Machine

/-! ## Flight (R166 to R195) -/

theorem State.groupDone_open {t : State} {b : Br} {sl : Slot} (h : ∃ c ∈ t.verifySet b, t.groupOpen c sl.num = true) :
    t.groupDone b sl = t :=
  if_pos (List.any_eq_true.mpr h)

/-- The stage of a number is missed by its engine where it is committed. -/
def State.stageMissed (num : Nat) (v : State) (c : Br) : State :=
  match v.flights[c].stage num with
  | some x => if x.st = .committed then v.groupMissed c x else v
  | none => v

theorem State.groupDone_missing {t : State} {b : Br} {sl : Slot}
    (hclosed : ∀ c ∈ t.verifySet b, t.groupOpen c sl.num = false)
    (hmissing : ∃ c ∈ t.verifySet b, (t.measured c sl.num).missing = true) (hlate : sl.start + sl.dur + 400 ≤ t.dt) :
    t.groupDone b sl = t.each (t.verifySet b) (State.stageMissed sl.num) := by
  have hno : ((t.verifySet b).any fun c => t.groupOpen c sl.num) = false :=
    List.any_eq_false.mpr fun c hc => by rw [hclosed c hc]; exact Bool.false_ne_true
  have hlate : sl.start + sl.dur + usCounts ≤ t.dt := hlate
  rw [State.groupDone, hno, if_neg Bool.false_ne_true, if_pos (List.any_eq_true.mpr hmissing), State.when,
    if_pos (decide_eq_true hlate)]
  refine congrArg (t.each (t.verifySet b)) (funext fun v => funext fun c => ?_)
  unfold State.stageMissed
  cases v.flights[c].stage sl.num with
  | none => rfl
  | some x => simp only [State.when, beq_iff_eq]

theorem State.groupDone_complete {t : State} {b : Br} {sl : Slot}
    (h : ∀ c ∈ t.verifySet b, t.groupOpen c sl.num = false ∧ (t.measured c sl.num).missing = false) :
    t.groupDone b sl = t.verify b sl.num := by
  have hclosed : ((t.verifySet b).any fun c => t.groupOpen c sl.num) = false :=
    List.any_eq_false.mpr fun c hc => by rw [(h c hc).1]; exact Bool.false_ne_true
  have hthere : ((t.verifySet b).any fun c => (t.measured c sl.num).missing) = false :=
    List.any_eq_false.mpr fun c hc => by rw [(h c hc).2]; exact Bool.false_ne_true
  rw [State.groupDone, hclosed, if_neg Bool.false_ne_true, hthere, if_neg Bool.false_ne_true]

/-- Settles O27: each event of the Flight in each of the branches that the statement names. -/
theorem flightEvents : Obligations.FlightEvents := by
  unfold Obligations.FlightEvents
  refine ⟨?boundary, ?refresh, ?commit, ?commitNext, ?carry, ?compute, ?computeNext, ?group, ?direct, ?missing, ?missed,
    ?stopEnd⟩
  case boundary =>
    rintro s t u dt b rfl rfl
    refine ⟨fun hrun => congrArg _ (if_pos hrun), fun hstopped => congrArg _ (if_neg ?_)⟩
    rw [hstopped]
    exact Bool.false_ne_true
  case refresh =>
    rintro s t dt b rfl
    refine ⟨fun hrun => congrArg _ (if_pos hrun), fun hreset => congrArg _ (if_neg ?_)⟩
    rw [hreset]
    exact Bool.false_ne_true
  case commit =>
    rintro s t dt b rfl
    rfl
  case commitNext =>
    intro v c sl hnext
    refine ⟨fun hdue => ?_, fun hearly => ?_⟩
    · simp only [State.commitDue, hnext, hdue, if_true]
    · simp only [State.commitDue, hnext, Int.not_le.mpr hearly, if_false]
  case carry =>
    intro v c n hnone hstart hen hdue
    simp only [State.commitDue, hnone, hstart, hen, hdue, decide_true, Bool.and_self, if_true]
  case compute =>
    rintro s t dt b rfl
    rfl
  case computeNext =>
    intro v c sl hnext
    refine ⟨fun hearly hver => ?_, fun hdue => ?_⟩
    · simp only [State.computeStage, hnext, decide_eq_false (Nat.not_le.mpr hver),
        decide_eq_false (Int.not_le.mpr hearly), Bool.and_false, Bool.or_self, Bool.false_eq_true, if_false]
    · simp only [State.computeStage, hnext, hdue, decide_true, Bool.or_true, if_true]
  case group =>
    rintro s t dt b sl rfl hrun hreal hstage
    have hdone : exec (.groupVerify dt b) s = .next ((s.tick dt).groupDone b sl) := by
      show execGroupVerify dt b s = _
      simp only [execGroupVerify, hrun, hreal, Bool.not_false, Bool.and_self, if_true, hstage]
    refine ⟨fun hall => ?_, fun hopen => ?_, fun hclosed hmissing hlate => ?_⟩
    · rw [hdone, State.groupDone_complete hall]
    · rw [hdone, State.groupDone_open hopen]
    · exact hdone.trans (congrArg _ (State.groupDone_missing hclosed hmissing hlate))
  case direct =>
    rintro s t dt n b rfl hidle rfl
    refine ⟨fun harmed hthere hclosed => ?_, fun hunarmed => ?_⟩
    all_goals show execGroupVerify dt b s = _
    · simp only [execGroupVerify, hidle, harmed, hthere, hclosed, Bool.or_self, Bool.false_eq_true, if_false, if_true]
    · simp only [execGroupVerify, hidle, hunarmed, Bool.false_eq_true, if_false]
  case missing =>
    rintro s t dt b sl rfl hrun hreal hstage
    refine ⟨fun hlate => ?_, fun hearly => ?_⟩
    all_goals show execGroupMissing dt b s = _
    · have hlate : sl.start + sl.dur + usCounts ≤ (s.tick dt).dt := hlate
      simp only [execGroupMissing, hrun, hreal, Bool.not_false, Bool.and_self, if_true, hstage, hlate]
    · have hearly : (s.tick dt).dt < sl.start + sl.dur + usCounts := hearly
      simp only [execGroupMissing, hrun, hreal, Bool.not_false, Bool.and_self, if_true, hstage,
        Nat.not_le.mpr hearly, if_false]
  case missed =>
    rintro t u b sl rfl
    rfl
  case stopEnd =>
    rintro s t dt b rfl
    refine ⟨fun hending hnone => ?_, fun hgoes => congrArg _ (if_neg ?_)⟩
    · show execFlightStopEnd dt b s = _
      simp only [execFlightStopEnd, hending, hnone, Bool.not_false, Bool.and_self, if_true, State.flightStopped]
    · rw [Bool.and_eq_true, Bool.not_eq_true']
      rintro ⟨hending, hnone⟩
      rcases hgoes with h | h
      · exact Bool.noConfusion (hending.symm.trans h)
      · exact Bool.noConfusion (hnone.symm.trans h)

/-! ## Modulation (R212, R219 to R223) -/

/-- Settles O28: each event of the modulation under its mode and at its time, and outside them. -/
theorem modulationEvents : Obligations.ModulationEvents := by
  unfold Obligations.ModulationEvents
  refine ⟨?sent, ?held, ?load, ?noLoad, ?period, ?noPeriod⟩
  case sent =>
    rintro s t dt k rfl hgoes
    refine congrArg _ (if_neg ?_)
    rcases hgoes with h | h <;> simp [h]
  case held =>
    rintro s t dt k rfl hdirect hunarmed
    show execEdgeSend dt k s = _
    simp only [execEdgeSend, hdirect, hunarmed, Bool.not_false, Bool.and_self, if_true]
  case load =>
    rintro s t u dt b rfl hdirect hdue rfl
    show execModLoadPoint dt b s = _
    simp only [execModLoadPoint, hdirect, hdue, decide_true, Bool.and_self, if_true]
  case noLoad =>
    rintro s t dt b rfl hnot
    refine congrArg _ (if_neg ?_)
    rcases hnot with h | h <;> simp [h]
  case period =>
    rintro s t u v w dt b rfl hdirect hdue rfl rfl rfl
    show execDirectPeriodBoundary dt b s = _
    simp only [execDirectPeriodBoundary, hdirect, hdue, decide_true, Bool.and_self, if_true]
  case noPeriod =>
    rintro s t dt b rfl hnot
    refine congrArg _ (if_neg ?_)
    rw [Bool.and_eq_true, decide_eq_true_iff]
    rintro ⟨hdirect, hdue⟩
    rcases hnot with h | h
    · exact Bool.noConfusion (hdirect.symm.trans h)
    · exact absurd hdue (Nat.not_le.mpr h)

/-! ## Position (R86, R132 to R151) -/

/-- Settles O29: each event of a port in the modes it belongs to. -/
theorem positionEvents : Obligations.PositionEvents := by
  unfold Obligations.PositionEvents
  refine ⟨?edge, ?zero, ?begin, ?sample, ?stale, ?resolver, ?sincos, ?mark, ?filterOn, ?filterOff, ?redundant, ?aligned⟩
  case edge =>
    rintro s t dt p a bb c an bn cn old rfl rfl hon
    refine ⟨fun hmode => ?_, fun hmode => ?_, fun hmode => ?_⟩
    all_goals
      show execPosEdge dt p ⟨a, an⟩ ⟨bb, bn⟩ ⟨c, cn⟩ s = _
      simp only [execPosEdge, State.portEdge, hon, hmode, if_true]
  case zero =>
    rintro s t u dt p rfl hon hmode hq hlate rfl
    have hcond : 2 ≤ (s.tick dt).portMode p ∧ (s.tick dt).ports[p].q ≠ 2 ∧ (s.tick dt).ports[p].lastT +
        (s.tick dt).rd F.PORT_LIMITS_ZERO_TIMEOUT p * msCounts ≤ (s.tick dt).dt := ⟨hmode, hq, hlate⟩
    show execPosZeroTimeout dt p s = _
    simp only [execPosZeroTimeout, hon, decide_eq_true hcond, Bool.and_self, if_true]
  case begin =>
    rintro s t dt p rfl hon hmode
    show execPosSamplePeriod dt p s = _
    simp only [execPosSamplePeriod, hon, hmode, decide_true, Bool.and_self, if_true]
  case sample =>
    rintro s t dt p w rfl hon
    refine ⟨fun hmode => ?_, fun hmode => ?_, fun hmode => ?_⟩
    all_goals
      show execPosSample dt p w s = _
      simp only [execPosSample, hon, hmode, if_true]
  case stale =>
    rintro s t dt p rfl hon hmode hlate
    have hcond : 4 ≤ (s.tick dt).portMode p ∧ (s.tick dt).ports[p].lastSampleAt +
        2 * 40 * (s.tick dt).rd F.PORT_FRAME_PERIOD p ≤ (s.tick dt).now := ⟨hmode, hlate⟩
    show execPosStale dt p s = _
    simp only [execPosStale, hon, decide_eq_true hcond, Bool.and_self, if_true]
  case resolver =>
    rintro s t dt p s1 c1 s2 c2 rfl hon hassigned hmode hnew
    show execPosResolverSample dt p ⟨s1, s2⟩ ⟨c1, c2⟩ s = _
    simp only [execPosResolverSample, hon, hassigned, hmode, hnew, beq_self_eq_true, decide_true, Bool.and_self,
      if_true]
  case sincos =>
    rintro s t dt p sn cs rfl hon hassigned hmode
    show execPosSincosSample dt p sn cs s = _
    simp only [execPosSincosSample, hon, hassigned, hmode, beq_self_eq_true, Bool.and_self, if_true]
  case mark =>
    rintro s t dt p rfl hon hmode
    refine congrArg _ (if_pos ?_)
    rcases hmode with h | h <;> simp [hon, h]
  case filterOn =>
    rintro s t dt p f rfl hf hpresent
    show execPosFaultFilter dt p f true s = _
    simp only [execPosFaultFilter, hf, hpresent, if_true]
  case filterOff =>
    rintro s t dt p f rfl hf
    show execPosFaultFilter dt p f false s = _
    simp only [execPosFaultFilter, hf, if_true, Bool.false_eq_true, if_false]
  case redundant =>
    rintro s t u v w dt n b rfl hdiff hlate rfl rfl rfl
    have hlate : n + (s.tick dt).parN (P.pos_redund_time b.val) * usCounts ≤ (s.tick dt).now := hlate
    show execPosRedundTimeout dt b s = _
    simp only [execPosRedundTimeout, hdiff, hlate, if_true, Bool.or_eq_true, beq_iff_eq]
  case aligned =>
    rintro s t dt b offset i rfl halign hport
    show execPosAlignDone dt b offset s = _
    simp only [execPosAlignDone, halign, hport, if_true]

/-! ## Conversions (R230 to R251, R375 to R377) -/

theorem State.convResult_good {t : State} {i : ConvIx} {r : ConvRes} {j : Job}
    (hj : (t.convs[i].busy.find? fun j => j.entry == r.entry) = some j) (hok : r.crcOk = true) :
    t.convResult i r = (t.upHeard i).convStore i j r.codes := by
  simp only [State.convResult, hj, hok, if_true]

theorem State.convResult_bad {t : State} {i : ConvIx} {r : ConvRes} {j : Job} {k : LaneIx}
    (hj : (t.convs[i].busy.find? fun j => j.entry == r.entry) = some j) (hbad : r.crcOk = false) (hk : i.val = k.val) :
    t.convResult i r = (t.convFinish i j).evt (E.LINK_CRC k) := by
  have hlane : i.val < 12 := hk ▸ k.isLt
  have hsame : (⟨i.val, hlane⟩ : LaneIx) = k := Fin.ext hk
  simp only [State.convResult, hj, hbad, Bool.false_eq_true, if_false, hlane, dif_pos, hsame]

/-- Settles O30: each start, conversion, result and round in each of the branches that the statement names. -/
theorem conversionEvents : Obligations.ConversionEvents := by
  unfold Obligations.ConversionEvents
  refine ⟨?sequence, ?sample, ?due, ?result, ?awaited, ?unawaited, ?resultIllFormed, ?vdc, ?monitor, ?housekeeping,
    ?roundIllFormed⟩
  case sequence =>
    rintro s t u dt i rfl hon (⟨b, v, hev, rfl⟩ | ⟨hev, hfree, rfl⟩)
    all_goals show execConvSequenceStart dt i s = _
    · simp only [execConvSequenceStart, hon, hev, Option.isSome_some, Bool.or_true, Bool.and_self, if_true]
    · have hgo : ((s.tick dt).byClock i || decide (i.val < 12)) = true := by
        rw [Bool.or_eq_true, decide_eq_true_iff]
        exact hfree
      simp only [execConvSequenceStart, hon, hev, hgo, Bool.true_or, Bool.and_self, if_true]
  case sample =>
    rintro s t dt i e rfl hon
    refine ⟨fun b v hev => ?_, fun hev hclock => ?_, fun hev hplaced => ?_⟩
    all_goals show execConvSample dt i e s = _
    · simp only [execConvSample, hon, hev, if_true]
    · simp only [execConvSample, hon, hev, hclock, if_true]
    · simp only [execConvSample, hon, hev, hplaced, if_true, Bool.false_eq_true, if_false]
  case due =>
    rintro t i j l rfl
    refine ⟨fun hfree => ?_, fun hheld hprio => ?_, fun hlost hprio => ?_, fun hheld hnone hprio => ?_⟩
    · simp only [State.convDue, hfree, List.isEmpty_nil, if_true]
    · simp only [State.convDue, List.isEmpty_eq_false_iff.mpr hheld, hprio, Bool.not_false, Bool.false_eq_true,
        if_false,
        if_true]
    · have hheld := List.ne_nil_of_mem hlost.choose_spec.1
      have hany := List.any_eq_true.mpr hlost
      simp only [State.convDue, List.isEmpty_eq_false_iff.mpr hheld, hprio, hany, Bool.not_true, Bool.false_eq_true,
        if_false, if_true]
    · have hany := List.any_eq_false.mpr fun x hx => Bool.not_eq_true _ ▸ hnone x hx
      simp only [State.convDue, List.isEmpty_eq_false_iff.mpr hheld, hprio, hany, Bool.not_true, Bool.false_eq_true,
        if_false]
  case result =>
    rintro s t dt i r hwf rfl hon
    show execConvResult dt i r s = _
    cases hbr : convBr i with
    | none => simp only [execConvResult, hwf, hon, hbr, Bool.not_true, Bool.false_eq_true, if_false, if_true]
    | some x => simp only [execConvResult, hwf, hon, hbr, Bool.not_true, Bool.false_eq_true, if_false, if_true]
  case awaited =>
    intro t i r j hj
    exact ⟨State.convResult_good hj, fun k => State.convResult_bad hj⟩
  case unawaited =>
    intro t i r hnone
    simp only [State.convResult, hnone]
  case resultIllFormed =>
    intro s dt i r hwf
    exact if_pos (by rw [hwf]; rfl)
  case vdc =>
    rintro s t dt b cu cv cw rfl
    refine ⟨fun hstopped => ?_, fun hrun => ?_⟩
    all_goals show execVdcConversion dt ⟨b, cu, cv, cw⟩ s = _
    · simp only [execVdcConversion, hstopped, Bool.false_eq_true, if_false, Bool.and_eq_true, decide_eq_true_eq]
    · simp only [execVdcConversion, hrun, if_true]
  case monitor =>
    rintro s t u v w dt b iu iv iw l rfl hon hgood rfl hfrom rfl rfl
    show execMonitorRound dt b iu iv iw s = _
    obtain ⟨hclock, rfl⟩ | ⟨x, hplaced, hev, rfl⟩ := hfrom
    · have hdue : (s.tick dt).monitorDue b = some none := by
        rw [State.monitorDue, hclock, if_neg Bool.false_ne_true]
      simp only [execMonitorRound, hon, hgood, decide_true, Bool.and_self, if_true, hdue]
    · have hdue : (s.tick dt).monitorDue b = some (some x.2) := by
        rw [State.monitorDue, hplaced, if_pos rfl, hev, Option.map_some]
      simp only [execMonitorRound, hon, hgood, decide_true, Bool.and_self, if_true, hdue]
  case housekeeping =>
    rintro s t u v w dt hk hwf rfl hrun rfl rfl rfl
    show execHousekeepingRound dt hk s = _
    simp only [execHousekeepingRound, hwf, hrun, Bool.not_true, Bool.false_eq_true, if_false, if_true]
  case roundIllFormed =>
    intro s dt hk hwf
    exact if_pos (by rw [hwf]; rfl)

end Sys2Proof.Machine
end

section
/-! PROOFS. The lane links, the protection of the lanes, their edges and captures. -/

namespace Sys2Proof.Machine

/-! ## Downlink (R31 to R35, R258 to R263) -/

theorem State.laneRx_bad {t : State} {k : LaneIx} {f : DownFrame} (hhears : t.laneHears k = true)
    (hbad : downOk f = false) : t.laneRx k f = t.evt (E.LINK_CRC k) := by
  simp only [State.laneRx, hhears, hbad, Bool.false_eq_true, if_false, if_true]

theorem State.sendSlot_edges {t : State} {k : LaneIx} {f : DownFrame} {es : List (Edge × Nat × Bool)}
    (hrun : t.links[k].stopped = false) (hedges : t.links[k].edges ≠ []) (hes : frameEdges t.links[k].edges = es)
    (hf : t.downFrame k 1 (es.any fun e => e.2.2) (edgePayload es) = f) :
    t.sendSlot k = t.upLink k fun l => { l.sentFrame f with edges := l.edges.drop es.length } := by
  subst hf hes
  simp only [State.sendSlot, hrun, List.isEmpty_eq_false_iff.mpr hedges, Bool.not_false, Bool.false_eq_true, if_false,
    if_true]

theorem State.sendSlot_mark {t : State} {k : LaneIx} (hrun : t.links[k].stopped = false)
    (hnone : t.links[k].edges = []) (hlate : 15 ≤ t.links[k].sinceMark) : t.sendSlot k = t.sendMark k := by
  simp only [State.sendSlot, hrun, hnone, hlate, List.isEmpty_nil, Bool.not_true, Bool.false_eq_true, if_false, if_true]

theorem State.sendSlot_write {t : State} {k : LaneIx} {f : DownFrame} {off : Nat} {w : Word} {ws : List (Nat × Word)}
    (hrun : t.links[k].stopped = false) (hnone : t.links[k].edges = []) (hsoon : t.links[k].sinceMark < 15)
    (hwrites : t.links[k].writes = (off, w) :: ws) (hfree : t.links[k].sentAt = none)
    (hf : t.downFrame k 2 false (off + w.toNat * 2 ^ 8 + b2n t.links[k].toggle * 2 ^ 48) = f) :
    t.sendSlot k = t.upLink k fun l => { l.sentFrame f with sentAt := some t.now } := by
  subst hf
  simp only [State.sendSlot, hrun, hnone, Nat.not_le.mpr hsoon, hwrites, hfree, List.isEmpty_nil, Bool.not_true,
    Bool.false_eq_true, if_false]

theorem State.sendSlot_idle {t : State} {k : LaneIx} (hrun : t.links[k].stopped = false)
    (hnone : t.links[k].edges = []) (hidle : t.links[k].writes = [] ∨ t.links[k].sentAt.isSome = true) :
    t.sendSlot k = t.sendMark k := by
  obtain hlate | hsoon := (Nat.lt_or_ge t.links[k].sinceMark 15).symm
  · exact State.sendSlot_mark hrun hnone hlate
  · obtain hempty | hsent := hidle
    · simp only [State.sendSlot, hrun, hnone, Nat.not_le.mpr hsoon, hempty, List.isEmpty_nil, Bool.not_true,
        Bool.false_eq_true, if_false]
    · obtain ⟨n, hn⟩ := Option.isSome_iff_exists.mp hsent
      cases hw : t.links[k].writes <;>
        simp only [State.sendSlot, hrun, hnone, Nat.not_le.mpr hsoon, hn, hw, List.isEmpty_nil, Bool.not_true,
          Bool.false_eq_true, if_false]

/-- Settles O31: a slot by what waits at the link, a frame by its kind. -/
theorem downlinkFrames : Obligations.DownlinkFrames := by
  unfold Obligations.DownlinkFrames
  refine ⟨?slot, ?send, ?stopped, ?mark, ?step, ?edges, ?write, ?retry, ?noRetry⟩
  case slot =>
    rintro s t dt rfl
    refine ⟨fun hrun => ?_, fun hstopped => ?_⟩
    all_goals show execDownlinkSlot dt s = _
    · simp only [execDownlinkSlot, hrun, if_true]
    · simp only [execDownlinkSlot, hstopped, Bool.false_eq_true, if_false]
  case send =>
    intro t k f hrun
    refine ⟨fun es hedges hes hf => ?_, State.sendSlot_mark hrun, fun off w ws hnone hsoon hwrites hfree hf => ?_,
      State.sendSlot_idle hrun⟩
    · exact State.sendSlot_edges hrun hedges hes hf
    · exact State.sendSlot_write hrun hnone hsoon hwrites hfree hf
  case stopped =>
    intro t k hstopped
    exact if_pos hstopped
  case mark =>
    rintro s t dt k f rfl hhears hok hkind hflag
    refine congrArg (fun v : State => (.next v : Out)) ?_
    simp only [State.laneRx, hhears, hok, hkind, hflag, Bool.false_eq_true, if_false, if_true]
  case step =>
    rintro s t dt k f rfl hhears hok hkind hflag
    refine congrArg (fun v : State => (.next v : Out)) ?_
    simp only [State.laneRx, hhears, hok, hkind, hflag, if_true]
  case edges =>
    rintro s t dt k f rfl hhears hok hkind
    refine congrArg (fun v : State => (.next v : Out)) ?_
    simp only [State.laneRx, hhears, hok, hkind, Nat.one_ne_zero, if_false, if_true]
  case write =>
    rintro s t dt k f rfl hhears hok hkind
    refine congrArg (fun v : State => (.next v : Out)) ?_
    simp only [State.laneRx, hhears, hok, hkind, Nat.reduceEqDiff, if_false, if_true]
  case retry =>
    rintro s t dt n k rfl hsent
    refine ⟨fun hlate => ?_, fun hsoon => ?_⟩
    all_goals show execLaneWriteRetry dt k s = _
    · simp only [execLaneWriteRetry, hsent, hlate, if_true]
    · simp only [execLaneWriteRetry, hsent, Nat.not_le.mpr hsoon, if_false]
  case noRetry =>
    rintro s t dt k rfl hnone
    show execLaneWriteRetry dt k s = _
    simp only [execLaneWriteRetry, hnone]

/-- Settles O32: the four rows are one reception, whose check comes first. -/
theorem downlinkCrcError : Obligations.DownlinkCrcError := by
  unfold Obligations.DownlinkCrcError
  rintro s t dt k f rfl hhears hbad
  have hrx : (.next ((s.tick dt).laneRx k f) : Out) = .next ((s.tick dt).evt (E.LINK_CRC k)) :=
    congrArg _ (State.laneRx_bad hhears hbad)
  exact ⟨hrx, hrx, hrx, hrx⟩

/-! ## Uplink and relay (R257 to R261, R271, R272) -/

/-- What the relay does about the lanes that tripped within the window (R272): a partner is a shoot-through, a lane
of another leg a second leg that is out. -/
def State.relayNear (u : State) (k : LaneIx) (n : Nat) (partner other : Option (LaneIx × Nat)) : State :=
  let v := match partner with
    | some x => u.shootThrough k n x.2
    | none => u
  match other with
  | some x => v.legPair k x.1
  | none => v

theorem State.tripRelay_first {t u : State} {k : LaneIx} {n w : Nat} {near : List (LaneIx × Nat)}
    (hout : t.lanes[k].st.isOut = true) (hn : t.lanes[k].tripAt = n) (hnew : t.trips.contains (k, n) = false)
    (hw : t.parN (P.lane_pair_window (laneBr k).val) * usCounts = w)
    (hnear : (t.trips.filter fun x => laneBr x.1 == laneBr k && decide (x.2 ≤ n + w ∧ n ≤ x.2 + w)) = near)
    (hu : { t with trips := (k, n) :: t.trips.filter fun x => x.1 != k }.urgent (lanePartner k) .legLock = u) :
    t.tripRelay k = u.relayNear k n (near.find? fun y => y.1 == lanePartner k)
      (near.find? fun y => y.1.val / 2 != k.val / 2) := by
  subst hu hnear hw hn
  simp only [State.tripRelay, hout, hnew, Bool.not_false, Bool.and_self, if_true]
  rfl

/-- Settles O33: a status frame by its check and its lane's state, a `TRIP` by the lanes that tripped near it. -/
theorem uplinkAndRelay : Obligations.UplinkAndRelay := by
  unfold Obligations.UplinkAndRelay
  refine ⟨?status, ?unlinked, ?badStatus, ?lost, ?trip, ?tripHandled, ?ov3⟩
  case status =>
    rintro s t u v w dt k rd two three rfl hlinked rfl rfl rfl rfl rfl
    show execLaneStatusFrame dt k rd true s = _
    simp only [execLaneStatusFrame, hlinked, Bool.not_true, Bool.false_eq_true, if_false]
    rfl
  case unlinked =>
    rintro s t dt k rd rfl hunlinked
    show execLaneStatusFrame dt k rd true s = _
    simp only [execLaneStatusFrame, hunlinked, Bool.not_true, Bool.false_eq_true, if_false, if_true]
  case badStatus =>
    intro s dt k rd
    rfl
  case lost =>
    rintro s t dt k rfl
    refine ⟨fun htrained hnew hlate => ?_, fun hnot => ?_⟩
    all_goals show execLaneUplinkLoss dt k s = _
    · have hlate : (s.tick dt).links[k].upAt + 2 * usCounts ≤ (s.tick dt).now := hlate
      simp only [execLaneUplinkLoss, htrained, hnew, hlate, Bool.not_false, decide_true, Bool.and_self, if_true]
    · refine congrArg _ (if_neg ?_)
      rw [Bool.and_eq_true, Bool.and_eq_true, Bool.not_eq_true', decide_eq_true_iff]
      rintro ⟨⟨htrained, hnew⟩, hlate⟩
      rcases hnot with h | h | h
      · exact Bool.noConfusion (htrained.symm.trans h)
      · exact Bool.noConfusion (hnew.symm.trans h)
      · exact absurd hlate (Nat.not_le.mpr h)
  case trip =>
    intro s t u dt n w k near ht hout hn hnew hw hnear hu
    have hexec : exec (.tripSymbol dt k) s = .next (u.relayNear k n (near.find? fun y => y.1 == lanePartner k)
        (near.find? fun y => y.1.val / 2 != k.val / 2)) := by
      rw [← State.tripRelay_first hout hn hnew hw hnear hu, ← ht]
      rfl
    refine ⟨fun hnone => ?_, fun x hx hno => ?_, fun x hno hx => ?_, fun x y hx hy => ?_⟩
    · rw [hexec, hnone, List.find?_nil, List.find?_nil]
      rfl
    · rw [hexec, hx, hno]
      rfl
    · rw [hexec, hx, hno]
      rfl
    · rw [hexec, hx, hy]
      rfl
  case tripHandled =>
    rintro s t dt k rfl hnot
    refine congrArg _ (if_neg ?_)
    rw [Bool.and_eq_true, Bool.not_eq_true']
    rintro ⟨hout, hnew⟩
    rcases hnot with h | h
    · exact Bool.noConfusion (hout.symm.trans h)
    · exact Bool.noConfusion (hnew.symm.trans h)
  case ov3 =>
    rintro s t dt k rfl
    refine ⟨fun hlow hov3 => ?_, fun hnot => congrArg _ (if_neg ?_)⟩
    · show execOv3Symbol dt k s = _
      simp only [execOv3Symbol, hlow, hov3, Bool.and_self, if_true]
    · rw [Bool.and_eq_true]
      rintro ⟨hlow, hov3⟩
      rcases hnot with h | h
      · exact Bool.noConfusion (hlow.symm.trans h)
      · exact Bool.noConfusion (hov3.symm.trans h)

/-! ## Link of a lane (R256 to R260, R272, R274, R432) -/

theorem State.upLane_half {t : State} {k : LaneIx} {f : Lane → Lane} {h : Int} (hf : (f t.lanes[k]).half = h) :
    (t.upLane k f).lanes[k].half = h := by
  rw [← hf, State.upLane_lanes, vupd_self]

/-- Settles O34: each event of a lane's link, the training by what the lane was. -/
theorem laneLinkEvents : Obligations.LaneLinkEvents := by
  unfold Obligations.LaneLinkEvents
  refine ⟨?heartbeat, ?trainNew, ?trainAgain, ?powerUp, fun s dt k => ⟨rfl, rfl, rfl, rfl⟩⟩
  case heartbeat =>
    rintro s t u dt k rfl htrained hlate rfl
    have hlate : (s.tick dt).lanes[k].lastFrameAt + laneBeat ≤ (s.tick dt).now := hlate
    show execLaneHeartbeatLoss dt k s = _
    simp only [execLaneHeartbeatLoss, htrained, hlate, decide_true, Bool.and_self, if_true]
  case trainNew =>
    rintro s t u v dt rt k rfl hgood hnew hsent rfl rfl
    show execLaneTrained dt k rt s = _
    simp only [execLaneTrained, hgood, hnew, hsent, Bool.false_eq_true, if_false, if_true, beq_self_eq_true,
      Bool.not_true, Bool.and_false]
    rw [State.upLane_half rfl]
  case trainAgain =>
    rintro s t u v w dt rt k rfl hgood hold hnone rfl rfl rfl
    show execLaneTrained dt k rt s = _
    simp only [execLaneTrained, hgood, beq_eq_false_iff_ne.mpr hold, hnone, Option.isSome_none, Bool.false_eq_true,
      if_false, Bool.not_false, Bool.and_true]
    rw [State.upLane_half rfl]
  case powerUp =>
    rintro s t dt k rfl
    refine ⟨?_, ?_⟩
    · show execLanePowerUp dt k true s = _
      simp only [execLanePowerUp, if_true, Bool.not_true]
    · show execLanePowerUp dt k false s = _
      simp only [execLanePowerUp, Bool.false_eq_true, if_false, Bool.not_false]

/-! ## Protection (R264 to R274) -/

theorem State.didtFires_iff {t : State} {k : LaneIx} {r : ShortReading} :
    t.didtFires k r = true ↔ (t.own k F.LANE_DIDT_TRIP : Int) < r.didt ∧
      100 + 25 * t.own k F.LANE_DIDT_FILT_FILTER ≤ r.held ∧ 100 + 25 * t.own k F.LANE_DIDT_FILT_FILTER ≤
        25 * (t.dt - t.lanes[k].gateAt) - (300 + 25 * t.own k F.LANE_DIDT_MASK) := by
  rw [State.didtFires, decide_eq_true_iff, Nat.le_min, State.onFor]

theorem State.integFires_iff {t : State} {k : LaneIx} {r : ShortReading} :
    t.integFires k r = true ↔
      t.lanes[k].gate = true ∧ t.lanes[k].st = .armed ∧ t.own k F.LANE_INTEG_TRIP < r.amps.natAbs := by
  rw [State.integFires, Bool.and_eq_true, Bool.and_eq_true, beq_iff_eq, decide_eq_true_iff, and_assoc]

theorem State.desatFires_iff {t : State} {k : LaneIx} {mv : Int} {held : Nat} :
    t.desatFires k mv held = true ↔ t.lanes[k].gate = true ∧ (t.own k F.LANE_DESAT_VOLT : Int) < mv ∧ 1000 ≤ held ∧
      1000 ≤ 25 * (t.dt - t.lanes[k].gateAt) - 10 * t.own k F.LANE_DESAT_BLANK := by
  rw [State.desatFires, Bool.and_eq_true, decide_eq_true_iff, Nat.le_min, State.onFor]

/-- Settles O35: each protection of a lane beyond its threshold and below it. -/
theorem laneProtection : Obligations.LaneProtection := by
  unfold Obligations.LaneProtection
  refine ⟨?short, ?desat, ?vddl, ?veel, ?warn, ?supply, ?ov3, ?retry, ?ascWait⟩
  case short =>
    rintro s t dt n k r rfl rfl
    refine ⟨fun hfast hheld hmask => ?_, fun hslow hgate harmed hbig => ?_, fun hslow hsmall => ?_⟩
    all_goals show execLaneShortCircuit dt k r s = _
    · have hfires : (s.tick dt).didtFires k r = true :=
        State.didtFires_iff.mpr ⟨hfast, hheld, Nat.le_sub_of_add_le hmask⟩
      simp only [execLaneShortCircuit, hfires, if_true]
    · have hquiet : ¬ (s.tick dt).didtFires k r = true := by
        rw [State.didtFires_iff]
        rintro ⟨hfast, hheld, -⟩
        rcases hslow with h | h
        · exact absurd hfast (Int.not_lt.mpr h)
        · exact absurd hheld (Nat.not_le.mpr h)
      simp only [execLaneShortCircuit, if_neg hquiet, State.integFires_iff.mpr ⟨hgate, harmed, hbig⟩, if_true]
    · have hquiet : ¬ (s.tick dt).didtFires k r = true := by
        rw [State.didtFires_iff]
        exact fun h => absurd h.1 (Int.not_lt.mpr hslow)
      have hbelow : ¬ (s.tick dt).integFires k r = true := by
        rw [State.integFires_iff]
        rintro ⟨-, harmed, hbig⟩
        rcases hsmall with h | h
        · exact h harmed
        · exact absurd hbig (Nat.not_lt.mpr h)
      simp only [execLaneShortCircuit, if_neg hquiet, if_neg hbelow]
  case desat =>
    rintro s t dt held k mv rfl
    refine ⟨fun hgate hhigh hheld hblank => congrArg _ (if_pos ?_), fun hnot => congrArg _ (if_neg ?_)⟩
    · exact State.desatFires_iff.mpr ⟨hgate, hhigh, hheld, Nat.le_sub_of_add_le hblank⟩
    · rw [State.desatFires_iff]
      rintro ⟨hgate, hhigh, hheld, -⟩
      rcases hnot with h | h | h
      · exact Bool.noConfusion (hgate.symm.trans h)
      · exact absurd hhigh (Int.not_lt.mpr h)
      · exact absurd hheld (Nat.not_le.mpr h)
  case vddl =>
    rintro s t dt k mv rfl hlow
    exact congrArg _ (if_pos hlow)
  case veel =>
    rintro s t dt k mv rfl hset hhigh
    exact congrArg _ (if_pos ⟨hset, hhigh⟩)
  case warn =>
    rintro s t u dt k mv rfl hlow hlinked rfl
    exact congrArg _ (if_pos ⟨hlow, hlinked⟩)
  case supply =>
    rintro s t dt k mv hvs rfl hlow
    refine ⟨fun hside hhvs hlinked => ?_, fun hnot => ?_⟩
    all_goals show execLaneSupplyLoss dt k mv hvs s = _
    · simp only [execLaneSupplyLoss, if_pos hlow, if_pos (And.intro hside (And.intro hhvs hlinked))]
    · have hoff : ∀ p : Prop, ¬ (laneLow k = true ∧ 45000 ≤ hvs ∧ p) := by
        rintro p ⟨hside, hhvs, -⟩
        rcases hnot with h | h
        · exact Bool.noConfusion (hside.symm.trans h)
        · exact absurd hhvs (Int.not_le.mpr h)
      simp only [execLaneSupplyLoss, if_pos hlow, if_neg (hoff _)]
  case ov3 =>
    rintro s t dt k mv rfl hlow hnew hlinked hhigh
    show execLaneOv3 dt k mv s = _
    simp only [execLaneOv3, hlow, hnew, bne_iff_ne.mpr hlinked, hhigh, Bool.not_false, decide_true, Bool.and_self,
      if_true]
  case retry =>
    rintro s t u dt k rfl htripped hover rfl
    have hcond : (s.tick dt).lanes[k].st = .tripped ∧
        (s.tick dt).lanes[k].retryAt + (s.tick dt).own k F.LANE_RETRY_WAIT * msCounts ≤ (s.tick dt).now :=
      ⟨htripped, hover⟩
    refine ⟨fun active hbad => ?_, fun hgood => ?_⟩
    all_goals show execLaneRetryWaitEnd dt k _ s = _
    · have hbad : (active || (s.tick dt).supplyBad k) = true := by
        rw [Bool.or_eq_true]
        exact hbad
      simp only [execLaneRetryWaitEnd, if_pos hcond, hbad, if_true]
    · simp only [execLaneRetryWaitEnd, if_pos hcond, hgood, Bool.or_self, Bool.false_eq_true, if_false]
  case ascWait =>
    rintro s t dt k rfl hwait hplan hlate
    have hlate : (s.tick dt).lanes[k].ascAt + 2 * usCounts < (s.tick dt).dt := hlate
    show execLaneAscWaitTimeout dt k s = _
    simp only [execLaneAscWaitTimeout, hwait, hplan, hlate, decide_true, Bool.and_self, if_true]

/-! ## Edges, auxiliary output, capture (R213, R263 to R267, R274 to R295) -/

/-- Settles O36: each event under its condition; the edge by the first that is due. -/
theorem laneEdgesAndCapture : Obligations.LaneEdgesAndCapture := by
  unfold Obligations.LaneEdgesAndCapture
  refine ⟨?edge, ?measured, ?mismatch, ?discharge, ?dischargeEnd, ?stop, ?copied⟩
  case edge =>
    rintro s t dt k env rfl
    refine ⟨fun e he => ?_, fun hnone => ?_⟩
    all_goals show execLaneEdgeExecute dt k env s = _
    · simp only [execLaneEdgeExecute, he]
    · simp only [execLaneEdgeExecute, hnone]
  case measured =>
    rintro s t dt k off ts rfl
    exact ⟨rfl, rfl⟩
  case mismatch =>
    rintro s t dt ns k level rfl hmode
    refine ⟨fun hdiff hlong => congrArg _ (if_pos ⟨hmode, hdiff, hlong⟩), fun hnot => congrArg _ (if_neg ?_)⟩
    rintro ⟨-, hdiff, hlong⟩
    rcases hnot with h | h
    · exact hdiff h
    · exact absurd hlong (Nat.not_lt.mpr h)
  case discharge =>
    rintro s t dt k mv rfl hmode hlate hhigh hfree hlinked
    exact congrArg _ (if_pos ⟨hmode, hlate, hhigh, hfree, hlinked⟩)
  case dischargeEnd =>
    rintro s t u dt k cause rfl hdis rfl
    show execLaneAutoDischargeEnd dt k cause s = _
    simp only [execLaneAutoDischargeEnd, hdis, if_true, Bool.and_eq_true, beq_iff_eq]
  case stop =>
    rintro s t dt k rfl hpost hfull
    exact congrArg _ (if_pos ⟨hpost, hfull⟩)
  case copied =>
    rintro s t dt k rfl hstopped
    exact congrArg _ (if_pos hstopped)

end Sys2Proof.Machine
end

section
/-! PROOFS. The events of the CAN controllers, of Ethernet, of the Towpath and of the service inputs. -/

namespace Sys2Proof.Machine

/-! ## CAN controllers (R384 to R393) -/

/-- The transmission of a message buffer ends outside the mode that also receives what it sends. -/
theorem State.canTxEnd_buffer {t : State} {c : Fin 4} {k : Nat} {e : CanTxEnd} (htx : t.cans[c].tx = some k)
    (hk : k < 64)
    (hmode : e = .ok → (t.canTxCount c k (some (t.mbFrame (mbI c k))) e).rd F.CAN_CTRL_MODE c ≠ 2) :
    t.canTxEnd c e = ((t.canTxCount c k (some (t.mbFrame (mbI c k))) e).canIdle c).canConf c := by
  have hown : t.txFrame c k = some (t.mbFrame (mbI c k)) := if_pos hk
  have hno : ¬ (e = .ok ∧ (t.canTxCount c k (some (t.mbFrame (mbI c k))) e).rd F.CAN_CTRL_MODE c = 2) :=
    fun h => hmode h.1 h.2
  simp only [State.canTxEnd, htx, hown, if_neg hno]

/-- Settles O37: each event of a controller under its condition. -/
theorem canEvents : Obligations.CanEvents := by
  unfold Obligations.CanEvents
  refine ⟨?received, ?selected, ?sent, ?failed, ?lost, ?busOff, ?recovered, ?integrated⟩
  case received =>
    rintro s t dt ago c f hwf rfl hon hmode haccepts hshort hmap
    show execCanRxFrame dt c ago f s = _
    simp only [execCanRxFrame, hwf, if_true, State.canReceive_toBuffers ⟨hon, hmode, haccepts, hshort⟩ _ hmap, State.dt]
  case selected =>
    rintro s t dt k c rfl hmay hchoice
    show execCanTxSelect dt c s = _
    simp only [execCanTxSelect, hmay, hchoice, if_true]
  case sent =>
    rintro s t u v dt k c rfl htx hk rfl rfl hmode
    have hcount : (s.tick dt).canTxCount c k (some ((s.tick dt).mbFrame (mbI c k))) .ok = _ := if_pos hk
    refine congrArg (fun v : State => (.next v : Out)) ((State.canTxEnd_buffer htx hk fun _ => ?_).trans ?_)
    · rw [hcount]
      exact hmode
    · rw [hcount]
  case failed =>
    rintro s t dt k n c rfl htx hk
    have hcount : (s.tick dt).canTxCount c k (some ((s.tick dt).mbFrame (mbI c k))) (.error n) = _ := if_pos hk
    refine congrArg (fun v : State => (.next v : Out)) ((State.canTxEnd_buffer htx hk CanTxEnd.noConfusion).trans ?_)
    rw [hcount]
  case lost =>
    rintro s t dt k c rfl htx hk
    have hcount : (s.tick dt).canTxCount c k (some ((s.tick dt).mbFrame (mbI c k))) .lostArbitration = _ := if_pos hk
    refine congrArg (fun v : State => (.next v : Out)) ((State.canTxEnd_buffer htx hk CanTxEnd.noConfusion).trans ?_)
    rw [hcount]
  case busOff =>
    rintro s t dt c rfl hover hon
    exact congrArg _ (if_pos ⟨hover, hon⟩)
  case recovered =>
    rintro s t u dt c rfl hrecovering rfl
    exact congrArg _ (if_pos hrecovering)
  case integrated =>
    rintro s t dt c rfl hintegrating hup
    exact congrArg _ (if_pos ⟨hintegrating, hup⟩)

/-! ## Ethernet and vehicle time (R344, R399 to R401, R409) -/

/-- A frame of admitted length to the device's own address raises its interrupt and is served by its type. -/
theorem State.ethIn_own {t u : State} {mac : Fin 2} {fr : EthFrame} {id : Option Nat} {type : Nat} {pl : List Byte}
    (hmin : 64 ≤ fr.bytes.length) (hmax : fr.bytes.length ≤ 1522)
    (hu : { t with net := { t.net with rxStamp := t.net.rxStamp.set mac (t.dtime.setWidth 32) } } = u)
    (hsec : (macsecRx (u.parBoot (P.eth_macsec mac)) fr.secTag fr.secValid).1 = true)
    (hsplit : ethSplit (fr.bytes.take (fr.bytes.length - 4)) = (id, type, pl)) (hvlan : u.vlanOk mac id = true)
    (hown : fr.bytes.take 6 = Config.macAddr mac) :
    t.ethIn mac fr = if type = 0x0806 then (u.irq (16 + mac.val)).arpIn mac pl
      else if type = 0x0800 then (u.irq (16 + mac.val)).ipIn mac (slice fr.bytes 6 6) pl
      else u.irq (16 + mac.val) := by
  subst hu
  simp only [State.ethIn, State.stamp, Nat.not_lt.mpr hmax, Nat.not_lt.mpr hmin, hsec, hsplit, hvlan, hown,
    beq_self_eq_true, Bool.not_true, Bool.false_eq_true, Bool.true_or, Bool.and_self, if_false, if_true]

/-- Settles O38: a frame by its length and type, each other event under its condition. -/
theorem ethernetEvents : Obligations.EthernetEvents := by
  unfold Obligations.EthernetEvents
  refine ⟨?long, ?arp, ?ip, ?sync, ?holdover, ?keys, ?down, ?up⟩
  case long =>
    rintro s t dt mac fr rfl hon hlong
    show execEthFrameRx dt mac fr s = _
    simp only [execEthFrameRx, hon, if_true, State.ethIn, hlong, State.stamp]
  case arp =>
    rintro s t u dt mac fr id pl rfl hon hmin hmax hu hsec hsplit hvlan hown
    show execEthFrameRx dt mac fr s = _
    simp only [execEthFrameRx, hon, if_true, State.ethIn_own hmin hmax hu hsec hsplit hvlan hown]
  case ip =>
    rintro s t u dt mac fr id pl rfl hon hmin hmax hu hsec hsplit hvlan hown
    show execEthFrameRx dt mac fr s = _
    simp only [execEthFrameRx, hon, if_true, State.ethIn_own hmin hmax hu hsec hsplit hvlan hown]
    rfl
  case sync =>
    rintro s t dt ns mac r rfl hon hmac
    show execGptpSync dt mac ns r s = _
    simp only [execGptpSync, hon, hmac, beq_self_eq_true, Bool.and_self, if_true, State.dt]
  case holdover =>
    rintro s t dt rfl hsync hover
    exact congrArg _ (if_pos ⟨hsync, hover⟩)
  case keys =>
    rintro s t dt mac rfl hrun
    exact congrArg _ (if_pos hrun)
  case down =>
    rintro s t dt mac rfl hon
    show execEthLinkChange dt mac false s = _
    simp only [execEthLinkChange, hon, if_true, Bool.false_eq_true, if_false]
  case up =>
    rintro s t u dt mac rfl hon rfl
    show execEthLinkChange dt mac true s = _
    simp only [execEthLinkChange, hon, if_true, Bool.or_eq_true, bne_iff_ne]

/-! ## Towpath (R402 to R408) -/

theorem State.towIn_good {t : State} {p : TowPort} {type : Nat} {fr : List Byte} {f : State → State}
    (hrun : t.running = true) (hon : t.towOn p = true) (htype : u8 fr 0 = type) (hadm : towAdmitted fr = true)
    (hcheck : towCheck fr = true) : t.towIn p type fr f = f t := by
  simp only [State.towIn, hrun, hon, htype, hadm, hcheck, beq_self_eq_true, Bool.and_self, if_true]

theorem State.towIn_bad {t : State} {p : TowPort} {type : Nat} {fr : List Byte} {f : State → State}
    (hrun : t.running = true) (hon : t.towOn p = true) (htype : u8 fr 0 = type) (hadm : towAdmitted fr = true)
    (hcheck : towCheck fr = false) : t.towIn p type fr f = t.evt E.TOW_CRC := by
  simp only [State.towIn, hrun, hon, htype, hadm, hcheck, beq_self_eq_true, Bool.and_self, if_true, Bool.false_eq_true,
    if_false]

/-- Settles O39: a frame by its check and its address, each other event under its condition. -/
theorem towpathEvents : Obligations.TowpathEvents := by
  unfold Obligations.TowpathEvents
  refine ⟨?training, ?mark, ?rootMark, ?angleSend, ?angle, ?share, ?silent, ?symbol, ?lost, ?bad⟩
  case training =>
    rintro s t dt up rfl hrun hen
    have hgo : ((s.tick dt).running && (s.tick dt).parBoot P.tow_enable == 1) = true := by
      rw [hrun, hen]
      rfl
    exact ⟨congrArg _ (if_pos hgo), congrArg _ (if_pos hgo)⟩
  case mark =>
    rintro s t dt fr rfl hrun hon htype hadm hcheck hlen
    refine congrArg (fun v : State => (.next v : Out)) ((State.towIn_good hrun hon htype hadm hcheck).trans ?_)
    exact if_pos hlen
  case rootMark =>
    rintro s t dt rfl hrun hen hroot hdown
    show execTowRootTimeMark dt s = _
    simp only [execTowRootTimeMark, hrun, hen, hroot, hdown, beq_self_eq_true, Bool.not_false, Bool.and_self, if_true]
  case angleSend =>
    rintro s t dt rfl hrun hen hnum
    show execTowAngleRefSend dt s = _
    simp only [execTowAngleRefSend, hrun, hen, hnum, beq_self_eq_true, Bool.and_self, if_true, Option.getD_some]
  case angle =>
    rintro s t u dt p fr rfl hrun hon htype hadm hcheck rfl hmine
    refine congrArg (fun v : State => (.next v : Out)) ((State.towIn_good hrun hon htype hadm hcheck).trans ?_)
    exact if_pos hmine
  case share =>
    rintro s t u dt p fr rfl hrun hon htype hadm hcheck rfl hmine hen hlen
    refine congrArg (fun v : State => (.next v : Out)) ((State.towIn_good hrun hon htype hadm hcheck).trans ?_)
    simp only [hmine, hen, hlen, beq_self_eq_true, Bool.and_self, if_true]
  case silent =>
    rintro s t u dt b c rfl rfl hen hdue hdrive rfl
    show execTowShareTimeout dt b s = _
    simp only [execTowShareTimeout, hen, State.spSilent, hdue, decide_true, and_self, if_true, State.spTimeout, hdrive,
      State.spHeard]
  case symbol =>
    rintro s t dt p rfl hrun hon
    exact congrArg _ (if_pos (Bool.and_eq_true_iff.mpr ⟨hrun, hon⟩))
  case lost =>
    rintro s t u dt rfl hup rfl
    exact congrArg _ (if_pos hup)
  case bad =>
    rintro s t dt fr rfl hrun hon htype hadm hcheck
    exact congrArg _ (State.towIn_bad hrun hon htype hadm hcheck)

/-! ## SENT, auxiliary SPI and the test port (R409 to R417) -/

theorem State.tapSelect_closed {s : State} {ir : TapIr} (hir : ir ≠ .idcode) (hdbg : s.trust.dbgOpen = false)
    (hscan : s.trust.scanOpen = false) : s.tapSelect ir = .bypass := by
  cases ir with
  | idcode => exact absurd rfl hir
  | bypass => rfl
  | extest | sample | other c => simp [State.tapSelect, hdbg, hscan]

theorem State.tapSelect_notStandby {s : State} {ir : TapIr} (hir : ir ≠ .idcode) (hother : ∀ c, ir ≠ .other c)
    (hidle : s.bothStandby = false) : s.tapSelect ir = .bypass := by
  cases ir with
  | idcode => exact absurd rfl hir
  | bypass => rfl
  | extest | sample => simp [State.tapSelect, hidle]
  | other c => exact absurd rfl (hother c)

theorem State.tapSelect_open {s : State} {ir : TapIr} (hopen : s.trust.dbgOpen = true ∨ s.trust.scanOpen = true)
    (hmay : (∃ c, ir = .other c) ∨ s.bothStandby = true) : s.tapSelect ir = ir := by
  have hopened : (s.trust.dbgOpen || s.trust.scanOpen) = true := Bool.or_eq_true_iff.mpr hopen
  obtain ⟨c, rfl⟩ | hidle := hmay
  · simp only [State.tapSelect, hopened, if_true]
  · cases ir <;> simp only [State.tapSelect, hopened, hidle, Bool.and_self, if_true]

/-- Settles O40: a frame or a transfer in a device that runs and in one that does not, an instruction by what is
open. -/
theorem serviceEvents : Obligations.ServiceEvents := by
  unfold Obligations.ServiceEvents
  refine ⟨?sent, ?sentIdle, ?sentIllFormed, ?spi, ?spiIdle, ?tap, ?tapClosed, ?tapBusy⟩
  case sent =>
    rintro s t u dt k fr bad hwf rfl hrun hbad rfl
    have hexec : exec (.sentFrame dt k fr) s = .next ((s.tick dt).sentIn k fr) := by
      show execSentFrame dt k fr s = _
      simp only [execSentFrame, hwf, hrun, Bool.not_true, Bool.false_eq_true, if_false, if_true]
    refine ⟨?_, ?_, ?_⟩
    · rintro rfl
      rw [hexec, State.sentIn, hbad, if_neg Bool.false_ne_true]
    · rintro rfl hserves
      rw [hexec, State.sentIn, hbad, if_pos rfl, if_pos hserves]
    · rintro rfl hfree
      rw [hexec, State.sentIn, hbad, if_pos rfl, hfree, if_neg Bool.false_ne_true]
  case sentIdle =>
    rintro s t dt k fr hwf rfl hreset
    show execSentFrame dt k fr s = _
    simp only [execSentFrame, hwf, hreset, Bool.not_true, Bool.false_eq_true, if_false]
  case sentIllFormed =>
    intro s dt k fr hwf
    exact if_pos (by rw [hwf]; rfl)
  case spi =>
    rintro s t u dt k rx bad x rfl hrun rfl rfl rfl
    exact congrArg _ (if_pos hrun)
  case spiIdle =>
    rintro s t dt k rx rfl hreset
    show execAuxSpiTransferDone dt k rx s = _
    simp only [execAuxSpiTransferDone, hreset, Bool.false_eq_true, if_false]
  case tap =>
    rintro s ir (rfl | ⟨hopen, hmay⟩)
    · rfl
    · show execTapInstruction ir s = _
      rw [execTapInstruction, State.tapSelect_open hopen hmay]
  case tapClosed =>
    intro s ir hir hdbg hscan
    show execTapInstruction ir s = _
    rw [execTapInstruction, State.tapSelect_closed hir hdbg hscan]
  case tapBusy =>
    intro s ir hir hother hidle
    show execTapInstruction ir s = _
    rw [execTapInstruction, State.tapSelect_notStandby hir hother hidle]

end Sys2Proof.Machine
end

section
/-! PROOFS. The writes and reads of the control-die registers that have a row of their own. -/

namespace Sys2Proof.Machine

/-! ## The rule that a write runs -/

/-- A register of a block at its own address, beside the chambers, the message data and the lane window. -/
abbrev plainReg (k a : Nat) : Prop :=
  a / 4 * 4 = a ∧ regionOf a = .regs k ∧ ¬ (k = 1 ∧ 0x40010100 ≤ a ∧ a < 0x40010200) ∧
    ¬ (k = 7 ∧ 0x40070300 ≤ a) ∧ k ≠ 2

section
variable {s t : State} {m : Master} {k a : Nat} {r : RegDef} {w : Word}

theorem State.busWriteX_plain (size : AccSize) (o : Bool) (hp : plainReg k a) (hd : s.busDone = t)
    (h : t.Reaches m k a r w) :
    s.busWriteX m a w size o = (t.wrote m a r w).busHook t m k (t.busInst m r.win) a w size o := by
  obtain ⟨ha, hregion, hchamber, hdata, hlane⟩ := hp
  exact State.busWriteX_of_reaches size o hd h ha hregion hchamber hdata hlane

/-- A write that reaches its register stores its word and runs the block's rule. -/
theorem State.busWrite_plain (hp : plainReg k a) (hd : s.busDone = t) (h : t.Reaches m k a r w) :
    s.busWrite m a w = (t.wrote m a r w).busHook t m k (t.busInst m r.win) a w .word false :=
  State.busWriteX_plain .word false hp hd h

/-- The same where some field waits for a pause. -/
theorem State.busWrite_unpaused (hp : plainReg k a) (hd : s.busDone = t) (h : t.ReachesUnpaused m k a r w) :
    s.busWrite m a w = (t.wroteUnpaused (t.rangeErr k) m a r w).busHook (t.rangeErr k) m k (t.busInst m r.win) a w
      .word false := by
  obtain ⟨ha, hregion, hchamber, hdata, hlane⟩ := hp
  exact State.busWriteX_of_unpaused .word false hd h ha hregion hchamber hdata hlane

end

theorem next_congr {u v : State} (h : u = v) : (.next u : Out) = .next v := congrArg _ h

/-! ## LOCK and SYS (R52, R57, R363, R369 to R374) -/

theorem State.busHook_sys (s t : State) (m : Master) (i a : Nat) (w : Word) (size : AccSize) (o : Bool) :
    s.busHook t m 0 i a w size o = s.hookSys m a w o := rfl

theorem State.hookSys_rstCtrl (s : State) (w : Word) (o : Bool) :
    s.hookSys keeper F.SYS_RST_CTRL_WARM.addr w o =
      if F.SYS_RST_CTRL_WARM.get w = 1 then
        (s.pilotHoldWrite (F.SYS_RST_CTRL_PILOT_HOLD.get w == 1)).warmReset F.SYS_RST_CAUSE_WARM
      else s.pilotHoldWrite (F.SYS_RST_CTRL_PILOT_HOLD.get w == 1) := rfl

theorem State.hookSys_blkRst (s : State) (m : Master) (w : Word) (o : Bool) :
    s.hookSys m F.SYS_BLK_RST_REQ.addr w o =
      if F.SYS_BLK_RST_REQ.get w = 1 then s.blockReset m (F.SYS_BLK_RST_BLOCK.get w) o else s :=
  rfl

theorem State.hookSys_standby (s : State) (w : Word) (o : Bool) (h : F.SYS_STANDBY_ENTER.get w = 1) :
    s.hookSys keeper F.SYS_STANDBY_ENTER.addr w o = s.standbyEnter := by
  rw [State.hookSys, if_neg (by decide), if_neg (by decide), if_pos rfl, h, if_pos (by decide)]

/-- Settles O41: each write runs the rule of its register. -/
theorem lockAndSystemRegisters : Obligations.LockAndSystemRegisters := by
  unfold Obligations.LockAndSystemRegisters
  refine ⟨?done, ?ctrl, ?warm, ?hold, ?block, ?standby⟩
  case done =>
    intro s t m r v hd h
    exact next_congr ((State.busWrite_plain (by decide) hd h).trans rfl)
  case ctrl =>
    intro s t m r v hd h
    exact next_congr ((State.busWrite_plain (by decide) hd h).trans rfl)
  case warm =>
    intro s t r v hd h hwarm
    refine next_congr ((State.busWrite_plain (by decide) hd h).trans ?_)
    rw [State.busHook_sys, State.hookSys_rstCtrl, if_pos hwarm]
  case hold =>
    intro s t r v hd h hwarm
    refine next_congr ((State.busWrite_plain (by decide) hd h).trans ?_)
    exact (State.busHook_sys ..).trans ((State.hookSys_rstCtrl ..).trans (if_neg hwarm))
  case block =>
    intro s t m r v busy hd h hreq
    refine next_congr ((State.busWriteX_plain .word busy (by decide) hd h).trans ?_)
    rw [State.busHook_sys, State.hookSys_blkRst, if_pos hreq]
  case standby =>
    intro s t r v wake hd h henter
    refine next_congr ((State.busWrite_plain (by decide) hd h).trans ?_)
    rw [State.busHook_sys, State.hookSys_standby _ _ _ henter]

/-! ## Fault unit and watchdog (R94, R303, R304, R317, R318) -/

theorem State.hookFcr_ack (s : State) (w : Word) (h : F.FCR_ACK_ACK.get w = 1) :
    s.hookFcr keeper F.FCR_ACK_ACK.addr w = s.ackHere (F.FCR_ACK_TOGGLE.get w == 1) :=
  if_pos h

/-- Settles O42: each write runs the rule of its register. -/
theorem faultUnitRegisters : Obligations.FaultUnitRegisters := by
  unfold Obligations.FaultUnitRegisters
  refine ⟨?beat, ?ack, ?inject, ?answer⟩
  case beat =>
    intro s t dt r v hd h
    exact next_congr ((State.busWrite_plain (by decide) hd h).trans rfl)
  case ack =>
    intro s t dt r v hd h hack
    refine next_congr ((State.busWrite_plain (by decide) hd h).trans ?_)
    exact State.hookFcr_ack _ v hack
  case inject =>
    intro s t dt r v hd h
    exact next_congr ((State.busWrite_plain (by decide) hd h).trans rfl)
  case answer =>
    intro s t dt m r v hd h
    exact next_congr ((State.busWrite_plain (by decide) hd h).trans rfl)

/-! ## Flight (R182 to R194) -/

/-- `FLT_CTRL` after its `HOLD`: `ENABLE` starts or clears the scheduler. -/
theorem State.fltCtrl_start {x u : State} {b : Br} {w : Word}
    (hu : (if F.FLT_CTRL_HOLD.get w = 1 then x.holdBegin b
      else if x.bit F.FLT_CTRL_HOLD b then x.holdEnd b else x) = u)
    (hen : F.FLT_CTRL_ENABLE.get w = 1) :
    x.fltCtrl b w = u.flightStart b (!((u.dst b).isDriving || u.dst b == .safeStop)) := by
  simp only [State.fltCtrl, State.when, hu, hen, if_true]

theorem State.fltCtrl_clear {x u : State} {b : Br} {w : Word}
    (hu : (if F.FLT_CTRL_HOLD.get w = 1 then x.holdBegin b
      else if x.bit F.FLT_CTRL_HOLD b then x.holdEnd b else x) = u)
    (hen : F.FLT_CTRL_ENABLE.get w ≠ 1) : x.fltCtrl b w = u.flightClear b := by
  simp only [State.fltCtrl, State.when, hu, hen, if_false]

/-- The Lockkeeper's write of `FLT_CTRL` stores its word and runs the rule of the register. -/
theorem State.busWrite_fltCtrl {s t : State} {r : RegDef} {w : Word} (hd : s.busDone = t)
    (h : t.Reaches keeper 4 F.FLT_CTRL_ENABLE.addr r w) :
    s.busWrite keeper F.FLT_CTRL_ENABLE.addr w =
      (t.wrote keeper F.FLT_CTRL_ENABLE.addr r w).fltCtrl (t.selFlt keeper) w :=
  (State.busWrite_plain (by decide) hd h).trans rfl

/-- Settles O43: `HOLD` takes its effect first, then `ENABLE`. -/
theorem flightRegisters : Obligations.FlightRegisters := by
  unfold Obligations.FlightRegisters
  refine ⟨?irefD, ?irefQ, ?start, ?clear, ?holdStart, ?holdEnd⟩
  case irefD =>
    intro s t dt m r v hd h
    exact next_congr ((State.busWrite_plain (by decide) hd h).trans rfl)
  case irefQ =>
    intro s t dt m r v hd h
    exact next_congr ((State.busWrite_plain (by decide) hd h).trans rfl)
  case start =>
    rintro s t u dt r v w hd rfl h hhold rfl hfree hen
    refine next_congr ((State.busWrite_fltCtrl hd h).trans (State.fltCtrl_start ?_ hen))
    rw [if_neg hhold, hfree, if_neg Bool.false_ne_true]
  case clear =>
    rintro s t u dt r v w hd rfl h hhold rfl hfree hen
    refine next_congr ((State.busWrite_fltCtrl hd h).trans (State.fltCtrl_clear ?_ hen))
    rw [if_neg hhold, hfree, if_neg Bool.false_ne_true]
  case holdStart =>
    rintro s t u dt r v hd h hhold rfl hen
    exact next_congr ((State.busWrite_fltCtrl hd h).trans (State.fltCtrl_start (if_pos hhold) hen))
  case holdEnd =>
    rintro s t u w dt r v hd h hhold rfl hheld rfl
    refine ⟨fun hen => next_congr ((State.busWrite_fltCtrl hd h).trans (State.fltCtrl_start ?_ hen)),
      fun hen => next_congr ((State.busWrite_fltCtrl hd h).trans (State.fltCtrl_clear ?_ hen))⟩
    all_goals rw [if_neg hhold, if_pos hheld]

end Sys2Proof.Machine
end

section
/-! PROOFS. The modulation, position, check-value and counter registers, and any other bus access. -/

namespace Sys2Proof.Machine

/-! ## Modulation (R15, R200, R219, R222, R226) -/

/-- An offset of twelve bits stands in the modulation window. -/
theorem plainReg_mod {off : BitVec 12} {a : Nat} (ha : 0x40030000 + off.toNat = a) (haligned : a / 4 * 4 = a) :
    plainReg 3 a := by
  have hoff := off.isLt
  have hregion : regionOf a = .regs 3 := by
    have hblock : (a - 0x40000000) / 65536 = 3 := by omega
    rw [regionOf, if_neg (by omega), if_neg (by omega), if_neg (by omega), if_neg (by omega), if_neg (by omega),
      if_neg (by omega), if_pos (by omega), hblock]
  exact ⟨haligned, hregion, by omega, by omega, by omega⟩

theorem State.busHook_mod (s t : State) (m : Master) (i a : Nat) (w : Word) (size : AccSize) (o : Bool) :
    s.busHook t m 3 i a w size o = s.hookMod t (t.selMod m) a w := rfl

/-- A register with no rule of its own squashes the group where a value that may change while the unit runs did. -/
theorem State.hookMod_field {s t : State} {b : Br} {a : Nat} {w : Word} (hctrl : a ≠ F.MOD_CTRL_MODE.addr)
    (hdead : a ≠ F.MOD_DEAD_DEAD_MIN.addr) (hcommit : a ≠ F.MOD_COMMIT_COMMIT.addr) :
    s.hookMod t b a w = if runFields.any fun f => f.addr == a && s.rd f b != t.rd f b then
      s.squashGroup b 0 true false true E.SQUASH_SETPOINT else s := by
  rw [State.hookMod, if_neg hctrl, if_neg hdead, if_neg hcommit]

theorem State.hookMod_dead {s t : State} {b : Br} {w : Word}
    (h : s.word F.MOD_DEAD_DEAD_MIN b ≠ t.word F.MOD_DEAD_DEAD_MIN b) :
    s.hookMod t b F.MOD_DEAD_DEAD_MIN.addr w = s.sendAdvance b :=
  if_neg h

theorem State.hookMod_commit {s t : State} {b : Br} {w : Word} (h : F.MOD_COMMIT_COMMIT.get w = 1) :
    s.hookMod t b F.MOD_COMMIT_COMMIT.addr w = s.modCommit b :=
  if_pos h

/-- `MOD_CTRL`: `MODE` that begins direct mode first, then `ARM` that ends. -/
theorem State.hookMod_ctrl (s t : State) (b : Br) (w : Word) :
    s.hookMod t b F.MOD_CTRL_MODE.addr w =
      (s.when (!t.bit F.MOD_CTRL_MODE b && s.bit F.MOD_CTRL_MODE b) fun s => s.directBegin b).when
        (t.bit F.MOD_CTRL_ARM b && !(s.when (!t.bit F.MOD_CTRL_MODE b && s.bit F.MOD_CTRL_MODE b) fun s =>
          s.directBegin b).bit F.MOD_CTRL_ARM b) fun s =>
          s.upMod b fun x => { x with legs := ModU.reset.legs, plan := [] } := rfl

theorem State.when_false (s : State) (f : State → State) : s.when false f = s := rfl
theorem State.when_true (s : State) (f : State → State) : s.when true f = f s := rfl

/-- `MODE` that was 1, or stays 0, begins nothing. -/
theorem State.modeBegins_eq_false {s t : State} {b : Br}
    (h : t.bit F.MOD_CTRL_MODE b = true ∨ s.bit F.MOD_CTRL_MODE b = false) :
    (!t.bit F.MOD_CTRL_MODE b && s.bit F.MOD_CTRL_MODE b) = false := by
  rcases h with h | h <;> rw [h] <;> simp only [Bool.not_true, Bool.false_and, Bool.and_false]

/-- Settles O44: each write runs the rule of its register, on what it changed. -/
theorem modulationRegisters : Obligations.ModulationRegisters := by
  unfold Obligations.ModulationRegisters
  refine ⟨?stores, ?squashes, ?dead, ?commit, ?disarm, ?direct, ?arm⟩
  case stores =>
    rintro s t u dt a m off r v hd ha haligned h rfl hctrl hdead hcommit hsame
    subst ha
    refine next_congr ((State.busWrite_plain (plainReg_mod rfl haligned) hd h).trans ?_)
    rw [State.busHook_mod, State.hookMod_field hctrl hdead hcommit, hsame, if_neg Bool.false_ne_true]
  case squashes =>
    rintro s t u dt a m off r v hd ha haligned h rfl hctrl hdead hcommit hchanged
    subst ha
    refine next_congr ((State.busWrite_plain (plainReg_mod rfl haligned) hd h).trans ?_)
    rw [State.busHook_mod, State.hookMod_field hctrl hdead hcommit, hchanged, if_pos rfl]
  case dead =>
    rintro s t u dt m off r v hd ha h rfl hchanged
    have hexec : exec (.modFieldWrite dt m off v) s = .next ((s.tick dt).busWrite m F.MOD_DEAD_DEAD_MIN.addr v) := by
      rw [← ha]
      rfl
    rw [hexec, State.busWrite_plain (by decide) hd h, State.busHook_mod, State.hookMod_dead hchanged]
  case commit =>
    intro s t dt m r v hd h hgo
    refine next_congr ((State.busWrite_plain (by decide) hd h).trans ?_)
    rw [State.busHook_mod, State.hookMod_commit hgo]
  case disarm =>
    rintro s t p u dt b r v hd h rfl rfl rfl hmode hwas hoff
    refine next_congr ((State.busWrite_unpaused (a := F.MOD_CTRL_MODE.addr) (by decide) hd h).trans ?_)
    rw [State.busHook_mod, State.hookMod_ctrl, State.modeBegins_eq_false hmode, State.when_false, hwas, hoff]
    rfl
  case direct =>
    rintro s t u dt b r v hd h rfl rfl hwas hon hunarmed
    refine next_congr ((State.busWrite_plain (a := F.MOD_CTRL_MODE.addr) (by decide) hd h).trans ?_)
    rw [State.busHook_mod, State.hookMod_ctrl, hwas, hon, hunarmed, Bool.false_and, State.when_false]
    rfl
  case arm =>
    rintro s t u dt b r v hd h rfl rfl hmode hunarmed
    refine next_congr ((State.busWrite_plain (a := F.MOD_CTRL_MODE.addr) (by decide) hd h).trans ?_)
    rw [State.busHook_mod, State.hookMod_ctrl, State.modeBegins_eq_false hmode, State.when_false, hunarmed,
      Bool.false_and, State.when_false]

/-! ## Position (R139, R144, R147) -/

theorem State.busHook_pos (s t : State) (m : Master) (i a : Nat) (w : Word) (size : AccSize) (o : Bool) :
    s.busHook t m 6 i a w size o = s.hookPos t (t.selPort m) a w := rfl

/-- `PORT_CFG`: a port that was off is initialised anew, one that goes off makes its bridge choose again. -/
theorem State.hookPos_cfg (s t : State) (p : PortIx) (w : Word) :
    s.hookPos t p F.PORT_CFG_ENABLE.addr w =
      if t.portOn p then (if s.portOn p then s else s.aclkSelect (s.portBr p) false) else s.portReinit p := by
  rw [State.hookPos, if_neg (by decide), if_neg (by decide), if_pos rfl]

theorem State.hookPos_turnLo (s t : State) (p : PortIx) (w : Word) :
    s.hookPos t p F.PORT_TURN_LO_TURN_LO.addr w = s.upPort p fun x => { x with turnLo := w } := by
  rw [State.hookPos, if_neg (by decide), if_neg (by decide), if_neg (by decide), if_neg (by decide), if_pos rfl]

theorem State.hookPos_turnHi (s t : State) (p : PortIx) (w : Word) :
    s.hookPos t p F.PORT_TURN_HI_TURN_HI.addr w =
      s.upPort p fun x => { x with turn := (w.setWidth 16 ++ x.turnLo : BitVec 48).toInt } := by
  rw [State.hookPos, if_neg (by decide), if_neg (by decide), if_neg (by decide), if_neg (by decide),
    if_neg (by decide), if_pos rfl]

/-- A read of a register at its own address, beside the chambers and the captured data. -/
theorem State.busRead_plain {s : State} {m : Master} {k a : Nat} (hp : plainReg k a)
  (hfind : (regFind k a).isSome = true)
    (hcap : a ≠ F.LANE_CAP_DATA_WORD.addr) (hon : s.onBus m = true) (hup : s.blockUp k = true) :
    ∃ r, regFind k a = some r ∧ s.busRead m a = (s.readCapture m a).busGive (s.regView m r.win a) := by
  obtain ⟨r, hr⟩ := Option.isSome_iff_exists.mp hfind
  obtain ⟨ha, hregion, hchamber, -, -⟩ := hp
  exact ⟨r, hr, State.busRead_reg hon hup hr ha hregion hchamber hcap⟩

theorem State.readCapture_portAngle (s : State) (m : Master) :
    s.readCapture m F.PORT_ANGLE_ANGLE.addr =
      s.upCopy m fun c => { c with portTurn := s.ports[s.selPort m].turn } := rfl

theorem State.regView_portAngle (s : State) (m : Master) (win : Win) :
    s.regView m win F.PORT_ANGLE_ANGLE.addr = s.portShown (s.selPort m) := rfl

theorem State.readCapture_aclkAngle (s : State) (m : Master) (b : Br) :
    s.readCapture m (F.ACLK_ANGLE_ANGLE.addr + 64 * b.val) =
      s.upCopy m fun c => { c with aclkTurn := c.aclkTurn.set b (s.aclkTurn b) } := by
  match b with
  | 0 => rfl
  | 1 => rfl

theorem State.regView_aclkAngle (s : State) (m : Master) (win : Win) (b : Br) :
    s.regView m win (F.ACLK_ANGLE_ANGLE.addr + 64 * b.val) = s.aclkAngle b := by
  match b with
  | 0 => rfl
  | 1 => rfl

/-- The read copies of a master show nothing but what it captured. -/
@[simp] theorem State.upCopy_portShown (s : State) (m : Master) (f : ReadCopy → ReadCopy) (p : PortIx) :
    (s.upCopy m f).portShown p = s.portShown p := rfl
@[simp] theorem State.upCopy_selPort (s : State) (m n : Master) (f : ReadCopy → ReadCopy) :
    (s.upCopy m f).selPort n = s.selPort n := rfl
@[simp] theorem State.upCopy_aclkAngle (s : State) (m : Master) (f : ReadCopy → ReadCopy) (b : Br) :
    (s.upCopy m f).aclkAngle b = s.aclkAngle b := rfl

/-- Settles O45: a write by its register and what the port was, a read by what it captures and shows. -/
theorem positionRegisters : Obligations.PositionRegisters := by
  unfold Obligations.PositionRegisters
  refine ⟨?enable, ?disable, ?turnLo, ?turnHi, ?portRead, ?aclkRead⟩
  case enable =>
    rintro s t u m r v hd h rfl hoff
    refine next_congr ((State.busWrite_plain (by decide) hd h).trans ?_)
    rw [State.busHook_pos, State.hookPos_cfg, hoff, if_neg Bool.false_ne_true]
  case disable =>
    rintro s t q u m p r v hd h rfl rfl rfl hwas hoff
    refine next_congr ((State.busWrite_unpaused (by decide) hd h).trans ?_)
    rw [State.busHook_pos, State.hookPos_cfg, hwas, if_pos rfl, hoff, if_neg Bool.false_ne_true]
  case turnLo =>
    intro s t m r v hd h
    refine next_congr ((State.busWrite_plain (by decide) hd h).trans ?_)
    rw [State.busHook_pos, State.hookPos_turnLo]
  case turnHi =>
    intro s t m r v hd h
    refine next_congr ((State.busWrite_plain (by decide) hd h).trans ?_)
    rw [State.busHook_pos, State.hookPos_turnHi]
  case portRead =>
    rintro s u m hon hup rfl
    obtain ⟨r, -, hread⟩ := State.busRead_plain (a := F.PORT_ANGLE_ANGLE.addr) (by decide) (by decide)
      (by decide) hon hup
    refine next_congr (hread.trans ?_)
    rw [State.readCapture_portAngle, State.regView_portAngle, State.upCopy_selPort, State.upCopy_portShown]
  case aclkRead =>
    rintro s u m b hon hup rfl
    have hreg : plainReg 6 (F.ACLK_ANGLE_ANGLE.addr + 64 * b.val) ∧
        (regFind 6 (F.ACLK_ANGLE_ANGLE.addr + 64 * b.val)).isSome = true ∧
        F.ACLK_ANGLE_ANGLE.addr + 64 * b.val ≠ F.LANE_CAP_DATA_WORD.addr := by
      revert b
      decide
    obtain ⟨hp, hfind, hcap⟩ := hreg
    obtain ⟨r, -, hread⟩ := State.busRead_plain hp hfind hcap hon hup
    refine next_congr (hread.trans ?_)
    rw [State.readCapture_aclkAngle, State.regView_aclkAngle, State.upCopy_aclkAngle]

/-! ## Check values and counters (R420 to R430) -/

theorem State.busHook_crc (s t : State) (m : Master) (i a : Nat) (w : Word) (size : AccSize) (o : Bool) :
    s.busHook t m 8 i a w size o = s.hookCrc m (t.selCrc m) a w size := rfl

theorem State.hookCrc_start {s : State} {m : Master} {u : Fin 4} {w : Word} {size : AccSize}
    (h : F.CRC_START_START.get w = 1) : s.hookCrc m u F.CRC_START_START.addr w size = s.crcStart u :=
  if_pos h

theorem State.hookCrc_data (s : State) (m : Master) (u : Fin 4) (w : Word) (size : AccSize) :
    s.hookCrc m u F.CRC_DATA_DATA.addr w size = s.crcData u size w := by
  rw [State.hookCrc, if_neg (by decide), if_pos rfl]

theorem State.hookCrc_load (s : State) (m : Master) (u : Fin 4) (w : Word) (size : AccSize) (hi : Bool) :
    s.hookCrc m u (if hi then F.CRC_VAL_HI_VALUE.addr else F.CRC_VAL_LO_VALUE.addr) w size = s.crcLoad u hi w := by
  cases hi
  · rw [State.hookCrc, if_neg (by decide), if_neg (by decide), if_pos (by decide)]
  · rw [State.hookCrc, if_neg (by decide), if_neg (by decide), if_neg (by decide), if_pos (by decide)]

theorem State.busHook_evc (s t : State) (m : Master) (i a : Nat) (w : Word) (size : AccSize) (o : Bool) :
    s.busHook t m 9 i a w size o = s.hookEvc (t.selCnt m) a w := rfl

theorem State.hookEvc_snap {s : State} {k : Fin 32} {w : Word} (h : F.EVC_SNAP_SNAP.get w = 1) :
    s.hookEvc k F.EVC_SNAP_SNAP.addr w = s.evcSnapshot.evcLevel := by
  rw [State.hookEvc, if_pos rfl, h, if_pos rfl]

theorem State.hookEvc_cfg (s : State) (k : Fin 32) (w : Word) :
    s.hookEvc k F.CNT_CFG_SRC.addr w = (s.cntSetup k (F.CNT_CFG_SRC.get w) (F.CNT_CFG_FREEZE.get w == 1)).evcLevel := by
  rw [State.hookEvc, if_neg (by decide), if_pos rfl]

theorem State.hookEvc_clear {s : State} {k : Fin 32} {w : Word} (h : F.CNT_CMD_CLEAR.get w = 1) :
    s.hookEvc k F.CNT_CMD_CLEAR.addr w = (s.cntClear k).evcLevel := by
  rw [State.hookEvc, if_neg (by decide), if_neg (by decide), if_pos rfl, h, if_pos rfl]

/-- The word of a check-value unit whose low half a read answers and whose high half it captures: the running value or
the result. -/
def State.crcShown (s : State) (m : Master) (res : Bool) : BitVec 64 :=
  if res then s.crcResult (s.selCrc m) else s.crcs[s.selCrc m].value

/-- The count or its snapshot, of which a read answers the low word. -/
def State.cntShown (s : State) (m : Master) (snap : Bool) : Nat :=
  if snap then s.cnts[s.selCnt m].snap else s.cnts[s.selCnt m].value

theorem State.readCapture_crc (s : State) (m : Master) (res : Bool) :
    s.readCapture m (if res then F.CRC_RES_LO_VALUE.addr else F.CRC_VAL_LO_VALUE.addr) =
      s.upCopy m fun c => { c with crcHi := (s.crcShown m res >>> 32).setWidth 32 } := by
  cases res <;> rfl

theorem State.regView_crc (s : State) (m : Master) (win : Win) (res : Bool) :
    s.regView m win (if res then F.CRC_RES_LO_VALUE.addr else F.CRC_VAL_LO_VALUE.addr) =
      (s.crcShown m res).setWidth 32 := by
  cases res <;> rfl

theorem State.readCapture_cnt (s : State) (m : Master) (snap : Bool) :
    s.readCapture m (if snap then F.CNT_SNAP_LO_VALUE.addr else F.CNT_VAL_LO_VALUE.addr) =
      s.upCopy m fun c => { c with cntHi := s.cntHigh (s.selCnt m) snap } := by
  cases snap <;> rfl

theorem State.regView_cnt (s : State) (m : Master) (win : Win) (snap : Bool) :
    s.regView m win (if snap then F.CNT_SNAP_LO_VALUE.addr else F.CNT_VAL_LO_VALUE.addr) =
      BitVec.ofNat 32 (s.cntShown m snap % 4294967296) := by
  cases snap <;> rfl

@[simp] theorem State.upCopy_crcShown (s : State) (m : Master) (f : ReadCopy → ReadCopy) (res : Bool) :
    (s.upCopy m f).crcShown m res = s.crcShown m res := rfl
@[simp] theorem State.upCopy_cntShown (s : State) (m : Master) (f : ReadCopy → ReadCopy) (snap : Bool) :
    (s.upCopy m f).cntShown m snap = s.cntShown m snap := rfl

theorem exec_crcValRead {s : State} {m : Master} (res : Bool) (hon : s.onBus m = true) (hup : s.blockUp 8 = true) :
    exec (.crcValRead m res) s = .next ((s.upCopy m fun c => { c with
      crcHi := (s.crcShown m res >>> 32).setWidth 32 }).busGive ((s.crcShown m res).setWidth 32)) := by
  have hreg (res : Bool) : plainReg 8 (if res then F.CRC_RES_LO_VALUE.addr else F.CRC_VAL_LO_VALUE.addr) ∧
      (regFind 8 (if res then F.CRC_RES_LO_VALUE.addr else F.CRC_VAL_LO_VALUE.addr)).isSome = true ∧
      (if res then F.CRC_RES_LO_VALUE.addr else F.CRC_VAL_LO_VALUE.addr) ≠ F.LANE_CAP_DATA_WORD.addr := by
    revert res
    decide
  obtain ⟨hp, hfind, hcap⟩ := hreg res
  obtain ⟨r, -, hread⟩ := State.busRead_plain hp hfind hcap hon hup
  refine next_congr (hread.trans ?_)
  rw [State.readCapture_crc, State.regView_crc]

theorem exec_cntValRead {s : State} {m : Master} (snap : Bool) (hon : s.onBus m = true) (hup : s.blockUp 9 = true) :
    exec (.cntValRead m snap) s = .next ((s.upCopy m fun c => { c with
      cntHi := s.cntHigh (s.selCnt m) snap }).busGive (BitVec.ofNat 32 (s.cntShown m snap % 4294967296))) := by
  have hreg (snap : Bool) : plainReg 9 (if snap then F.CNT_SNAP_LO_VALUE.addr else F.CNT_VAL_LO_VALUE.addr) ∧
      (regFind 9 (if snap then F.CNT_SNAP_LO_VALUE.addr else F.CNT_VAL_LO_VALUE.addr)).isSome = true ∧
      (if snap then F.CNT_SNAP_LO_VALUE.addr else F.CNT_VAL_LO_VALUE.addr) ≠ F.LANE_CAP_DATA_WORD.addr := by
    revert snap
    decide
  obtain ⟨hp, hfind, hcap⟩ := hreg snap
  obtain ⟨r, -, hread⟩ := State.busRead_plain hp hfind hcap hon hup
  refine next_congr (hread.trans ?_)
  rw [State.readCapture_cnt, State.regView_cnt]

/-- Settles O48: a write runs the rule of its register, a read captures the high word and answers the low one. -/
theorem checkAndCounterRegisters : Obligations.CheckAndCounterRegisters := by
  unfold Obligations.CheckAndCounterRegisters
  refine ⟨?start, ?data, ?loadLow, ?loadHigh, ?readValue, ?readResult, ?clear, ?source, ?snap, ?readCount, ?readSnap⟩
  case start =>
    intro s t m r v hd h hgo
    refine next_congr ((State.busWrite_plain (by decide) hd h).trans ?_)
    rw [State.busHook_crc, State.hookCrc_start hgo]
  case data =>
    intro s t m r v size hd h
    refine next_congr ((State.busWriteX_plain size false (by decide) hd h).trans ?_)
    rw [State.busHook_crc, State.hookCrc_data]
  case loadLow =>
    intro s t m r v hd h
    refine next_congr ((State.busWrite_plain (by decide) hd h).trans ?_)
    exact (State.busHook_crc ..).trans (State.hookCrc_load _ m _ v .word false)
  case loadHigh =>
    intro s t m r v hd h
    refine next_congr ((State.busWrite_plain (by decide) hd h).trans ?_)
    exact (State.busHook_crc ..).trans (State.hookCrc_load _ m _ v .word true)
  case readValue =>
    rintro s u m hon hup rfl
    exact exec_crcValRead false hon hup
  case readResult =>
    rintro s u m hon hup rfl
    exact exec_crcValRead true hon hup
  case clear =>
    intro s t m r v hd h hclear
    refine next_congr ((State.busWrite_plain (by decide) hd h).trans ?_)
    rw [State.busHook_evc, State.hookEvc_clear hclear]
  case source =>
    intro s t m r v hd h
    refine next_congr ((State.busWrite_plain (by decide) hd h).trans ?_)
    rw [State.busHook_evc, State.hookEvc_cfg]
  case snap =>
    intro s t m r v hd h hsnap
    refine next_congr ((State.busWrite_plain (by decide) hd h).trans ?_)
    rw [State.busHook_evc, State.hookEvc_snap hsnap]
  case readCount =>
    rintro s u m hon hup rfl
    exact exec_cntValRead false hon hup
  case readSnap =>
    rintro s u m hon hup rfl
    exact exec_cntValRead true hon hup

end Sys2Proof.Machine
end

section
/-! PROOFS. Any other bus access: memories, windows, refusals. -/

namespace Sys2Proof.Machine

/-! ## Writes by their region (R12 to R18, R37, R38) -/

/-- The region of a window whose registers the spec does not lay out. -/
def Region.isLink : Region → Bool
  | .linkWin _ => true
  | _ => false

theorem State.linkHole_of_region {s : State} {m : Master} {a : Nat} (h : (regionOf (a / 4 * 4)).isLink = false) :
    s.linkHole m a = false := by
  cases hregion : regionOf (a / 4 * 4) with
  | linkWin k => exact absurd (hregion ▸ h) Bool.noConfusion
  | rom | nvm | pilotSram | table | tableHole | retained | regs | outside =>
    simp only [State.linkHole, hregion, Bool.and_false]

theorem State.linkHole_of_linkWin {s : State} {m : Master} {a k : Nat} (hon : s.onBus m = true)
    (h : regionOf (a / 4 * 4) = .linkWin k) : s.linkHole m a = (a / 4 * 4 % 4096 != 0 || k == 4) := by
  simp only [State.linkHole, hon, h, Bool.true_and]

theorem State.linkHole_of_offBus {s : State} {m : Master} (a : Nat) (h : s.onBus m = false) :
    s.linkHole m a = false := by
  rw [State.linkHole, h, Bool.false_and]

/-- A write beside the holes of the link windows is the bus write. -/
theorem exec_registerWrite {s : State} {dt : Nat} {m : Master} {a v : Word}
    (h : (s.tick dt).linkHole m a.toNat = false) :
    exec (.registerWrite dt m a v) s = .next ((s.tick dt).busWrite m a.toNat v) := by
  show execRegisterWrite dt m a v s = _
  rw [execRegisterWrite, h, if_neg Bool.false_ne_true]

theorem State.busWrite_refused {t : State} {m : Master} {a : Nat} (w : Word) (hrun : t.running = true)
    (h : t.portOpen m = false ∨ mayWrite m (a / 4 * 4) (regionOf (a / 4 * 4)) = false) :
    t.busWrite m a w = t.busFail m a := by
  have hbad : (!t.portOpen m || !mayWrite m (a / 4 * 4) (regionOf (a / 4 * 4))) = true := by
    rw [Bool.or_eq_true, Bool.not_eq_true', Bool.not_eq_true']
    exact h
  simp only [State.busWrite, State.busWriteX, hrun, hbad, Bool.not_true, Bool.false_eq_true, if_false, if_true]

section
variable {s t : State} {m : Master} {a k : Nat} {w : Word} (hd : s.busDone = t) (hon : t.onBus m = true)
include hd hon

theorem State.busWrite_memory (h : regionOf (a / 4 * 4) = .pilotSram ∨ regionOf (a / 4 * 4) = .retained) :
    s.busWrite m a w = t.setMemW (a / 4 * 4) w := by
  obtain ⟨hrun, hopen⟩ := onBus_parts hd hon
  rcases h with h | h <;>
    simp only [State.busWrite, State.busWriteX, hrun, hopen, h, hd, mayWrite, Bool.not_true, Bool.or_self,
      Bool.false_eq_true, if_false, State.memBus]

theorem State.busWrite_regs (h : regionOf (a / 4 * 4) = .regs k) (hmay : mayWrite m (a / 4 * 4) (.regs k) = true) :
    s.busWrite m a w = t.regWrite m k (a / 4 * 4) w .word false := by
  obtain ⟨hrun, hopen⟩ := onBus_parts hd hon
  simp only [State.busWrite, State.busWriteX, hrun, hopen, h, hmay, hd, Bool.not_true, Bool.or_self,
    Bool.false_eq_true, if_false]

theorem State.busWrite_link (h : regionOf (a / 4 * 4) = .linkWin k) :
    s.busWrite m a w = t.linkSelect m k (a / 4 * 4) w := by
  obtain ⟨hrun, hopen⟩ := onBus_parts hd hon
  simp only [State.busWrite, State.busWriteX, hrun, hopen, h, hd, mayWrite, Bool.not_true, Bool.or_self,
    Bool.false_eq_true, if_false]

end

/-- A write of a register that is there, outside the chambers and the message buffers, is that of its view. -/
theorem State.regWrite_view {t : State} {m : Master} {k a : Nat} {r : RegDef} {w : Word} (size : AccSize) (o : Bool)
    (hup : t.blockUp k = true) (hlock : k ≠ 1) (hcan : k ≠ 7) (hr : regFind k a = some r) :
    t.regWrite m k a w size o = t.viewWrite (t.writeView m r a) k w size o := by
  have hchamber : ¬ (k = 1 ∧ 0x40010100 ≤ a ∧ a < 0x40010200) := fun h => hlock h.1
  have hdata : ¬ (r.win = .mb ∧ 0x40070300 ≤ a ∧ t.rd F.MB_CFG_DIR (t.busInst m .mb) = 1) :=
    fun h => hcan ((regFind_win hr).2 h.1)
  simp only [State.regWrite, hup, hchamber, hr, hdata, Bool.not_true, Bool.false_eq_true, if_false]

theorem State.viewWrite_illegal {t u : State} {x : WriteView} {k : Nat} {w : Word} (size : AccSize) (o : Bool)
    (hu : (t.when x.guards fun s => s.raiseF FC.GUARD_WRITE .device) = u) (hbad : u.writeLegal x w = false) :
    t.viewWrite x k w size o = u.rangeErr k := by
  simp only [State.viewWrite, hu, hbad, Bool.not_false, if_true]

/-! ## Reads by their region -/

theorem State.busRead_refused {t : State} {m : Master} {a : Nat} (hrun : t.running = true)
    (h : t.portOpen m = false ∨ mayRead m (regionOf (a / 4 * 4)) = false) : t.busRead m a = t.busFail m a := by
  have hbad : (!t.portOpen m || !mayRead m (regionOf (a / 4 * 4))) = true := by
    rw [Bool.or_eq_true, Bool.not_eq_true', Bool.not_eq_true']
    exact h
  simp only [State.busRead, hrun, hbad, Bool.not_true, Bool.false_eq_true, if_false, if_true]

section
variable {t : State} {m : Master} {a k : Nat} (hon : t.onBus m = true)
include hon

theorem State.busRead_memory (h : regionOf (a / 4 * 4) = .pilotSram ∨ regionOf (a / 4 * 4) = .retained) :
    t.busRead m a = t.busGive (t.memW (a / 4 * 4)) := by
  obtain ⟨hrun, hopen⟩ := Bool.and_eq_true_iff.mp hon
  rcases h with h | h <;>
    simp only [State.busRead, hrun, hopen, h, mayRead, Bool.not_true, Bool.or_self, Bool.false_eq_true, if_false]

theorem State.busRead_hole (h : regionOf (a / 4 * 4) = .linkWin k) (hoff : a / 4 * 4 % 4096 ≠ 0) :
    t.busRead m a = t.spend.busGive (Config.freeWord t.free) := by
  obtain ⟨hrun, hopen⟩ := Bool.and_eq_true_iff.mp hon
  have hsel : ¬ (a / 4 * 4 % 4096 = 0 ∧ k < 4) := fun hz => hoff hz.1
  simp only [State.busRead, hrun, hopen, h, mayRead, hsel, Bool.not_true, Bool.or_self, Bool.false_eq_true, if_false]

end

/-- A read beside the NVM window is the bus read. -/
theorem exec_busReadError {s : State} {dt : Nat} {m : Master} {a : Word} (h : regionOf (a.toNat / 4 * 4) ≠ .nvm) :
    exec (.busReadError dt m a) s = .next ((s.tick dt).busRead m a.toNat) := by
  show execBusReadError dt m a s = _
  rw [execBusReadError, beq_eq_false_iff_ne.mpr h, Bool.and_false, if_neg Bool.false_ne_true]

/-! ## The statement -/

theorem regionOf_linkSelect (k : Fin 4) : regionOf (0x400C0000 + 4096 * k.val) = .linkWin k.val := by
  revert k
  decide

theorem mayWrite_of_isLink {m : Master} {a : Nat} {r : Region} (h : mayWrite m a r = false) : r.isLink = false := by
  cases r with
  | linkWin k => exact Bool.noConfusion h
  | rom | nvm | pilotSram | table | tableHole | retained | regs | outside => rfl

/-- Settles O49: an access by its region, its permission and the value it carries. -/
theorem anyAccess : Obligations.AnyAccess := by
  unfold Obligations.AnyAccess
  refine ⟨?memory, ?refused, ?range, ?guard, ?select, ?hole, ?readRefused, ?readMemory, ?readHole, ?readNvm⟩
  case memory =>
    intro s t dt m a v hd hon ha hregion
    have hregion' : regionOf (a.toNat / 4 * 4) = .pilotSram ∨ regionOf (a.toNat / 4 * 4) = .retained := by rwa [ha]
    have hlink : (regionOf (a.toNat / 4 * 4)).isLink = false := by rcases hregion' with h | h <;> rw [h] <;> rfl
    rw [exec_registerWrite (State.linkHole_of_region hlink), State.busWrite_memory hd hon hregion', ha]
  case refused =>
    rintro s t dt m a v rfl hrun hno
    have hhole : (s.tick dt).linkHole m a.toNat = false := by
      rcases hno with h | h
      · exact State.linkHole_of_offBus _ (by rw [State.onBus, h, Bool.and_false])
      · exact State.linkHole_of_region (mayWrite_of_isLink h)
    rw [exec_registerWrite hhole, State.busWrite_refused v hrun hno]
    rfl
  case range =>
    intro s t dt k m a v r hd hon ha hregion hmay hup hlock hcan hr hguards hbad
    have hlink : (regionOf (a.toNat / 4 * 4)).isLink = false := by rw [ha, hregion]; rfl
    rw [exec_registerWrite (State.linkHole_of_region hlink), State.busWrite_regs hd hon (by rw [ha, hregion])
      (by rw [ha, hmay]), ha, State.regWrite_view _ _ hup hlock hcan hr]
    exact next_congr (State.viewWrite_illegal _ _ (by rw [hguards]; rfl) hbad)
  case guard =>
    intro s t u dt k m a v r hd hon ha hregion hmay hup hlock hcan hr hguards hu hbad
    have hlink : (regionOf (a.toNat / 4 * 4)).isLink = false := by rw [ha, hregion]; rfl
    rw [exec_registerWrite (State.linkHole_of_region hlink), State.busWrite_regs hd hon (by rw [ha, hregion])
      (by rw [ha, hmay]), ha, State.regWrite_view _ _ hup hlock hcan hr]
    exact next_congr (State.viewWrite_illegal _ _ (by rw [hguards]; exact hu) hbad)
  case select =>
    intro s t dt k m a v hd hon ha
    have haligned : a.toNat / 4 * 4 = a.toNat := by omega
    have hregion : regionOf (a.toNat / 4 * 4) = .linkWin k.val := by rw [haligned, ha, regionOf_linkSelect]
    have hplace : (a.toNat / 4 * 4 % 4096 != 0 || k.val == 4) = false := by
      rw [Bool.or_eq_false_iff, bne_eq_false_iff_eq, beq_eq_false_iff_ne]
      omega
    have hon' : (s.tick dt).onBus m = true := Bool.and_eq_true_iff.mpr (onBus_parts hd hon)
    have hexec : exec (.registerWrite dt m a v) s = .next (t.linkSelect m k.val a.toNat v) := by
      rw [exec_registerWrite ((State.linkHole_of_linkWin hon' hregion).trans hplace),
        State.busWrite_link hd hon hregion, haligned]
    refine ⟨fun hin => ?_, fun hout => ?_⟩
    · rw [hexec, State.linkSelect, if_pos hin]
    · rw [hexec, State.linkSelect, if_neg (Nat.not_le.mpr hout), dif_pos k.isLt]
  case hole =>
    rintro s t dt k m a v rfl hon hregion hoff
    have hhole : (s.tick dt).linkHole m a.toNat = true := by
      rw [State.linkHole_of_linkWin hon hregion, bne_iff_ne.mpr hoff, Bool.true_or]
    exact if_pos hhole
  case readRefused =>
    rintro s t dt m a rfl hrun hno hnvm
    rw [exec_busReadError hnvm, State.busRead_refused hrun hno]
    rfl
  case readMemory =>
    rintro s t dt m a rfl hon hregion
    have hnvm : regionOf (a.toNat / 4 * 4) ≠ .nvm := by rcases hregion with h | h <;> rw [h] <;> decide
    rw [exec_busReadError hnvm, State.busRead_memory hon hregion]
    rfl
  case readHole =>
    rintro s t dt k m a rfl hon hregion hoff
    have hnvm : regionOf (a.toNat / 4 * 4) ≠ .nvm := by rw [hregion]; exact Region.noConfusion
    exact ⟨_, (exec_busReadError hnvm).trans (next_congr (State.busRead_hole hon hregion hoff))⟩
  case readNvm =>
    rintro s t dt m a rfl hon hregion
    refine congrArg _ (if_pos ?_)
    rw [hon, hregion]
    rfl

end Sys2Proof.Machine
end
